-- ==== Sys2Proof/Word.lean ====
section
/-! DEFINITION. The words of the part: a register is 32 bits (R8), a cell of a memory is one byte, and every
multi-byte field of a format of the part is little-endian (R6). -/

namespace Sys2Proof

/-- A register word (R8). -/
abbrev Word := BitVec 32

/-- One byte of a memory. -/
abbrev Byte := BitVec 8

/-- A 64-bit quantity: a register pair of R9, an engine register (R269). -/
abbrev DWord := BitVec 64

end Sys2Proof
end

