-- ==== Sys2Proof/Syntax.lean ====
section
/-! DEFINITION. The commands the block takes: one constructor per row of spec/opcode_table.json, with its operands, and
the types of the operands. A command is a host access, an operation of a sequencer or of an engine, a message or a
frame that arrives, or an instant that is reached. -/

namespace Sys2Proof

/-- The two host interfaces (R396). -/
inductive Iface where
  | pcie
  | hsp
  deriving DecidableEq, Repr
/-- Where HSP_CS_N rises in a READ frame of the Host Serial Port (R411): after its end, before its CRC, or after OK. -/
inductive HspCut where
  | none
  | beforeCrc
  | afterOk
  deriving DecidableEq, Repr


/-- The PPDU formats of R87, by the codes of R293. -/
inductive Fmt where
  | dsss
  | nonHt
  | ht
  | vht
  | he
  | eht
  | s1g
  | wur
  deriving DecidableEq, Repr

/-- The format code of R293. -/
def Fmt.code : Fmt → Nat
  | .dsss => 0
  | .nonHt => 1
  | .ht => 2
  | .vht => 3
  | .he => 4
  | .eht => 5
  | .s1g => 6
  | .wur => 7

/-- What SECDED finds when a word is fetched (R71, R274). -/
inductive Ecc where
  | ok
  | single
  | double
  deriving DecidableEq, Repr

/-- The parameters of a PPDU (R87, R89), coded as R293 codes them. -/
structure Phy where
  fmt : Fmt
  bw : BitVec 4
  /-- RATE: an MCS, or the rate of a format that has none. -/
  rate : BitVec 5
  nss : BitVec 4
  gi : BitVec 2
  ldpc : Bool
  dcm : Bool
  stbc : Bool
  /-- A duplicate on every 20 MHz of its width, of 2 MHz in S1G (R87, R92). -/
  dup : Bool
  /-- The short preamble of DSSS/CCK (R89). -/
  short : Bool := false
  deriving DecidableEq, Repr

/-- What a PPDU of the device carries (R90): the frames of one station, the frames of several by OFDMA or by MU-MIMO, a
Trigger frame for UL OFDMA, or an announcement with its NDP for sounding. -/
inductive TxMode where
  | su
  | ofdma
  | mimo
  | trigger
  | sounding
  deriving DecidableEq, Repr

/-- A Zitrity frame as it stands in an MPDU or in a carry frame (R151, R152). Addresses are 48 bits with the byte sent
first least significant. -/
structure FloodFrame where
  a1 : BitVec 48
  etype : BitVec 16
  prot : Bool
  vt : BitVec 8
  ttl : BitVec 8
  key : BitVec 8
  slot : BitVec 8
  cid : BitVec 16
  orig : BitVec 48
  dst : BitVec 48
  fcnt : BitVec 32
  len : BitVec 16
  /-- Length of the MSDU that carries it, bytes. -/
  msdu : BitVec 16
  /-- Does the CCM check of R153 pass? -/
  micOk : Bool
  /-- The encrypted payload and the MIC as received. -/
  raw : List Byte
  deriving DecidableEq, Repr

/-- What kind of MPDU a received frame is (R97, R104, R124, R136, R141, R145). -/
inductive FrameKind where
  | qos
  | nonQos
  | mgmt
  | ctrl
  | pv1
  | flood
  /-- A Trigger frame, and an NDP announcement with its NDP, which the baseband answers (R90). -/
  | trigger
  | sounding
  /-- A Disassociation or a Deauthentication frame (R128, R145). -/
  | leave
  deriving DecidableEq, Repr

/-- One received MPDU. -/
structure AirFrame where
  kind : FrameKind
  /-- Transmitter address; of a PV1 frame that names its transmitter by an AID, that AID, else 0 (R92, R197). -/
  ta : BitVec 48
  sid : BitVec 13
  tid : BitVec 3
  sn : BitVec 12
  fn : BitVec 4
  moreFrag : Bool
  retry : Bool
  pm : Bool
  prot : Bool
  fcsOk : Bool
  /-- The station itself initiates the exchange (R104). -/
  initiated : Bool
  pn : BitVec 48
  /-- Whole length with FCS, bytes (R94). -/
  len : BitVec 24
  /-- Where its A-MPDU subframe ends, bytes from the A-MPDU's start; 0 outside an A-MPDU (R95). -/
  ends : BitVec 24
  /-- A robust management frame, individually addressed (R434) or group-addressed, where it bears an MME (R323). -/
  robust : Bool
  /-- Its receiver address is a group address. -/
  group : Bool := false
  /-- An EAPOL frame (R434). -/
  eapol : Bool
  /-- DA and SA of the MSDU. -/
  da : BitVec 48
  sa : BitVec 48
  /-- The MSDU, or the piece of it that a fragment carries, from its LLC header. -/
  body : List Byte
  flood : Option FloodFrame
  deriving DecidableEq, Repr

/-- One received PPDU as the radio's capture units and baseband see it. -/
structure RxPpdu where
  phy : Phy
  /-- It uses an option that R91 lists as absent, or UL MU-MIMO (R90). -/
  absent : Bool
  /-- The chains' narrow stamps at the chip port, none for a chain that did not detect it (R84). -/
  stampA : Option (BitVec 32)
  stampB : Option (BitVec 32)
  stampC : Option (BitVec 32)
  stampD : Option (BitVec 32)
  /-- The turn tag of R51. -/
  tag : BitVec 8
  /-- Ticks from the reference point to the end of the PPDU. -/
  dur : BitVec 24
  /-- Ticks from the reference point to the end of its short training field, where the automatic gain control takes RX_BYP for
  it or RX (R67). -/
  stf : BitVec 16
  /-- Ticks from the PPDU's end to the start of its immediate response: the format's SIFS. -/
  sifs : BitVec 16
  /-- Ticks from the PPDU's end to the end of its immediate response; 0 for none due (R59). -/
  resp : BitVec 16
  /-- How its immediate response goes out, as IEEE 802.11 fixes it. -/
  rsp : Phy
  /-- The level at its reference point, signed dBm. -/
  rssi : BitVec 8
  frames : List AirFrame
  deriving DecidableEq, Repr

/-- The facts of a transmission that the baseband, the published standard and its rate fix: how its PPDU is sent, and ticks of the PPDU, of its expected
response (0 for none), of the SIFS, and of the response timeout (R77). -/
structure AirTime where
  dur : BitVec 24
  resp : BitVec 16
  sifs : BitVec 16
  tmo : BitVec 16
  phy : Phy
  mode : TxMode
  /-- It rides in the PPDU of the frame before it, as far as R90 and R94 allow. -/
  join : Bool
  /-- The resource units of its station in an OFDMA PPDU, or those that a Trigger frame gives it: first 26-tone unit, and how
  many (R90). -/
  rus : List (Nat × Nat) := []
  deriving DecidableEq, Repr

/-- A member link that standard multi-link setup adds: radio, station address, and the band group of the channel that
the device's Basic Multi-Link element names (R128). -/
structure SetupLink where
  lid : BitVec 2
  mac : BitVec 48
  group : BitVec 2
  /-- The traffic identifiers that the exchange maps to it, all of them by default (R150). -/
  tids : BitVec 8
  deriving DecidableEq, Repr

/-- How a protected backbone frame reaches the cipher engine: its secure association's slot, its packet number, whether its ICV
is good, how often its lane's datapaths disagree, and the lanes that hold a normal and an urgent frame (R170, R324 to R330). -/
structure LinkSec where
  slot : BitVec 14
  pn : BitVec 32
  icvOk : Bool
  mism : BitVec 2
  held : BitVec 4
  urgentHeld : BitVec 4
  deriving DecidableEq, Repr

/-- The header of a received Afette message (R171), and how it arrived: protected, what its lane meets, LEN agreeing with the
frame, the sender's backbone address, and the ticks from now to its captured tick. -/
structure Afette where
  prot : Bool
  sec : LinkSec
  lenOk : Bool
  ver : BitVec 4
  typ : BitVec 4
  from_ : BitVec 5
  to_ : BitVec 5
  all : Bool
  cid : BitVec 16
  term : BitVec 32
  tick : BitVec 64
  srcMac : BitVec 48
  dt : BitVec 32
  deriving DecidableEq, Repr

/-- The payload of SYNC (R173). -/
structure SyncMsg where
  epochNs : BitVec 32
  epochSec : BitVec 48
  mstate : BitVec 3
  deputy : BitVec 5
  depNone : Bool
  txNs : BitVec 32
  txSec : BitVec 48
  dseq : BitVec 32
  present : BitVec 32
  actId : BitVec 32
  actTurn : BitVec 40
  actKind : BitVec 2
  deriving DecidableEq, Repr

/-- A record of a DIR message (R182). -/
structure DirRecord where
  kind : BitVec 8
  mac : BitVec 48
  addr : BitVec 64
  tick : BitVec 64
  deriving DecidableEq, Repr

/-- A HAND payload's header (R195). -/
structure HandMsg where
  status : BitVec 8
  mac : BitVec 48
  src : BitVec 64
  dst : BitVec 64
  cut : BitVec 64
  hid : BitVec 32
  tkey : BitVec 14
  deriving DecidableEq, Repr

/-- The fields of an action word (spec/12_gouge_engines.md R269) beside its opcode, which the command's name gives: D, A, B,
the reserved bits [23:20], X, IMM. -/
structure ActWord where
  d : BitVec 4
  a : BitVec 4
  b : BitVec 4
  res : BitVec 4
  x : BitVec 8
  imm : Word
  deriving DecidableEq, Repr
/-- What the boot ROM meets at a boot: the rates at which training fails, the density and ranks found, the delays trained,
persistent key slots whose backing fails its CRC, and the slots whose loading meets an error (R297, R331, R336). -/
structure BootEnv where
  fails : BitVec 5
  dens : Bool
  ranks : Bool
  dly0 : Word
  dly1 : Word
  dly2 : Word
  dly3 : Word
  badKeys : List (BitVec 10)
  loadErr : BitVec 2
  deriving DecidableEq, Repr

/-- What a lane of the cipher engine is given (R323, R330): a received frame, the next frame toward a radio, the next frame of
the backbone port under a secure association's slot, or a group-addressed frame (data, management, a beacon) that the device
sends, under a slot. No register of the spec names the slot of a group or of a secure association (log entry 17). -/
inductive CipSrc where
  /-- `later`: how many received frames wait before it (R327); `slot`: the group key's, for a group-addressed frame. -/
  | rx (later : Nat) (slot : BitVec 14)
  | tx
  | backbone (receive : Bool) (slot : BitVec 14)
  | group (slot : BitVec 14) (data beacon : Bool)
  deriving DecidableEq, Repr
/-- What a training step finds (R346): the channels on which it fails, and the delays and windows of each channel's two byte lanes,
laid out as DMC_DLYc_l. -/
structure TrainFound where
  fails : BitVec 2
  c0l0 : Word
  c0l1 : Word
  c1l0 : Word
  c1l1 : Word
  deriving DecidableEq, Repr

/-- The delays that a tracking run finds for one channel: read and write, byte lanes 0 and 1, in taps (R342). -/
structure Delays where
  rd0 : BitVec 7
  wr0 : BitVec 7
  rd1 : BitVec 7
  wr1 : BitVec 7
  deriving DecidableEq, Repr

/-- A transmit descriptor as the device reads it, with the bytes of its buffer (spec/20_host_interface.md R403). -/
structure TxDesc where
  len : BitVec 16
  flags : Byte
  /-- A reserved bit outside TFLAGS is set. -/
  res : Bool
  txword : Word
  tag : Word
  data : List Byte
  deriving DecidableEq, Repr

/-- What a failed host-memory read was for (R407): a frame's data, with the TFLAGS of its descriptors, or a descriptor of the
receive or of the transmit ring. -/
inductive DmaRead where
  | txData (flags : List Byte)
  | rxDesc
  | txDesc
  deriving DecidableEq, Repr

/-- The commands. -/
inductive Instr where
  /-- REGISTER_WRITE (R12): A host write to a register that has no row of its own sets its fields according to their access types. -/
  | registerWrite (i : Iface) (a : BitVec 26) (v : Word)
  /-- BAD_WIDTH_ACCESS (R8): An access that is not 32 bits wide or not naturally aligned completes as a read of 0 or a discarded write and is recorded as a host-interface access error. -/
  | badWidthAccess (a : BitVec 26) (write : Bool)
  /-- UNASSIGNED_ACCESS (R28): An access to an unassigned BAR0 range, or to a die whose link is down, reads 0, ignores the write and counts an access error. -/
  | unassignedAccess (i : Iface) (a : BitVec 26) (v : Option Word)
  /-- PAIR_LOW_READ (R9): A read of the low word of a 64-bit pair returns it and latches the high word in the pair's holding register. -/
  | pairLowRead (i : Iface) (a : BitVec 26)
  /-- PAIR_HIGH_READ (R9): A read of the high word of a pair returns the latched value and empties the latch, or returns the current high word when nothing is latched. -/
  | pairHighRead (i : Iface) (a : BitVec 26)
  /-- PAIR_LOW_WRITE (R9): A write of the low word of a pair is held in the pair's holding register. -/
  | pairLowWrite (i : Iface) (a : BitVec 26) (v : Word)
  /-- PAIR_HIGH_WRITE (R9): A write of the high word of a pair commits both words at once and empties the hold. -/
  | pairHighWrite (i : Iface) (a : BitVec 26) (v : Word)
  /-- RC_READ (R12): A read of an RC register returns its value and clears it. -/
  | rcRead (i : Iface) (a : BitVec 26)
  /-- W1C_WRITE (R13): A write to a W1C register clears each bit written 1, and a bit that the device sets in the same fabric cycle ends set. -/
  | w1cWrite (i : Iface) (a : BitVec 26) (v set : Word)
  /-- FLIT_CRC_FAIL (R16): A die-link flit fails its CRC and is sent again, and the retry is counted. -/
  | flitCrcFail (link : Fin 3) (newFlit : Bool)
  /-- TURN_STROBE (R19): A turn strobe reaches Frond, which re-aligns its angle counter to the core spindle. -/
  | turnStrobe (agree : Bool)
  /-- SUPPLY_MONITOR_CHANGE (R419): The supply monitor finds VDD_CORE or VDD_AON crossing its low threshold and updates SYS_SUPPLY.MEAS_LOW. -/
  | supplyMonitorChange (low : Bool)
  /-- SPINDLE_ENABLE (R41): A write that sets SPN_CTL.EN leaves STOPPED for ACQUIRE, or for FREE with the wide time loaded with the epoch. -/
  | spindleEnable (mode : Bool)
  /-- SPINDLE_DISABLE (R41): A write that clears SPN_CTL.EN stops the spindle, from any state, in STOPPED. -/
  | spindleDisable (mode : Bool)
  /-- EPOCH_COMMIT (R37): A write to SPN_EPOCH_SEC_HI commits the held epoch, or ignores the commit and sets EPOCH_IGN. -/
  | epochCommit (hi : Word)
  /-- DOMAIN_SWITCH_REQUEST (R49): A write of SPN_CTL.SWITCH asks for a domain switch, which is made or refused under the switch test. -/
  | domainSwitchRequest
  /-- PTP_SAMPLE (R430): A checked PTP offset sample reaches the servo, which corrects the clock or refuses the sample and advances the lock run. -/
  | ptpSample (port : Fin 2) (dom : BitVec 8) (ext : BitVec 80) (inOrder : Bool) (exchanges : BitVec 8)
  /-- PTM_DIALOG_DONE (R44): A PCIe PTM dialog completes and gives a time sample offset by SPN_PTM_MAP. -/
  | ptmDialogDone (completed : Bool) (master : BitVec 64) (roundTripNs : BitVec 32)
  /-- PTM_DIALOG_START (R44): The PTM interval expires and the device starts a new PTM dialog as requester. -/
  | ptmDialogStart
  /-- PPS_EDGE (R45): An active PPS_IN edge is accepted as a sample with its label, labelled by rule, or rejected as a glitch. -/
  | ppsEdge (afterNs : BitVec 32)
  /-- PPS_LABEL_WRITE (R45): A write of SPN_PPS_LABEL_HI makes a label wait for the next pulse and sets LBL_VALID. -/
  | ppsLabelWrite (hi : Word)
  /-- TURN_START (R31): The spindle reaches a turn start, latches the turn-start set and sends the strobe. -/
  | turnStart (t0 t1 t2 : BitVec 12) (e0 e1 e2 : Ecc)
  /-- LOSS_TIMEOUT (R431): LOSS_TMO whole turns pass without a valid sample, so the device switches domain or enters HOLDOVER. -/
  | lossTimeout
  /-- HOLDOVER_LIMIT (R43): The holdover error bound reaches SPN_HOLD_LIMIT and the spindle enters FREE. -/
  | holdoverLimit
  /-- STEP_ACCEPT (R47): SPN_STEP_CMD.ACCEPT schedules a step by the pending offset at the next turn start. -/
  | stepAccept
  /-- STEP_LOAD (R50): SPN_STEP_CMD.LOAD marks the host-written SPN_STEP_PEND as pending and sets STEP_PEND. -/
  | stepLoad
  /-- NOW_CAPTURE (R55): A read of SPN_NOW_NS captures the whole SPN_NOW set at one tick. -/
  | nowCapture
  /-- TURN_LATCH_CAPTURE (R55): A read of SPN_TL_NS captures the whole turn-start latch set. -/
  | turnLatchCapture
  /-- TRIGGER_ARM (R52): SPN_TTOn_CTL.EN changing from 0 to 1 samples start, period and width, or counts a late single pulse as missed. -/
  | triggerArm (n : Fin 4) (pol gate : Bool)
  /-- TRIGGER_PULSE (R52): A time trigger reaches a programmed pulse time and emits, or counts a gated pulse as missed. -/
  | triggerPulse (n : Fin 4)
  /-- TRIGGER_PULSE_END (R52): The pulse width expires and the output returns to its inactive level. -/
  | triggerPulseEnd (n : Fin 4)
  /-- FRN_ENABLE (R59): Setting FRNn_CTL.EN powers a radio from OFF to SLEEP, unless the radio has neither AP nor STA role. -/
  | frnEnable (r : Fin 3) (run auto : Bool)
  /-- FRN_DISABLE (R59): Clearing FRNn_CTL.EN takes the radio to OFF at once and clears the calibration store. -/
  | frnDisable (r : Fin 3) (run auto : Bool)
  /-- FRN_RUN_SET (R73): Setting FRNn_CTL.RUN starts the sequencer pair at the main entry at the next turn start. -/
  | frnRunSet (r : Fin 3) (en auto : Bool)
  /-- FRN_RUN_CLEAR (R433): Clearing FRNn_CTL.RUN halts the pair after any PPDU in progress and takes the radio to STANDBY. -/
  | frnRunClear (r : Fin 3) (en auto : Bool)
  /-- HALT (R75): The HALT operation halts the pair without a fault and takes the radio to STANDBY. -/
  | halt (r : Fin 3)
  /-- SYNC (R75): The SYNC operation waits until the next turn start. -/
  | sync (r : Fin 3)
  /-- WAIT_AT (R74): The WAIT_AT operation waits until its angle, or sets OVERRUN or SKIPPED when the angle is taken as passed. -/
  | waitAt (r : Fin 3) (ang : BitVec 24) (ecc : Ecc)
  /-- WAIT_REL (R75): The WAIT_REL operation waits for a number of ticks. -/
  | waitRel (r : Fin 3) (ticks : BitVec 24) (ecc : Ecc)
  /-- SEQ_WAIT_END (R73): A waiting operation reaches its target tick and completes, and the next operation executes at that tick. -/
  | seqWaitEnd (r : Fin 3) (ecc : Ecc)
  /-- SLEEP (R75): The SLEEP operation takes the radio to radio SLEEP. -/
  | sleep (r : Fin 3) (ecc : Ecc)
  /-- WAKE (R75): The WAKE operation leaves SLEEP so that STANDBY holds by READY, and completes there. -/
  | wake (r : Fin 3) (ready : BitVec 24) (ecc : Ecc)
  /-- PREP (R61): The PREP operation starts the idle synthesiser relocking or calibrating on a channel-table entry. -/
  | prep (r : Fin 3) (idx : BitVec 8) (recal : Bool) (ecc : Ecc)
  /-- HOP (R62): The HOP operation waits for the idle synthesiser to lock and exchanges the two, or drops to STANDBY when the idle one is failed or unprepared. -/
  | hop (r : Fin 3) (ecc : Ecc)
  /-- RXWIN (R76): The RXWIN operation receives on its chains with a receive profile until END. -/
  | rxwin (r : Fin 3) (end_ : BitVec 24) (chains profile : BitVec 4) (ecc : Ecc)
  /-- TXQ (R77): The TXQ operation sends a burst of frames from a transmit queue within START_DL and END. -/
  | txq (r : Fin 3) (startDl end_ : BitVec 24) (chains queue : BitVec 4) (ecc : Ecc)
  /-- TXTPL (R78): The TXTPL operation copies a template into the transmit buffer and transmits it before its deadline. -/
  | txtpl (r : Fin 3) (tpl : BitVec 8) (deadline : BitVec 24) (chains : BitVec 4) (dur : BitVec 24) (ecc : Ecc)
  /-- BGCAL (R66): The BGCAL operation runs a background calibration that fits before its LIMIT, or skips it and counts the skip. -/
  | bgcal (r : Fin 3) (kind : BitVec 3) (limit : BitVec 24) (temp : BitVec 12) (ecc : Ecc)
  /-- EVENT (R116): The EVENT operation posts its code and tick to the access scheduler, which passes it to the blank's actions as a task. -/
  | event (r : Fin 3) (code : BitVec 8) (ecc : Ecc)
  /-- JUMP (R75): The JUMP operation continues execution at its target. -/
  | jump (r : Fin 3) (target : BitVec 12) (ecc : Ecc)
  /-- JCYC (R75): The JCYC operation jumps to its target when the turn is at the given position of a cycle. -/
  | jcyc (r : Fin 3) (target : BitVec 12) (len pos : BitVec 8) (ecc : Ecc)
  /-- SYNTH_CAL_DONE (R61): A synthesiser's relock or calibration completes, locked or failed. -/
  | synthCalDone (r : Fin 3) (k ok : Bool) (ecc : Ecc)
  /-- LOCK_LOSS (R65): The lock detector reports loss of the active synthesiser's lock, which cuts transmission, returns frames ABORT and starts a relock. -/
  | lockLoss (r : Fin 3) (ecc : Ecc)
  /-- TEMP_DRIFT (R63): The active calibration's temperature leaves TEMP_WIN, so the entry is marked stale and TEMP_DRIFT is set. -/
  | tempDrift (r : Fin 3) (temp : BitVec 12)
  /-- PPDU_RECEIVED (R76): A PPDU whose reference point falls in a listening period is received with its stamp and measurements and sent to the core die. -/
  | ppduReceived (r : Fin 3) (p : RxPpdu)
  /-- PPDU_TX_END (R79): A transmitted PPDU ends and its frame returns a status with its transmit stamp, or the radio waits for the response. -/
  | ppduTxEnd (r : Fin 3) (ecc : Ecc)
  /-- RESPONSE_RECEIVED (R79): The expected response to a transmitted frame arrives and the frame returns OK. -/
  | responseReceived (r : Fin 3) (lost : List Nat) (ecc : Ecc)
  /-- RESPONSE_TIMEOUT (R79): The standard's response timeout ends without the response and the frame returns NOACK. -/
  | responseTimeout (r : Fin 3) (ecc : Ecc)
  /-- SEQ_MISMATCH (R72): The two sequencer copies disagree, so every chain goes to OFF, the PPDU is cut and the pair halts. -/
  | seqMismatch (r : Fin 3)
  /-- SEQ_AUTO_RESTART (R72): With AUTO_RST set, the halted pair restarts at the next turn start at the main or coast entry. -/
  | seqAutoRestart (r : Fin 3) (ecc : Ecc)
  /-- CHANNEL_ENTRY_WRITE (R58): A write to a channel-table entry takes effect per field and discards stored calibrations when centre, bandwidth or group change. -/
  | channelEntryWrite (r : Fin 3) (idx : BitVec 8) (word : Fin 4) (v : Word)
  /-- PROGRAM_WORD_COMMIT (R80): A write of an operation's high word commits the whole operation to program memory at one tick. -/
  | programWordCommit (i : Iface) (r : Fin 3) (a : BitVec 12) (hi : Word)
  /-- COAST_START (R81): At the turn start where coasting begins, each running pair continues at the coast entry. -/
  | coastStart (r : Fin 3) (ecc : Ecc)
  /-- COAST_END (R81): At the turn start where coasting ends, the pairs continue at the main entry. -/
  | coastEnd (r : Fin 3) (ecc : Ecc)
  /-- COAST_LIMIT (R83): Coasting lasts FRNn_COAST_LIMIT ticks, so the pair halts and every chain goes to the OFF pattern. -/
  | coastLimit (r : Fin 3)
  /-- ASSOCIATION_REQUEST (R22): A station's (Re)Association Request is answered, with an AID assigned or the request refused. -/
  | associationRequest (r : Fin 3) (mac link : BitVec 48) (tids : BitVec 8) (others : List SetupLink) (flags : BitVec 5) (maxMpdu : BitVec 16) (maxAmpdu : BitVec 32) (listen : BitVec 16) (nstr : BitVec 3) (emlsr : BitVec 16) (elem : List Byte)
  /-- CTX_READ (R103): ACC_CTX_CMD.READ copies the selected context into ACC_CTX_DATA at one fabric cycle. -/
  | ctxRead (cmd : BitVec 5)
  /-- CTX_WRITE (R103): ACC_CTX_CMD.WRITE writes the H bytes, and the D* bytes with DRIFT_LOAD, or refuses and sets CTX_ERR. -/
  | ctxWrite (cmd : BitVec 5)
  /-- CTX_FREE (R103): ACC_CTX_CMD.FREE clears the context to FREE and frees its AID. -/
  | ctxFree (cmd : BitVec 5)
  /-- CTX_FLUSH (R103): ACC_CTX_CMD.FLUSH writes the cached context to DRAM. -/
  | ctxFlush (cmd : BitVec 5)
  /-- CONTEXT_FETCH_DONE (R101): A station context missing from the cache arrives from DRAM and the frames waiting for it proceed. -/
  | contextFetchDone (aid : BitVec 13)
  /-- STATION_FRAME_RX (R104): A frame from a station reaches the access scheduler and is classed as anchor, bound or plain for the drift estimate. -/
  | stationFrameRx
  /-- STATION_DORMANT (R108): DORMANT_TURNS pass without a frame from a station and it is marked DORMANT. -/
  | stationDormant (aid : BitVec 13)
  /-- PLAN_ARM (R111): ACC_PLAN_CMD.ARM checks a bank and arms it for its activation turn, or refuses it with PLAN_BAD. -/
  | planArm (radio : BitVec 2) (bank : Bool) (len : BitVec 8) (cancel : Bool)
  /-- PLAN_CANCEL (R112): ACC_PLAN_CMD.CANCEL withdraws an armed bank. -/
  | planCancel (radio : BitVec 2) (bank : Bool) (len : BitVec 8)
  /-- PLAN_SWAP (R112): At the first cycle start at or after the activation turn, the armed bank becomes active. -/
  | planSwap (r : Fin 3)
  /-- GENERATE_HALF (R113): At a turn start the access scheduler writes the generated half for the next turn. -/
  | generateHalf (r : Fin 3) (took wurDur : BitVec 24)
  /-- GEN_DEADLINE (R113): ACC_GEN_DONE passes before a half is complete, so word 0 stays SYNC and GEN_LATE is counted. -/
  | genDeadline (r : Fin 3)
  /-- ACC_CTL_WRITE (R113): A write of ACC_CTL with EN 0 writes SYNC into every half at once, and a write of LINK_EN bits stops or starts a radio's generation. -/
  | accCtlWrite (en : Bool) (linkEn : BitVec 3)
  /-- STATION_ENQUEUE (R96): An MSDU is queued for a station, or dropped as oversize. -/
  | stationEnqueue (aid : BitVec 13) (tid : BitVec 4) (len : BitVec 14) (mgmt robust eapol : Bool) (air : AirTime) (data : List Byte)
  /-- FROND_QUEUE_FILL (R251): The scheduler hands an MPDU across the Frond link against transmit credits and assigns its sequence number. -/
  | frondQueueFill (r : Fin 3) (tid : BitVec 4) (air : AirTime)
  /-- FRAME_LIFETIME_EXPIRY (R117): A frame's age reaches ACC_RETRY.LIFE turns and it is dropped and counted. -/
  | frameLifetimeExpiry (aid : BitVec 13) (tid : BitVec 4)
  /-- BEACON_BUILD (R122): ACC_BCN_LEAD before a BEACON window, the device builds the TIM and dynamic elements. -/
  | beaconBuild (r : Fin 3) (airtime : BitVec 24) (finished : Bool)
  /-- WOKE_EXPIRY (R123): A whole WUR_PERIOD passes with no frame from the station and WOKE clears. -/
  | wokeExpiry (aid : BitVec 13)
  /-- UPLINK_BEACON (R125): An upstream beacon heard in its listen range updates ACC_UP_TSF and resets MISS, or returns a LOST link to ASSOC. -/
  | uplinkBeacon (tsf : BitVec 64) (lead : BitVec 16) (bi : BitVec 16) (dt : BitVec 24)
  /-- UPLINK_MISS (R126): A listen range closes without a beacon, adding a miss and making the link LOST at the third. -/
  | uplinkMiss
  /-- UPLINK_HOLD_EXPIRY (R126): HOLD turns pass in LOST and the held uplink frames are dropped. -/
  | uplinkHoldExpiry
  /-- UPLINK_SEARCH_EXPIRY (R126): SEARCH turns pass in LOST without a beacon and the uplink goes DOWN. -/
  | uplinkSearchExpiry
  /-- UPLINK_ASSOCIATED (R126): The blank's actions complete a new upstream association and the uplink returns to ASSOC. -/
  | uplinkAssociated (ap : BitVec 48)
  /-- SUSPEND (R140): MLK_CMD.SUSPEND sets a member's SUSP bit and returns its queued frames NOCHAN. -/
  | suspend (cmd : BitVec 4)
  /-- RESUME (R140): MLK_CMD.RESUME clears a member's SUSP bit. -/
  | resume (cmd : BitVec 4)
  /-- REMOVE (R140): MLK_CMD.REMOVE removes a member from the braid and returns its queued frames NOCHAN. -/
  | remove (cmd : BitVec 4)
  /-- BRAID_READ (R133): MLK_CMD.READ copies a braid record into MLK_REC_DATA at one fabric cycle. -/
  | braidRead (cmd : BitVec 4)
  /-- ADDBA_REQUEST (R136): An ADDBA Request is answered with a grant sized by the limit and the pool, or declined. -/
  | addbaRequest (r : Fin 3) (ta : BitVec 48) (tid : BitVec 3) (ssn : BitVec 12) (size : BitVec 12)
  /-- AGREEMENT_END (R145): A receive agreement ends, releasing held frames in order and returning the buffer to the pool. -/
  | agreementEnd (r : Fin 3) (ta : BitVec 48) (tid : BitVec 3) (tx : Bool)
  /-- REORDER_RX (R141): A QoS data frame under an agreement is stored, released or discarded in its reorder buffer. -/
  | reorderRx
  /-- BLOCK_ACK_REQUEST_RX (R141): A received Block Ack Request moves the reorder window ahead. -/
  | blockAckRequestRx (r : Fin 3) (ta : BitVec 48) (tid : BitVec 3) (ssn : BitVec 12)
  /-- HOLE_TIMER_EXPIRY (R144): A reorder buffer's hole timer reaches EXPIRY and the device waits for in-time frames to settle. -/
  | holeTimerExpiry (aid : BitVec 13) (tid : BitVec 3)
  /-- HOLE_SETTLE_END (R144): The settle wait ends, in-time frames are applied and numbers up to the next held frame are skipped. -/
  | holeSettleEnd (aid : BitVec 13) (tid : BitVec 3)
  /-- CIPHER_DROP_NOTICE (R147): A drop notice from the cipher engine marks its sequence number as a hole in the reorder buffer. -/
  | cipherDropNotice (aid : BitVec 13) (tid : BitVec 3) (sn : BitVec 12) (lid : BitVec 2)
  /-- FLOOD_FRAME_RX (R154): A received flood frame is checked for form, window and MIC before the sorus lookup. -/
  | floodFrameRx
  /-- SORUS_SETTLE_END (R163): The settle wait ends and waiting flood frames are looked up in the sorus cache in capture order. -/
  | sorusSettleEnd
  /-- CARRY_FRAME_RX (R167): The home receives a carry frame and puts it through the checks, cache lookup and replay check. -/
  | carryFrameRx (prot : Bool) (sec : LinkSec) (kind : BitVec 8) (lid : BitVec 2) (rssi : BitVec 8) (tick : BitVec 64) (f : FloodFrame) (payload : List Byte) (mismatches : BitVec 2)
  /-- FLOOD_ENQUEUE (R158): A downlink flood is placed in a radio's flood queue, or dropped when the queue is full. -/
  | floodEnqueue (r : Fin 3) (dst : BitVec 48) (air : AirTime) (payload : List Byte)
  /-- FLOOD_LIFETIME_EXPIRY (R159): A flood not sent OK within ACC_RETRY.LIFE turns is dropped and counted. -/
  | floodLifetimeExpiry (r : Fin 3)
  /-- FCNT_RESET (R160): FLD_CMD.FCNT_RESET sets the frame counter to 0 when the key slot was written since the last reset, or sets CMD_ERR. -/
  | fcntReset (cmd : BitVec 3)
  /-- TAG_RESET (R165): FLD_CMD.TAG_RESET clears VALID in the flood state of FLD_CMD_AID. -/
  | tagReset (cmd : BitVec 3)
  /-- SORUS_FLUSH (R164): FLD_CMD.SORUS_FLUSH frees every sorus entry at once. -/
  | sorusFlush (cmd : BitVec 3)
  /-- SORUS_AGING (R162): At the start of turn T + 8, the sorus entries inserted in turn T are freed. -/
  | sorusAging
  /-- CLUSTER_ENABLE (R175): Setting CLU_CTL.EN takes the cluster unit from OFF to LEAD or JOIN by role. -/
  | clusterEnable
  /-- CLUSTER_DISABLE (R175): Clearing CLU_CTL.EN takes the cluster unit to OFF from any state. -/
  | clusterDisable
  /-- SYNC_SEND (R173): The manager in LEAD sends SYNC to ALL at the start of each slot. -/
  | syncSend
  /-- SYNC_RX (R174): A worker receives SYNC in its tolerance, checks epoch and term, and updates skew and state. -/
  | syncRx (h : Afette) (m : SyncMsg)
  /-- SYNC_SLOT_MISS (R174): A slot's tolerance closes without a received SYNC, adding a miss and entering HOLDOVER at the third. -/
  | syncSlotMiss
  /-- DEPUTY_TAKEOVER (R178): A deputy in HOLDOVER passes 16 slots without SYNC and takes over as manager with a higher term. -/
  | deputyTakeover
  /-- HB_SEND (R176): A device not in LEAD sends its HB to the manager in its heartbeat slot, with pending REPORT records. -/
  | hbSend
  /-- HB_RX (R177): The manager copies an HB into its table and re-sends directory updates that the sender lacks. -/
  | hbRx (h : Afette) (hb : BitVec 256)
  /-- DEVICE_ABSENT (R177): Three HB periods pass without a device's HB and it is marked absent. -/
  | deviceAbsent (d : BitVec 5)
  /-- DIR_REPORT_RX (R183): The manager turns worker REPORT records into numbered UPDATE records or stale restatements. -/
  | dirReportRx (h : Afette) (records : List DirRecord)
  /-- DIR_UPDATE_RX (R184): A device applies UPDATE records in sequence order, holding records ahead and discarding old ones. -/
  | dirUpdateRx (h : Afette) (seq : BitVec 32) (records : List DirRecord)
  /-- DIR_FULL_RX (R185): A FULL transfer record builds the second directory, which replaces the first when all TOTAL records arrive. -/
  | dirFullRx (h : Afette) (seq total index : BitVec 32) (records : List DirRecord)
  /-- DID_CHANGE (R187): At the next turn start a device takes the DID that DEVICE_SET bound to its MAC, or flags DID_CONFLICT. -/
  | didChange
  /-- PLAN_SEND (R188): CLU_PLAN_CMD.SEND sends a bank to a DID as PLAN fragments or stages it locally. -/
  | planSend (d : BitVec 5) (radio : BitVec 2) (len : BitVec 8)
  /-- PLAN_RX (R190): A PLAN fragment is written into the inactive bank, and the complete plan is checked and staged. -/
  | planRx (h : Afette) (radio : BitVec 2) (len : BitVec 8) (frag : BitVec 4) (nfrag : BitVec 5) (id : BitVec 32) (nwin : BitVec 11) (ws : List (BitVec 128))
  /-- ACT_SEND (R191): CLU_ACT_CMD.SEND starts an activation, which waits until every listed device is ready. -/
  | actSend (kind : BitVec 2) (map : BitVec 3)
  /-- ACT_READY (R191): Every listed device reports readiness, so the manager sends ACT to ALL and enters SENT. -/
  | actReady
  /-- ACT_DEADLINE (R191): The turn reaches TURN − CLU_ACT_MIN while WAITING, so the activation FAILS. -/
  | actDeadline
  /-- ACT_WITHDRAW_CMD (R191): CLU_ACT_CMD.WITHDRAW withdraws the activation, or is refused once too late. -/
  | actWithdrawCmd (kind : BitVec 2) (map : BitVec 3)
  /-- ACT_RX (R192): A device takes an ACT, arming its staged plans or handing an image turnover to the update block. -/
  | actRx (h : Afette) (kind map : BitVec 8) (id : BitVec 32) (turn : BitVec 40)
  /-- ACT_WITHDRAW_RX (R193): A device withdraws a taken activation on a WITHDRAW ACT or a SYNC that no longer carries it. -/
  | actWithdrawRx (h : Afette) (kind map : BitVec 8) (id : BitVec 32) (turn : BitVec 40)
  /-- IMG_RX (R306): A worker takes an IMG block into its staging session and answers with an acknowledgement. -/
  | imgRx (h : Afette) (session offset total : BitVec 32) (last : Bool) (data : List Byte)
  /-- HAND_REQ_CMD (R196): CLU_HAND_CMD.REQ sends a handoff REQ to the source and target, or sets ERR. -/
  | handReqCmd (abort : Bool)
  /-- HAND_ABORT_CMD (R198): CLU_HAND_CMD.ABORT sends ABORT for the handoff in progress. -/
  | handAbortCmd
  /-- HAND_REQ_RX (R196): The target reserves an AID in HANDOFF and sends ACCEPT, or refuses. -/
  | handReqRx (h : Afette) (m : HandMsg)
  /-- HAND_ACCEPT_RX (R196): The source captures ACCEPT and puts the context in HANDOFF, or aborts LATE. -/
  | handAcceptRx (h : Afette) (m : HandMsg)
  /-- HAND_CUT (R196): The source reaches CUT, stops the station's transmissions and waits for frames to settle. -/
  | handCut (hid : BitVec 32)
  /-- HAND_SETTLE_END (R196): The source sends CTX, FRAME and END and frees its context. -/
  | handSettleEnd (hid : BitVec 32)
  /-- HAND_CTX_RX (R196): The target loads the carried context under its own AID and key slot. -/
  | handCtxRx (h : Afette) (m : HandMsg) (body : List Byte)
  /-- HAND_FRAME_RX (R196): The target queues a handoff FRAME behind those already taken. -/
  | handFrameRx (h : Afette) (m : HandMsg) (tid : BitVec 4) (sn : BitVec 12) (hasSn : Bool) (len : BitVec 14) (air : AirTime) (data : List Byte)
  /-- HAND_END_RX (R196): At END the target's context enters ASSOC and a STATION_SET report is made. -/
  | handEndRx (h : Afette) (m : HandMsg) (same : Bool) (air : AirTime) (switchFrame : List Byte)
  /-- HAND_ABORT_RX (R198): ABORT or REFUSE returns the source's context to ASSOC or frees the target's reserved AID. -/
  | handAbortRx (h : Afette) (m : HandMsg) (refuse : Bool)
  /-- HAND_TIMEOUT (R198): No END reaches the target by CUT + CLU_HAND_TMO, so its AID is freed and ABORT TIMEOUT is sent. -/
  | handTimeout (hid : BitVec 32)
  /-- PACKET_ENTRY (R201): A packet enters the parser, takes a reorder slot and sequence tag, is parsed and classified. -/
  | packetEntry (q : BitVec 2)
  /-- TABLE_READ (R210): PRS_TBL_CMD READ copies a wildcard entry, or the found exact entry, to staging. -/
  | tableRead (exact : Bool) (index : BitVec 14)
  /-- TABLE_WRITE (R210): PRS_TBL_CMD WRITE replaces a wildcard entry at INDEX. -/
  | tableWrite (index : BitVec 14)
  /-- TABLE_INSERT (R209): PRS_TBL_CMD INSERT adds an exact entry in a candidate bucket or fails FULL. -/
  | tableInsert (index : BitVec 14)
  /-- TABLE_DELETE (R210): PRS_TBL_CMD DELETE clears a wildcard entry or removes an exact entry. -/
  | tableDelete (exact : Bool) (index : BitVec 14)
  /-- EM_MASK_WRITE (R209): A write of PRS_EM_MASK takes effect only while the exact table is empty, else sets TBL_ERR. -/
  | emMaskWrite (hi : Bool) (v : Word)
  /-- HPROF_WRITE (R216): A write of PRS_HPROFp or ROB_CFG takes effect only with PRS_CTL.EN 0, else sets TBL_ERR. -/
  | hprofWrite (rob : Bool) (p : BitVec 4) (hi : Bool) (v : Word)
  /-- SLOT_RELEASE (R219): A flow's head slot leaves PENDING and its outputs go to their destinations in release order. -/
  | slotRelease (flow : BitVec 12) (ethFull : BitVec 2) (mpdu : BitVec 14) (air : AirTime)
  /-- ROB_AGE_EXPIRY (R221): A slot still PENDING or REDISP after ROB_AGE is retired as a hole. -/
  | robAgeExpiry (seq : Word)
  /-- ETH_FRAME_RX (R226): A frame is received on an Ethernet port and is accepted or discarded by length, FCS, buffers or queue room. -/
  | ethFrameRx (p : Fin 2) (data : List Byte) (good : Bool)
  /-- PAUSE_END (R227): The pause time expires and the transmit queues resume. -/
  | pauseEnd (p : Fin 2)
  /-- LINK_UP (R225): A port's link comes up and LINK_UP is set. -/
  | linkUp (p : Fin 2) (rate : BitVec 3) (rfault : Bool)
  /-- LINK_DOWN (R225): A port's link drops, losing the frames in progress, and LINK_DOWN is set. -/
  | linkDown (p : Fin 2) (lfault rfault receiving : Bool)
  /-- ETH_CFG_WRITE (R225): A write of ETHn_CFG is accepted only with EN 0 and a valid mode, else sets CFG_ERR. -/
  | ethCfgWrite (p : Fin 2) (v : Word)
  /-- ETH_CTL_WRITE (R241): A write of ETHn_CTL that clears EN squelches the transmitter within 1 µs. -/
  | ethCtlWrite (p : Fin 2) (v : BitVec 7)
  /-- ETH_FRAME_TX (R236): A frame is sent from a port's transmit queues and returns a transmit status with its stamp. -/
  | ethFrameTx (p : Fin 2) (empty : Bool) (after : BitVec 14)
  /-- LPI_ENTRY (R240): A port's queues and FIFO stay empty for IDLE µs and it signals LPI. -/
  | lpiEntry (p : Fin 2)
  /-- LPI_WAKE (R240): A frame offered during LPI ends the signalling and starts TW µs later. -/
  | lpiWake (p : Fin 2)
  /-- SNAP (R242): ETHn_SNAP_CMD.SNAP copies and clears every counter at one fabric cycle. -/
  | snap (p : Fin 2)
  /-- BUFFER_ALLOC (R245): A block takes a buffer from the on-die or DRAM tier, or is refused. -/
  | bufferAlloc (own : BitVec 4) (len : BitVec 24)
  /-- BUFFER_RELEASE (R247): An owner releases a reference, returning the chain to the free lists when the count reaches 0. -/
  | bufferRelease (own : BitVec 4) (handle : BitVec 24)
  /-- REFERENCE_ADD (R247): A copy or mirror adds a reference to a chain for the destination owner. -/
  | referenceAdd (own : BitVec 4) (handle : BitVec 24)
  /-- BOOKS_SNAP (R249): CHK_BOOK_CMD.SNAP copies every book into the books page and latches the tick. -/
  | booksSnap
  /-- FROND_LINK_RETURN (R253): The Frond link returns, Frond returns its frames ABORT, and credits still out are settled at the end-of-return marker. -/
  | frondLinkReturn (lost0 lost1 lost2 : BitVec 14)
  /-- TASK_ENQUEUE (R263): A source takes a task descriptor and queues a task, or waits or is refused. -/
  | taskEnqueue (timer : Option (BitVec 8))
  /-- TASK_POST (R263): TSK_POST_CMD.POST posts a host task, or is refused. -/
  | taskPost (cls : BitVec 5)
  /-- TASK_DISPATCH (R265): The scheduler dispatches the oldest dispatchable task of the highest level to an engine thread. -/
  | taskDispatch
  /-- ADD (R270): The ADD action sets D to A + b. -/
  | add (e : Fin 16) (t : Fin 4) (w : ActWord)
  /-- SUB (R270): The SUB action sets D to A − b. -/
  | sub (e : Fin 16) (t : Fin 4) (w : ActWord)
  /-- AND (R270): The AND action sets D to A AND b. -/
  | and (e : Fin 16) (t : Fin 4) (w : ActWord)
  /-- OR (R270): The OR action sets D to A OR b. -/
  | or (e : Fin 16) (t : Fin 4) (w : ActWord)
  /-- XOR (R270): The XOR action sets D to A XOR b. -/
  | xor (e : Fin 16) (t : Fin 4) (w : ActWord)
  /-- SHL (R270): The SHL action shifts A left. -/
  | shl (e : Fin 16) (t : Fin 4) (w : ActWord)
  /-- SHR (R270): The SHR action shifts A right logically. -/
  | shr (e : Fin 16) (t : Fin 4) (w : ActWord)
  /-- SAR (R270): The SAR action shifts A right arithmetically. -/
  | sar (e : Fin 16) (t : Fin 4) (w : ActWord)
  /-- LDH (R270): The LDH action loads IMM into the high half of D. -/
  | ldh (e : Fin 16) (t : Fin 4) (w : ActWord)
  /-- BR (R270): The BR action branches when its condition holds. -/
  | br (e : Fin 16) (t : Fin 4) (w : ActWord)
  /-- CALL (R270): The CALL action pushes the return address and branches, failing STACK on overflow. -/
  | call (e : Fin 16) (t : Fin 4) (w : ActWord)
  /-- RET (R270): The RET action returns to the popped address, failing STACK when empty. -/
  | ret (e : Fin 16) (t : Fin 4) (w : ActWord)
  /-- LDL (R270): The LDL action loads bytes of local memory. -/
  | ldl (e : Fin 16) (t : Fin 4) (w : ActWord)
  /-- STL (R270): The STL action stores bytes into local memory. -/
  | stl (e : Fin 16) (t : Fin 4) (w : ActWord)
  /-- LDP (R270): The LDP action loads packet bytes, waiting beyond the head window. -/
  | ldp (e : Fin 16) (t : Fin 4) (w : ActWord)
  /-- STP (R270): The STP action writes packet bytes, taking effect at END. -/
  | stp (e : Fin 16) (t : Fin 4) (w : ActWord)
  /-- ADJ (R270): The ADJ action removes or adds bytes at the packet's head or tail. -/
  | adj (e : Fin 16) (t : Fin 4) (w : ActWord)
  /-- TLD (R270): The TLD action copies an indexed-table entry to local memory. -/
  | tld (e : Fin 16) (t : Fin 4) (w : ActWord)
  /-- TST (R270): The TST action writes an indexed-table entry from local memory at once. -/
  | tst (e : Fin 16) (t : Fin 4) (w : ActWord)
  /-- TLKP (R272): The TLKP action looks a key up in a table and writes the result on a hit. -/
  | tlkp (e : Fin 16) (t : Fin 4) (w : ActWord)
  /-- TINS (R272): The TINS action inserts a key and result into a hashed or exact table. -/
  | tins (e : Fin 16) (t : Fin 4) (w : ActWord)
  /-- TDEL (R272): The TDEL action removes a key from a hashed or exact table. -/
  | tdel (e : Fin 16) (t : Fin 4) (w : ActWord)
  /-- CADD (R270): The CADD action adds to a counter atomically and returns the old value. -/
  | cadd (e : Fin 16) (t : Fin 4) (w : ActWord)
  /-- CSWP (R270): The CSWP action compares and swaps a counter atomically. -/
  | cswp (e : Fin 16) (t : Fin 4) (w : ActWord)
  /-- PNEW (R270): The PNEW action creates a zero-filled packet for a task without one. -/
  | pnew (e : Fin 16) (t : Fin 4) (w : ActWord)
  /-- SPAWN (R270): The SPAWN action posts a task of a class, or returns 0 when refused. -/
  | spawn (e : Fin 16) (t : Fin 4) (w : ActWord)
  /-- TMR (R273): The TMR action arms, replaces or cancels an action timer. -/
  | tmr (e : Fin 16) (t : Fin 4) (w : ActWord)
  /-- CTXR (R270): The CTXR action reads 8 bytes of a station context. -/
  | ctxr (e : Fin 16) (t : Fin 4) (w : ActWord)
  /-- CTXW (R270): The CTXW action writes the H bytes and WUR_MODE of 8 bytes of a station context. -/
  | ctxw (e : Fin 16) (t : Fin 4) (w : ActWord)
  /-- TIME (R270): The TIME action returns the current tick or wide time. -/
  | time (e : Fin 16) (t : Fin 4) (w : ActWord)
  /-- TRACE (R270): The TRACE action records a USER trace entry. -/
  | trace (e : Fin 16) (t : Fin 4) (w : ActWord)
  /-- NOP (R270): The NOP action does nothing. -/
  | nop (e : Fin 16) (t : Fin 4) (w : ActWord)
  /-- END (R271): The END action completes the task, applies packet changes and outputs, and sets the slot DONE or DROPPED. -/
  | endTask (e : Fin 16) (t : Fin 4) (w : ActWord)
  /-- ENGINE_FAULT (R275): An engine faults mid-task and its tasks are re-dispatched once or retired as holes. -/
  | engineFault (e : Fin 16) (t : Fin 4) (code : BitVec 3)
  /-- TIMER_FIRE (R273): An action timer's delay expires and a TMR task is enqueued. -/
  | timerFire (n : BitVec 8)
  /-- ENGINE_ENABLE (R276): A write of GGEn_CTL.EN takes the engine ONLINE or DRAINING under its state table. -/
  | engineEnable (e : Fin 16) (en auto : Bool)
  /-- RELOAD (R276): GGEn_CTL.RELOAD reloads the action store of an OFFLINE engine. -/
  | reload (e : Fin 16) (en auto : Bool)
  /-- RELOAD_DONE (R276): A store reload completes or fails, taking the engine ONLINE or OFFLINE. -/
  | reloadDone (e : Fin 16) (ok : Bool)
  /-- DRAIN_DONE (R276): The last task of a DRAINING engine completes and it goes OFFLINE. -/
  | drainDone (e : Fin 16)
  /-- FULL_BOOT (R312): After a reset the boot ROM loads keys, trains DRAM, chooses a slot and takes a verified blank into use, or waits for the host. -/
  | fullBoot (env : BootEnv)
  /-- OPEN (R305): UPD_SESS_CMD.OPEN opens a staging session, or is refused. -/
  | openSession (i : Iface)
  /-- ABORT (R308): UPD_SESS_CMD.ABORT returns the session to IDLE and withdraws any armed turnover. -/
  | abortSession (i : Iface)
  /-- COMMIT (R308): UPD_SESS_CMD.COMMIT marks the staging slot PENDING and returns the session to IDLE. -/
  | commit (i : Iface)
  /-- TURNOVER (R314): UPD_SESS_CMD.TURNOVER arms a turnover at turn T, or is refused. -/
  | turnover (i : Iface)
  /-- BLOCK_WRITE (R306): UPD_BLK_CMD.WRITE writes a block at the wanted offset, or gives DUP, GAP, RANGE, BUSY or a refusal. -/
  | blockWrite (i : Iface) (len : BitVec 13)
  /-- SESSION_RECLAIM (R308): A session idle for UPD_SESS_TMO seconds is reclaimed to IDLE. -/
  | sessionReclaim
  /-- SUBMIT (R311): UPD_TOKEN_CMD.SUBMIT starts the check of an owner token. -/
  | submit
  /-- TOKEN_CHECK_DONE (R311): The token check completes, setting or clearing locks or reporting the failing check. -/
  | tokenCheckDone
  /-- CONFIRM (R321): UPD_CMD.CONFIRM makes the TRIAL slot CONFIRMED and raises the version floor. -/
  | confirm
  /-- REVERT (R322): UPD_CMD.REVERT falls back to the CONFIRMED blank. -/
  | revert
  /-- CONFIRM_EXPIRY (R322): The confirmation window runs out and the device falls back with RESULT EXPIRED. -/
  | confirmExpiry
  /-- HANDOVER_START (R315): At the handover start the turnover is cancelled or its steps run: drain, spill, seal and self-refresh. -/
  | handoverStart
  /-- TURNOVER_CORE_RESET (R315): At turn start T the pairs enter the coast program and the core die resets into the boot ROM. -/
  | turnoverCoreReset (e0 e1 e2 : Ecc)
  /-- TURNOVER_BOOT (R317): The boot ROM restores a sealed handover, loads the chosen blank and names the end of coasting. -/
  | turnoverBoot (damage : Option (List Byte)) (env : BootEnv) (d0 d1 : Delays)
  /-- CIPHER_FRAME (R324): A lane takes a frame, fetches its key and encrypts or decrypts and checks it. -/
  | cipherFrame (src : CipSrc) (micOk : Bool) (mismatches : BitVec 2) (held urgentHeld : BitVec 4)
  /-- INSTALL (R332): KEY_CMD.INSTALL installs KEY_DATA into a slot, or is refused. -/
  | install (cmd : BitVec 4)
  /-- ERASE (R333): KEY_CMD.ERASE empties the selected slot. -/
  | erase (cmd : BitVec 4)
  /-- INFO (R334): KEY_CMD.INFO copies the slot's record into the KEY_INFO registers. -/
  | info (cmd : BitVec 4)
  /-- WIPE (R333): KEY_CMD.WIPE empties every volatile slot at once. -/
  | wipe (cmd : BitVec 4)
  /-- KEY_COMMAND_DONE (R332): A key command completes, the slot takes its new state and KEY_DATA is cleared. -/
  | keyCommandDone (backingOk : Bool)
  /-- TRAINING_STEP (R346): DMC_TRN_CMD.GO runs a training step on the named channels in TRAINING. -/
  | trainingStep (step : BitVec 3) (ch : BitVec 2) (found : TrainFound)
  /-- MR_READ (R346): DMC_MR_CMD.READ reads a DRAM mode register into DMC_MR_DATA. -/
  | mrRead (mr : BitVec 8) (ch : BitVec 2) (rank : Bool) (d0 d1 : BitVec 8)
  /-- MR_WRITE (R346): DMC_MR_CMD.WRITE writes a DRAM mode register in TRAINING. -/
  | mrWrite (mr op : BitVec 8) (ch : BitVec 2) (rank : Bool)
  /-- PATTERN_WRITE (R347): DMC_PAT_CMD.WRITE writes a pattern over a range, or is refused. -/
  | patternWrite
  /-- PATTERN_COMPARE (R347): DMC_PAT_CMD.COMPARE compares memory against a pattern and records failing lines. -/
  | patternCompare
  /-- PATTERN_ABORT (R347): DMC_PAT_CMD.ABORT stops the pattern helper. -/
  | patternAbort (faults : List (BitVec 27 × BitVec 16)) (n : BitVec 27)
  /-- PATTERN_DONE (R347): A pattern run completes and sets MISMATCH when a compare failed. -/
  | patternDone (faults : List (BitVec 27 × BitVec 16)) (n : BitVec 27)
  /-- REFRESH_DUE (R341): A refresh falls due and is issued, postponed under panic, or forced. -/
  | refreshDue (ch : Fin 2)
  /-- MR4_POLL (R341): Every 16 ms the controller reads MR4 and scales the refresh interval. -/
  | mr4Poll (f0 f1 : BitVec 3)
  /-- TRACKING_RUN (R342): Every 100 ms the controller re-centres a channel's delays. -/
  | trackingRun (ch : Fin 2) (d : Delays)
  /-- PANIC_ENTRY (R340): A real-time client's FIFO falls below threshold and panic raises the real-time port. -/
  | panicEntry (client : Fin 3)
  /-- PANIC_END (R340): Panic ends and postponed refreshes and tracking runs are issued. -/
  | panicEnd (client : Fin 3) (lat : BitVec 16) (d0 d1 : Delays)
  /-- TARGET_SLEEP (R358): PWR_CMD with TARGET SLEEP requests entry to SLEEP. -/
  | targetSleep (wakeLow : Bool)
  /-- TARGET_DEEP (R358): PWR_CMD with TARGET DEEP requests entry to DEEP, or is refused. -/
  | targetDeep (wakeLow : Bool)
  /-- TARGET_OFF (R358): PWR_CMD with TARGET OFF requests entry to OFF. -/
  | targetOff (wakeLow : Bool)
  /-- TARGET_RUN (R355): PWR_CMD with TARGET RUN is a HOST wake from SLEEP. -/
  | targetRun
  /-- AUTO_IDLE_ENTRY (R352): The device stays quiet for PWR_IDLE_HOLD µs and enters IDLE. -/
  | autoIdleEntry
  /-- IDLE_EXIT (R352): A packet, task or host access to an engine block takes the device out of IDLE. -/
  | idleExit
  /-- ENTRY_COMPLETE (R354): An entry to SLEEP, DEEP or OFF completes its steps and the device rests in the target. -/
  | entryComplete (wakeLow : Bool)
  /-- WAKE_N (R355): WAKE_N low for 50 µs wakes the device from SLEEP, DEEP or OFF. -/
  | wakeN
  /-- TIMED_WAKE (R355): The spindle reaches PWR_WAKE_TICK and ends SLEEP. -/
  | timedWake
  /-- DEEP_EXIT (R357): Rails come up, DRAM is trained, the confirmed blank is loaded and the spindle restored. -/
  | deepExit (env : BootEnv)
  /-- POWER_ON_RESET (R361): VDD_AON rising good resets every die and loses volatile keys and DRAM. -/
  | powerOnReset (role bootif : BitVec 2)
  /-- PIN_RESET (R362): RESET_N low for 1 µs or more holds a pin reset until its rising edge samples the straps. -/
  | pinReset (role bootif : BitVec 2)
  /-- RESET_N_GLITCH (R362): A RESET_N low shorter than 1 µs cuts transmissions and releases outputs but resets nothing. -/
  | resetNGlitch (e0 e1 e2 : Ecc)
  /-- HOST_RESET (R361): PWR_RST_CMD.DEVICE with KEY 0x5A makes a host reset. -/
  | hostReset (key : BitVec 8)
  /-- RAIL_FAILURE (R349): A rail fails to come good or leaves its limits, so both enables drop and a rail-failure reset follows. -/
  | railFailure
  /-- RAIL_RETRY (R363): 100 ms after a rail failure the sequencer tries power-up once more. -/
  | railRetry
  /-- RTC_EDGE (R369): A crystal edge advances the prescaler and raw count and carries seconds into the calendar. -/
  | rtcEdge
  /-- OSC_STOP (R367): No crystal edge for 8 periods sets OSF and OSC_FAIL. -/
  | oscStop
  /-- VBAT_SWITCH (R365): VDD_AON leaves its good range and the backup domain switches to VBAT. -/
  | vbatSwitch
  /-- AON_QUALIFIED (R365): VDD_AON holds good for 2 ms and the domain switches to it, or takes the first-power-up state after a dip. -/
  | aonQualified
  /-- DIP_LATCH (R366): The domain supply falls below 1.45 V for 50 ns and the dip is latched. -/
  | dipLatch
  /-- VBAT_COMPARE (R368): Once per second VBAT is compared with 2.0 V and VBAT_LOW updated. -/
  | vbatCompare (low : Bool)
  /-- RTC_SEC_READ (R371): A read of RTC_SEC starts a freeze of the calendar shadows. -/
  | rtcSecRead
  /-- RTC_YEAR_READ (R371): A read of RTC_YEAR returns the frozen year and ends the freeze. -/
  | rtcYearRead
  /-- FREEZE_TIMEOUT (R371): A freeze lasts 2 s and ends with FRZ_TMO. -/
  | freezeTimeout
  /-- CALENDAR_WRITE (R372): A write to a calendar register lands on a held copy, copying the live calendar first. -/
  | calendarWrite (i : Fin 8) (v : Word)
  /-- SET (R373): RTC_SET_CMD.SET commits the held copy at the next edge, or is refused. -/
  | set (cmd : BitVec 6)
  /-- DISCARD (R372): RTC_SET_CMD.DISCARD drops the held copy. -/
  | discard (cmd : BitVec 6)
  /-- HOLD_TIMEOUT (R372): A held copy uncommitted for 2 s is dropped with HOLD_TMO. -/
  | holdTimeout
  /-- SHIFT (R374): A write of RTC_SHIFT moves the calendar forward or withholds counts, or is refused. -/
  | shift (n : BitVec 16)
  /-- FAULT_EVENT (R381): A fault source's event is classified, recorded and reacted to under the fault policy. -/
  | faultEvent
  /-- FAULT_WINDOW_EXPIRY (R381): A source's WIN ends without reaching N and its count returns to 0. -/
  | faultWindowExpiry (src : BitVec 8)
  /-- QUIET_EXPIRY (R381): QUIET ms pass without an event and the source returns to CLEAR, undoing isolation. -/
  | quietExpiry (src : BitVec 8)
  /-- CLEAR (R381): FLT_SRC_CMD.CLEAR returns the selected source to CLEAR. -/
  | clear
  /-- RING_RD_WRITE (R389): A write of FLT_RING.RD consumes records, or is ignored when it would grow the ring. -/
  | ringRdWrite (rd : BitVec 7)
  /-- PULSE (R386): FLT_ERRN_CTL.PULSE gives one ERR_N pulse. -/
  | pulse (force mask : Bool)
  /-- ERRN_PULSE_END (R386): An ERR_N pulse ends after 10 to 12 µs. -/
  | errnPulseEnd (ns : BitVec 11)
  /-- ITT_STEP_START (R391): A test step starts in an IDLE window when it fits and the budget allows. -/
  | ittStepStart (r : Fin 3)
  /-- ITT_STEP_DONE (R392): A test step completes and raises its test's source on failure. -/
  | ittStepDone (fail : Bool) (ticks : BitVec 10)
  /-- ITT_ROUND_START (R393): A new round of the idle-time test starts. -/
  | ittRoundStart
  /-- STARVED (R393): A round is not complete within ITT_ROUND_MAX turns and STARVED is raised. -/
  | starved
  /-- RTC_FREQ_DONE (R392): The RTC frequency measurement over 2^30 reference cycles completes and is checked against its limit. -/
  | rtcFreqDone (edges : BitVec 24)
  /-- HOST_RX_DELIVERY (R401): An output is written to a host receive ring once enough descriptors are held. -/
  | hostRxDelivery (q : Fin 32) (addrs : List (BitVec 64))
  /-- RX_HOLD_TIMEOUT (R402): A held output finds no descriptors within HIF_Qq_HOLD µs and is dropped. -/
  | rxHoldTimeout (q : Fin 32)
  /-- RX_TAIL_WRITE (R398): A write of HIF_Qq_RX_TAIL posts descriptors to the device. -/
  | rxTailWrite (q : Fin 32) (v : BitVec 15)
  /-- TX_TAIL_WRITE (R398): A write of HIF_Qq_TX_TAIL posts transmit descriptors to the device. -/
  | txTailWrite (q : Fin 32) (v : BitVec 15)
  /-- QUEUE_CFG_WRITE (R398): A write of HIF_Qq_CFG enables or disables rings, returning device-held descriptors on disable. -/
  | queueCfgWrite (q : Fin 32) (v : Word)
  /-- TX_RING_READ (R403): The device reads one frame from a transmit ring into the parser and writes back its descriptors. -/
  | txRingRead (descs : List TxDesc)
  /-- IRQ_MODERATION_EXPIRY (R406): USEC µs pass after the first completion and the queue's vector is raised. -/
  | irqModerationExpiry (q : Fin 32) (tx : Bool)
  /-- DMA_ERROR (R407): A host-memory read fails or times out, completing the frame with ERR or disabling the ring. -/
  | dmaError (q : Fin 32) (what : DmaRead)
  /-- PCIE_LINK_LOSS (R407): PCIe link loss disables every ring and drops waiting outputs. -/
  | pcieLinkLoss
  /-- FLR (R407): A Function Level Reset resets configuration space and HIF registers and disables every ring. -/
  | flr
  /-- HEARTBEAT_WRITE (R408): A write of HIF_HB restarts the heartbeat timer and clears HOST_LOST. -/
  | heartbeatWrite
  /-- HEARTBEAT_TIMEOUT (R408): TMO ms pass without a heartbeat, so HOST_LOST is set and every queue pair acts as HOLD 0. -/
  | heartbeatTimeout
  /-- HSP_READ (R410): A Host Serial Port READ frame reads COUNT words after its CRC checks. -/
  | hspRead (op : BitVec 8) (count : BitVec 8) (ofs : Word) (crcOk : Bool) (cut : HspCut)
  /-- HSP_WRITE (R411): A Host Serial Port WRITE frame writes its held data after its CRC checks. -/
  | hspWrite (op : BitVec 8) (ofs : Word) (data : List Word) (crcOk cut : Bool)
  /-- PCIE_LINK_UP (R394): The PCIe link trains and comes up, setting HIF_STAT.LINK, GEN and X2. -/
  | pcieLinkUp (gen : BitVec 3) (x2 : Bool)
  /-- PARTNER_LPI_CHANGE (R240): The link partner starts or stops signalling low-power idle, which updates ETHn_STAT.LPI_RX and changes nothing else. -/
  | partnerLpiChange (p : Fin 2) (on : Bool)
  /-- CLASSIFY_DONE (R219): A packet's classification, including an exact lookup in DRAM, completes in arrival order and either takes its PROG 0 disposition (slot DONE or DROPPED) or queues its task. -/
  | classifyDone
  /-- EXIT_COMPLETE (R353): An exit from SLEEP or IDLE completes, PWR_STAT.STATE reads RUN, and any pending request is carried out or refused. -/
  | exitComplete (wakeLow : Bool) (d0 d1 : Delays)
  /-- IMG_ACK_RX (R309): The manager receives a worker's IMG acknowledgement, including the repeated OFFSET = TOTAL, LAST acknowledgement that reports the session ready. -/
  | imgAckRx (h : Afette) (session offset total : BitVec 32) (last : Bool)
  /-- BLOCK_WRITE_DONE (R306): The write of a staged block into the Thallus slot completes and UPD_STAT.BUSY clears. -/
  | blockWriteDone
  /-- TABLE_COMMAND_DONE (R210): A PRS table command completes, PRS_TBL_STAT.BUSY clears, and CODE, ERR and HIT are set. -/
  | tableCommandDone
  /-- PLAN_SEND_DONE (R188): The last PLAN fragment of a SEND has gone out and CLU_PLAN_STAT.BUSY clears. -/
  | planSendDone
  /-- SERVICE_PERIOD_END (R108): A station's service period or WUR on-period passes, so MISS_CNT counts a period with no frame and NEXT_SP or WUR_ON advances by its interval. -/
  | servicePeriodEnd (aid : BitVec 13)
  deriving DecidableEq, Repr

end Sys2Proof
end

