-- ==== Sys2Proof/Decode.lean ====
section
/-! DEFINITION. The command that a word spells by the opcode table's bits. The block has no decoder of a processor's kind. -/

namespace Sys2Proof

/-- No row of spec/opcode_table.json is given any bits ("fields" is empty in every row), so no word spells a command. -/
def decodeTableWord (_nbits _w : Nat) : Option Instr := none

end Sys2Proof
end

