-- ==== Sys2Proof/Config.lean ====
section
/-! DEFINITION. What one part fixes and the spec does not state: the silicon revision, the part's identity, and the
free values of the spec's open points. None has a body, so no proof can see a value. -/

namespace Sys2Proof

/-- SYS_ID bits [15:4], REV_STEP, REV_META and FRN_REV: "per silicon" in the spec's field table (log entry 3). -/
opaque Config.silicon : Word

/-- UPD_UID: the identity of the part, "per part" in the spec's register table (log entry 3). -/
opaque Config.uid : BitVec 64

/-- The device's backbone MAC address: the spec has a device own one (R170, R187) and gives it no register (log entry 3). -/
opaque Config.backboneMac : BitVec 48

/-- The free values of the points where the spec states a value exists and not which: the step applies it to a counter
of the state that it then advances (log entry 4). -/
opaque Config.freeValue : Nat → BitVec 64

/-- What a tick reads as while the spindle holds no time: R31 and R32 give it only from a wide time (log entry 4). -/
opaque Config.tickNoTime : Nat → BitVec 64

/-- The servo's term for two samples at one instant, where R430's quotient has no value (log entry 4). -/
opaque Config.servoAtZero : Int → Nat → BitVec 64

/-- ECDSA P-384 over the SHA-384 digest (R284, R311): the signature (r, then s) holds over a message under a public key. -/
opaque Config.ecdsaP384 : (key msg sig : List (BitVec 8)) → Bool

/-- The point of a public key, X then Y, lies on the curve P-384 (R334). -/
opaque Config.p384Point : (key : List (BitVec 8)) → Bool

/-- AES-128-CCM with L = 2 and M = 8 (R153): the ciphertext of a payload and its MIC, from key, nonce and authenticated data (log
entry 16). -/
opaque Config.ccm : (key : BitVec 256) → (nonce aad payload : List (BitVec 8)) → List (BitVec 8)

/-- A byte of an access of the pattern helper's pattern: R347 and DMC_PAT_CFG name the patterns (KIND 4 from a seed) and do not say
how an access is made of them (log entry 24). -/
opaque Config.patByte : (kind seed access place : Nat) → BitVec 8

/-- Accesses, with the DQ lines of their channel, at which the DRAM array itself fails in a compare that a plain register write
ends (log entry 24). -/
opaque Config.freeFaults : Nat → List (BitVec 27 × BitVec 16)

/-- A byte of the secure data of a frame protected under IEEE 802.1AE, deciphered with GCM-AES-256 from its secure association's
key (R170): the cipher's function itself is no part of the spec (log entry 17). -/
opaque Config.linkByte : (key : BitVec 256) → (frame : List (BitVec 8)) → (place : Nat) → BitVec 8

/-- The entry size of the SETTINGS table in units of 8 bytes, less one: R301 has actions read the region as a table and
states no entry size (log entry 26). -/
opaque Config.settingsEntry : BitVec 5

end Sys2Proof
end

