-- ==== Sys2Proof/Machine/RegMap.lean ====
section
/-! DEFINITION. The register maps of the spec's chapters: the address of every register, the place of every
named field, and for every register the access type of its bits and its reset value. An array of registers is
one function of its index. The rows follow the tables "Offset, Name, Access, Reset, Description" and the field
tables "Bits, Field, Access, Reset, Meaning" of each chapter; R8 to R12 say what the columns mean. -/

namespace Sys2Proof.Machine

/-- A field of a register: the register's BAR0 byte address, its lowest bit, its width. -/
structure Fld where
  addr : Nat
  lo : Nat
  w : Nat
  deriving DecidableEq, Repr

/-- One row of a register map. `dims` gives stride and count for every index of an array of registers (outermost
first); the masks say which bits are RW, W1C, WO and RC (R12); every other bit is RO or reserved (R10: a reserved
bit reads 0, which it does because nothing ever sets it). -/
structure RegRow where
  base : Nat
  dims : List (Nat × Nat)
  rw : Word
  w1c : Word
  wo : Word
  rc : Word
  reset : Word
  deriving DecidableEq, Repr

/-! ### SYS: the registers of spec/01_architecture.md -/

def SYS_ID : Nat := 0x0
def SYS_ID_PART : Fld := ⟨SYS_ID, 16, 16⟩
def SYS_ID_REV_STEP : Fld := ⟨SYS_ID, 12, 4⟩
def SYS_ID_REV_META : Fld := ⟨SYS_ID, 8, 4⟩
def SYS_ID_FRN_REV : Fld := ⟨SYS_ID, 4, 4⟩
def SYS_STRAP : Nat := 0x4
def SYS_STRAP_ROLE : Fld := ⟨SYS_STRAP, 0, 2⟩
def SYS_STRAP_BOOTIF : Fld := ⟨SYS_STRAP, 2, 2⟩
def SYS_ROLE : Nat := 0x8
def SYS_ROLE_ROLE : Fld := ⟨SYS_ROLE, 0, 2⟩
def SYS_ROLE_SRC : Fld := ⟨SYS_ROLE, 2, 1⟩
def SYS_ROLE_TAKEN : Fld := ⟨SYS_ROLE, 3, 1⟩
def SYS_DIE_STAT : Nat := 0xC
def SYS_DIE_STAT_FRN_UP : Fld := ⟨SYS_DIE_STAT, 0, 1⟩
def SYS_DIE_STAT_THL_UP : Fld := ⟨SYS_DIE_STAT, 1, 1⟩
def SYS_DIE_STAT_KEY_UP : Fld := ⟨SYS_DIE_STAT, 2, 1⟩
def SYS_DIE_STAT_FRN_ERR : Fld := ⟨SYS_DIE_STAT, 8, 1⟩
def SYS_DIE_STAT_THL_ERR : Fld := ⟨SYS_DIE_STAT, 9, 1⟩
def SYS_DIE_STAT_KEY_ERR : Fld := ⟨SYS_DIE_STAT, 10, 1⟩
def SYS_LINK_RETRY : Nat := 0x10
def SYS_LINK_RETRY_FRN : Fld := ⟨SYS_LINK_RETRY, 0, 8⟩
def SYS_LINK_RETRY_THL : Fld := ⟨SYS_LINK_RETRY, 8, 8⟩
def SYS_LINK_RETRY_KEY : Fld := ⟨SYS_LINK_RETRY, 16, 8⟩
def SYS_ADDR : Nat := 0x14
def SYS_ADDR_CID : Fld := ⟨SYS_ADDR, 0, 16⟩
def SYS_ADDR_DID : Fld := ⟨SYS_ADDR, 16, 5⟩
def SYS_MOTION : Nat := 0x20
def SYS_MOTION_STATE : Fld := ⟨SYS_MOTION, 0, 2⟩
def SYS_SUPPLY : Nat := 0x24
def SYS_SUPPLY_DECL : Fld := ⟨SYS_SUPPLY, 0, 2⟩
def SYS_SUPPLY_MEAS_LOW : Fld := ⟨SYS_SUPPLY, 2, 1⟩
def SYS_SUPPLY_LOW : Fld := ⟨SYS_SUPPLY, 3, 1⟩
def SYS_SCRATCH : Nat := 0x30

/-! ### PWR: the registers of spec/17_power_reset.md -/

def PWR_CTL : Nat := 0x10000
def PWR_CTL_AUTO_IDLE : Fld := ⟨PWR_CTL, 0, 1⟩
def PWR_CTL_RAIL_RETRY : Fld := ⟨PWR_CTL, 1, 1⟩
def PWR_STAT : Nat := 0x10004
def PWR_STAT_STATE : Fld := ⟨PWR_STAT, 0, 3⟩
def PWR_STAT_TRANS : Fld := ⟨PWR_STAT, 3, 1⟩
def PWR_STAT_TARGET : Fld := ⟨PWR_STAT, 4, 3⟩
def PWR_STAT_PEND : Fld := ⟨PWR_STAT, 7, 1⟩
def PWR_STAT_PEND_TGT : Fld := ⟨PWR_STAT, 8, 3⟩
def PWR_EVT : Nat := 0x10008
def PWR_EVT_REFUSED : Fld := ⟨PWR_EVT, 0, 1⟩
def PWR_EVT_REPLACED : Fld := ⟨PWR_EVT, 1, 1⟩
def PWR_EVT_WAKE_IN_ENTRY : Fld := ⟨PWR_EVT, 2, 1⟩
def PWR_EVT_RAIL_FAIL : Fld := ⟨PWR_EVT, 3, 1⟩
def PWR_CMD : Nat := 0x1000C
def PWR_CMD_TARGET : Fld := ⟨PWR_CMD, 0, 3⟩
def PWR_CMD_GO : Fld := ⟨PWR_CMD, 8, 1⟩
def PWR_RESULT : Nat := 0x10010
def PWR_RESULT_CODE : Fld := ⟨PWR_RESULT, 0, 3⟩
def PWR_IDLE_HOLD : Nat := 0x10014
def PWR_WAKE_CFG : Nat := 0x10018
def PWR_WAKE_CFG_HOST : Fld := ⟨PWR_WAKE_CFG, 0, 1⟩
def PWR_WAKE_CFG_TIMED : Fld := ⟨PWR_WAKE_CFG, 1, 1⟩
def PWR_WAKE_CFG_ETH_LINK : Fld := ⟨PWR_WAKE_CFG, 2, 1⟩
def PWR_WAKE_TICK_LO : Nat := 0x1001C
def PWR_WAKE_TICK_HI : Nat := 0x10020
def PWR_WAKE_TICK_HI_TURN : Fld := ⟨PWR_WAKE_TICK_HI, 0, 8⟩
def PWR_WAKE_TICK_HI_ANGLE : Fld := ⟨PWR_WAKE_TICK_HI, 8, 24⟩
def PWR_LAST : Nat := 0x10024
def PWR_LAST_BOOT : Fld := ⟨PWR_LAST, 0, 4⟩
def PWR_LAST_WAKE : Fld := ⟨PWR_LAST, 4, 4⟩
def PWR_RST_CMD : Nat := 0x10028
def PWR_RST_CMD_DEVICE : Fld := ⟨PWR_RST_CMD, 0, 1⟩
def PWR_RST_CMD_KEY : Fld := ⟨PWR_RST_CMD, 8, 8⟩
def PWR_RAIL : Nat := 0x1002C
def PWR_RAIL_CORE : Fld := ⟨PWR_RAIL, 0, 1⟩
def PWR_RAIL_RF : Fld := ⟨PWR_RAIL, 1, 1⟩
def PWR_RAIL_RFH : Fld := ⟨PWR_RAIL, 2, 1⟩
def PWR_RAIL_VDDQ : Fld := ⟨PWR_RAIL, 3, 1⟩
def PWR_RAIL_VDD2 : Fld := ⟨PWR_RAIL, 4, 1⟩
def PWR_RAIL_AON : Fld := ⟨PWR_RAIL, 5, 1⟩
def PWR_CNT_SLEEP : Nat := 0x10100
def PWR_CNT_DEEP : Nat := 0x10104
def PWR_CNT_REFUSED : Nat := 0x10108
def PWR_CNT_RAIL_FAIL : Nat := 0x1010C

/-! ### FLT: the registers of spec/19_faults_test.md -/

def FLT_CTL : Nat := 0x20000
def FLT_CTL_EN : Fld := ⟨FLT_CTL, 0, 1⟩
def FLT_FLAG : Nat := 0x20004
def FLT_FLAG_OVERFLOW : Fld := ⟨FLT_FLAG, 0, 1⟩
def FLT_FLAG_SECOND : Fld := ⟨FLT_FLAG, 1, 1⟩
def FLT_FLAG_RST_SUPPRESSED : Fld := ⟨FLT_FLAG, 2, 1⟩
def FLT_RING : Nat := 0x20008
def FLT_RING_WR : Fld := ⟨FLT_RING, 0, 7⟩
def FLT_RING_RD : Fld := ⟨FLT_RING, 8, 7⟩
def FLT_RST_GUARD : Nat := 0x2000C
def FLT_PEND (k : Nat) : Nat := 0x20010 + 0x4 * k
def FLT_MASK (k : Nat) : Nat := 0x20030 + 0x4 * k
def FLT_SRC_SEL : Nat := 0x20050
def FLT_SRC_STAT : Nat := 0x20054
def FLT_SRC_STAT_STATE : Fld := ⟨FLT_SRC_STAT, 0, 2⟩
def FLT_SRC_STAT_COUNT : Fld := ⟨FLT_SRC_STAT, 8, 8⟩
def FLT_SRC_STAT_RECOVERED : Fld := ⟨FLT_SRC_STAT, 16, 16⟩
def FLT_SRC_POL : Nat := 0x20058
def FLT_SRC_POL_N : Fld := ⟨FLT_SRC_POL, 0, 8⟩
def FLT_SRC_POL_MINOR : Fld := ⟨FLT_SRC_POL, 8, 8⟩
def FLT_SRC_POL_MAJOR : Fld := ⟨FLT_SRC_POL, 16, 8⟩
def FLT_SRC_POL_TCLASS : Fld := ⟨FLT_SRC_POL, 24, 5⟩
def FLT_SRC_CMD : Nat := 0x2005C
def FLT_SRC_CMD_CLEAR : Fld := ⟨FLT_SRC_CMD, 0, 1⟩
def FLT_ERRN_CTL : Nat := 0x20060
def FLT_ERRN_CTL_PULSE : Fld := ⟨FLT_ERRN_CTL, 0, 1⟩
def FLT_ERRN_CTL_FORCE : Fld := ⟨FLT_ERRN_CTL, 1, 1⟩
def FLT_ERRN_CTL_MASK : Fld := ⟨FLT_ERRN_CTL, 2, 1⟩
def FLT_CNT_EVENTS : Nat := 0x20100
def FLT_CNT_RECOVER : Nat := 0x20104
def FLT_CNT_MERGED : Nat := 0x20108
def FLT_CNT_OVERFLOW : Nat := 0x2010C
def FLT_CNT_SECOND : Nat := 0x20110

/-! ### ITT: the registers of spec/19_faults_test.md -/

def ITT_CTL : Nat := 0x30000
def ITT_CTL_EN : Fld := ⟨ITT_CTL, 0, 1⟩
def ITT_STAT : Nat := 0x30004
def ITT_STAT_TEST : Fld := ⟨ITT_STAT, 0, 3⟩
def ITT_STAT_RUNNING : Fld := ⟨ITT_STAT, 3, 1⟩
def ITT_STAT_ROUNDS : Fld := ⟨ITT_STAT, 16, 16⟩
def ITT_EVT : Nat := 0x30008
def ITT_EVT_FAIL : Fld := ⟨ITT_EVT, 0, 7⟩
def ITT_EVT_STARVED : Fld := ⟨ITT_EVT, 7, 1⟩
def ITT_CFG : Nat := 0x3000C
def ITT_BUDGET : Nat := 0x30010
def ITT_PERIOD : Nat := 0x30014
def ITT_ROUND_MAX : Nat := 0x30018
def ITT_POS : Nat := 0x3001C
def ITT_POS_TEST : Fld := ⟨ITT_POS, 0, 3⟩
def ITT_POS_BLK : Fld := ⟨ITT_POS, 8, 11⟩
def ITT_USED : Nat := 0x30020
def ITT_RTC_PPB : Nat := 0x30024
def ITT_RTC_LIM : Nat := 0x30028
def ITT_CNT_STEP : Nat := 0x30100
def ITT_CNT_WAIT : Nat := 0x30104
def ITT_CNT_FAIL : Nat := 0x30108

/-! ### SPN: the registers of spec/02_spindle_time.md -/

def SPN_CTL : Nat := 0x40000
def SPN_CTL_EN : Fld := ⟨SPN_CTL, 0, 1⟩
def SPN_CTL_MODE : Fld := ⟨SPN_CTL, 1, 1⟩
def SPN_CTL_SWITCH : Fld := ⟨SPN_CTL, 2, 1⟩
def SPN_STAT : Nat := 0x40004
def SPN_STAT_STATE : Fld := ⟨SPN_STAT, 0, 3⟩
def SPN_STAT_ACTIVE : Fld := ⟨SPN_STAT, 3, 1⟩
def SPN_STAT_EST : Fld := ⟨SPN_STAT, 4, 1⟩
def SPN_STAT_HELD : Fld := ⟨SPN_STAT, 5, 1⟩
def SPN_STAT_SUSP_A : Fld := ⟨SPN_STAT, 6, 1⟩
def SPN_STAT_SUSP_B : Fld := ⟨SPN_STAT, 7, 1⟩
def SPN_STAT_STEP_PEND : Fld := ⟨SPN_STAT, 8, 1⟩
def SPN_EVT : Nat := 0x40008
def SPN_EVT_LOCKED : Fld := ⟨SPN_EVT, 0, 1⟩
def SPN_EVT_HOLDOVER : Fld := ⟨SPN_EVT, 1, 1⟩
def SPN_EVT_FREE : Fld := ⟨SPN_EVT, 2, 1⟩
def SPN_EVT_REFUSED : Fld := ⟨SPN_EVT, 3, 1⟩
def SPN_EVT_STEPPED : Fld := ⟨SPN_EVT, 4, 1⟩
def SPN_EVT_SWITCHED : Fld := ⟨SPN_EVT, 5, 1⟩
def SPN_EVT_SW_REFUSED : Fld := ⟨SPN_EVT, 6, 1⟩
def SPN_EVT_PPS_UNLAB : Fld := ⟨SPN_EVT, 7, 1⟩
def SPN_EVT_PPS_GLITCH : Fld := ⟨SPN_EVT, 8, 1⟩
def SPN_EVT_EPOCH_IGN : Fld := ⟨SPN_EVT, 9, 1⟩
def SPN_EVT_STAMP_BAD : Fld := ⟨SPN_EVT, 10, 1⟩
def SPN_EPOCH_NS : Nat := 0x40010
def SPN_EPOCH_SEC_LO : Nat := 0x40014
def SPN_EPOCH_SEC_HI : Nat := 0x40018
def SPN_NOW_NS : Nat := 0x40030
def SPN_NOW_SEC_LO : Nat := 0x40034
def SPN_NOW_SEC_HI : Nat := 0x40038
def SPN_NOW_TURN_LO : Nat := 0x4003C
def SPN_NOW_TURN_HI : Nat := 0x40040
def SPN_NOW_ANGLE : Nat := 0x40044
def SPN_TL_NS : Nat := 0x40050
def SPN_TL_SEC_LO : Nat := 0x40054
def SPN_TL_SEC_HI : Nat := 0x40058
def SPN_TL_TURN_LO : Nat := 0x4005C
def SPN_TL_TURN_HI : Nat := 0x40060
def SPN_TL_NARROW : Nat := 0x40064
def SPN_SRC : Nat := 0x40070
def SPN_SRC_SRC_A : Fld := ⟨SPN_SRC, 0, 3⟩
def SPN_SRC_SRC_B : Fld := ⟨SPN_SRC, 4, 3⟩
def SPN_SRC_DOM_A : Fld := ⟨SPN_SRC, 8, 8⟩
def SPN_SRC_DOM_B : Fld := ⟨SPN_SRC, 16, 8⟩
def SPN_JUMP_THR : Nat := 0x40074
def SPN_LOCK_CFG : Nat := 0x40078
def SPN_LOCK_CFG_LOCK_THR : Fld := ⟨SPN_LOCK_CFG, 0, 12⟩
def SPN_LOCK_CFG_LOCK_CNT : Fld := ⟨SPN_LOCK_CFG, 16, 5⟩
def SPN_LOCK_CFG_LOSS_TMO : Fld := ⟨SPN_LOCK_CFG, 24, 4⟩
def SPN_SERVO : Nat := 0x4007C
def SPN_SERVO_SLEW_MAX : Fld := ⟨SPN_SERVO, 0, 7⟩
def SPN_HOLD_LIMIT : Nat := 0x40080
def SPN_HOLD_PPB : Nat := 0x40084
def SPN_HOLD_PPB_PPB : Fld := ⟨SPN_HOLD_PPB, 0, 16⟩
def SPN_SWITCH_THR : Nat := 0x40088
def SPN_OFS_A : Nat := 0x40090
def SPN_OFS_B : Nat := 0x40094
def SPN_FREQ : Nat := 0x40098
def SPN_PPS_LABEL_LO : Nat := 0x400A0
def SPN_PPS_LABEL_HI : Nat := 0x400A4
def SPN_PPS_CFG : Nat := 0x400A8
def SPN_PPS_CFG_EDGE : Fld := ⟨SPN_PPS_CFG, 0, 1⟩
def SPN_PPS_CFG_LBL_VALID : Fld := ⟨SPN_PPS_CFG, 1, 1⟩
def SPN_PTM_MAP_LO : Nat := 0x400B0
def SPN_PTM_MAP_HI : Nat := 0x400B4
def SPN_PTM_CFG : Nat := 0x400B8
def SPN_PTM_CFG_INTERVAL : Fld := ⟨SPN_PTM_CFG, 0, 8⟩
def SPN_STEP_CMD : Nat := 0x400C0
def SPN_STEP_CMD_ACCEPT : Fld := ⟨SPN_STEP_CMD, 0, 1⟩
def SPN_STEP_CMD_LOAD : Fld := ⟨SPN_STEP_CMD, 1, 1⟩
def SPN_STEP_PEND : Nat := 0x400C4
def SPN_STEP_TURN_LO : Nat := 0x400C8
def SPN_STEP_TURN_HI : Nat := 0x400CC
def SPN_EST_PPM : Nat := 0x400D0
def SPN_EST_PPM_PPM : Fld := ⟨SPN_EST_PPM, 0, 8⟩
def SPN_EST_ERR : Nat := 0x400D4
def SPN_WAKE_DIFF : Nat := 0x400D8
def SPN_CNT_REFUSED : Nat := 0x400E0
def SPN_CNT_STEP : Nat := 0x400E4
def SPN_CNT_STAMP_BAD : Nat := 0x400E8
def SPN_TTO_CTL (n : Nat) : Nat := 0x40100 + 0x20 * n
def SPN_TTO_CTL_EN (n : Nat) : Fld := ⟨SPN_TTO_CTL n, 0, 1⟩
def SPN_TTO_CTL_POL (n : Nat) : Fld := ⟨SPN_TTO_CTL n, 1, 1⟩
def SPN_TTO_CTL_GATE (n : Nat) : Fld := ⟨SPN_TTO_CTL n, 2, 1⟩
def SPN_TTO_START_NS (n : Nat) : Nat := 0x40104 + 0x20 * n
def SPN_TTO_START_SEC_LO (n : Nat) : Nat := 0x40108 + 0x20 * n
def SPN_TTO_START_SEC_HI (n : Nat) : Nat := 0x4010C + 0x20 * n
def SPN_TTO_PERIOD (n : Nat) : Nat := 0x40110 + 0x20 * n
def SPN_TTO_WIDTH (n : Nat) : Nat := 0x40114 + 0x20 * n
def SPN_TTO_MISSED (n : Nat) : Nat := 0x40118 + 0x20 * n

/-! ### RTC: the registers of spec/18_rtc.md -/

def RTC_STAT : Nat := 0x50000
def RTC_STAT_MODE : Fld := ⟨RTC_STAT, 0, 1⟩
def RTC_STAT_FROZEN : Fld := ⟨RTC_STAT, 1, 1⟩
def RTC_STAT_HELD : Fld := ⟨RTC_STAT, 2, 1⟩
def RTC_STAT_SHIFT_BUSY : Fld := ⟨RTC_STAT, 3, 1⟩
def RTC_STAT_SRC : Fld := ⟨RTC_STAT, 4, 1⟩
def RTC_STAT_VBAT_LOW : Fld := ⟨RTC_STAT, 5, 1⟩
def RTC_STAT_OSC_RUN : Fld := ⟨RTC_STAT, 6, 1⟩
def RTC_FLAG : Nat := 0x50004
def RTC_FLAG_OSF : Fld := ⟨RTC_FLAG, 0, 1⟩
def RTC_FLAG_DIP : Fld := ⟨RTC_FLAG, 1, 1⟩
def RTC_EVT : Nat := 0x50008
def RTC_EVT_FRZ_TMO : Fld := ⟨RTC_EVT, 0, 1⟩
def RTC_EVT_HOLD_TMO : Fld := ⟨RTC_EVT, 1, 1⟩
def RTC_EVT_SET_REF : Fld := ⟨RTC_EVT, 2, 1⟩
def RTC_EVT_SHIFT_REF : Fld := ⟨RTC_EVT, 3, 1⟩
def RTC_EVT_VBAT_LOW : Fld := ⟨RTC_EVT, 4, 1⟩
def RTC_EVT_OSC_FAIL : Fld := ⟨RTC_EVT, 5, 1⟩
def RTC_SEC : Nat := 0x50010
def RTC_SEC_UNITS : Fld := ⟨RTC_SEC, 0, 4⟩
def RTC_SEC_TENS : Fld := ⟨RTC_SEC, 4, 3⟩
def RTC_MIN : Nat := 0x50014
def RTC_MIN_UNITS : Fld := ⟨RTC_MIN, 0, 4⟩
def RTC_MIN_TENS : Fld := ⟨RTC_MIN, 4, 3⟩
def RTC_HOUR : Nat := 0x50018
def RTC_HOUR_UNITS : Fld := ⟨RTC_HOUR, 0, 4⟩
def RTC_HOUR_TENS : Fld := ⟨RTC_HOUR, 4, 2⟩
def RTC_WDAY : Nat := 0x5001C
def RTC_WDAY_WDAY : Fld := ⟨RTC_WDAY, 0, 3⟩
def RTC_DATE : Nat := 0x50020
def RTC_DATE_UNITS : Fld := ⟨RTC_DATE, 0, 4⟩
def RTC_DATE_TENS : Fld := ⟨RTC_DATE, 4, 2⟩
def RTC_MONTH : Nat := 0x50024
def RTC_MONTH_UNITS : Fld := ⟨RTC_MONTH, 0, 4⟩
def RTC_MONTH_TENS : Fld := ⟨RTC_MONTH, 4, 1⟩
def RTC_CENTURY : Nat := 0x50028
def RTC_CENTURY_UNITS : Fld := ⟨RTC_CENTURY, 0, 4⟩
def RTC_CENTURY_TENS : Fld := ⟨RTC_CENTURY, 4, 4⟩
def RTC_YEAR : Nat := 0x5002C
def RTC_YEAR_UNITS : Fld := ⟨RTC_YEAR, 0, 4⟩
def RTC_YEAR_TENS : Fld := ⟨RTC_YEAR, 4, 4⟩
def RTC_SUBSEC : Nat := 0x50030
def RTC_SET_CMD : Nat := 0x50034
def RTC_SET_CMD_SET : Fld := ⟨RTC_SET_CMD, 0, 1⟩
def RTC_SET_CMD_DISCARD : Fld := ⟨RTC_SET_CMD, 1, 1⟩
def RTC_SET_CMD_MODE : Fld := ⟨RTC_SET_CMD, 4, 1⟩
def RTC_SET_CMD_MODE_WR : Fld := ⟨RTC_SET_CMD, 5, 1⟩
def RTC_SHIFT : Nat := 0x50038
def RTC_RAW_LO : Nat := 0x50040
def RTC_RAW_HI : Nat := 0x50044

/-! ### HIF: the registers of spec/20_host_interface.md -/

def HIF_STAT : Nat := 0x60000
def HIF_STAT_PHASE : Fld := ⟨HIF_STAT, 0, 2⟩
def HIF_STAT_LINK : Fld := ⟨HIF_STAT, 2, 1⟩
def HIF_STAT_HOST_LOST : Fld := ⟨HIF_STAT, 3, 1⟩
def HIF_STAT_GEN : Fld := ⟨HIF_STAT, 4, 3⟩
def HIF_STAT_X2 : Fld := ⟨HIF_STAT, 7, 1⟩
def HIF_STAT_PTM : Fld := ⟨HIF_STAT, 8, 2⟩
def HIF_EVT : Nat := 0x60004
def HIF_EVT_RX_NODESC : Fld := ⟨HIF_EVT, 0, 1⟩
def HIF_EVT_RX_HOLD_TMO : Fld := ⟨HIF_EVT, 1, 1⟩
def HIF_EVT_TX_BAD : Fld := ⟨HIF_EVT, 2, 1⟩
def HIF_EVT_DMA_ERR : Fld := ⟨HIF_EVT, 3, 1⟩
def HIF_EVT_HB_LOST : Fld := ⟨HIF_EVT, 4, 1⟩
def HIF_EVT_HSP_CRC : Fld := ⟨HIF_EVT, 5, 1⟩
def HIF_EVT_LINK_DOWN : Fld := ⟨HIF_EVT, 6, 1⟩
def HIF_EVT_FLR : Fld := ⟨HIF_EVT, 7, 1⟩
def HIF_HB : Nat := 0x60008
def HIF_HB_CFG : Nat := 0x6000C
def HIF_HB_CFG_TMO : Fld := ⟨HIF_HB_CFG, 0, 16⟩
def HIF_VEC : Nat := 0x60010
def HIF_VEC_FLT : Fld := ⟨HIF_VEC, 0, 6⟩
def HIF_VEC_STS : Fld := ⟨HIF_VEC, 8, 6⟩
def HIF_DMA_TMO : Nat := 0x60014
def HIF_STS_BASE_LO : Nat := 0x60020
def HIF_STS_BASE_HI : Nat := 0x60024
def HIF_STS_CFG : Nat := 0x60028
def HIF_STS_CFG_LOG2 : Fld := ⟨HIF_STS_CFG, 0, 4⟩
def HIF_STS_CFG_EN : Fld := ⟨HIF_STS_CFG, 4, 1⟩
def HIF_STS_HEAD : Nat := 0x6002C
def HIF_STS_TAIL : Nat := 0x60030
def HIF_CNT_RX_NODESC : Nat := 0x60100
def HIF_CNT_RX_HOLD_TMO : Nat := 0x60104
def HIF_CNT_TX_BAD : Nat := 0x60108
def HIF_CNT_DMA_ERR : Nat := 0x6010C
def HIF_CNT_HSP_ERR : Nat := 0x60110
def HIF_CNT_ACCESS : Nat := 0x60114
def HIF_CNT_STS_DROP : Nat := 0x60118
def HIF_Q_CFG (q : Nat) : Nat := 0x61000 + 0x40 * q
def HIF_Q_CFG_RX_EN (q : Nat) : Fld := ⟨HIF_Q_CFG q, 0, 1⟩
def HIF_Q_CFG_TX_EN (q : Nat) : Fld := ⟨HIF_Q_CFG q, 1, 1⟩
def HIF_Q_CFG_HOLD (q : Nat) : Fld := ⟨HIF_Q_CFG q, 2, 1⟩
def HIF_Q_CFG_RX_LOG2 (q : Nat) : Fld := ⟨HIF_Q_CFG q, 4, 4⟩
def HIF_Q_CFG_TX_LOG2 (q : Nat) : Fld := ⟨HIF_Q_CFG q, 8, 4⟩
def HIF_Q_CFG_BUFSZ (q : Nat) : Fld := ⟨HIF_Q_CFG q, 12, 7⟩
def HIF_Q_CFG_RX_VEC (q : Nat) : Fld := ⟨HIF_Q_CFG q, 20, 6⟩
def HIF_Q_CFG_TX_VEC (q : Nat) : Fld := ⟨HIF_Q_CFG q, 26, 6⟩
def HIF_Q_HOLD (q : Nat) : Nat := 0x61004 + 0x40 * q
def HIF_Q_RX_BASE_LO (q : Nat) : Nat := 0x61008 + 0x40 * q
def HIF_Q_RX_BASE_HI (q : Nat) : Nat := 0x6100C + 0x40 * q
def HIF_Q_RX_TAIL (q : Nat) : Nat := 0x61010 + 0x40 * q
def HIF_Q_RX_HEAD (q : Nat) : Nat := 0x61014 + 0x40 * q
def HIF_Q_TX_BASE_LO (q : Nat) : Nat := 0x61018 + 0x40 * q
def HIF_Q_TX_BASE_HI (q : Nat) : Nat := 0x6101C + 0x40 * q
def HIF_Q_TX_TAIL (q : Nat) : Nat := 0x61020 + 0x40 * q
def HIF_Q_TX_HEAD (q : Nat) : Nat := 0x61024 + 0x40 * q
def HIF_Q_IRQ_RX (q : Nat) : Nat := 0x61028 + 0x40 * q
def HIF_Q_IRQ_RX_PKTS (q : Nat) : Fld := ⟨HIF_Q_IRQ_RX q, 0, 16⟩
def HIF_Q_IRQ_RX_USEC (q : Nat) : Fld := ⟨HIF_Q_IRQ_RX q, 16, 16⟩
def HIF_Q_IRQ_TX (q : Nat) : Nat := 0x6102C + 0x40 * q
def HIF_Q_IRQ_TX_PKTS (q : Nat) : Fld := ⟨HIF_Q_IRQ_TX q, 0, 16⟩
def HIF_Q_IRQ_TX_USEC (q : Nat) : Fld := ⟨HIF_Q_IRQ_TX q, 16, 16⟩
def HIF_Q_STAT (q : Nat) : Nat := 0x61030 + 0x40 * q
def HIF_Q_STAT_RX_QERR (q : Nat) : Fld := ⟨HIF_Q_STAT q, 0, 1⟩
def HIF_Q_STAT_TX_QERR (q : Nat) : Fld := ⟨HIF_Q_STAT q, 1, 1⟩

/-! ### UPD: the registers of spec/14_update_turnover.md -/

def UPD_STAT : Nat := 0x70000
def UPD_STAT_SESS : Fld := ⟨UPD_STAT, 0, 2⟩
def UPD_STAT_SRC : Fld := ⟨UPD_STAT, 2, 2⟩
def UPD_STAT_TOV : Fld := ⟨UPD_STAT, 4, 2⟩
def UPD_STAT_BUSY : Fld := ⟨UPD_STAT, 6, 1⟩
def UPD_STAT_RUN_SLOT : Fld := ⟨UPD_STAT, 7, 1⟩
def UPD_STAT_TRIAL : Fld := ⟨UPD_STAT, 8, 1⟩
def UPD_STAT_PENDING : Fld := ⟨UPD_STAT, 9, 1⟩
def UPD_STAT_MOVING : Fld := ⟨UPD_STAT, 10, 1⟩
def UPD_STAT_LOW : Fld := ⟨UPD_STAT, 11, 1⟩
def UPD_STAT_LOCKED : Fld := ⟨UPD_STAT, 12, 1⟩
def UPD_STAT_UP : Fld := ⟨UPD_STAT, 31, 1⟩
def UPD_EVT : Nat := 0x70004
def UPD_EVT_REFUSED : Fld := ⟨UPD_EVT, 0, 1⟩
def UPD_EVT_RECLAIMED : Fld := ⟨UPD_EVT, 1, 1⟩
def UPD_EVT_CANCELLED : Fld := ⟨UPD_EVT, 2, 1⟩
def UPD_EVT_COAST_OVER : Fld := ⟨UPD_EVT, 3, 1⟩
def UPD_EVT_FALLBACK : Fld := ⟨UPD_EVT, 4, 1⟩
def UPD_EVT_VERIFY_FAIL : Fld := ⟨UPD_EVT, 5, 1⟩
def UPD_EVT_TOKEN_BAD : Fld := ⟨UPD_EVT, 6, 1⟩
def UPD_EVT_CONFIRMED : Fld := ⟨UPD_EVT, 7, 1⟩
def UPD_SESS_CMD : Nat := 0x70008
def UPD_SESS_CMD_OPEN : Fld := ⟨UPD_SESS_CMD, 0, 1⟩
def UPD_SESS_CMD_ABORT : Fld := ⟨UPD_SESS_CMD, 1, 1⟩
def UPD_SESS_CMD_COMMIT : Fld := ⟨UPD_SESS_CMD, 2, 1⟩
def UPD_SESS_CMD_TURNOVER : Fld := ⟨UPD_SESS_CMD, 3, 1⟩
def UPD_SESS_ID : Nat := 0x7000C
def UPD_SESS_TOTAL : Nat := 0x70010
def UPD_SESS_NEXT : Nat := 0x70014
def UPD_BLK_OFS : Nat := 0x70018
def UPD_BLK_CMD : Nat := 0x7001C
def UPD_BLK_CMD_LEN : Fld := ⟨UPD_BLK_CMD, 0, 13⟩
def UPD_BLK_CMD_WRITE : Fld := ⟨UPD_BLK_CMD, 31, 1⟩
def UPD_RESULT : Nat := 0x70020
def UPD_TURN_LO : Nat := 0x70024
def UPD_TURN_HI : Nat := 0x70028
def UPD_HO_LEAD : Nat := 0x7002C
def UPD_SESS_TMO : Nat := 0x70030
def UPD_CONFIRM_TMO : Nat := 0x70034
def UPD_CONFIRM_LEFT : Nat := 0x70038
def UPD_CMD : Nat := 0x7003C
def UPD_CMD_CONFIRM : Fld := ⟨UPD_CMD, 0, 1⟩
def UPD_CMD_REVERT : Fld := ⟨UPD_CMD, 1, 1⟩
def UPD_BOOT : Nat := 0x70040
def UPD_BOOT_SLOT : Fld := ⟨UPD_BOOT, 0, 1⟩
def UPD_BOOT_TOV : Fld := ⟨UPD_BOOT, 1, 1⟩
def UPD_BOOT_RESULT : Fld := ⟨UPD_BOOT, 4, 4⟩
def UPD_BOOT_CHECK : Fld := ⟨UPD_BOOT, 8, 5⟩
def UPD_RUN_ID : Nat := 0x70044
def UPD_RUN_VER : Nat := 0x70048
def UPD_VER_FLOOR : Nat := 0x7004C
def UPD_LOCK : Nat := 0x70050
def UPD_LOCK_STAGE : Fld := ⟨UPD_LOCK, 0, 1⟩
def UPD_LOCK_ACTIVATE : Fld := ⟨UPD_LOCK, 1, 1⟩
def UPD_TOKEN_CTR : Nat := 0x70054
def UPD_UID_LO : Nat := 0x70058
def UPD_UID_HI : Nat := 0x7005C
def UPD_TOKEN_CMD : Nat := 0x70060
def UPD_TOKEN_CMD_SUBMIT : Fld := ⟨UPD_TOKEN_CMD, 0, 1⟩
def UPD_TOKEN_STAT : Nat := 0x70064
def UPD_TOKEN_STAT_BUSY : Fld := ⟨UPD_TOKEN_STAT, 0, 1⟩
def UPD_TOKEN_STAT_RESULT : Fld := ⟨UPD_TOKEN_STAT, 1, 3⟩
def UPD_CNT_REFUSED : Nat := 0x70100
def UPD_CNT_RECLAIM : Nat := 0x70104
def UPD_CNT_HO_DROP : Nat := 0x70108
def UPD_CNT_TOV : Nat := 0x7010C
def UPD_CNT_FALLBACK : Nat := 0x70110

/-! ### KEY: the registers of spec/15_cipher_keys.md -/

def KEY_STAT : Nat := 0x80000
def KEY_STAT_BUSY : Fld := ⟨KEY_STAT, 0, 1⟩
def KEY_STAT_READY : Fld := ⟨KEY_STAT, 1, 1⟩
def KEY_STAT_RESULT : Fld := ⟨KEY_STAT, 4, 3⟩
def KEY_EVT : Nat := 0x80004
def KEY_EVT_CMD_ERR : Fld := ⟨KEY_EVT, 0, 1⟩
def KEY_EVT_LOAD_ERR : Fld := ⟨KEY_EVT, 1, 1⟩
def KEY_SEL : Nat := 0x80008
def KEY_SEL_SLOT : Fld := ⟨KEY_SEL, 0, 14⟩
def KEY_SEL_SUITE : Fld := ⟨KEY_SEL, 16, 4⟩
def KEY_CMD : Nat := 0x8000C
def KEY_CMD_INSTALL : Fld := ⟨KEY_CMD, 0, 1⟩
def KEY_CMD_ERASE : Fld := ⟨KEY_CMD, 1, 1⟩
def KEY_CMD_INFO : Fld := ⟨KEY_CMD, 2, 1⟩
def KEY_CMD_WIPE : Fld := ⟨KEY_CMD, 3, 1⟩
def KEY_INFO : Nat := 0x80010
def KEY_INFO_SUITE : Fld := ⟨KEY_INFO, 0, 4⟩
def KEY_INFO_PERSIST : Fld := ⟨KEY_INFO, 4, 1⟩
def KEY_INFO_TXPN_LO : Nat := 0x80014
def KEY_INFO_TXPN_HI : Nat := 0x80018
def KEY_INFO_RXPN_LO : Nat := 0x8001C
def KEY_INFO_RXPN_HI : Nat := 0x80020
def KEY_INFO_MGPN_LO : Nat := 0x80024
def KEY_INFO_MGPN_HI : Nat := 0x80028
def KEY_DATA (i : Nat) : Nat := 0x80040 + 0x4 * i
def KEY_CNT_INSTALL : Nat := 0x80100
def KEY_CNT_REFUSED : Nat := 0x80104
def KEY_CNT_EMPTY_REQ : Nat := 0x80108

/-! ### CIP: the registers of spec/15_cipher_keys.md -/

def CIP_CTL : Nat := 0x90000
def CIP_CTL_LANE_EN : Fld := ⟨CIP_CTL, 0, 4⟩
def CIP_CTL_URG_SYNC : Fld := ⟨CIP_CTL, 4, 1⟩
def CIP_CTL_URG_TIMING : Fld := ⟨CIP_CTL, 5, 1⟩
def CIP_CTL_URG_BCN : Fld := ⟨CIP_CTL, 6, 1⟩
def CIP_STAT : Nat := 0x90004
def CIP_STAT_BUSY : Fld := ⟨CIP_STAT, 0, 4⟩
def CIP_STAT_SUSP : Fld := ⟨CIP_STAT, 4, 4⟩
def CIP_EVT : Nat := 0x90008
def CIP_EVT_MISMATCH : Fld := ⟨CIP_EVT, 0, 4⟩
def CIP_EVT_GIVEUP : Fld := ⟨CIP_EVT, 4, 1⟩
def CIP_EVT_REPLAY : Fld := ⟨CIP_EVT, 5, 1⟩
def CIP_EVT_PN_END : Fld := ⟨CIP_EVT, 6, 1⟩
def CIP_EVT_LANE_OFF : Fld := ⟨CIP_EVT, 7, 1⟩
def CIP_EVT_NOKEY : Fld := ⟨CIP_EVT, 8, 1⟩
def CIP_CNT_MISMATCH (l : Nat) : Nat := 0x90010 + 0x4 * l
def CIP_CNT_GIVEUP : Nat := 0x90100
def CIP_CNT_NOKEY : Nat := 0x90104
def CIP_CNT_MIC : Nat := 0x90108
def CIP_CNT_REPLAY : Nat := 0x9010C
def CIP_CNT_PN_END : Nat := 0x90110
def CIP_CNT_SUSPEND : Nat := 0x90114
def CIP_CNT_UNPROT : Nat := 0x90118

/-! ### TSK: the registers of spec/12_gouge_engines.md -/

def TSK_CTL : Nat := 0xA0000
def TSK_CTL_EN : Fld := ⟨TSK_CTL, 0, 1⟩
def TSK_CTL_TRC_EN : Fld := ⟨TSK_CTL, 1, 1⟩
def TSK_STAT : Nat := 0xA0004
def TSK_STAT_FREE : Fld := ⟨TSK_STAT, 0, 13⟩
def TSK_STAT_READY : Fld := ⟨TSK_STAT, 16, 13⟩
def TSK_EVT : Nat := 0xA0008
def TSK_EVT_BP : Fld := ⟨TSK_EVT, 0, 1⟩
def TSK_EVT_EVT_DROP : Fld := ⟨TSK_EVT, 1, 1⟩
def TSK_EVT_TMR_LATE : Fld := ⟨TSK_EVT, 2, 1⟩
def TSK_EVT_LOST : Fld := ⟨TSK_EVT, 3, 1⟩
def TSK_EVT_TRC_FULL : Fld := ⟨TSK_EVT, 4, 1⟩
def TSK_EVT_POST_REF : Fld := ⟨TSK_EVT, 5, 1⟩
def TSK_EVT_LOOP_DROP : Fld := ⟨TSK_EVT, 6, 1⟩
def TSK_EVT_NOENG : Fld := ⟨TSK_EVT, 7, 1⟩
def TSK_EVT_NOCLASS : Fld := ⟨TSK_EVT, 8, 1⟩
def TSK_RUN : Nat := 0xA000C
def TSK_RUN_RUN : Fld := ⟨TSK_RUN, 0, 7⟩
def TSK_RUN_REDISP : Fld := ⟨TSK_RUN, 16, 7⟩
def TSK_TRC_BASE : Nat := 0xA0010
def TSK_TRC_CFG : Nat := 0xA0014
def TSK_TRC_CFG_KINDS : Fld := ⟨TSK_TRC_CFG, 0, 8⟩
def TSK_TRC_CFG_STOP : Fld := ⟨TSK_TRC_CFG, 8, 1⟩
def TSK_TRC_CLS : Nat := 0xA0018
def TSK_TRC_WR : Nat := 0xA001C
def TSK_TRC_WR_INDEX : Fld := ⟨TSK_TRC_WR, 0, 13⟩
def TSK_TRC_WR_WRAPPED : Fld := ⟨TSK_TRC_WR, 13, 1⟩
def TSK_TRC_WR_STOPPED : Fld := ⟨TSK_TRC_WR, 14, 1⟩
def TSK_POST_ARG0_LO : Nat := 0xA0020
def TSK_POST_ARG0_HI : Nat := 0xA0024
def TSK_POST_ARG1_LO : Nat := 0xA0028
def TSK_POST_ARG1_HI : Nat := 0xA002C
def TSK_POST_CMD : Nat := 0xA0030
def TSK_POST_CMD_CLASS : Fld := ⟨TSK_POST_CMD, 0, 5⟩
def TSK_POST_CMD_POST : Fld := ⟨TSK_POST_CMD, 8, 1⟩
def TSK_POST_STAT : Nat := 0xA0034
def TSK_POST_STAT_REFUSED : Fld := ⟨TSK_POST_STAT, 0, 1⟩
def TSK_EVQ : Nat := 0xA0038
def TSK_QUOTA (s : Nat) : Nat := 0xA0040 + 0x4 * s
def TSK_QUOTA_QUOTA (s : Nat) : Fld := ⟨TSK_QUOTA s, 0, 13⟩
def TSK_READY (l : Nat) : Nat := 0xA0060 + 0x4 * l
def TSK_CLASS (c : Nat) : Nat := 0xA0080 + 0x4 * c
def TSK_CLASS_ENGINES (c : Nat) : Fld := ⟨TSK_CLASS c, 0, 16⟩
def TSK_CLASS_LEVEL (c : Nat) : Fld := ⟨TSK_CLASS c, 16, 3⟩
def TSK_CLASS_VALID (c : Nat) : Fld := ⟨TSK_CLASS c, 19, 1⟩
def TSK_CLASS_BUDGET (c : Nat) : Fld := ⟨TSK_CLASS c, 20, 12⟩
def TSK_CNT_TASK : Nat := 0xA0100
def TSK_CNT_BP : Nat := 0xA0104
def TSK_CNT_EVT_DROP : Nat := 0xA0108
def TSK_CNT_TMR_LATE : Nat := 0xA010C
def TSK_CNT_LOST : Nat := 0xA0110
def TSK_CNT_POST_REF : Nat := 0xA0114
def TSK_CNT_LOOP_DROP : Nat := 0xA0118
def TSK_CNT_TRC_DROP : Nat := 0xA011C

/-! ### GGE: the registers of spec/12_gouge_engines.md -/

def GGE_CTL (n : Nat) : Nat := 0xB0000 + 0x1000 * n
def GGE_CTL_EN (n : Nat) : Fld := ⟨GGE_CTL n, 0, 1⟩
def GGE_CTL_AUTO_RELOAD (n : Nat) : Fld := ⟨GGE_CTL n, 1, 1⟩
def GGE_CTL_RELOAD (n : Nat) : Fld := ⟨GGE_CTL n, 2, 1⟩
def GGE_STAT (n : Nat) : Nat := 0xB0004 + 0x1000 * n
def GGE_STAT_STATE (n : Nat) : Fld := ⟨GGE_STAT n, 0, 2⟩
def GGE_STAT_STORE_OK (n : Nat) : Fld := ⟨GGE_STAT n, 8, 1⟩
def GGE_EVT (n : Nat) : Nat := 0xB0008 + 0x1000 * n
def GGE_EVT_ECC_STORE (n : Nat) : Fld := ⟨GGE_EVT n, 0, 1⟩
def GGE_EVT_ECC_LOCAL (n : Nat) : Fld := ⟨GGE_EVT n, 1, 1⟩
def GGE_EVT_OPCODE (n : Nat) : Fld := ⟨GGE_EVT n, 2, 1⟩
def GGE_EVT_ADDR (n : Nat) : Fld := ⟨GGE_EVT n, 3, 1⟩
def GGE_EVT_BUDGET (n : Nat) : Fld := ⟨GGE_EVT n, 4, 1⟩
def GGE_EVT_STACK (n : Nat) : Fld := ⟨GGE_EVT n, 5, 1⟩
def GGE_EVT_TABLE (n : Nat) : Fld := ⟨GGE_EVT n, 6, 1⟩
def GGE_FAULT (n : Nat) : Nat := 0xB000C + 0x1000 * n
def GGE_FAULT_CODE (n : Nat) : Fld := ⟨GGE_FAULT n, 0, 4⟩
def GGE_FAULT_THREAD (n : Nat) : Fld := ⟨GGE_FAULT n, 4, 2⟩
def GGE_FAULT_PC (n : Nat) : Fld := ⟨GGE_FAULT n, 16, 13⟩
def GGE_CNT_TASK (n : Nat) : Nat := 0xB0010 + 0x1000 * n
def GGE_CNT_FAULT (n : Nat) : Nat := 0xB0014 + 0x1000 * n
def GGE_CNT_ECC (n : Nat) : Nat := 0xB0018 + 0x1000 * n
def GGE_CNT_WORDS_LO (n : Nat) : Nat := 0xB0020 + 0x1000 * n
def GGE_CNT_WORDS_HI (n : Nat) : Nat := 0xB0024 + 0x1000 * n
def GGE_THR_STAT (n t : Nat) : Nat := 0xB0100 + 0x1000 * n + 0x10 * t
def GGE_THR_STAT_PC (n t : Nat) : Fld := ⟨GGE_THR_STAT n t, 0, 13⟩
def GGE_THR_STAT_CLASS (n t : Nat) : Fld := ⟨GGE_THR_STAT n t, 16, 5⟩
def GGE_THR_STAT_BUSY (n t : Nat) : Fld := ⟨GGE_THR_STAT n t, 24, 1⟩
def GGE_THR_STAT_REDISP (n t : Nat) : Fld := ⟨GGE_THR_STAT n t, 25, 1⟩
def GGE_THR_SEQ (n t : Nat) : Nat := 0xB0104 + 0x1000 * n + 0x10 * t

/-! ### CHK: the registers of spec/11_buffers_credits_order.md -/

def CHK_STAT : Nat := 0xC0000
def CHK_STAT_READY : Fld := ⟨CHK_STAT, 0, 1⟩
def CHK_STAT_SPILL : Fld := ⟨CHK_STAT, 1, 1⟩
def CHK_EVT : Nat := 0xC0004
def CHK_EVT_EMPTY : Fld := ⟨CHK_EVT, 0, 1⟩
def CHK_EVT_LOW : Fld := ⟨CHK_EVT, 1, 1⟩
def CHK_EVT_BAD_REL : Fld := ⟨CHK_EVT, 2, 1⟩
def CHK_EVT_SPILL_DROP : Fld := ⟨CHK_EVT, 3, 1⟩
def CHK_EVT_CRED_LOST : Fld := ⟨CHK_EVT, 4, 1⟩
def CHK_DRAM_CNT : Nat := 0xC0008
def CHK_FREE_DRAM : Nat := 0xC000C
def CHK_FREE_ODIE : Nat := 0xC0010
def CHK_TIER : Nat := 0xC0014
def CHK_RSV : Nat := 0xC0018
def CHK_LOW : Nat := 0xC001C
def CHK_BOOK_CMD : Nat := 0xC0020
def CHK_BOOK_CMD_SNAP : Fld := ⟨CHK_BOOK_CMD, 0, 1⟩
def CHK_BOOK_TICK_LO : Nat := 0xC0024
def CHK_BOOK_TICK_HI : Nat := 0xC0028
def CHK_BOOK_TICK_HI_TURN : Fld := ⟨CHK_BOOK_TICK_HI, 0, 8⟩
def CHK_BOOK_TICK_HI_ANGLE : Fld := ⟨CHK_BOOK_TICK_HI, 8, 24⟩
def CHK_CNT_ALLOC_FAIL : Nat := 0xC0100
def CHK_CNT_BAD_REL : Nat := 0xC0104
def CHK_CNT_SPILL_DROP : Nat := 0xC0108
def CHK_CNT_CRED_LOST : Nat := 0xC010C
def CHK_BK_FREE_ODIE : Nat := 0xC0200
def CHK_BK_FREE_DRAM : Nat := 0xC0204
def CHK_BK_EXTRA : Nat := 0xC0208
def CHK_BK_OWN (o : Nat) : Nat := 0xC0210 + 0x4 * o
def CHK_BK_CRED (r : Nat) : Nat := 0xC0240 + 0x4 * r
def CHK_BK_CRED_AVAIL (r : Nat) : Fld := ⟨CHK_BK_CRED r, 0, 14⟩
def CHK_BK_CRED_OUT (r : Nat) : Fld := ⟨CHK_BK_CRED r, 16, 14⟩
def CHK_BK_TASK_A : Nat := 0xC0250
def CHK_BK_TASK_A_FREE : Fld := ⟨CHK_BK_TASK_A, 0, 13⟩
def CHK_BK_TASK_A_READY : Fld := ⟨CHK_BK_TASK_A, 16, 13⟩
def CHK_BK_TASK_B : Nat := 0xC0254
def CHK_BK_TASK_B_RUN : Fld := ⟨CHK_BK_TASK_B, 0, 7⟩
def CHK_BK_TASK_B_REDISP : Fld := ⟨CHK_BK_TASK_B, 16, 7⟩
def CHK_BK_ROB : Nat := 0xC0258
def CHK_BK_ROB_FREE : Fld := ⟨CHK_BK_ROB, 0, 14⟩
def CHK_BK_ROB_USED : Fld := ⟨CHK_BK_ROB, 16, 14⟩
def CHK_BK_ROB_REDISP : Nat := 0xC025C
def CHK_BK_MLK : Nat := 0xC0260
def CHK_BK_MLK_RB_FREE : Fld := ⟨CHK_BK_MLK, 0, 18⟩
def CHK_BK_SORUS : Nat := 0xC0264
def CHK_BK_SORUS_FREE : Fld := ⟨CHK_BK_SORUS, 0, 13⟩
def CHK_BK_SORUS_USED : Fld := ⟨CHK_BK_SORUS, 16, 13⟩
def CHK_BK_KEY_A : Nat := 0xC0268
def CHK_BK_KEY_A_EMPTY : Fld := ⟨CHK_BK_KEY_A, 0, 15⟩
def CHK_BK_KEY_A_LOADED : Fld := ⟨CHK_BK_KEY_A, 16, 15⟩
def CHK_BK_KEY_B : Nat := 0xC026C
def CHK_BK_KEY_B_INSTALL : Fld := ⟨CHK_BK_KEY_B, 0, 1⟩
def CHK_BK_KEY_B_PLOADED : Fld := ⟨CHK_BK_KEY_B, 16, 11⟩
def CHK_BK_DESC (q : Nat) : Nat := 0xC0300 + 0x4 * q
def CHK_BK_DESC_RXD (q : Nat) : Fld := ⟨CHK_BK_DESC q, 0, 16⟩
def CHK_BK_DESC_TXD (q : Nat) : Fld := ⟨CHK_BK_DESC q, 16, 16⟩

/-! ### PRS: the registers of spec/09_router_pipeline.md -/

def PRS_CTL : Nat := 0xD0000
def PRS_CTL_EN : Fld := ⟨PRS_CTL, 0, 1⟩
def PRS_CTL_WC_EN : Fld := ⟨PRS_CTL, 1, 1⟩
def PRS_CTL_EM_EN : Fld := ⟨PRS_CTL, 2, 1⟩
def PRS_EVT : Nat := 0xD0008
def PRS_EVT_EXC_DROP : Fld := ⟨PRS_EVT, 0, 1⟩
def PRS_EVT_EM_FULL : Fld := ⟨PRS_EVT, 1, 1⟩
def PRS_EVT_TBL_ERR : Fld := ⟨PRS_EVT, 2, 1⟩
def PRS_EVT_PARSE_FAIL : Fld := ⟨PRS_EVT, 3, 1⟩
def PRS_EVT_LIMIT : Fld := ⟨PRS_EVT, 4, 1⟩
def PRS_TBL_BASE : Nat := 0xD000C
def PRS_TBL_BASE_START : Fld := ⟨PRS_TBL_BASE, 0, 16⟩
def PRS_EM_MASK_LO : Nat := 0xD0010
def PRS_EM_MASK_HI : Nat := 0xD0014
def PRS_EM_STAT : Nat := 0xD0018
def PRS_EM_STAT_USED : Fld := ⟨PRS_EM_STAT, 0, 18⟩
def PRS_TBL_CMD : Nat := 0xD0020
def PRS_TBL_CMD_OP : Fld := ⟨PRS_TBL_CMD, 0, 2⟩
def PRS_TBL_CMD_TABLE : Fld := ⟨PRS_TBL_CMD, 2, 1⟩
def PRS_TBL_CMD_INDEX : Fld := ⟨PRS_TBL_CMD, 4, 14⟩
def PRS_TBL_STAT : Nat := 0xD0024
def PRS_TBL_STAT_BUSY : Fld := ⟨PRS_TBL_STAT, 0, 1⟩
def PRS_TBL_STAT_ERR : Fld := ⟨PRS_TBL_STAT, 1, 1⟩
def PRS_TBL_STAT_CODE : Fld := ⟨PRS_TBL_STAT, 2, 2⟩
def PRS_TBL_STAT_HIT : Fld := ⟨PRS_TBL_STAT, 4, 1⟩
def PRS_EXC_CFG (c : Nat) : Nat := 0xD0040 + 0x8 * c
def PRS_EXC_CFG_TO_HOST (c : Nat) : Fld := ⟨PRS_EXC_CFG c, 0, 1⟩
def PRS_EXC_CFG_QUEUE (c : Nat) : Fld := ⟨PRS_EXC_CFG c, 8, 5⟩
def PRS_EXC_CFG_HPROF (c : Nat) : Fld := ⟨PRS_EXC_CFG c, 16, 4⟩
def PRS_EXC_RATE (c : Nat) : Nat := 0xD0044 + 0x8 * c
def PRS_EXC_RATE_RATE (c : Nat) : Fld := ⟨PRS_EXC_RATE c, 0, 24⟩
def PRS_EXC_RATE_BURST (c : Nat) : Fld := ⟨PRS_EXC_RATE c, 24, 8⟩
def PRS_CNT_EXC (c : Nat) : Nat := 0xD0100 + 0x4 * c
def PRS_CNT_EXC_DROP (c : Nat) : Nat := 0xD0120 + 0x4 * c
def PRS_CNT_PKT : Nat := 0xD0140
def PRS_CNT_DROP : Nat := 0xD0144
def PRS_CNT_EM_HIT : Nat := 0xD0148
def PRS_CNT_WC_HIT : Nat := 0xD014C
def PRS_HPROF_LO (p : Nat) : Nat := 0xD0200 + 0x8 * p
def PRS_HPROF_HI (p : Nat) : Nat := 0xD0204 + 0x8 * p

/-! ### ROB: the registers of spec/09_router_pipeline.md -/

def ROB_STAT : Nat := 0xE0004
def ROB_STAT_FREE : Fld := ⟨ROB_STAT, 0, 14⟩
def ROB_STAT_USED : Fld := ⟨ROB_STAT, 16, 14⟩
def ROB_EVT : Nat := 0xE0008
def ROB_EVT_HOLE_FAULT : Fld := ⟨ROB_EVT, 0, 1⟩
def ROB_EVT_HOLE_AGE : Fld := ⟨ROB_EVT, 1, 1⟩
def ROB_EVT_STALL : Fld := ⟨ROB_EVT, 2, 1⟩
def ROB_EVT_NODEST : Fld := ⟨ROB_EVT, 3, 1⟩
def ROB_CFG : Nat := 0xE000C
def ROB_CFG_FLOW_BITS : Fld := ⟨ROB_CFG, 0, 4⟩
def ROB_AGE : Nat := 0xE0010
def ROB_REDISP : Nat := 0xE0014
def ROB_SEQ : Nat := 0xE0018
def ROB_CNT_REL : Nat := 0xE0100
def ROB_CNT_REDISP : Nat := 0xE0104
def ROB_CNT_HOLE_FAULT : Nat := 0xE0108
def ROB_CNT_HOLE_AGE : Nat := 0xE010C
def ROB_CNT_LATE : Nat := 0xE0110
def ROB_CNT_STALL : Nat := 0xE0114
def ROB_CNT_NODEST : Nat := 0xE0118

/-! ### ETH: the registers of spec/10_ethernet.md -/

def ETH_CTL (n : Nat) : Nat := 0xF0000 + 0x10000 * n
def ETH_CTL_EN (n : Nat) : Fld := ⟨ETH_CTL n, 0, 1⟩
def ETH_CTL_RX_EN (n : Nat) : Fld := ⟨ETH_CTL n, 1, 1⟩
def ETH_CTL_TX_EN (n : Nat) : Fld := ⟨ETH_CTL n, 2, 1⟩
def ETH_CTL_RX_L3 (n : Nat) : Fld := ⟨ETH_CTL n, 3, 1⟩
def ETH_CTL_RX_L4 (n : Nat) : Fld := ⟨ETH_CTL n, 4, 1⟩
def ETH_CTL_PAUSE_RX (n : Nat) : Fld := ⟨ETH_CTL n, 5, 1⟩
def ETH_CTL_LPI_EN (n : Nat) : Fld := ⟨ETH_CTL n, 6, 1⟩
def ETH_STAT (n : Nat) : Nat := 0xF0004 + 0x10000 * n
def ETH_STAT_LINK (n : Nat) : Fld := ⟨ETH_STAT n, 0, 1⟩
def ETH_STAT_LFAULT (n : Nat) : Fld := ⟨ETH_STAT n, 1, 1⟩
def ETH_STAT_RFAULT (n : Nat) : Fld := ⟨ETH_STAT n, 2, 1⟩
def ETH_STAT_AN_DONE (n : Nat) : Fld := ⟨ETH_STAT n, 3, 1⟩
def ETH_STAT_RATE (n : Nat) : Fld := ⟨ETH_STAT n, 4, 3⟩
def ETH_STAT_LPI_TX (n : Nat) : Fld := ⟨ETH_STAT n, 7, 1⟩
def ETH_STAT_LPI_RX (n : Nat) : Fld := ⟨ETH_STAT n, 8, 1⟩
def ETH_STAT_SQUELCH (n : Nat) : Fld := ⟨ETH_STAT n, 9, 1⟩
def ETH_EVT (n : Nat) : Nat := 0xF0008 + 0x10000 * n
def ETH_EVT_LINK_UP (n : Nat) : Fld := ⟨ETH_EVT n, 0, 1⟩
def ETH_EVT_LINK_DOWN (n : Nat) : Fld := ⟨ETH_EVT n, 1, 1⟩
def ETH_EVT_UNDERRUN (n : Nat) : Fld := ⟨ETH_EVT n, 2, 1⟩
def ETH_EVT_RX_NOBUF (n : Nat) : Fld := ⟨ETH_EVT n, 3, 1⟩
def ETH_EVT_RX_QFULL (n : Nat) : Fld := ⟨ETH_EVT n, 4, 1⟩
def ETH_EVT_LONG (n : Nat) : Fld := ⟨ETH_EVT n, 5, 1⟩
def ETH_EVT_CFG_ERR (n : Nat) : Fld := ⟨ETH_EVT n, 6, 1⟩
def ETH_CFG (n : Nat) : Nat := 0xF000C + 0x10000 * n
def ETH_CFG_MODE (n : Nat) : Fld := ⟨ETH_CFG n, 0, 3⟩
def ETH_CFG_AN_EN (n : Nat) : Fld := ⟨ETH_CFG n, 4, 1⟩
def ETH_CFG_RATE (n : Nat) : Fld := ⟨ETH_CFG n, 8, 3⟩
def ETH_MAXLEN (n : Nat) : Nat := 0xF0010 + 0x10000 * n
def ETH_MAXLEN_MAX (n : Nat) : Fld := ⟨ETH_MAXLEN n, 0, 14⟩
def ETH_TX_THR (n : Nat) : Nat := 0xF0014 + 0x10000 * n
def ETH_TX_THR_THR (n : Nat) : Fld := ⟨ETH_TX_THR n, 0, 14⟩
def ETH_TX_THR_AUTO (n : Nat) : Fld := ⟨ETH_TX_THR n, 16, 1⟩
def ETH_LPI_CFG (n : Nat) : Nat := 0xF0018 + 0x10000 * n
def ETH_LPI_CFG_IDLE (n : Nat) : Fld := ⟨ETH_LPI_CFG n, 0, 16⟩
def ETH_LPI_CFG_TW (n : Nat) : Fld := ⟨ETH_LPI_CFG n, 16, 16⟩
def ETH_PTP_DLY (n : Nat) : Nat := 0xF001C + 0x10000 * n
def ETH_PTP_DLY_TX_NS (n : Nat) : Fld := ⟨ETH_PTP_DLY n, 0, 12⟩
def ETH_PTP_DLY_RX_NS (n : Nat) : Fld := ⟨ETH_PTP_DLY n, 16, 12⟩
def ETH_RX_QUOTA (n : Nat) : Nat := 0xF0020 + 0x10000 * n
def ETH_SNAP_CMD (n : Nat) : Nat := 0xF0030 + 0x10000 * n
def ETH_SNAP_CMD_SNAP (n : Nat) : Fld := ⟨ETH_SNAP_CMD n, 0, 1⟩
def ETH_SNAP_TICK_LO (n : Nat) : Nat := 0xF0034 + 0x10000 * n
def ETH_SNAP_TICK_HI (n : Nat) : Nat := 0xF0038 + 0x10000 * n
def ETH_SNAP_TICK_HI_TURN (n : Nat) : Fld := ⟨ETH_SNAP_TICK_HI n, 0, 8⟩
def ETH_SNAP_TICK_HI_ANGLE (n : Nat) : Fld := ⟨ETH_SNAP_TICK_HI n, 8, 24⟩
def ETH_CNT_RX_OK (n : Nat) : Nat := 0xF0100 + 0x10000 * n
def ETH_CNT_RX_BYTES_LO (n : Nat) : Nat := 0xF0104 + 0x10000 * n
def ETH_CNT_RX_BYTES_HI (n : Nat) : Nat := 0xF0108 + 0x10000 * n
def ETH_CNT_RUNT (n : Nat) : Nat := 0xF010C + 0x10000 * n
def ETH_CNT_LONG (n : Nat) : Nat := 0xF0110 + 0x10000 * n
def ETH_CNT_FCS (n : Nat) : Nat := 0xF0114 + 0x10000 * n
def ETH_CNT_RX_NOBUF (n : Nat) : Nat := 0xF0118 + 0x10000 * n
def ETH_CNT_RX_QFULL (n : Nat) : Nat := 0xF011C + 0x10000 * n
def ETH_CNT_PAUSE_RX (n : Nat) : Nat := 0xF0120 + 0x10000 * n
def ETH_CNT_TX_OK (n : Nat) : Nat := 0xF0124 + 0x10000 * n
def ETH_CNT_TX_BYTES_LO (n : Nat) : Nat := 0xF0128 + 0x10000 * n
def ETH_CNT_TX_BYTES_HI (n : Nat) : Nat := 0xF012C + 0x10000 * n
def ETH_CNT_TX_UNDERRUN (n : Nat) : Nat := 0xF0130 + 0x10000 * n
def ETH_CNT_TX_LONG (n : Nat) : Nat := 0xF0134 + 0x10000 * n
def ETH_CNT_TX_LINKDOWN (n : Nat) : Nat := 0xF0138 + 0x10000 * n
def ETH_CNT_LPI_TX (n : Nat) : Nat := 0xF013C + 0x10000 * n
def ETH_CNT_CSUM_L3 (n : Nat) : Nat := 0xF0140 + 0x10000 * n
def ETH_CNT_CSUM_L4 (n : Nat) : Nat := 0xF0144 + 0x10000 * n

/-! ### DMC: the registers of spec/16_dram.md -/

def DMC_CTL : Nat := 0x110000
def DMC_CTL_PANIC_EN : Fld := ⟨DMC_CTL, 0, 1⟩
def DMC_CTL_TRK_EN : Fld := ⟨DMC_CTL, 1, 1⟩
def DMC_CTL_PBR : Fld := ⟨DMC_CTL, 2, 1⟩
def DMC_STAT : Nat := 0x110004
def DMC_STAT_STATE : Fld := ⟨DMC_STAT, 0, 2⟩
def DMC_STAT_RATE : Fld := ⟨DMC_STAT, 2, 3⟩
def DMC_STAT_RANKS : Fld := ⟨DMC_STAT, 5, 1⟩
def DMC_STAT_DENS : Fld := ⟨DMC_STAT, 6, 1⟩
def DMC_STAT_MIB : Fld := ⟨DMC_STAT, 8, 14⟩
def DMC_EVT : Nat := 0x110008
def DMC_EVT_TRN_FAIL : Fld := ⟨DMC_EVT, 0, 1⟩
def DMC_EVT_HOT : Fld := ⟨DMC_EVT, 1, 1⟩
def DMC_EVT_REF_FORCED : Fld := ⟨DMC_EVT, 2, 1⟩
def DMC_EVT_TRK_SHIFT : Fld := ⟨DMC_EVT, 3, 1⟩
def DMC_EVT_SR_ACCESS : Fld := ⟨DMC_EVT, 4, 1⟩
def DMC_EVT_PAT_MISMATCH : Fld := ⟨DMC_EVT, 5, 1⟩
def DMC_MAP : Nat := 0x11000C
def DMC_MAP_ORDER : Fld := ⟨DMC_MAP, 0, 2⟩
def DMC_MAP_SET : Fld := ⟨DMC_MAP, 2, 1⟩
def DMC_SCHED : Nat := 0x110010
def DMC_SCHED_AGE_MAX : Fld := ⟨DMC_SCHED, 0, 8⟩
def DMC_SCHED_WR_HI : Fld := ⟨DMC_SCHED, 8, 8⟩
def DMC_SCHED_WR_LO : Fld := ⟨DMC_SCHED, 16, 8⟩
def DMC_SCHED_PAGE_TMO : Fld := ⟨DMC_SCHED, 24, 8⟩
def DMC_RT_CFG : Nat := 0x110014
def DMC_RT_CFG_THR_ETH0 : Fld := ⟨DMC_RT_CFG, 0, 8⟩
def DMC_RT_CFG_THR_ETH1 : Fld := ⟨DMC_RT_CFG, 8, 8⟩
def DMC_RT_CFG_THR_FRN : Fld := ⟨DMC_RT_CFG, 16, 8⟩
def DMC_RT_STAT : Nat := 0x110018
def DMC_RT_MAXLAT : Nat := 0x11001C
def DMC_REF : Nat := 0x110020
def DMC_REF_POSTPONED : Fld := ⟨DMC_REF, 0, 4⟩
def DMC_REF_MR4_CH0 : Fld := ⟨DMC_REF, 4, 3⟩
def DMC_REF_MR4_CH1 : Fld := ⟨DMC_REF, 8, 3⟩
def DMC_TRN_CMD : Nat := 0x110030
def DMC_TRN_CMD_STEP : Fld := ⟨DMC_TRN_CMD, 0, 3⟩
def DMC_TRN_CMD_CH : Fld := ⟨DMC_TRN_CMD, 4, 2⟩
def DMC_TRN_CMD_GO : Fld := ⟨DMC_TRN_CMD, 8, 1⟩
def DMC_TRN_STAT : Nat := 0x110034
def DMC_TRN_STAT_BUSY : Fld := ⟨DMC_TRN_STAT, 0, 1⟩
def DMC_TRN_STAT_FAIL : Fld := ⟨DMC_TRN_STAT, 1, 1⟩
def DMC_TRN_STAT_CHF : Fld := ⟨DMC_TRN_STAT, 4, 2⟩
def DMC_DLY (c l : Nat) : Nat := 0x110040 + 0x8 * c + 0x4 * l
def DMC_DLY_RD (c l : Nat) : Fld := ⟨DMC_DLY c l, 0, 7⟩
def DMC_DLY_WR (c l : Nat) : Fld := ⟨DMC_DLY c l, 8, 7⟩
def DMC_DLY_WIDTH (c l : Nat) : Fld := ⟨DMC_DLY c l, 16, 7⟩
def DMC_MR_CMD : Nat := 0x110050
def DMC_MR_CMD_MR : Fld := ⟨DMC_MR_CMD, 0, 8⟩
def DMC_MR_CMD_OP : Fld := ⟨DMC_MR_CMD, 8, 8⟩
def DMC_MR_CMD_CH : Fld := ⟨DMC_MR_CMD, 16, 2⟩
def DMC_MR_CMD_RANK : Fld := ⟨DMC_MR_CMD, 18, 1⟩
def DMC_MR_CMD_WRITE : Fld := ⟨DMC_MR_CMD, 24, 1⟩
def DMC_MR_CMD_READ : Fld := ⟨DMC_MR_CMD, 25, 1⟩
def DMC_MR_DATA : Nat := 0x110054
def DMC_MR_DATA_CH0 : Fld := ⟨DMC_MR_DATA, 0, 8⟩
def DMC_MR_DATA_CH1 : Fld := ⟨DMC_MR_DATA, 8, 8⟩
def DMC_PAT_CFG : Nat := 0x110060
def DMC_PAT_CFG_KIND : Fld := ⟨DMC_PAT_CFG, 0, 3⟩
def DMC_PAT_CFG_INVERT : Fld := ⟨DMC_PAT_CFG, 3, 1⟩
def DMC_PAT_CFG_SEED : Fld := ⟨DMC_PAT_CFG, 16, 16⟩
def DMC_PAT_ADDR : Nat := 0x110064
def DMC_PAT_LEN : Nat := 0x110068
def DMC_PAT_CMD : Nat := 0x11006C
def DMC_PAT_CMD_WRITE : Fld := ⟨DMC_PAT_CMD, 0, 1⟩
def DMC_PAT_CMD_COMPARE : Fld := ⟨DMC_PAT_CMD, 1, 1⟩
def DMC_PAT_CMD_ABORT : Fld := ⟨DMC_PAT_CMD, 2, 1⟩
def DMC_PAT_STAT : Nat := 0x110070
def DMC_PAT_STAT_BUSY : Fld := ⟨DMC_PAT_STAT, 0, 1⟩
def DMC_PAT_STAT_MISMATCH : Fld := ⟨DMC_PAT_STAT, 1, 1⟩
def DMC_PAT_STAT_REFUSED : Fld := ⟨DMC_PAT_STAT, 2, 1⟩
def DMC_PAT_ERRMASK : Nat := 0x110074
def DMC_PAT_ERRMASK_CH0 : Fld := ⟨DMC_PAT_ERRMASK, 0, 16⟩
def DMC_PAT_ERRMASK_CH1 : Fld := ⟨DMC_PAT_ERRMASK, 16, 16⟩
def DMC_PAT_ERRCNT : Nat := 0x110078
def DMC_CNT_PANIC : Nat := 0x110100
def DMC_CNT_SR_ACCESS : Nat := 0x110104
def DMC_CNT_TRK : Nat := 0x110108

/-! ### ACC: the registers of spec/05_scheduled_access.md -/

def ACC_CTL : Nat := 0x120000
def ACC_CTL_EN : Fld := ⟨ACC_CTL, 0, 1⟩
def ACC_CTL_LINK_EN : Fld := ⟨ACC_CTL, 1, 3⟩
def ACC_STAT : Nat := 0x120004
def ACC_STAT_RUN : Fld := ⟨ACC_STAT, 0, 1⟩
def ACC_STAT_WIDENED : Fld := ⟨ACC_STAT, 1, 1⟩
def ACC_STAT_QUIET : Fld := ⟨ACC_STAT, 2, 1⟩
def ACC_STAT_CACHED : Fld := ⟨ACC_STAT, 16, 10⟩
def ACC_EVT : Nat := 0x120008
def ACC_EVT_PLAN_BAD : Fld := ⟨ACC_EVT, 0, 1⟩
def ACC_EVT_SWAP_LATE : Fld := ⟨ACC_EVT, 1, 1⟩
def ACC_EVT_GEN_LATE : Fld := ⟨ACC_EVT, 2, 1⟩
def ACC_EVT_TIM_STALE : Fld := ⟨ACC_EVT, 3, 1⟩
def ACC_EVT_DRIFT_RESET : Fld := ⟨ACC_EVT, 4, 1⟩
def ACC_EVT_WUR_WIDE : Fld := ⟨ACC_EVT, 5, 1⟩
def ACC_EVT_UP_MISS : Fld := ⟨ACC_EVT, 6, 1⟩
def ACC_EVT_UP_LOST : Fld := ⟨ACC_EVT, 7, 1⟩
def ACC_EVT_UP_DOWN : Fld := ⟨ACC_EVT, 8, 1⟩
def ACC_EVT_CTX_ERR : Fld := ⟨ACC_EVT, 9, 1⟩
def ACC_EVT_AID_FULL : Fld := ⟨ACC_EVT, 10, 1⟩
def ACC_WIN_BASE : Nat := 0x12000C
def ACC_WIN_BASE_START : Fld := ⟨ACC_WIN_BASE, 0, 16⟩
def ACC_PLAN_CMD : Nat := 0x120010
def ACC_PLAN_CMD_RADIO : Fld := ⟨ACC_PLAN_CMD, 0, 2⟩
def ACC_PLAN_CMD_BANK : Fld := ⟨ACC_PLAN_CMD, 2, 1⟩
def ACC_PLAN_CMD_LEN : Fld := ⟨ACC_PLAN_CMD, 8, 8⟩
def ACC_PLAN_CMD_ARM : Fld := ⟨ACC_PLAN_CMD, 16, 1⟩
def ACC_PLAN_CMD_CANCEL : Fld := ⟨ACC_PLAN_CMD, 17, 1⟩
def ACC_PLAN_TURN_LO : Nat := 0x120014
def ACC_PLAN_TURN_HI : Nat := 0x120018
def ACC_PLAN_STAT (r : Nat) : Nat := 0x120020 + 0x4 * r
def ACC_PLAN_STAT_ACT_BANK (r : Nat) : Fld := ⟨ACC_PLAN_STAT r, 0, 1⟩
def ACC_PLAN_STAT_ARMED (r : Nat) : Fld := ⟨ACC_PLAN_STAT r, 1, 1⟩
def ACC_PLAN_STAT_RUNNING (r : Nat) : Fld := ⟨ACC_PLAN_STAT r, 2, 1⟩
def ACC_PLAN_STAT_LEN (r : Nat) : Fld := ⟨ACC_PLAN_STAT r, 8, 8⟩
def ACC_PLAN_STAT_NWIN (r : Nat) : Fld := ⟨ACC_PLAN_STAT r, 16, 11⟩
def ACC_GEN_CFG (r : Nat) : Nat := 0x120030 + 0x4 * r
def ACC_GEN_CFG_BASE (r : Nat) : Fld := ⟨ACC_GEN_CFG r, 0, 12⟩
def ACC_GEN_CFG_HALF (r : Nat) : Fld := ⟨ACC_GEN_CFG r, 12, 12⟩
def ACC_GEN_DONE : Nat := 0x12003C
def ACC_DRIFT_CFG : Nat := 0x120040
def ACC_DRIFT_CFG_OFS_SHIFT : Fld := ⟨ACC_DRIFT_CFG, 0, 4⟩
def ACC_DRIFT_CFG_RATE_SHIFT : Fld := ⟨ACC_DRIFT_CFG, 4, 4⟩
def ACC_DRIFT_CFG_ERR_FLOOR : Fld := ⟨ACC_DRIFT_CFG, 8, 8⟩
def ACC_DRIFT_CFG_OUT_MAX : Fld := ⟨ACC_DRIFT_CFG, 16, 8⟩
def ACC_DRIFT_UNC : Nat := 0x120044
def ACC_DRIFT_UNC_UNC_PPB : Fld := ⟨ACC_DRIFT_UNC, 0, 16⟩
def ACC_DRIFT_LAT : Nat := 0x120048
def ACC_DRIFT_LAT_TX_LAT : Fld := ⟨ACC_DRIFT_LAT, 0, 16⟩
def ACC_DRIFT_LAT_STA_RDY : Fld := ⟨ACC_DRIFT_LAT, 16, 16⟩
def ACC_DRIFT_GATE : Nat := 0x12004C
def ACC_DRIFT_GATE_GATE : Fld := ⟨ACC_DRIFT_GATE, 0, 24⟩
def ACC_BCN_CFG (r : Nat) : Nat := 0x120050 + 0x4 * r
def ACC_BCN_CFG_BI (r : Nat) : Fld := ⟨ACC_BCN_CFG r, 0, 16⟩
def ACC_BCN_CFG_DTIM (r : Nat) : Fld := ⟨ACC_BCN_CFG r, 16, 8⟩
def ACC_BCN_CFG_SEG (r : Nat) : Fld := ⟨ACC_BCN_CFG r, 24, 3⟩
def ACC_BCN_LEAD : Nat := 0x12005C
def ACC_WUR_CFG : Nat := 0x120060
def ACC_WUR_CFG_REP_MAX : Fld := ⟨ACC_WUR_CFG, 0, 3⟩
def ACC_STA_CFG : Nat := 0x120064
def ACC_STA_CFG_DORMANT_TURNS : Fld := ⟨ACC_STA_CFG, 0, 16⟩
def ACC_RETRY : Nat := 0x120068
def ACC_RETRY_LIMIT : Fld := ⟨ACC_RETRY, 0, 4⟩
def ACC_RETRY_LIFE : Fld := ⟨ACC_RETRY, 8, 8⟩
def ACC_UP_CFG : Nat := 0x120070
def ACC_UP_CFG_RADIO : Fld := ⟨ACC_UP_CFG, 0, 2⟩
def ACC_UP_CFG_HOLD : Fld := ⟨ACC_UP_CFG, 4, 8⟩
def ACC_UP_CFG_SEARCH : Fld := ⟨ACC_UP_CFG, 12, 12⟩
def ACC_UP_GUARD : Nat := 0x120074
def ACC_UP_GUARD_GUARD : Fld := ⟨ACC_UP_GUARD, 0, 16⟩
def ACC_UP_GUARD_BCN_MAX : Fld := ⟨ACC_UP_GUARD, 16, 16⟩
def ACC_UP_STAT : Nat := 0x120078
def ACC_UP_STAT_STATE : Fld := ⟨ACC_UP_STAT, 0, 2⟩
def ACC_UP_STAT_MISS : Fld := ⟨ACC_UP_STAT, 2, 2⟩
def ACC_UP_STAT_TURNS_LOST : Fld := ⟨ACC_UP_STAT, 16, 16⟩
def ACC_UP_TSF_LO : Nat := 0x120080
def ACC_UP_TSF_HI : Nat := 0x120084
def ACC_CTX_SEL : Nat := 0x1200A0
def ACC_CTX_SEL_AID : Fld := ⟨ACC_CTX_SEL, 0, 13⟩
def ACC_CTX_CMD : Nat := 0x1200A4
def ACC_CTX_CMD_READ : Fld := ⟨ACC_CTX_CMD, 0, 1⟩
def ACC_CTX_CMD_WRITE : Fld := ⟨ACC_CTX_CMD, 1, 1⟩
def ACC_CTX_CMD_DRIFT_LOAD : Fld := ⟨ACC_CTX_CMD, 2, 1⟩
def ACC_CTX_CMD_FREE : Fld := ⟨ACC_CTX_CMD, 3, 1⟩
def ACC_CTX_CMD_FLUSH : Fld := ⟨ACC_CTX_CMD, 4, 1⟩
def ACC_CTX_STAT : Nat := 0x1200A8
def ACC_CTX_STAT_BUSY : Fld := ⟨ACC_CTX_STAT, 0, 1⟩
def ACC_CTX_STAT_ERR : Fld := ⟨ACC_CTX_STAT, 1, 1⟩
def ACC_CTX_STAT_HIT : Fld := ⟨ACC_CTX_STAT, 2, 1⟩
def ACC_CNT_AID_FULL : Nat := 0x120100
def ACC_CNT_RX_OVERSIZE : Nat := 0x120104
def ACC_CNT_TX_OVERSIZE : Nat := 0x120108
def ACC_CNT_DUP : Nat := 0x12010C
def ACC_CNT_TX_FAIL : Nat := 0x120110
def ACC_CNT_OUTLIER : Nat := 0x120114
def ACC_CNT_TIM_STALE : Nat := 0x120118
def ACC_CNT_GEN_LATE : Nat := 0x12011C
def ACC_CNT_WUR_WIDE : Nat := 0x120120
def ACC_CNT_WUR_DEFER : Nat := 0x120124
def ACC_CNT_RAW_SHORT : Nat := 0x120128
def ACC_CNT_UP_MISS : Nat := 0x12012C
def ACC_CNT_UP_DROP : Nat := 0x120130
def ACC_CNT_CACHE_MISS : Nat := 0x120134

/-! ### MLK: the registers of spec/06_braided_links.md -/

def MLK_CTL : Nat := 0x130000
def MLK_CTL_EN : Fld := ⟨MLK_CTL, 0, 1⟩
def MLK_CTL_XR_EN : Fld := ⟨MLK_CTL, 1, 1⟩
def MLK_STAT : Nat := 0x130004
def MLK_STAT_RB_FREE : Fld := ⟨MLK_STAT, 0, 18⟩
def MLK_EVT : Nat := 0x130008
def MLK_EVT_RB_FULL : Fld := ⟨MLK_EVT, 0, 1⟩
def MLK_EVT_CIPHER_HOLE : Fld := ⟨MLK_EVT, 1, 1⟩
def MLK_EVT_NOLINK : Fld := ⟨MLK_EVT, 2, 1⟩
def MLK_EVT_CMD_ERR : Fld := ⟨MLK_EVT, 3, 1⟩
def MLK_EVT_REPLAY : Fld := ⟨MLK_EVT, 4, 1⟩
def MLK_REGION : Nat := 0x13000C
def MLK_HOLE_FAST : Nat := 0x130010
def MLK_HOLE_SLOW : Nat := 0x130014
def MLK_XR_CFG : Nat := 0x130018
def MLK_XR_CFG_SAME : Fld := ⟨MLK_XR_CFG, 0, 4⟩
def MLK_CMD_SEL : Nat := 0x130020
def MLK_CMD_SEL_AID : Fld := ⟨MLK_CMD_SEL, 0, 13⟩
def MLK_CMD_SEL_LID : Fld := ⟨MLK_CMD_SEL, 16, 2⟩
def MLK_CMD : Nat := 0x130024
def MLK_CMD_SUSPEND : Fld := ⟨MLK_CMD, 0, 1⟩
def MLK_CMD_RESUME : Fld := ⟨MLK_CMD, 1, 1⟩
def MLK_CMD_REMOVE : Fld := ⟨MLK_CMD, 2, 1⟩
def MLK_CMD_READ : Fld := ⟨MLK_CMD, 3, 1⟩
def MLK_CMD_STAT : Nat := 0x130028
def MLK_CMD_STAT_BUSY : Fld := ⟨MLK_CMD_STAT, 0, 1⟩
def MLK_CMD_STAT_ERR : Fld := ⟨MLK_CMD_STAT, 1, 1⟩
def MLK_CNT_DUP_X : Nat := 0x130100
def MLK_CNT_OLD : Nat := 0x130104
def MLK_CNT_HOLE_TMO : Nat := 0x130108
def MLK_CNT_HOLE_MOVE : Nat := 0x13010C
def MLK_CNT_HOLE_CIPHER : Nat := 0x130110
def MLK_CNT_REPLAY : Nat := 0x130114
def MLK_CNT_XRETRY : Nat := 0x130118
def MLK_CNT_BAR_TX : Nat := 0x13011C
def MLK_CNT_RB_FULL : Nat := 0x130120
def MLK_CNT_NOLINK : Nat := 0x130124
def MLK_CNT_DUP_RB : Nat := 0x130128

/-! ### FLD: the registers of spec/07_flood_relay.md -/

def FLD_CTL : Nat := 0x140000
def FLD_CTL_EN : Fld := ⟨FLD_CTL, 0, 1⟩
def FLD_CTL_SCHED_EN : Fld := ⟨FLD_CTL, 1, 1⟩
def FLD_CTL_CARRY_EN : Fld := ⟨FLD_CTL, 2, 1⟩
def FLD_STAT : Nat := 0x140004
def FLD_STAT_Q0 : Fld := ⟨FLD_STAT, 0, 8⟩
def FLD_STAT_Q1 : Fld := ⟨FLD_STAT, 8, 8⟩
def FLD_STAT_Q2 : Fld := ⟨FLD_STAT, 16, 8⟩
def FLD_STAT_FCNT_END : Fld := ⟨FLD_STAT, 24, 1⟩
def FLD_EVT : Nat := 0x140008
def FLD_EVT_REPLAY : Fld := ⟨FLD_EVT, 0, 1⟩
def FLD_EVT_EVICT : Fld := ⟨FLD_EVT, 1, 1⟩
def FLD_EVT_FCNT_END : Fld := ⟨FLD_EVT, 2, 1⟩
def FLD_EVT_QFULL : Fld := ⟨FLD_EVT, 3, 1⟩
def FLD_EVT_CMD_ERR : Fld := ⟨FLD_EVT, 4, 1⟩
def FLD_EVT_CARRY_DROP : Fld := ⟨FLD_EVT, 5, 1⟩
def FLD_EVT_BAD : Fld := ⟨FLD_EVT, 6, 1⟩
def FLD_CFG : Nat := 0x14000C
def FLD_CFG_TTL : Fld := ⟨FLD_CFG, 0, 4⟩
def FLD_CFG_ETYPE : Fld := ⟨FLD_CFG, 16, 16⟩
def FLD_ADDR_LO : Nat := 0x140010
def FLD_ADDR_HI : Nat := 0x140014
def FLD_GROUP_LO : Nat := 0x140018
def FLD_GROUP_HI : Nat := 0x14001C
def FLD_KEY_SLOT (k : Nat) : Nat := 0x140020 + 0x4 * k
def FLD_KEY_SLOT_SLOT (k : Nat) : Fld := ⟨FLD_KEY_SLOT k, 0, 14⟩
def FLD_KEY_SLOT_VALID (k : Nat) : Fld := ⟨FLD_KEY_SLOT k, 15, 1⟩
def FLD_TX_KEY : Nat := 0x140030
def FLD_TX_KEY_KEYID : Fld := ⟨FLD_TX_KEY, 0, 2⟩
def FLD_TX_FCNT : Nat := 0x140034
def FLD_CMD : Nat := 0x140038
def FLD_CMD_FCNT_RESET : Fld := ⟨FLD_CMD, 0, 1⟩
def FLD_CMD_TAG_RESET : Fld := ⟨FLD_CMD, 1, 1⟩
def FLD_CMD_SORUS_FLUSH : Fld := ⟨FLD_CMD, 2, 1⟩
def FLD_CMD_AID : Nat := 0x14003C
def FLD_CMD_AID_AID : Fld := ⟨FLD_CMD_AID, 0, 13⟩
def FLD_SLOT (r : Nat) : Nat := 0x140040 + 0x4 * r
def FLD_SORUS : Nat := 0x140050
def FLD_SORUS_FREE : Fld := ⟨FLD_SORUS, 0, 13⟩
def FLD_SORUS_USED : Fld := ⟨FLD_SORUS, 16, 13⟩
def FLD_CNT_ORIG : Nat := 0x140100
def FLD_CNT_ACCEPT : Nat := 0x140104
def FLD_CNT_COPY : Nat := 0x140108
def FLD_CNT_REPLAY : Nat := 0x14010C
def FLD_CNT_BAD : Nat := 0x140110
def FLD_CNT_MIC : Nat := 0x140114
def FLD_CNT_OUTWIN : Nat := 0x140118
def FLD_CNT_FOREIGN : Nat := 0x14011C
def FLD_CNT_EVICT : Nat := 0x140120
def FLD_CNT_UNKNOWN : Nat := 0x140124
def FLD_CNT_CARRY_TX : Nat := 0x140128
def FLD_CNT_CARRY_DROP : Nat := 0x14012C
def FLD_CNT_NOFIT : Nat := 0x140130
def FLD_CNT_QFULL : Nat := 0x140134
def FLD_CNT_TX_FAIL : Nat := 0x140138

/-! ### CLU: the registers of spec/08_cluster.md -/

def CLU_CTL : Nat := 0x150000
def CLU_CTL_EN : Fld := ⟨CLU_CTL, 0, 1⟩
def CLU_STAT : Nat := 0x150004
def CLU_STAT_STATE : Fld := ⟨CLU_STAT, 0, 3⟩
def CLU_STAT_MISS : Fld := ⟨CLU_STAT, 8, 5⟩
def CLU_STAT_MGR : Fld := ⟨CLU_STAT, 16, 5⟩
def CLU_STAT_DEPUTY : Fld := ⟨CLU_STAT, 24, 5⟩
def CLU_STAT_DEP_NONE : Fld := ⟨CLU_STAT, 31, 1⟩
def CLU_EVT : Nat := 0x150008
def CLU_EVT_HOLDOVER : Fld := ⟨CLU_EVT, 0, 1⟩
def CLU_EVT_REJOIN : Fld := ⟨CLU_EVT, 1, 1⟩
def CLU_EVT_TAKEOVER : Fld := ⟨CLU_EVT, 2, 1⟩
def CLU_EVT_DEPOSED : Fld := ⟨CLU_EVT, 3, 1⟩
def CLU_EVT_EPOCH_MIS : Fld := ⟨CLU_EVT, 4, 1⟩
def CLU_EVT_SKEW : Fld := ⟨CLU_EVT, 5, 1⟩
def CLU_EVT_ABSENT : Fld := ⟨CLU_EVT, 6, 1⟩
def CLU_EVT_DUP_DID : Fld := ⟨CLU_EVT, 7, 1⟩
def CLU_EVT_DID_CONFLICT : Fld := ⟨CLU_EVT, 8, 1⟩
def CLU_EVT_PLAN_FAIL : Fld := ⟨CLU_EVT, 9, 1⟩
def CLU_EVT_ACT_FAIL : Fld := ⟨CLU_EVT, 10, 1⟩
def CLU_EVT_HAND_FAIL : Fld := ⟨CLU_EVT, 11, 1⟩
def CLU_EVT_TAKE_HELD : Fld := ⟨CLU_EVT, 12, 1⟩
def CLU_CFG : Nat := 0x15000C
def CLU_CFG_ETYPE : Fld := ⟨CLU_CFG, 0, 16⟩
def CLU_CFG_HB_PER : Fld := ⟨CLU_CFG, 16, 4⟩
def CLU_CFG_DEPUTY : Fld := ⟨CLU_CFG, 24, 5⟩
def CLU_CFG_DEP_NONE : Fld := ⟨CLU_CFG, 31, 1⟩
def CLU_GROUP_LO : Nat := 0x150010
def CLU_GROUP_HI : Nat := 0x150014
def CLU_TERM : Nat := 0x150018
def CLU_SYNC_TOL : Nat := 0x15001C
def CLU_SKEW_THR : Nat := 0x150020
def CLU_SKEW : Nat := 0x150024
def CLU_PATH_NS : Nat := 0x150028
def CLU_PRESENT : Nat := 0x15002C
def CLU_DSEQ : Nat := 0x150030
def CLU_DIR_BASE : Nat := 0x150034
def CLU_DIR_STAT : Nat := 0x150038
def CLU_DIR_STAT_USED : Fld := ⟨CLU_DIR_STAT, 0, 19⟩
def CLU_DIR_STAT_FULL_RX : Fld := ⟨CLU_DIR_STAT, 24, 1⟩
def CLU_PLAN_BASE : Nat := 0x150040
def CLU_PLAN_ID : Nat := 0x150044
def CLU_PLAN_CMD : Nat := 0x150048
def CLU_PLAN_CMD_DID : Fld := ⟨CLU_PLAN_CMD, 0, 5⟩
def CLU_PLAN_CMD_RADIO : Fld := ⟨CLU_PLAN_CMD, 8, 2⟩
def CLU_PLAN_CMD_LEN : Fld := ⟨CLU_PLAN_CMD, 16, 8⟩
def CLU_PLAN_CMD_SEND : Fld := ⟨CLU_PLAN_CMD, 24, 1⟩
def CLU_PLAN_STAT : Nat := 0x15004C
def CLU_PLAN_STAT_BUSY : Fld := ⟨CLU_PLAN_STAT, 0, 1⟩
def CLU_PLAN_STAT_ERR : Fld := ⟨CLU_PLAN_STAT, 1, 1⟩
def CLU_ACT_CMD : Nat := 0x150050
def CLU_ACT_CMD_KIND : Fld := ⟨CLU_ACT_CMD, 0, 2⟩
def CLU_ACT_CMD_RADIO_MAP : Fld := ⟨CLU_ACT_CMD, 4, 3⟩
def CLU_ACT_CMD_SEND : Fld := ⟨CLU_ACT_CMD, 8, 1⟩
def CLU_ACT_CMD_WITHDRAW : Fld := ⟨CLU_ACT_CMD, 9, 1⟩
def CLU_ACT_ID : Nat := 0x150054
def CLU_ACT_TURN_LO : Nat := 0x150058
def CLU_ACT_TURN_HI : Nat := 0x15005C
def CLU_ACT_MASK : Nat := 0x150060
def CLU_ACT_STAT : Nat := 0x150064
def CLU_ACT_MIN : Nat := 0x150068
def CLU_HAND_MAC_LO : Nat := 0x150070
def CLU_HAND_MAC_HI : Nat := 0x150074
def CLU_HAND_CFG : Nat := 0x150078
def CLU_HAND_CFG_DST : Fld := ⟨CLU_HAND_CFG, 0, 5⟩
def CLU_HAND_CFG_AID_HINT : Fld := ⟨CLU_HAND_CFG, 8, 13⟩
def CLU_HAND_KEY : Nat := 0x15007C
def CLU_HAND_KEY_TKEY : Fld := ⟨CLU_HAND_KEY, 0, 14⟩
def CLU_HAND_CUT_LO : Nat := 0x150080
def CLU_HAND_CUT_HI : Nat := 0x150084
def CLU_HAND_CMD : Nat := 0x150088
def CLU_HAND_CMD_REQ : Fld := ⟨CLU_HAND_CMD, 0, 1⟩
def CLU_HAND_CMD_ABORT : Fld := ⟨CLU_HAND_CMD, 1, 1⟩
def CLU_HAND_STAT : Nat := 0x15008C
def CLU_HAND_STAT_BUSY : Fld := ⟨CLU_HAND_STAT, 0, 1⟩
def CLU_HAND_STAT_ERR : Fld := ⟨CLU_HAND_STAT, 1, 1⟩
def CLU_HAND_STAT_DONE : Fld := ⟨CLU_HAND_STAT, 2, 1⟩
def CLU_HAND_STAT_FAILED : Fld := ⟨CLU_HAND_STAT, 3, 1⟩
def CLU_HAND_STAT_HID : Fld := ⟨CLU_HAND_STAT, 16, 16⟩
def CLU_HAND_LEAD : Nat := 0x150090
def CLU_HAND_TMO : Nat := 0x150094
def CLU_CNT_SYNC_MISS : Nat := 0x150100
def CLU_CNT_SYNC_REJ : Nat := 0x150104
def CLU_CNT_FOREIGN : Nat := 0x150108
def CLU_CNT_BAD : Nat := 0x15010C
def CLU_CNT_DIR_STALE : Nat := 0x150110
def CLU_CNT_EVICT : Nat := 0x150114
def CLU_CNT_HAND_OK : Nat := 0x150118
def CLU_CNT_HAND_FAIL : Nat := 0x15011C
def CLU_CNT_HAND_DROP : Nat := 0x150120
def CLU_CNT_HB_MISS : Nat := 0x150124
def CLU_CNT_RPT_DROP : Nat := 0x150128

/-! ### FRN: the registers of spec/03_frond_radios.md -/

def FRN_CTL (n : Nat) : Nat := 0x200000 + 0x80000 * n
def FRN_CTL_EN (n : Nat) : Fld := ⟨FRN_CTL n, 0, 1⟩
def FRN_CTL_RUN (n : Nat) : Fld := ⟨FRN_CTL n, 1, 1⟩
def FRN_CTL_AUTO_RST (n : Nat) : Fld := ⟨FRN_CTL n, 2, 1⟩
def FRN_STAT (n : Nat) : Nat := 0x200004 + 0x80000 * n
def FRN_STAT_STATE (n : Nat) : Fld := ⟨FRN_STAT n, 0, 3⟩
def FRN_STAT_ACT_SYN (n : Nat) : Fld := ⟨FRN_STAT n, 3, 1⟩
def FRN_STAT_ACT_LOCK (n : Nat) : Fld := ⟨FRN_STAT n, 4, 1⟩
def FRN_STAT_PREP_RDY (n : Nat) : Fld := ⟨FRN_STAT n, 5, 1⟩
def FRN_STAT_SEQ (n : Nat) : Fld := ⟨FRN_STAT n, 6, 2⟩
def FRN_STAT_ACT_CH (n : Nat) : Fld := ⟨FRN_STAT n, 8, 8⟩
def FRN_STAT_PREP_CH (n : Nat) : Fld := ⟨FRN_STAT n, 16, 8⟩
def FRN_EVT (n : Nat) : Nat := 0x200008 + 0x80000 * n
def FRN_EVT_LATE (n : Nat) : Fld := ⟨FRN_EVT n, 0, 1⟩
def FRN_EVT_MISMATCH (n : Nat) : Fld := ⟨FRN_EVT n, 1, 1⟩
def FRN_EVT_PROG_ERR (n : Nat) : Fld := ⟨FRN_EVT n, 2, 1⟩
def FRN_EVT_UNLOCK (n : Nat) : Fld := ⟨FRN_EVT n, 3, 1⟩
def FRN_EVT_CAL_FAIL (n : Nat) : Fld := ⟨FRN_EVT n, 4, 1⟩
def FRN_EVT_CH_INVALID (n : Nat) : Fld := ⟨FRN_EVT n, 5, 1⟩
def FRN_EVT_OVERRUN (n : Nat) : Fld := ⟨FRN_EVT n, 6, 1⟩
def FRN_EVT_SKIPPED (n : Nat) : Fld := ⟨FRN_EVT n, 7, 1⟩
def FRN_EVT_TEMP_DRIFT (n : Nat) : Fld := ⟨FRN_EVT n, 8, 1⟩
def FRN_EVT_COAST_LIMIT (n : Nat) : Fld := ⟨FRN_EVT n, 9, 1⟩
def FRN_EVT_COAST_DROP (n : Nat) : Fld := ⟨FRN_EVT n, 10, 1⟩
def FRN_SEQ_ENTRY (n : Nat) : Nat := 0x200010 + 0x80000 * n
def FRN_SEQ_ENTRY_MAIN (n : Nat) : Fld := ⟨FRN_SEQ_ENTRY n, 0, 12⟩
def FRN_SEQ_ENTRY_COAST (n : Nat) : Fld := ⟨FRN_SEQ_ENTRY n, 16, 12⟩
def FRN_SEQ_PC (n : Nat) : Nat := 0x200014 + 0x80000 * n
def FRN_SEQ_PC_PC (n : Nat) : Fld := ⟨FRN_SEQ_PC n, 0, 12⟩
def FRN_SEQ_PC_FAULT_PC (n : Nat) : Fld := ⟨FRN_SEQ_PC n, 16, 12⟩
def FRN_COAST_LIMIT (n : Nat) : Nat := 0x200018 + 0x80000 * n
def FRN_FEM_CFG (n : Nat) : Nat := 0x200020 + 0x80000 * n
def FRN_FEM_CFG_TXEN (n : Nat) : Fld := ⟨FRN_FEM_CFG n, 0, 3⟩
def FRN_FEM_CFG_TX_LEAD (n : Nat) : Fld := ⟨FRN_FEM_CFG n, 8, 8⟩
def FRN_FEM_CFG_TX_LAG (n : Nat) : Fld := ⟨FRN_FEM_CFG n, 16, 8⟩
def FRN_FEM_CFG_RX_LEAD (n : Nat) : Fld := ⟨FRN_FEM_CFG n, 24, 8⟩
def FRN_CAL_CFG (n : Nat) : Nat := 0x200024 + 0x80000 * n
def FRN_CAL_CFG_TEMP_WIN (n : Nat) : Fld := ⟨FRN_CAL_CFG n, 0, 5⟩
def FRN_TEMP (n : Nat) : Nat := 0x200028 + 0x80000 * n
def FRN_TEMP_TEMP (n : Nat) : Fld := ⟨FRN_TEMP n, 0, 12⟩
def FRN_SYN0_STAT (n : Nat) : Nat := 0x200030 + 0x80000 * n
def FRN_SYN0_STAT_CH (n : Nat) : Fld := ⟨FRN_SYN0_STAT n, 0, 8⟩
def FRN_SYN0_STAT_LOCKED (n : Nat) : Fld := ⟨FRN_SYN0_STAT n, 8, 1⟩
def FRN_SYN0_STAT_CALIB (n : Nat) : Fld := ⟨FRN_SYN0_STAT n, 9, 1⟩
def FRN_SYN0_STAT_FAILED (n : Nat) : Fld := ⟨FRN_SYN0_STAT n, 10, 1⟩
def FRN_SYN0_STAT_ACTIVE (n : Nat) : Fld := ⟨FRN_SYN0_STAT n, 11, 1⟩
def FRN_SYN0_STAT_STORE_USED (n : Nat) : Fld := ⟨FRN_SYN0_STAT n, 16, 6⟩
def FRN_SYN1_STAT (n : Nat) : Nat := 0x200034 + 0x80000 * n
def FRN_SYN1_STAT_CH (n : Nat) : Fld := ⟨FRN_SYN1_STAT n, 0, 8⟩
def FRN_SYN1_STAT_LOCKED (n : Nat) : Fld := ⟨FRN_SYN1_STAT n, 8, 1⟩
def FRN_SYN1_STAT_CALIB (n : Nat) : Fld := ⟨FRN_SYN1_STAT n, 9, 1⟩
def FRN_SYN1_STAT_FAILED (n : Nat) : Fld := ⟨FRN_SYN1_STAT n, 10, 1⟩
def FRN_SYN1_STAT_ACTIVE (n : Nat) : Fld := ⟨FRN_SYN1_STAT n, 11, 1⟩
def FRN_SYN1_STAT_STORE_USED (n : Nat) : Fld := ⟨FRN_SYN1_STAT n, 16, 6⟩
def FRN_CAP_DLY (n y : Nat) : Nat := 0x200040 + 0x80000 * n + 0x4 * y
def FRN_CAP_DLY_RX_NS (n y : Nat) : Fld := ⟨FRN_CAP_DLY n y, 0, 12⟩
def FRN_CAP_DLY_TX_NS (n y : Nat) : Fld := ⟨FRN_CAP_DLY n y, 16, 12⟩
def FRN_CNT_LATE (n : Nat) : Nat := 0x200060 + 0x80000 * n
def FRN_CNT_SEQ_ERR (n : Nat) : Nat := 0x200064 + 0x80000 * n
def FRN_CNT_UNLOCK (n : Nat) : Nat := 0x200068 + 0x80000 * n
def FRN_CNT_BGSKIP (n : Nat) : Nat := 0x20006C + 0x80000 * n
def FRN_CNT_COAST_DROP (n : Nat) : Nat := 0x200070 + 0x80000 * n
def FRN_FEM_PAT (n y g : Nat) : Nat := 0x200100 + 0x80000 * n + 0x10 * y + 0x4 * g
def FRN_FEM_PAT_STBY (n y g : Nat) : Fld := ⟨FRN_FEM_PAT n y g, 0, 5⟩
def FRN_FEM_PAT_RX (n y g : Nat) : Fld := ⟨FRN_FEM_PAT n y g, 5, 5⟩
def FRN_FEM_PAT_RX_BYP (n y g : Nat) : Fld := ⟨FRN_FEM_PAT n y g, 10, 5⟩
def FRN_FEM_PAT_TX (n y g : Nat) : Fld := ⟨FRN_FEM_PAT n y g, 15, 5⟩

/-! ### The rows: base, strides and counts, RW, W1C, WO and RC bits, reset value -/

def rowsSYS : List RegRow :=
  [⟨0x0, [], 0x0, 0x0, 0x0, 0x0, 0x3E580000 ||| (Config.silicon &&& 0xFFF0)⟩,  -- SYS_ID
  ⟨0x4, [], 0x0, 0x0, 0x0, 0x0, 0x0⟩,  -- SYS_STRAP
  ⟨0x8, [], 0x0, 0x0, 0x0, 0x0, 0x0⟩,  -- SYS_ROLE
  ⟨0xC, [], 0x0, 0x700, 0x0, 0x0, 0x7⟩,  -- SYS_DIE_STAT
  ⟨0x10, [], 0x0, 0x0, 0x0, 0xFFFFFF, 0x0⟩,  -- SYS_LINK_RETRY
  ⟨0x14, [], 0x0, 0x0, 0x0, 0x0, 0x0⟩,  -- SYS_ADDR
  ⟨0x20, [], 0x3, 0x0, 0x0, 0x0, 0x0⟩,  -- SYS_MOTION
  ⟨0x24, [], 0x3, 0x0, 0x0, 0x0, 0x0⟩,  -- SYS_SUPPLY
  ⟨0x30, [], 0xFFFFFFFF, 0x0, 0x0, 0x0, 0x0⟩]  -- SYS_SCRATCH

def rowsPWR : List RegRow :=
  [⟨0x10000, [], 0x3, 0x0, 0x0, 0x0, 0x2⟩,  -- PWR_CTL
  ⟨0x10004, [], 0x0, 0x0, 0x0, 0x0, 0x0⟩,  -- PWR_STAT
  ⟨0x10008, [], 0x0, 0xF, 0x0, 0x0, 0x0⟩,  -- PWR_EVT
  ⟨0x1000C, [], 0x0, 0x0, 0x107, 0x0, 0x0⟩,  -- PWR_CMD
  ⟨0x10010, [], 0x0, 0x0, 0x0, 0x0, 0x0⟩,  -- PWR_RESULT
  ⟨0x10014, [], 0xFFFF, 0x0, 0x0, 0x0, 0x32⟩,  -- PWR_IDLE_HOLD
  ⟨0x10018, [], 0x7, 0x0, 0x0, 0x0, 0x1⟩,  -- PWR_WAKE_CFG
  ⟨0x1001C, [], 0xFFFFFFFF, 0x0, 0x0, 0x0, 0x0⟩,  -- PWR_WAKE_TICK_LO
  ⟨0x10020, [], 0xFFFFFFFF, 0x0, 0x0, 0x0, 0x0⟩,  -- PWR_WAKE_TICK_HI
  ⟨0x10024, [], 0x0, 0x0, 0x0, 0x0, 0x0⟩,  -- PWR_LAST
  ⟨0x10028, [], 0x0, 0x0, 0xFF01, 0x0, 0x0⟩,  -- PWR_RST_CMD
  ⟨0x1002C, [], 0x0, 0x0, 0x0, 0x0, 0x20⟩,  -- PWR_RAIL
  ⟨0x10100, [], 0x0, 0x0, 0x0, 0xFFFFFFFF, 0x0⟩,  -- PWR_CNT_SLEEP
  ⟨0x10104, [], 0x0, 0x0, 0x0, 0xFFFFFFFF, 0x0⟩,  -- PWR_CNT_DEEP
  ⟨0x10108, [], 0x0, 0x0, 0x0, 0xFFFFFFFF, 0x0⟩,  -- PWR_CNT_REFUSED
  ⟨0x1010C, [], 0x0, 0x0, 0x0, 0xFFFFFFFF, 0x0⟩]  -- PWR_CNT_RAIL_FAIL

def rowsFLT : List RegRow :=
  [⟨0x20000, [], 0x1, 0x0, 0x0, 0x0, 0x1⟩,  -- FLT_CTL
  ⟨0x20004, [], 0x0, 0x7, 0x0, 0x0, 0x0⟩,  -- FLT_FLAG
  ⟨0x20008, [], 0x7F00, 0x0, 0x0, 0x0, 0x0⟩,  -- FLT_RING
  ⟨0x2000C, [], 0xFFFF, 0x0, 0x0, 0x0, 0x1E⟩,  -- FLT_RST_GUARD
  ⟨0x20010, [(0x4, 6)], 0x0, 0xFFFFFFFF, 0x0, 0x0, 0x0⟩,  -- FLT_PEND
  ⟨0x20030, [(0x4, 6)], 0xFFFFFFFF, 0x0, 0x0, 0x0, 0xFFFFFFFF⟩,  -- FLT_MASK
  ⟨0x20050, [], 0xFF, 0x0, 0x0, 0x0, 0x0⟩,  -- FLT_SRC_SEL
  ⟨0x20054, [], 0x0, 0x0, 0x0, 0x0, 0x0⟩,  -- FLT_SRC_STAT
  ⟨0x20058, [], 0x0, 0x0, 0x0, 0x0, 0x10001⟩,  -- FLT_SRC_POL
  ⟨0x2005C, [], 0x0, 0x0, 0x1, 0x0, 0x0⟩,  -- FLT_SRC_CMD
  ⟨0x20060, [], 0x6, 0x0, 0x1, 0x0, 0x0⟩,  -- FLT_ERRN_CTL
  ⟨0x20100, [], 0x0, 0x0, 0x0, 0xFFFFFFFF, 0x0⟩,  -- FLT_CNT_EVENTS
  ⟨0x20104, [], 0x0, 0x0, 0x0, 0xFFFFFFFF, 0x0⟩,  -- FLT_CNT_RECOVER
  ⟨0x20108, [], 0x0, 0x0, 0x0, 0xFFFFFFFF, 0x0⟩,  -- FLT_CNT_MERGED
  ⟨0x2010C, [], 0x0, 0x0, 0x0, 0xFFFFFFFF, 0x0⟩,  -- FLT_CNT_OVERFLOW
  ⟨0x20110, [], 0x0, 0x0, 0x0, 0xFFFFFFFF, 0x0⟩]  -- FLT_CNT_SECOND

def rowsITT : List RegRow :=
  [⟨0x30000, [], 0x1, 0x0, 0x0, 0x0, 0x0⟩,  -- ITT_CTL
  ⟨0x30004, [], 0x0, 0x0, 0x0, 0x0, 0x0⟩,  -- ITT_STAT
  ⟨0x30008, [], 0x0, 0xFF, 0x0, 0x0, 0x0⟩,  -- ITT_EVT
  ⟨0x3000C, [], 0x7F, 0x0, 0x0, 0x0, 0x7F⟩,  -- ITT_CFG
  ⟨0x30010, [], 0xFFFFFF, 0x0, 0x0, 0x0, 0x28F5C⟩,  -- ITT_BUDGET
  ⟨0x30014, [], 0xFFFF, 0x0, 0x0, 0x0, 0x40⟩,  -- ITT_PERIOD
  ⟨0x30018, [], 0xFFFF, 0x0, 0x0, 0x0, 0x400⟩,  -- ITT_ROUND_MAX
  ⟨0x3001C, [], 0x0, 0x0, 0x0, 0x0, 0x0⟩,  -- ITT_POS
  ⟨0x30020, [], 0x0, 0x0, 0x0, 0x0, 0x0⟩,  -- ITT_USED
  ⟨0x30024, [], 0x0, 0x0, 0x0, 0x0, 0x0⟩,  -- ITT_RTC_PPB
  ⟨0x30028, [], 0xFFFF, 0x0, 0x0, 0x0, 0x64⟩,  -- ITT_RTC_LIM
  ⟨0x30100, [], 0x0, 0x0, 0x0, 0xFFFFFFFF, 0x0⟩,  -- ITT_CNT_STEP
  ⟨0x30104, [], 0x0, 0x0, 0x0, 0xFFFFFFFF, 0x0⟩,  -- ITT_CNT_WAIT
  ⟨0x30108, [], 0x0, 0x0, 0x0, 0xFFFFFFFF, 0x0⟩]  -- ITT_CNT_FAIL

def rowsSPNa : List RegRow :=
  [⟨0x40000, [], 0x3, 0x0, 0x4, 0x0, 0x0⟩,  -- SPN_CTL
  ⟨0x40004, [], 0x0, 0x0, 0x0, 0x0, 0x0⟩,  -- SPN_STAT
  ⟨0x40008, [], 0x0, 0x7FF, 0x0, 0x0, 0x0⟩,  -- SPN_EVT
  ⟨0x40010, [], 0x3FFFFFFF, 0x0, 0x0, 0x0, 0x0⟩,  -- SPN_EPOCH_NS
  ⟨0x40014, [], 0xFFFFFFFF, 0x0, 0x0, 0x0, 0x0⟩,  -- SPN_EPOCH_SEC_LO
  ⟨0x40018, [], 0xFFFF, 0x0, 0x0, 0x0, 0x0⟩,  -- SPN_EPOCH_SEC_HI
  ⟨0x40030, [], 0x0, 0x0, 0x0, 0x0, 0x0⟩,  -- SPN_NOW_NS
  ⟨0x40034, [], 0x0, 0x0, 0x0, 0x0, 0x0⟩,  -- SPN_NOW_SEC_LO
  ⟨0x40038, [], 0x0, 0x0, 0x0, 0x0, 0x0⟩,  -- SPN_NOW_SEC_HI
  ⟨0x4003C, [], 0x0, 0x0, 0x0, 0x0, 0x0⟩,  -- SPN_NOW_TURN_LO
  ⟨0x40040, [], 0x0, 0x0, 0x0, 0x0, 0x0⟩,  -- SPN_NOW_TURN_HI
  ⟨0x40044, [], 0x0, 0x0, 0x0, 0x0, 0x0⟩,  -- SPN_NOW_ANGLE
  ⟨0x40050, [], 0x0, 0x0, 0x0, 0x0, 0x0⟩,  -- SPN_TL_NS
  ⟨0x40054, [], 0x0, 0x0, 0x0, 0x0, 0x0⟩,  -- SPN_TL_SEC_LO
  ⟨0x40058, [], 0x0, 0x0, 0x0, 0x0, 0x0⟩,  -- SPN_TL_SEC_HI
  ⟨0x4005C, [], 0x0, 0x0, 0x0, 0x0, 0x0⟩,  -- SPN_TL_TURN_LO
  ⟨0x40060, [], 0x0, 0x0, 0x0, 0x0, 0x0⟩,  -- SPN_TL_TURN_HI
  ⟨0x40064, [], 0x0, 0x0, 0x0, 0x0, 0x0⟩,  -- SPN_TL_NARROW
  ⟨0x40070, [], 0xFFFF77, 0x0, 0x0, 0x0, 0x0⟩,  -- SPN_SRC
  ⟨0x40074, [], 0xFFFFFF, 0x0, 0x0, 0x0, 0x320⟩,  -- SPN_JUMP_THR
  ⟨0x40078, [], 0xF1F0FFF, 0x0, 0x0, 0x0, 0x4100010⟩,  -- SPN_LOCK_CFG
  ⟨0x4007C, [], 0x7F, 0x0, 0x0, 0x0, 0x5⟩,  -- SPN_SERVO
  ⟨0x40080, [], 0xFFFFFF, 0x0, 0x0, 0x0, 0x50⟩,  -- SPN_HOLD_LIMIT
  ⟨0x40084, [], 0xFFFF, 0x0, 0x0, 0x0, 0x1F4⟩]  -- SPN_HOLD_PPB

def rowsSPNb : List RegRow :=
  [⟨0x40088, [], 0xFFFF, 0x0, 0x0, 0x0, 0x10⟩,  -- SPN_SWITCH_THR
  ⟨0x40090, [], 0x0, 0x0, 0x0, 0x0, 0x0⟩,  -- SPN_OFS_A
  ⟨0x40094, [], 0x0, 0x0, 0x0, 0x0, 0x0⟩,  -- SPN_OFS_B
  ⟨0x40098, [], 0x0, 0x0, 0x0, 0x0, 0x0⟩,  -- SPN_FREQ
  ⟨0x400A0, [], 0xFFFFFFFF, 0x0, 0x0, 0x0, 0x0⟩,  -- SPN_PPS_LABEL_LO
  ⟨0x400A4, [], 0xFFFF, 0x0, 0x0, 0x0, 0x0⟩,  -- SPN_PPS_LABEL_HI
  ⟨0x400A8, [], 0x1, 0x0, 0x0, 0x0, 0x0⟩,  -- SPN_PPS_CFG
  ⟨0x400B0, [], 0xFFFFFFFF, 0x0, 0x0, 0x0, 0x0⟩,  -- SPN_PTM_MAP_LO
  ⟨0x400B4, [], 0xFFFFFFFF, 0x0, 0x0, 0x0, 0x0⟩,  -- SPN_PTM_MAP_HI
  ⟨0x400B8, [], 0xFF, 0x0, 0x0, 0x0, 0x10⟩,  -- SPN_PTM_CFG
  ⟨0x400C0, [], 0x0, 0x0, 0x3, 0x0, 0x0⟩,  -- SPN_STEP_CMD
  ⟨0x400C4, [], 0xFFFFFFFF, 0x0, 0x0, 0x0, 0x0⟩,  -- SPN_STEP_PEND
  ⟨0x400C8, [], 0x0, 0x0, 0x0, 0x0, 0x0⟩,  -- SPN_STEP_TURN_LO
  ⟨0x400CC, [], 0x0, 0x0, 0x0, 0x0, 0x0⟩,  -- SPN_STEP_TURN_HI
  ⟨0x400D0, [], 0xFF, 0x0, 0x0, 0x0, 0x32⟩,  -- SPN_EST_PPM
  ⟨0x400D4, [], 0x0, 0x0, 0x0, 0x0, 0x0⟩,  -- SPN_EST_ERR
  ⟨0x400D8, [], 0x0, 0x0, 0x0, 0x0, 0x0⟩,  -- SPN_WAKE_DIFF
  ⟨0x400E0, [], 0x0, 0x0, 0x0, 0xFFFFFFFF, 0x0⟩,  -- SPN_CNT_REFUSED
  ⟨0x400E4, [], 0x0, 0x0, 0x0, 0xFFFFFFFF, 0x0⟩,  -- SPN_CNT_STEP
  ⟨0x400E8, [], 0x0, 0x0, 0x0, 0xFFFFFFFF, 0x0⟩,  -- SPN_CNT_STAMP_BAD
  ⟨0x40100, [(0x20, 4)], 0x7, 0x0, 0x0, 0x0, 0x0⟩,  -- SPN_TTO_CTL
  ⟨0x40104, [(0x20, 4)], 0x3FFFFFFF, 0x0, 0x0, 0x0, 0x0⟩,  -- SPN_TTO_START_NS
  ⟨0x40108, [(0x20, 4)], 0xFFFFFFFF, 0x0, 0x0, 0x0, 0x0⟩,  -- SPN_TTO_START_SEC_LO
  ⟨0x4010C, [(0x20, 4)], 0xFFFF, 0x0, 0x0, 0x0, 0x0⟩]  -- SPN_TTO_START_SEC_HI

def rowsSPNc : List RegRow :=
  [⟨0x40110, [(0x20, 4)], 0xFFFFFFFF, 0x0, 0x0, 0x0, 0x0⟩,  -- SPN_TTO_PERIOD
  ⟨0x40114, [(0x20, 4)], 0xFFFF, 0x0, 0x0, 0x0, 0x10⟩,  -- SPN_TTO_WIDTH
  ⟨0x40118, [(0x20, 4)], 0x0, 0x0, 0x0, 0xFFFF, 0x0⟩]  -- SPN_TTO_MISSED

def rowsSPN : List RegRow := rowsSPNa ++ rowsSPNb ++ rowsSPNc

def rowsRTC : List RegRow :=
  [⟨0x50000, [], 0x0, 0x0, 0x0, 0x0, 0x0⟩,  -- RTC_STAT
  ⟨0x50004, [], 0x0, 0x3, 0x0, 0x0, 0x3⟩,  -- RTC_FLAG
  ⟨0x50008, [], 0x0, 0x3F, 0x0, 0x0, 0x0⟩,  -- RTC_EVT
  ⟨0x50010, [], 0x7F, 0x0, 0x0, 0x0, 0x0⟩,  -- RTC_SEC
  ⟨0x50014, [], 0x7F, 0x0, 0x0, 0x0, 0x0⟩,  -- RTC_MIN
  ⟨0x50018, [], 0x3F, 0x0, 0x0, 0x0, 0x0⟩,  -- RTC_HOUR
  ⟨0x5001C, [], 0x7, 0x0, 0x0, 0x0, 0x6⟩,  -- RTC_WDAY
  ⟨0x50020, [], 0x3F, 0x0, 0x0, 0x0, 0x1⟩,  -- RTC_DATE
  ⟨0x50024, [], 0x1F, 0x0, 0x0, 0x0, 0x1⟩,  -- RTC_MONTH
  ⟨0x50028, [], 0xFF, 0x0, 0x0, 0x0, 0x20⟩,  -- RTC_CENTURY
  ⟨0x5002C, [], 0xFF, 0x0, 0x0, 0x0, 0x0⟩,  -- RTC_YEAR
  ⟨0x50030, [], 0x0, 0x0, 0x0, 0x0, 0x0⟩,  -- RTC_SUBSEC
  ⟨0x50034, [], 0x0, 0x0, 0x33, 0x0, 0x0⟩,  -- RTC_SET_CMD
  ⟨0x50038, [], 0x0, 0x0, 0xFFFF, 0x0, 0x0⟩,  -- RTC_SHIFT
  ⟨0x50040, [], 0x0, 0x0, 0x0, 0x0, 0x0⟩,  -- RTC_RAW_LO
  ⟨0x50044, [], 0x0, 0x0, 0x0, 0x0, 0x0⟩]  -- RTC_RAW_HI

def rowsHIFa : List RegRow :=
  [⟨0x60000, [], 0x0, 0x0, 0x0, 0x0, 0x0⟩,  -- HIF_STAT
  ⟨0x60004, [], 0x0, 0xFF, 0x0, 0x0, 0x0⟩,  -- HIF_EVT
  ⟨0x60008, [], 0x0, 0x0, 0xFFFFFFFF, 0x0, 0x0⟩,  -- HIF_HB
  ⟨0x6000C, [], 0xFFFF, 0x0, 0x0, 0x0, 0x0⟩,  -- HIF_HB_CFG
  ⟨0x60010, [], 0x3F3F, 0x0, 0x0, 0x0, 0x100⟩,  -- HIF_VEC
  ⟨0x60014, [], 0xFF, 0x0, 0x0, 0x0, 0x32⟩,  -- HIF_DMA_TMO
  ⟨0x60020, [], 0xFFFFF000, 0x0, 0x0, 0x0, 0x0⟩,  -- HIF_STS_BASE_LO
  ⟨0x60024, [], 0xFFFFFFFF, 0x0, 0x0, 0x0, 0x0⟩,  -- HIF_STS_BASE_HI
  ⟨0x60028, [], 0x1F, 0x0, 0x0, 0x0, 0x6⟩,  -- HIF_STS_CFG
  ⟨0x6002C, [], 0x0, 0x0, 0x0, 0x0, 0x0⟩,  -- HIF_STS_HEAD
  ⟨0x60030, [], 0xFFF, 0x0, 0x0, 0x0, 0x0⟩,  -- HIF_STS_TAIL
  ⟨0x60100, [], 0x0, 0x0, 0x0, 0xFFFFFFFF, 0x0⟩,  -- HIF_CNT_RX_NODESC
  ⟨0x60104, [], 0x0, 0x0, 0x0, 0xFFFFFFFF, 0x0⟩,  -- HIF_CNT_RX_HOLD_TMO
  ⟨0x60108, [], 0x0, 0x0, 0x0, 0xFFFFFFFF, 0x0⟩,  -- HIF_CNT_TX_BAD
  ⟨0x6010C, [], 0x0, 0x0, 0x0, 0xFFFFFFFF, 0x0⟩,  -- HIF_CNT_DMA_ERR
  ⟨0x60110, [], 0x0, 0x0, 0x0, 0xFFFFFFFF, 0x0⟩,  -- HIF_CNT_HSP_ERR
  ⟨0x60114, [], 0x0, 0x0, 0x0, 0xFFFFFFFF, 0x0⟩,  -- HIF_CNT_ACCESS
  ⟨0x60118, [], 0x0, 0x0, 0x0, 0xFFFFFFFF, 0x0⟩,  -- HIF_CNT_STS_DROP
  ⟨0x61000, [(0x40, 32)], 0xFFF7FFF7, 0x0, 0x0, 0x0, 0x10880⟩,  -- HIF_Q_CFG
  ⟨0x61004, [(0x40, 32)], 0xFFFF, 0x0, 0x0, 0x0, 0x1F4⟩,  -- HIF_Q_HOLD
  ⟨0x61008, [(0x40, 32)], 0xFFFFF000, 0x0, 0x0, 0x0, 0x0⟩,  -- HIF_Q_RX_BASE_LO
  ⟨0x6100C, [(0x40, 32)], 0xFFFFFFFF, 0x0, 0x0, 0x0, 0x0⟩,  -- HIF_Q_RX_BASE_HI
  ⟨0x61010, [(0x40, 32)], 0x7FFF, 0x0, 0x0, 0x0, 0x0⟩,  -- HIF_Q_RX_TAIL
  ⟨0x61014, [(0x40, 32)], 0x0, 0x0, 0x0, 0x0, 0x0⟩]  -- HIF_Q_RX_HEAD

def rowsHIFb : List RegRow :=
  [⟨0x61018, [(0x40, 32)], 0xFFFFF000, 0x0, 0x0, 0x0, 0x0⟩,  -- HIF_Q_TX_BASE_LO
  ⟨0x6101C, [(0x40, 32)], 0xFFFFFFFF, 0x0, 0x0, 0x0, 0x0⟩,  -- HIF_Q_TX_BASE_HI
  ⟨0x61020, [(0x40, 32)], 0x7FFF, 0x0, 0x0, 0x0, 0x0⟩,  -- HIF_Q_TX_TAIL
  ⟨0x61024, [(0x40, 32)], 0x0, 0x0, 0x0, 0x0, 0x0⟩,  -- HIF_Q_TX_HEAD
  ⟨0x61028, [(0x40, 32)], 0xFFFFFFFF, 0x0, 0x0, 0x0, 0x1⟩,  -- HIF_Q_IRQ_RX
  ⟨0x6102C, [(0x40, 32)], 0xFFFFFFFF, 0x0, 0x0, 0x0, 0x1⟩,  -- HIF_Q_IRQ_TX
  ⟨0x61030, [(0x40, 32)], 0x0, 0x3, 0x0, 0x0, 0x0⟩]  -- HIF_Q_STAT

def rowsHIF : List RegRow := rowsHIFa ++ rowsHIFb

def rowsUPDa : List RegRow :=
  [⟨0x70000, [], 0x0, 0x0, 0x0, 0x0, 0x0⟩,  -- UPD_STAT
  ⟨0x70004, [], 0x0, 0xFF, 0x0, 0x0, 0x0⟩,  -- UPD_EVT
  ⟨0x70008, [], 0x0, 0x0, 0xF, 0x0, 0x0⟩,  -- UPD_SESS_CMD
  ⟨0x7000C, [], 0x0, 0x0, 0x0, 0x0, 0x0⟩,  -- UPD_SESS_ID
  ⟨0x70010, [], 0x7FFFFF, 0x0, 0x0, 0x0, 0x0⟩,  -- UPD_SESS_TOTAL
  ⟨0x70014, [], 0x0, 0x0, 0x0, 0x0, 0x0⟩,  -- UPD_SESS_NEXT
  ⟨0x70018, [], 0x7FFFFF, 0x0, 0x0, 0x0, 0x0⟩,  -- UPD_BLK_OFS
  ⟨0x7001C, [], 0x0, 0x0, 0x80001FFF, 0x0, 0x0⟩,  -- UPD_BLK_CMD
  ⟨0x70020, [], 0x0, 0x0, 0x0, 0x0, 0x0⟩,  -- UPD_RESULT
  ⟨0x70024, [], 0xFFFFFFFF, 0x0, 0x0, 0x0, 0x0⟩,  -- UPD_TURN_LO
  ⟨0x70028, [], 0xFF, 0x0, 0x0, 0x0, 0x0⟩,  -- UPD_TURN_HI
  ⟨0x7002C, [], 0xFFFFFF, 0x0, 0x0, 0x0, 0x100000⟩,  -- UPD_HO_LEAD
  ⟨0x70030, [], 0xFFFF, 0x0, 0x0, 0x0, 0x3C⟩,  -- UPD_SESS_TMO
  ⟨0x70034, [], 0xFFFF, 0x0, 0x0, 0x0, 0x258⟩,  -- UPD_CONFIRM_TMO
  ⟨0x70038, [], 0x0, 0x0, 0x0, 0x0, 0x0⟩,  -- UPD_CONFIRM_LEFT
  ⟨0x7003C, [], 0x0, 0x0, 0x3, 0x0, 0x0⟩,  -- UPD_CMD
  ⟨0x70040, [], 0x0, 0x0, 0x0, 0x0, 0x0⟩,  -- UPD_BOOT
  ⟨0x70044, [], 0x0, 0x0, 0x0, 0x0, 0x0⟩,  -- UPD_RUN_ID
  ⟨0x70048, [], 0x0, 0x0, 0x0, 0x0, 0x0⟩,  -- UPD_RUN_VER
  ⟨0x7004C, [], 0x0, 0x0, 0x0, 0x0, 0x0⟩,  -- UPD_VER_FLOOR
  ⟨0x70050, [], 0x0, 0x0, 0x0, 0x0, 0x0⟩,  -- UPD_LOCK
  ⟨0x70054, [], 0x0, 0x0, 0x0, 0x0, 0x0⟩,  -- UPD_TOKEN_CTR
  ⟨0x70058, [], 0x0, 0x0, 0x0, 0x0, Config.uid.truncate 32⟩,  -- UPD_UID_LO
  ⟨0x7005C, [], 0x0, 0x0, 0x0, 0x0, (Config.uid >>> 32).truncate 32⟩]  -- UPD_UID_HI

def rowsUPDb : List RegRow :=
  [⟨0x70060, [], 0x0, 0x0, 0x1, 0x0, 0x0⟩,  -- UPD_TOKEN_CMD
  ⟨0x70064, [], 0x0, 0x0, 0x0, 0x0, 0x0⟩,  -- UPD_TOKEN_STAT
  ⟨0x70100, [], 0x0, 0x0, 0x0, 0xFFFFFFFF, 0x0⟩,  -- UPD_CNT_REFUSED
  ⟨0x70104, [], 0x0, 0x0, 0x0, 0xFFFFFFFF, 0x0⟩,  -- UPD_CNT_RECLAIM
  ⟨0x70108, [], 0x0, 0x0, 0x0, 0xFFFFFFFF, 0x0⟩,  -- UPD_CNT_HO_DROP
  ⟨0x7010C, [], 0x0, 0x0, 0x0, 0xFFFFFFFF, 0x0⟩,  -- UPD_CNT_TOV
  ⟨0x70110, [], 0x0, 0x0, 0x0, 0xFFFFFFFF, 0x0⟩]  -- UPD_CNT_FALLBACK

def rowsUPD : List RegRow := rowsUPDa ++ rowsUPDb

def rowsKEY : List RegRow :=
  [⟨0x80000, [], 0x0, 0x0, 0x0, 0x0, 0x0⟩,  -- KEY_STAT
  ⟨0x80004, [], 0x0, 0x3, 0x0, 0x0, 0x0⟩,  -- KEY_EVT
  ⟨0x80008, [], 0xF3FFF, 0x0, 0x0, 0x0, 0x0⟩,  -- KEY_SEL
  ⟨0x8000C, [], 0x0, 0x0, 0xF, 0x0, 0x0⟩,  -- KEY_CMD
  ⟨0x80010, [], 0x0, 0x0, 0x0, 0x0, 0x0⟩,  -- KEY_INFO
  ⟨0x80014, [], 0x0, 0x0, 0x0, 0x0, 0x0⟩,  -- KEY_INFO_TXPN_LO
  ⟨0x80018, [], 0x0, 0x0, 0x0, 0x0, 0x0⟩,  -- KEY_INFO_TXPN_HI
  ⟨0x8001C, [], 0x0, 0x0, 0x0, 0x0, 0x0⟩,  -- KEY_INFO_RXPN_LO
  ⟨0x80020, [], 0x0, 0x0, 0x0, 0x0, 0x0⟩,  -- KEY_INFO_RXPN_HI
  ⟨0x80024, [], 0x0, 0x0, 0x0, 0x0, 0x0⟩,  -- KEY_INFO_MGPN_LO
  ⟨0x80028, [], 0x0, 0x0, 0x0, 0x0, 0x0⟩,  -- KEY_INFO_MGPN_HI
  ⟨0x80040, [(0x4, 8)], 0x0, 0x0, 0xFFFFFFFF, 0x0, 0x0⟩,  -- KEY_DATA
  ⟨0x80100, [], 0x0, 0x0, 0x0, 0xFFFFFFFF, 0x0⟩,  -- KEY_CNT_INSTALL
  ⟨0x80104, [], 0x0, 0x0, 0x0, 0xFFFFFFFF, 0x0⟩,  -- KEY_CNT_REFUSED
  ⟨0x80108, [], 0x0, 0x0, 0x0, 0xFFFFFFFF, 0x0⟩]  -- KEY_CNT_EMPTY_REQ

def rowsCIP : List RegRow :=
  [⟨0x90000, [], 0x7F, 0x0, 0x0, 0x0, 0x7F⟩,  -- CIP_CTL
  ⟨0x90004, [], 0x0, 0x0, 0x0, 0x0, 0x0⟩,  -- CIP_STAT
  ⟨0x90008, [], 0x0, 0x1FF, 0x0, 0x0, 0x0⟩,  -- CIP_EVT
  ⟨0x90010, [(0x4, 4)], 0x0, 0x0, 0x0, 0xFFFFFFFF, 0x0⟩,  -- CIP_CNT_MISMATCH
  ⟨0x90100, [], 0x0, 0x0, 0x0, 0xFFFFFFFF, 0x0⟩,  -- CIP_CNT_GIVEUP
  ⟨0x90104, [], 0x0, 0x0, 0x0, 0xFFFFFFFF, 0x0⟩,  -- CIP_CNT_NOKEY
  ⟨0x90108, [], 0x0, 0x0, 0x0, 0xFFFFFFFF, 0x0⟩,  -- CIP_CNT_MIC
  ⟨0x9010C, [], 0x0, 0x0, 0x0, 0xFFFFFFFF, 0x0⟩,  -- CIP_CNT_REPLAY
  ⟨0x90110, [], 0x0, 0x0, 0x0, 0xFFFFFFFF, 0x0⟩,  -- CIP_CNT_PN_END
  ⟨0x90114, [], 0x0, 0x0, 0x0, 0xFFFFFFFF, 0x0⟩,  -- CIP_CNT_SUSPEND
  ⟨0x90118, [], 0x0, 0x0, 0x0, 0xFFFFFFFF, 0x0⟩]  -- CIP_CNT_UNPROT

def rowsTSKa : List RegRow :=
  [⟨0xA0000, [], 0x3, 0x0, 0x0, 0x0, 0x1⟩,  -- TSK_CTL
  ⟨0xA0004, [], 0x0, 0x0, 0x0, 0x0, 0x1000⟩,  -- TSK_STAT
  ⟨0xA0008, [], 0x0, 0x1FF, 0x0, 0x0, 0x0⟩,  -- TSK_EVT
  ⟨0xA000C, [], 0x0, 0x0, 0x0, 0x0, 0x0⟩,  -- TSK_RUN
  ⟨0xA0010, [], 0x0, 0x0, 0x0, 0x0, 0x0⟩,  -- TSK_TRC_BASE
  ⟨0xA0014, [], 0x1FF, 0x0, 0x0, 0x0, 0xFF⟩,  -- TSK_TRC_CFG
  ⟨0xA0018, [], 0xFFFFFFFF, 0x0, 0x0, 0x0, 0xFFFFFFFF⟩,  -- TSK_TRC_CLS
  ⟨0xA001C, [], 0x0, 0x0, 0x0, 0x0, 0x0⟩,  -- TSK_TRC_WR
  ⟨0xA0020, [], 0xFFFFFFFF, 0x0, 0x0, 0x0, 0x0⟩,  -- TSK_POST_ARG0_LO
  ⟨0xA0024, [], 0xFFFFFFFF, 0x0, 0x0, 0x0, 0x0⟩,  -- TSK_POST_ARG0_HI
  ⟨0xA0028, [], 0xFFFFFFFF, 0x0, 0x0, 0x0, 0x0⟩,  -- TSK_POST_ARG1_LO
  ⟨0xA002C, [], 0xFFFFFFFF, 0x0, 0x0, 0x0, 0x0⟩,  -- TSK_POST_ARG1_HI
  ⟨0xA0030, [], 0x0, 0x0, 0x11F, 0x0, 0x0⟩,  -- TSK_POST_CMD
  ⟨0xA0034, [], 0x0, 0x0, 0x0, 0x0, 0x0⟩,  -- TSK_POST_STAT
  ⟨0xA0038, [], 0x0, 0x0, 0x0, 0x0, 0x0⟩,  -- TSK_EVQ
  ⟨0xA0040, [], 0x1FFF, 0x0, 0x0, 0x0, 0xC00⟩,  -- TSK_QUOTA
  ⟨0xA0044, [], 0x1FFF, 0x0, 0x0, 0x0, 0x200⟩,  -- TSK_QUOTA
  ⟨0xA0048, [], 0x1FFF, 0x0, 0x0, 0x0, 0x100⟩,  -- TSK_QUOTA
  ⟨0xA004C, [], 0x1FFF, 0x0, 0x0, 0x0, 0x80⟩,  -- TSK_QUOTA
  ⟨0xA0050, [], 0x1FFF, 0x0, 0x0, 0x0, 0x200⟩,  -- TSK_QUOTA
  ⟨0xA0060, [(0x4, 8)], 0x0, 0x0, 0x0, 0x0, 0x0⟩,  -- TSK_READY
  ⟨0xA0080, [(0x4, 32)], 0x0, 0x0, 0x0, 0x0, 0x0⟩,  -- TSK_CLASS
  ⟨0xA0100, [], 0x0, 0x0, 0x0, 0xFFFFFFFF, 0x0⟩,  -- TSK_CNT_TASK
  ⟨0xA0104, [], 0x0, 0x0, 0x0, 0xFFFFFFFF, 0x0⟩]  -- TSK_CNT_BP

def rowsTSKb : List RegRow :=
  [⟨0xA0108, [], 0x0, 0x0, 0x0, 0xFFFFFFFF, 0x0⟩,  -- TSK_CNT_EVT_DROP
  ⟨0xA010C, [], 0x0, 0x0, 0x0, 0xFFFFFFFF, 0x0⟩,  -- TSK_CNT_TMR_LATE
  ⟨0xA0110, [], 0x0, 0x0, 0x0, 0xFFFFFFFF, 0x0⟩,  -- TSK_CNT_LOST
  ⟨0xA0114, [], 0x0, 0x0, 0x0, 0xFFFFFFFF, 0x0⟩,  -- TSK_CNT_POST_REF
  ⟨0xA0118, [], 0x0, 0x0, 0x0, 0xFFFFFFFF, 0x0⟩,  -- TSK_CNT_LOOP_DROP
  ⟨0xA011C, [], 0x0, 0x0, 0x0, 0xFFFFFFFF, 0x0⟩]  -- TSK_CNT_TRC_DROP

def rowsTSK : List RegRow := rowsTSKa ++ rowsTSKb

def rowsGGE : List RegRow :=
  [⟨0xB0000, [(0x1000, 16)], 0x3, 0x0, 0x4, 0x0, 0x3⟩,  -- GGE_CTL
  ⟨0xB0004, [(0x1000, 16)], 0x0, 0x0, 0x0, 0x0, 0x2⟩,  -- GGE_STAT
  ⟨0xB0008, [(0x1000, 16)], 0x0, 0x7F, 0x0, 0x0, 0x0⟩,  -- GGE_EVT
  ⟨0xB000C, [(0x1000, 16)], 0x0, 0x0, 0x0, 0x0, 0x0⟩,  -- GGE_FAULT
  ⟨0xB0010, [(0x1000, 16)], 0x0, 0x0, 0x0, 0xFFFFFFFF, 0x0⟩,  -- GGE_CNT_TASK
  ⟨0xB0014, [(0x1000, 16)], 0x0, 0x0, 0x0, 0xFFFFFFFF, 0x0⟩,  -- GGE_CNT_FAULT
  ⟨0xB0018, [(0x1000, 16)], 0x0, 0x0, 0x0, 0xFFFFFFFF, 0x0⟩,  -- GGE_CNT_ECC
  ⟨0xB0020, [(0x1000, 16)], 0x0, 0x0, 0x0, 0xFFFFFFFF, 0x0⟩,  -- GGE_CNT_WORDS_LO
  ⟨0xB0024, [(0x1000, 16)], 0x0, 0x0, 0x0, 0xFFFFFFFF, 0x0⟩,  -- GGE_CNT_WORDS_HI
  ⟨0xB0100, [(0x1000, 16), (0x10, 4)], 0x0, 0x0, 0x0, 0x0, 0x0⟩,  -- GGE_THR_STAT
  ⟨0xB0104, [(0x1000, 16), (0x10, 4)], 0x0, 0x0, 0x0, 0x0, 0x0⟩]  -- GGE_THR_SEQ

def rowsCHKa : List RegRow :=
  [⟨0xC0000, [], 0x0, 0x0, 0x0, 0x0, 0x0⟩,  -- CHK_STAT
  ⟨0xC0004, [], 0x0, 0x1F, 0x0, 0x0, 0x0⟩,  -- CHK_EVT
  ⟨0xC0008, [], 0x0, 0x0, 0x0, 0x0, 0x0⟩,  -- CHK_DRAM_CNT
  ⟨0xC000C, [], 0x0, 0x0, 0x0, 0x0, 0x0⟩,  -- CHK_FREE_DRAM
  ⟨0xC0010, [], 0x0, 0x0, 0x0, 0x0, 0x800⟩,  -- CHK_FREE_ODIE
  ⟨0xC0014, [], 0xBFF, 0x0, 0x0, 0x0, 0xBFF⟩,  -- CHK_TIER
  ⟨0xC0018, [], 0x1FFFFF, 0x0, 0x0, 0x0, 0x1000⟩,  -- CHK_RSV
  ⟨0xC001C, [], 0x1FFFFF, 0x0, 0x0, 0x0, 0x400⟩,  -- CHK_LOW
  ⟨0xC0020, [], 0x0, 0x0, 0x1, 0x0, 0x0⟩,  -- CHK_BOOK_CMD
  ⟨0xC0024, [], 0x0, 0x0, 0x0, 0x0, 0x0⟩,  -- CHK_BOOK_TICK_LO
  ⟨0xC0028, [], 0x0, 0x0, 0x0, 0x0, 0x0⟩,  -- CHK_BOOK_TICK_HI
  ⟨0xC0100, [], 0x0, 0x0, 0x0, 0xFFFFFFFF, 0x0⟩,  -- CHK_CNT_ALLOC_FAIL
  ⟨0xC0104, [], 0x0, 0x0, 0x0, 0xFFFFFFFF, 0x0⟩,  -- CHK_CNT_BAD_REL
  ⟨0xC0108, [], 0x0, 0x0, 0x0, 0xFFFFFFFF, 0x0⟩,  -- CHK_CNT_SPILL_DROP
  ⟨0xC010C, [], 0x0, 0x0, 0x0, 0xFFFFFFFF, 0x0⟩,  -- CHK_CNT_CRED_LOST
  ⟨0xC0200, [], 0x0, 0x0, 0x0, 0x0, 0x800⟩,  -- CHK_BK_FREE_ODIE
  ⟨0xC0204, [], 0x0, 0x0, 0x0, 0x0, 0x0⟩,  -- CHK_BK_FREE_DRAM
  ⟨0xC0208, [], 0x0, 0x0, 0x0, 0x0, 0x0⟩,  -- CHK_BK_EXTRA
  ⟨0xC0210, [(0x4, 12)], 0x0, 0x0, 0x0, 0x0, 0x0⟩,  -- CHK_BK_OWN
  ⟨0xC0240, [(0x4, 3)], 0x0, 0x0, 0x0, 0x0, 0x2000⟩,  -- CHK_BK_CRED
  ⟨0xC0250, [], 0x0, 0x0, 0x0, 0x0, 0x1000⟩,  -- CHK_BK_TASK_A
  ⟨0xC0254, [], 0x0, 0x0, 0x0, 0x0, 0x0⟩,  -- CHK_BK_TASK_B
  ⟨0xC0258, [], 0x0, 0x0, 0x0, 0x0, 0x2000⟩,  -- CHK_BK_ROB
  ⟨0xC025C, [], 0x0, 0x0, 0x0, 0x0, 0x0⟩]  -- CHK_BK_ROB_REDISP

def rowsCHKb : List RegRow :=
  [⟨0xC0260, [], 0x0, 0x0, 0x0, 0x0, 0x20000⟩,  -- CHK_BK_MLK
  ⟨0xC0264, [], 0x0, 0x0, 0x0, 0x0, 0x1000⟩,  -- CHK_BK_SORUS
  ⟨0xC0268, [], 0x0, 0x0, 0x0, 0x0, 0x4000⟩,  -- CHK_BK_KEY_A
  ⟨0xC026C, [], 0x0, 0x0, 0x0, 0x0, 0x0⟩,  -- CHK_BK_KEY_B
  ⟨0xC0300, [(0x4, 32)], 0x0, 0x0, 0x0, 0x0, 0x0⟩]  -- CHK_BK_DESC

def rowsCHK : List RegRow := rowsCHKa ++ rowsCHKb

def rowsPRS : List RegRow :=
  [⟨0xD0000, [], 0x7, 0x0, 0x0, 0x0, 0x6⟩,  -- PRS_CTL
  ⟨0xD0008, [], 0x0, 0x1F, 0x0, 0x0, 0x0⟩,  -- PRS_EVT
  ⟨0xD000C, [], 0x0, 0x0, 0x0, 0x0, 0x0⟩,  -- PRS_TBL_BASE
  ⟨0xD0010, [], 0xFFFFFFFF, 0x0, 0x0, 0x0, 0xFFFFFFFF⟩,  -- PRS_EM_MASK_LO
  ⟨0xD0014, [], 0xFFFF, 0x0, 0x0, 0x0, 0xFFFF⟩,  -- PRS_EM_MASK_HI
  ⟨0xD0018, [], 0x0, 0x0, 0x0, 0x0, 0x0⟩,  -- PRS_EM_STAT
  ⟨0xD0020, [], 0x0, 0x0, 0x3FFF7, 0x0, 0x0⟩,  -- PRS_TBL_CMD
  ⟨0xD0024, [], 0x0, 0x0, 0x0, 0x0, 0x0⟩,  -- PRS_TBL_STAT
  ⟨0xD0040, [(0x8, 8)], 0xF1F01, 0x0, 0x0, 0x0, 0x1⟩,  -- PRS_EXC_CFG
  ⟨0xD0044, [(0x8, 8)], 0xFFFFFFFF, 0x0, 0x0, 0x0, 0x40002710⟩,  -- PRS_EXC_RATE
  ⟨0xD0100, [(0x4, 8)], 0x0, 0x0, 0x0, 0xFFFFFFFF, 0x0⟩,  -- PRS_CNT_EXC
  ⟨0xD0120, [(0x4, 8)], 0x0, 0x0, 0x0, 0xFFFFFFFF, 0x0⟩,  -- PRS_CNT_EXC_DROP
  ⟨0xD0140, [], 0x0, 0x0, 0x0, 0xFFFFFFFF, 0x0⟩,  -- PRS_CNT_PKT
  ⟨0xD0144, [], 0x0, 0x0, 0x0, 0xFFFFFFFF, 0x0⟩,  -- PRS_CNT_DROP
  ⟨0xD0148, [], 0x0, 0x0, 0x0, 0xFFFFFFFF, 0x0⟩,  -- PRS_CNT_EM_HIT
  ⟨0xD014C, [], 0x0, 0x0, 0x0, 0xFFFFFFFF, 0x0⟩,  -- PRS_CNT_WC_HIT
  ⟨0xD0200, [(0x8, 16)], 0xFFFFFFFF, 0x0, 0x0, 0x0, 0x0⟩,  -- PRS_HPROF_LO
  ⟨0xD0204, [(0x8, 16)], 0xFFFF, 0x0, 0x0, 0x0, 0x0⟩]  -- PRS_HPROF_HI

def rowsROB : List RegRow :=
  [⟨0xE0004, [], 0x0, 0x0, 0x0, 0x0, 0x2000⟩,  -- ROB_STAT
  ⟨0xE0008, [], 0x0, 0xF, 0x0, 0x0, 0x0⟩,  -- ROB_EVT
  ⟨0xE000C, [], 0xF, 0x0, 0x0, 0x0, 0xC⟩,  -- ROB_CFG
  ⟨0xE0010, [], 0xFFFF, 0x0, 0x0, 0x0, 0x7D0⟩,  -- ROB_AGE
  ⟨0xE0014, [], 0x0, 0x0, 0x0, 0x0, 0x0⟩,  -- ROB_REDISP
  ⟨0xE0018, [], 0x0, 0x0, 0x0, 0x0, 0x0⟩,  -- ROB_SEQ
  ⟨0xE0100, [], 0x0, 0x0, 0x0, 0xFFFFFFFF, 0x0⟩,  -- ROB_CNT_REL
  ⟨0xE0104, [], 0x0, 0x0, 0x0, 0xFFFFFFFF, 0x0⟩,  -- ROB_CNT_REDISP
  ⟨0xE0108, [], 0x0, 0x0, 0x0, 0xFFFFFFFF, 0x0⟩,  -- ROB_CNT_HOLE_FAULT
  ⟨0xE010C, [], 0x0, 0x0, 0x0, 0xFFFFFFFF, 0x0⟩,  -- ROB_CNT_HOLE_AGE
  ⟨0xE0110, [], 0x0, 0x0, 0x0, 0xFFFFFFFF, 0x0⟩,  -- ROB_CNT_LATE
  ⟨0xE0114, [], 0x0, 0x0, 0x0, 0xFFFFFFFF, 0x0⟩,  -- ROB_CNT_STALL
  ⟨0xE0118, [], 0x0, 0x0, 0x0, 0xFFFFFFFF, 0x0⟩]  -- ROB_CNT_NODEST

def rowsETHa : List RegRow :=
  [⟨0xF0000, [(0x10000, 2)], 0x7F, 0x0, 0x0, 0x0, 0x18⟩,  -- ETH_CTL
  ⟨0xF0004, [(0x10000, 2)], 0x0, 0x0, 0x0, 0x0, 0x200⟩,  -- ETH_STAT
  ⟨0xF0008, [(0x10000, 2)], 0x0, 0x7F, 0x0, 0x0, 0x0⟩,  -- ETH_EVT
  ⟨0xF000C, [(0x10000, 2)], 0x717, 0x0, 0x0, 0x0, 0x0⟩,  -- ETH_CFG
  ⟨0xF0010, [(0x10000, 2)], 0x3FFF, 0x0, 0x0, 0x0, 0x5F2⟩,  -- ETH_MAXLEN
  ⟨0xF0014, [(0x10000, 2)], 0x13FFF, 0x0, 0x0, 0x0, 0x10200⟩,  -- ETH_TX_THR
  ⟨0xF0018, [(0x10000, 2)], 0xFFFFFFFF, 0x0, 0x0, 0x0, 0x110064⟩,  -- ETH_LPI_CFG
  ⟨0xF001C, [(0x10000, 2)], 0xFFF0FFF, 0x0, 0x0, 0x0, 0x0⟩,  -- ETH_PTP_DLY
  ⟨0xF0020, [(0x10000, 2)], 0x1FFFFF, 0x0, 0x0, 0x0, 0x4000⟩,  -- ETH_RX_QUOTA
  ⟨0xF0030, [(0x10000, 2)], 0x0, 0x0, 0x1, 0x0, 0x0⟩,  -- ETH_SNAP_CMD
  ⟨0xF0034, [(0x10000, 2)], 0x0, 0x0, 0x0, 0x0, 0x0⟩,  -- ETH_SNAP_TICK_LO
  ⟨0xF0038, [(0x10000, 2)], 0x0, 0x0, 0x0, 0x0, 0x0⟩,  -- ETH_SNAP_TICK_HI
  ⟨0xF0100, [(0x10000, 2)], 0x0, 0x0, 0x0, 0xFFFFFFFF, 0x0⟩,  -- ETH_CNT_RX_OK
  ⟨0xF0104, [(0x10000, 2)], 0x0, 0x0, 0x0, 0xFFFFFFFF, 0x0⟩,  -- ETH_CNT_RX_BYTES_LO
  ⟨0xF0108, [(0x10000, 2)], 0x0, 0x0, 0x0, 0xFFFFFFFF, 0x0⟩,  -- ETH_CNT_RX_BYTES_HI
  ⟨0xF010C, [(0x10000, 2)], 0x0, 0x0, 0x0, 0xFFFFFFFF, 0x0⟩,  -- ETH_CNT_RUNT
  ⟨0xF0110, [(0x10000, 2)], 0x0, 0x0, 0x0, 0xFFFFFFFF, 0x0⟩,  -- ETH_CNT_LONG
  ⟨0xF0114, [(0x10000, 2)], 0x0, 0x0, 0x0, 0xFFFFFFFF, 0x0⟩,  -- ETH_CNT_FCS
  ⟨0xF0118, [(0x10000, 2)], 0x0, 0x0, 0x0, 0xFFFFFFFF, 0x0⟩,  -- ETH_CNT_RX_NOBUF
  ⟨0xF011C, [(0x10000, 2)], 0x0, 0x0, 0x0, 0xFFFFFFFF, 0x0⟩,  -- ETH_CNT_RX_QFULL
  ⟨0xF0120, [(0x10000, 2)], 0x0, 0x0, 0x0, 0xFFFFFFFF, 0x0⟩,  -- ETH_CNT_PAUSE_RX
  ⟨0xF0124, [(0x10000, 2)], 0x0, 0x0, 0x0, 0xFFFFFFFF, 0x0⟩,  -- ETH_CNT_TX_OK
  ⟨0xF0128, [(0x10000, 2)], 0x0, 0x0, 0x0, 0xFFFFFFFF, 0x0⟩,  -- ETH_CNT_TX_BYTES_LO
  ⟨0xF012C, [(0x10000, 2)], 0x0, 0x0, 0x0, 0xFFFFFFFF, 0x0⟩]  -- ETH_CNT_TX_BYTES_HI

def rowsETHb : List RegRow :=
  [⟨0xF0130, [(0x10000, 2)], 0x0, 0x0, 0x0, 0xFFFFFFFF, 0x0⟩,  -- ETH_CNT_TX_UNDERRUN
  ⟨0xF0134, [(0x10000, 2)], 0x0, 0x0, 0x0, 0xFFFFFFFF, 0x0⟩,  -- ETH_CNT_TX_LONG
  ⟨0xF0138, [(0x10000, 2)], 0x0, 0x0, 0x0, 0xFFFFFFFF, 0x0⟩,  -- ETH_CNT_TX_LINKDOWN
  ⟨0xF013C, [(0x10000, 2)], 0x0, 0x0, 0x0, 0xFFFFFFFF, 0x0⟩,  -- ETH_CNT_LPI_TX
  ⟨0xF0140, [(0x10000, 2)], 0x0, 0x0, 0x0, 0xFFFFFFFF, 0x0⟩,  -- ETH_CNT_CSUM_L3
  ⟨0xF0144, [(0x10000, 2)], 0x0, 0x0, 0x0, 0xFFFFFFFF, 0x0⟩]  -- ETH_CNT_CSUM_L4

def rowsETH : List RegRow := rowsETHa ++ rowsETHb

def rowsDMC : List RegRow :=
  [⟨0x110000, [], 0x7, 0x0, 0x0, 0x0, 0x7⟩,  -- DMC_CTL
  ⟨0x110004, [], 0x0, 0x0, 0x0, 0x0, 0x0⟩,  -- DMC_STAT
  ⟨0x110008, [], 0x0, 0x3F, 0x0, 0x0, 0x0⟩,  -- DMC_EVT
  ⟨0x11000C, [], 0x0, 0x0, 0x0, 0x0, 0x0⟩,  -- DMC_MAP
  ⟨0x110010, [], 0xFFFFFFFF, 0x0, 0x0, 0x0, 0xA103064⟩,  -- DMC_SCHED
  ⟨0x110014, [], 0xFFFFFF, 0x0, 0x0, 0x0, 0x100808⟩,  -- DMC_RT_CFG
  ⟨0x110018, [], 0x0, 0x0, 0x0, 0x0, 0x0⟩,  -- DMC_RT_STAT
  ⟨0x11001C, [], 0x0, 0x0, 0x0, 0xFFFF, 0x0⟩,  -- DMC_RT_MAXLAT
  ⟨0x110020, [], 0x0, 0x0, 0x0, 0x0, 0x0⟩,  -- DMC_REF
  ⟨0x110030, [], 0x0, 0x0, 0x137, 0x0, 0x0⟩,  -- DMC_TRN_CMD
  ⟨0x110034, [], 0x0, 0x0, 0x0, 0x0, 0x0⟩,  -- DMC_TRN_STAT
  ⟨0x110040, [(0x8, 2), (0x4, 2)], 0x7F7F7F, 0x0, 0x0, 0x0, 0x0⟩,  -- DMC_DLY
  ⟨0x110050, [], 0x0, 0x0, 0x307FFFF, 0x0, 0x0⟩,  -- DMC_MR_CMD
  ⟨0x110054, [], 0x0, 0x0, 0x0, 0x0, 0x0⟩,  -- DMC_MR_DATA
  ⟨0x110060, [], 0xFFFF000F, 0x0, 0x0, 0x0, 0x0⟩,  -- DMC_PAT_CFG
  ⟨0x110064, [], 0x7FFFFFF, 0x0, 0x0, 0x0, 0x0⟩,  -- DMC_PAT_ADDR
  ⟨0x110068, [], 0x7FFFFFF, 0x0, 0x0, 0x0, 0x0⟩,  -- DMC_PAT_LEN
  ⟨0x11006C, [], 0x0, 0x0, 0x7, 0x0, 0x0⟩,  -- DMC_PAT_CMD
  ⟨0x110070, [], 0x0, 0x0, 0x0, 0x0, 0x0⟩,  -- DMC_PAT_STAT
  ⟨0x110074, [], 0x0, 0x0, 0x0, 0x0, 0x0⟩,  -- DMC_PAT_ERRMASK
  ⟨0x110078, [], 0x0, 0x0, 0x0, 0x0, 0x0⟩,  -- DMC_PAT_ERRCNT
  ⟨0x110100, [], 0x0, 0x0, 0x0, 0xFFFFFFFF, 0x0⟩,  -- DMC_CNT_PANIC
  ⟨0x110104, [], 0x0, 0x0, 0x0, 0xFFFFFFFF, 0x0⟩,  -- DMC_CNT_SR_ACCESS
  ⟨0x110108, [], 0x0, 0x0, 0x0, 0xFFFFFFFF, 0x0⟩]  -- DMC_CNT_TRK

def rowsACCa : List RegRow :=
  [⟨0x120000, [], 0xF, 0x0, 0x0, 0x0, 0x0⟩,  -- ACC_CTL
  ⟨0x120004, [], 0x0, 0x0, 0x0, 0x0, 0x0⟩,  -- ACC_STAT
  ⟨0x120008, [], 0x0, 0x7FF, 0x0, 0x0, 0x0⟩,  -- ACC_EVT
  ⟨0x12000C, [], 0x0, 0x0, 0x0, 0x0, 0x0⟩,  -- ACC_WIN_BASE
  ⟨0x120010, [], 0x0, 0x0, 0x3FF07, 0x0, 0x0⟩,  -- ACC_PLAN_CMD
  ⟨0x120014, [], 0xFFFFFFFF, 0x0, 0x0, 0x0, 0x0⟩,  -- ACC_PLAN_TURN_LO
  ⟨0x120018, [], 0xFF, 0x0, 0x0, 0x0, 0x0⟩,  -- ACC_PLAN_TURN_HI
  ⟨0x120020, [(0x4, 3)], 0x0, 0x0, 0x0, 0x0, 0x0⟩,  -- ACC_PLAN_STAT
  ⟨0x120030, [(0x4, 3)], 0xFFFFFF, 0x0, 0x0, 0x0, 0x0⟩,  -- ACC_GEN_CFG
  ⟨0x12003C, [], 0xFFFFFF, 0x0, 0x0, 0x0, 0xF00000⟩,  -- ACC_GEN_DONE
  ⟨0x120040, [], 0xFFFFFF, 0x0, 0x0, 0x0, 0x31032⟩,  -- ACC_DRIFT_CFG
  ⟨0x120044, [], 0xFFFF, 0x0, 0x0, 0x0, 0xC8⟩,  -- ACC_DRIFT_UNC
  ⟨0x120048, [], 0xFFFFFFFF, 0x0, 0x0, 0x0, 0x1400640⟩,  -- ACC_DRIFT_LAT
  ⟨0x12004C, [], 0xFFFFFF, 0x0, 0x0, 0x0, 0x100⟩,  -- ACC_DRIFT_GATE
  ⟨0x120050, [(0x4, 3)], 0x7FFFFFF, 0x0, 0x0, 0x0, 0x10080⟩,  -- ACC_BCN_CFG
  ⟨0x12005C, [], 0xFFFFFF, 0x0, 0x0, 0x0, 0x10000⟩,  -- ACC_BCN_LEAD
  ⟨0x120060, [], 0x7, 0x0, 0x0, 0x0, 0x4⟩,  -- ACC_WUR_CFG
  ⟨0x120064, [], 0xFFFF, 0x0, 0x0, 0x0, 0x400⟩,  -- ACC_STA_CFG
  ⟨0x120068, [], 0xFF0F, 0x0, 0x0, 0x0, 0x807⟩,  -- ACC_RETRY
  ⟨0x120070, [], 0xFFFFF0, 0x0, 0x0, 0x0, 0x40043⟩,  -- ACC_UP_CFG
  ⟨0x120074, [], 0xFFFFFFFF, 0x0, 0x0, 0x0, 0x1F4000A0⟩,  -- ACC_UP_GUARD
  ⟨0x120078, [], 0x0, 0x0, 0x0, 0x0, 0x0⟩,  -- ACC_UP_STAT
  ⟨0x120080, [], 0x0, 0x0, 0x0, 0x0, 0x0⟩,  -- ACC_UP_TSF_LO
  ⟨0x120084, [], 0x0, 0x0, 0x0, 0x0, 0x0⟩]  -- ACC_UP_TSF_HI

def rowsACCb : List RegRow :=
  [⟨0x1200A0, [], 0x1FFF, 0x0, 0x0, 0x0, 0x0⟩,  -- ACC_CTX_SEL
  ⟨0x1200A4, [], 0x0, 0x0, 0x1F, 0x0, 0x0⟩,  -- ACC_CTX_CMD
  ⟨0x1200A8, [], 0x0, 0x0, 0x0, 0x0, 0x0⟩,  -- ACC_CTX_STAT
  ⟨0x120100, [], 0x0, 0x0, 0x0, 0xFFFFFFFF, 0x0⟩,  -- ACC_CNT_AID_FULL
  ⟨0x120104, [], 0x0, 0x0, 0x0, 0xFFFFFFFF, 0x0⟩,  -- ACC_CNT_RX_OVERSIZE
  ⟨0x120108, [], 0x0, 0x0, 0x0, 0xFFFFFFFF, 0x0⟩,  -- ACC_CNT_TX_OVERSIZE
  ⟨0x12010C, [], 0x0, 0x0, 0x0, 0xFFFFFFFF, 0x0⟩,  -- ACC_CNT_DUP
  ⟨0x120110, [], 0x0, 0x0, 0x0, 0xFFFFFFFF, 0x0⟩,  -- ACC_CNT_TX_FAIL
  ⟨0x120114, [], 0x0, 0x0, 0x0, 0xFFFFFFFF, 0x0⟩,  -- ACC_CNT_OUTLIER
  ⟨0x120118, [], 0x0, 0x0, 0x0, 0xFFFFFFFF, 0x0⟩,  -- ACC_CNT_TIM_STALE
  ⟨0x12011C, [], 0x0, 0x0, 0x0, 0xFFFFFFFF, 0x0⟩,  -- ACC_CNT_GEN_LATE
  ⟨0x120120, [], 0x0, 0x0, 0x0, 0xFFFFFFFF, 0x0⟩,  -- ACC_CNT_WUR_WIDE
  ⟨0x120124, [], 0x0, 0x0, 0x0, 0xFFFFFFFF, 0x0⟩,  -- ACC_CNT_WUR_DEFER
  ⟨0x120128, [], 0x0, 0x0, 0x0, 0xFFFFFFFF, 0x0⟩,  -- ACC_CNT_RAW_SHORT
  ⟨0x12012C, [], 0x0, 0x0, 0x0, 0xFFFFFFFF, 0x0⟩,  -- ACC_CNT_UP_MISS
  ⟨0x120130, [], 0x0, 0x0, 0x0, 0xFFFFFFFF, 0x0⟩,  -- ACC_CNT_UP_DROP
  ⟨0x120134, [], 0x0, 0x0, 0x0, 0xFFFFFFFF, 0x0⟩]  -- ACC_CNT_CACHE_MISS

def rowsACC : List RegRow := rowsACCa ++ rowsACCb

def rowsMLK : List RegRow :=
  [⟨0x130000, [], 0x3, 0x0, 0x0, 0x0, 0x3⟩,  -- MLK_CTL
  ⟨0x130004, [], 0x0, 0x0, 0x0, 0x0, 0x20000⟩,  -- MLK_STAT
  ⟨0x130008, [], 0x0, 0x1F, 0x0, 0x0, 0x0⟩,  -- MLK_EVT
  ⟨0x13000C, [], 0x0, 0x0, 0x0, 0x0, 0x0⟩,  -- MLK_REGION
  ⟨0x130010, [], 0xFFFFFF, 0x0, 0x0, 0x0, 0x3E800⟩,  -- MLK_HOLE_FAST
  ⟨0x130014, [], 0xFFFFFF, 0x0, 0x0, 0x0, 0x400000⟩,  -- MLK_HOLE_SLOW
  ⟨0x130018, [], 0xF, 0x0, 0x0, 0x0, 0x2⟩,  -- MLK_XR_CFG
  ⟨0x130020, [], 0x31FFF, 0x0, 0x0, 0x0, 0x0⟩,  -- MLK_CMD_SEL
  ⟨0x130024, [], 0x0, 0x0, 0xF, 0x0, 0x0⟩,  -- MLK_CMD
  ⟨0x130028, [], 0x0, 0x0, 0x0, 0x0, 0x0⟩,  -- MLK_CMD_STAT
  ⟨0x130100, [], 0x0, 0x0, 0x0, 0xFFFFFFFF, 0x0⟩,  -- MLK_CNT_DUP_X
  ⟨0x130104, [], 0x0, 0x0, 0x0, 0xFFFFFFFF, 0x0⟩,  -- MLK_CNT_OLD
  ⟨0x130108, [], 0x0, 0x0, 0x0, 0xFFFFFFFF, 0x0⟩,  -- MLK_CNT_HOLE_TMO
  ⟨0x13010C, [], 0x0, 0x0, 0x0, 0xFFFFFFFF, 0x0⟩,  -- MLK_CNT_HOLE_MOVE
  ⟨0x130110, [], 0x0, 0x0, 0x0, 0xFFFFFFFF, 0x0⟩,  -- MLK_CNT_HOLE_CIPHER
  ⟨0x130114, [], 0x0, 0x0, 0x0, 0xFFFFFFFF, 0x0⟩,  -- MLK_CNT_REPLAY
  ⟨0x130118, [], 0x0, 0x0, 0x0, 0xFFFFFFFF, 0x0⟩,  -- MLK_CNT_XRETRY
  ⟨0x13011C, [], 0x0, 0x0, 0x0, 0xFFFFFFFF, 0x0⟩,  -- MLK_CNT_BAR_TX
  ⟨0x130120, [], 0x0, 0x0, 0x0, 0xFFFFFFFF, 0x0⟩,  -- MLK_CNT_RB_FULL
  ⟨0x130124, [], 0x0, 0x0, 0x0, 0xFFFFFFFF, 0x0⟩,  -- MLK_CNT_NOLINK
  ⟨0x130128, [], 0x0, 0x0, 0x0, 0xFFFFFFFF, 0x0⟩]  -- MLK_CNT_DUP_RB

def rowsFLDa : List RegRow :=
  [⟨0x140000, [], 0x7, 0x0, 0x0, 0x0, 0x0⟩,  -- FLD_CTL
  ⟨0x140004, [], 0x0, 0x0, 0x0, 0x0, 0x0⟩,  -- FLD_STAT
  ⟨0x140008, [], 0x0, 0x7F, 0x0, 0x0, 0x0⟩,  -- FLD_EVT
  ⟨0x14000C, [], 0xFFFF000F, 0x0, 0x0, 0x0, 0x88B60006⟩,  -- FLD_CFG
  ⟨0x140010, [], 0xFFFFFFFF, 0x0, 0x0, 0x0, 0x0⟩,  -- FLD_ADDR_LO
  ⟨0x140014, [], 0xFFFF, 0x0, 0x0, 0x0, 0x0⟩,  -- FLD_ADDR_HI
  ⟨0x140018, [], 0xFFFFFFFF, 0x0, 0x0, 0x0, 0x0⟩,  -- FLD_GROUP_LO
  ⟨0x14001C, [], 0xFFFF, 0x0, 0x0, 0x0, 0x0⟩,  -- FLD_GROUP_HI
  ⟨0x140020, [(0x4, 4)], 0xBFFF, 0x0, 0x0, 0x0, 0x0⟩,  -- FLD_KEY_SLOT
  ⟨0x140030, [], 0x3, 0x0, 0x0, 0x0, 0x0⟩,  -- FLD_TX_KEY
  ⟨0x140034, [], 0x0, 0x0, 0x0, 0x0, 0x0⟩,  -- FLD_TX_FCNT
  ⟨0x140038, [], 0x0, 0x0, 0x7, 0x0, 0x0⟩,  -- FLD_CMD
  ⟨0x14003C, [], 0x1FFF, 0x0, 0x0, 0x0, 0x0⟩,  -- FLD_CMD_AID
  ⟨0x140040, [(0x4, 3)], 0xFF, 0x0, 0x0, 0x0, 0x3F⟩,  -- FLD_SLOT
  ⟨0x140050, [], 0x0, 0x0, 0x0, 0x0, 0x1000⟩,  -- FLD_SORUS
  ⟨0x140100, [], 0x0, 0x0, 0x0, 0xFFFFFFFF, 0x0⟩,  -- FLD_CNT_ORIG
  ⟨0x140104, [], 0x0, 0x0, 0x0, 0xFFFFFFFF, 0x0⟩,  -- FLD_CNT_ACCEPT
  ⟨0x140108, [], 0x0, 0x0, 0x0, 0xFFFFFFFF, 0x0⟩,  -- FLD_CNT_COPY
  ⟨0x14010C, [], 0x0, 0x0, 0x0, 0xFFFFFFFF, 0x0⟩,  -- FLD_CNT_REPLAY
  ⟨0x140110, [], 0x0, 0x0, 0x0, 0xFFFFFFFF, 0x0⟩,  -- FLD_CNT_BAD
  ⟨0x140114, [], 0x0, 0x0, 0x0, 0xFFFFFFFF, 0x0⟩,  -- FLD_CNT_MIC
  ⟨0x140118, [], 0x0, 0x0, 0x0, 0xFFFFFFFF, 0x0⟩,  -- FLD_CNT_OUTWIN
  ⟨0x14011C, [], 0x0, 0x0, 0x0, 0xFFFFFFFF, 0x0⟩,  -- FLD_CNT_FOREIGN
  ⟨0x140120, [], 0x0, 0x0, 0x0, 0xFFFFFFFF, 0x0⟩]  -- FLD_CNT_EVICT

def rowsFLDb : List RegRow :=
  [⟨0x140124, [], 0x0, 0x0, 0x0, 0xFFFFFFFF, 0x0⟩,  -- FLD_CNT_UNKNOWN
  ⟨0x140128, [], 0x0, 0x0, 0x0, 0xFFFFFFFF, 0x0⟩,  -- FLD_CNT_CARRY_TX
  ⟨0x14012C, [], 0x0, 0x0, 0x0, 0xFFFFFFFF, 0x0⟩,  -- FLD_CNT_CARRY_DROP
  ⟨0x140130, [], 0x0, 0x0, 0x0, 0xFFFFFFFF, 0x0⟩,  -- FLD_CNT_NOFIT
  ⟨0x140134, [], 0x0, 0x0, 0x0, 0xFFFFFFFF, 0x0⟩,  -- FLD_CNT_QFULL
  ⟨0x140138, [], 0x0, 0x0, 0x0, 0xFFFFFFFF, 0x0⟩]  -- FLD_CNT_TX_FAIL

def rowsFLD : List RegRow := rowsFLDa ++ rowsFLDb

def rowsCLUa : List RegRow :=
  [⟨0x150000, [], 0x1, 0x0, 0x0, 0x0, 0x0⟩,  -- CLU_CTL
  ⟨0x150004, [], 0x0, 0x0, 0x0, 0x0, 0x80000000⟩,  -- CLU_STAT
  ⟨0x150008, [], 0x0, 0x1FFF, 0x0, 0x0, 0x0⟩,  -- CLU_EVT
  ⟨0x15000C, [], 0x9F0FFFFF, 0x0, 0x0, 0x0, 0x800488B5⟩,  -- CLU_CFG
  ⟨0x150010, [], 0xFFFFFFFF, 0x0, 0x0, 0x0, 0x0⟩,  -- CLU_GROUP_LO
  ⟨0x150014, [], 0xFFFF, 0x0, 0x0, 0x0, 0x0⟩,  -- CLU_GROUP_HI
  ⟨0x150018, [], 0x0, 0x0, 0x0, 0x0, 0x0⟩,  -- CLU_TERM
  ⟨0x15001C, [], 0xFFFFFF, 0x0, 0x0, 0x0, 0x10000⟩,  -- CLU_SYNC_TOL
  ⟨0x150020, [], 0xFFFFFF, 0x0, 0x0, 0x0, 0x10⟩,  -- CLU_SKEW_THR
  ⟨0x150024, [], 0x0, 0x0, 0x0, 0x0, 0x0⟩,  -- CLU_SKEW
  ⟨0x150028, [], 0xFFFF, 0x0, 0x0, 0x0, 0x0⟩,  -- CLU_PATH_NS
  ⟨0x15002C, [], 0x0, 0x0, 0x0, 0x0, 0x0⟩,  -- CLU_PRESENT
  ⟨0x150030, [], 0x0, 0x0, 0x0, 0x0, 0x0⟩,  -- CLU_DSEQ
  ⟨0x150034, [], 0x0, 0x0, 0x0, 0x0, 0x0⟩,  -- CLU_DIR_BASE
  ⟨0x150038, [], 0x0, 0x0, 0x0, 0x0, 0x0⟩,  -- CLU_DIR_STAT
  ⟨0x150040, [], 0x0, 0x0, 0x0, 0x0, 0x0⟩,  -- CLU_PLAN_BASE
  ⟨0x150044, [], 0xFFFFFFFF, 0x0, 0x0, 0x0, 0x0⟩,  -- CLU_PLAN_ID
  ⟨0x150048, [], 0x0, 0x0, 0x1FF031F, 0x0, 0x0⟩,  -- CLU_PLAN_CMD
  ⟨0x15004C, [], 0x0, 0x0, 0x0, 0x0, 0x0⟩,  -- CLU_PLAN_STAT
  ⟨0x150050, [], 0x0, 0x0, 0x373, 0x0, 0x0⟩,  -- CLU_ACT_CMD
  ⟨0x150054, [], 0xFFFFFFFF, 0x0, 0x0, 0x0, 0x0⟩,  -- CLU_ACT_ID
  ⟨0x150058, [], 0xFFFFFFFF, 0x0, 0x0, 0x0, 0x0⟩,  -- CLU_ACT_TURN_LO
  ⟨0x15005C, [], 0xFF, 0x0, 0x0, 0x0, 0x0⟩,  -- CLU_ACT_TURN_HI
  ⟨0x150060, [], 0xFFFFFFFF, 0x0, 0x0, 0x0, 0x0⟩]  -- CLU_ACT_MASK

def rowsCLUb : List RegRow :=
  [⟨0x150064, [], 0x0, 0x0, 0x0, 0x0, 0x0⟩,  -- CLU_ACT_STAT
  ⟨0x150068, [], 0xFF, 0x0, 0x0, 0x0, 0x4⟩,  -- CLU_ACT_MIN
  ⟨0x150070, [], 0xFFFFFFFF, 0x0, 0x0, 0x0, 0x0⟩,  -- CLU_HAND_MAC_LO
  ⟨0x150074, [], 0xFFFF, 0x0, 0x0, 0x0, 0x0⟩,  -- CLU_HAND_MAC_HI
  ⟨0x150078, [], 0x1FFF1F, 0x0, 0x0, 0x0, 0x0⟩,  -- CLU_HAND_CFG
  ⟨0x15007C, [], 0x3FFF, 0x0, 0x0, 0x0, 0x0⟩,  -- CLU_HAND_KEY
  ⟨0x150080, [], 0xFFFFFFFF, 0x0, 0x0, 0x0, 0x0⟩,  -- CLU_HAND_CUT_LO
  ⟨0x150084, [], 0xFFFFFFFF, 0x0, 0x0, 0x0, 0x0⟩,  -- CLU_HAND_CUT_HI
  ⟨0x150088, [], 0x0, 0x0, 0x3, 0x0, 0x0⟩,  -- CLU_HAND_CMD
  ⟨0x15008C, [], 0x0, 0x0, 0x0, 0x0, 0x0⟩,  -- CLU_HAND_STAT
  ⟨0x150090, [], 0xFFFFFF, 0x0, 0x0, 0x0, 0x40000⟩,  -- CLU_HAND_LEAD
  ⟨0x150094, [], 0xFFFFFF, 0x0, 0x0, 0x0, 0x100000⟩,  -- CLU_HAND_TMO
  ⟨0x150100, [], 0x0, 0x0, 0x0, 0xFFFFFFFF, 0x0⟩,  -- CLU_CNT_SYNC_MISS
  ⟨0x150104, [], 0x0, 0x0, 0x0, 0xFFFFFFFF, 0x0⟩,  -- CLU_CNT_SYNC_REJ
  ⟨0x150108, [], 0x0, 0x0, 0x0, 0xFFFFFFFF, 0x0⟩,  -- CLU_CNT_FOREIGN
  ⟨0x15010C, [], 0x0, 0x0, 0x0, 0xFFFFFFFF, 0x0⟩,  -- CLU_CNT_BAD
  ⟨0x150110, [], 0x0, 0x0, 0x0, 0xFFFFFFFF, 0x0⟩,  -- CLU_CNT_DIR_STALE
  ⟨0x150114, [], 0x0, 0x0, 0x0, 0xFFFFFFFF, 0x0⟩,  -- CLU_CNT_EVICT
  ⟨0x150118, [], 0x0, 0x0, 0x0, 0xFFFFFFFF, 0x0⟩,  -- CLU_CNT_HAND_OK
  ⟨0x15011C, [], 0x0, 0x0, 0x0, 0xFFFFFFFF, 0x0⟩,  -- CLU_CNT_HAND_FAIL
  ⟨0x150120, [], 0x0, 0x0, 0x0, 0xFFFFFFFF, 0x0⟩,  -- CLU_CNT_HAND_DROP
  ⟨0x150124, [], 0x0, 0x0, 0x0, 0xFFFFFFFF, 0x0⟩,  -- CLU_CNT_HB_MISS
  ⟨0x150128, [], 0x0, 0x0, 0x0, 0xFFFFFFFF, 0x0⟩]  -- CLU_CNT_RPT_DROP

def rowsCLU : List RegRow := rowsCLUa ++ rowsCLUb

def rowsFRN : List RegRow :=
  [⟨0x200000, [(0x80000, 3)], 0x7, 0x0, 0x0, 0x0, 0x4⟩,  -- FRN_CTL
  ⟨0x200004, [(0x80000, 3)], 0x0, 0x0, 0x0, 0x0, 0xFFFF00⟩,  -- FRN_STAT
  ⟨0x200008, [(0x80000, 3)], 0x0, 0x7FF, 0x0, 0x0, 0x0⟩,  -- FRN_EVT
  ⟨0x200010, [(0x80000, 3)], 0xFFF0FFF, 0x0, 0x0, 0x0, 0x0⟩,  -- FRN_SEQ_ENTRY
  ⟨0x200014, [(0x80000, 3)], 0x0, 0x0, 0x0, 0x0, 0x0⟩,  -- FRN_SEQ_PC
  ⟨0x200018, [(0x80000, 3)], 0xFFFFFF, 0x0, 0x0, 0x0, 0x30D400⟩,  -- FRN_COAST_LIMIT
  ⟨0x200020, [(0x80000, 3)], 0xFFFFFF07, 0x0, 0x0, 0x0, 0x10082000⟩,  -- FRN_FEM_CFG
  ⟨0x200024, [(0x80000, 3)], 0x1F, 0x0, 0x0, 0x0, 0xA⟩,  -- FRN_CAL_CFG
  ⟨0x200028, [(0x80000, 3)], 0x0, 0x0, 0x0, 0x0, 0x0⟩,  -- FRN_TEMP
  ⟨0x200030, [(0x80000, 3)], 0x0, 0x0, 0x0, 0x0, 0xFF⟩,  -- FRN_SYN0_STAT
  ⟨0x200034, [(0x80000, 3)], 0x0, 0x0, 0x0, 0x0, 0xFF⟩,  -- FRN_SYN1_STAT
  ⟨0x200040, [(0x80000, 3), (0x4, 4)], 0xFFF0FFF, 0x0, 0x0, 0x0, 0x0⟩,  -- FRN_CAP_DLY
  ⟨0x200060, [(0x80000, 3)], 0x0, 0x0, 0x0, 0xFFFFFFFF, 0x0⟩,  -- FRN_CNT_LATE
  ⟨0x200064, [(0x80000, 3)], 0x0, 0x0, 0x0, 0xFFFFFFFF, 0x0⟩,  -- FRN_CNT_SEQ_ERR
  ⟨0x200068, [(0x80000, 3)], 0x0, 0x0, 0x0, 0xFFFFFFFF, 0x0⟩,  -- FRN_CNT_UNLOCK
  ⟨0x20006C, [(0x80000, 3)], 0x0, 0x0, 0x0, 0xFFFFFFFF, 0x0⟩,  -- FRN_CNT_BGSKIP
  ⟨0x200070, [(0x80000, 3)], 0x0, 0x0, 0x0, 0xFFFFFFFF, 0x0⟩,  -- FRN_CNT_COAST_DROP
  ⟨0x200100, [(0x80000, 3), (0x10, 4), (0x4, 3)], 0xFFFFF, 0x0, 0x0, 0x0, 0x0⟩]  -- FRN_FEM_PAT

/-- Does the offset `o` fall on an element of an array with these strides and counts? -/
def inDims : List (Nat × Nat) → Nat → Bool
  | [], o => o == 0
  | (s, c) :: t, o => decide (o / s < c) && inDims t (o % s)

def RegRow.covers (r : RegRow) (a : Nat) : Bool := decide (r.base ≤ a) && inDims r.dims (a - r.base)

/-- The rows of the block that holds address `a`, by the block bases of R28. -/
def blockRows (a : Nat) : List RegRow :=
  match a / 0x10000 with
  | 0x00 => rowsSYS
  | 0x01 => rowsPWR
  | 0x02 => rowsFLT
  | 0x03 => rowsITT
  | 0x04 => rowsSPN
  | 0x05 => rowsRTC
  | 0x06 => rowsHIF
  | 0x07 => rowsUPD
  | 0x08 => rowsKEY
  | 0x09 => rowsCIP
  | 0x0A => rowsTSK
  | 0x0B => rowsGGE
  | 0x0C => rowsCHK
  | 0x0D => rowsPRS
  | 0x0E => rowsROB
  | 0x0F => rowsETH
  | 0x10 => rowsETH
  | 0x11 => rowsDMC
  | 0x12 => rowsACC
  | 0x13 => rowsMLK
  | 0x14 => rowsFLD
  | 0x15 => rowsCLU
  | _ => if 0x200000 ≤ a ∧ a < 0x380000 then rowsFRN else []

/-- The row of the register at address `a`; none at a reserved offset or in a memory. -/
def regRow (a : Nat) : Option RegRow := (blockRows a).find? (·.covers a)

/-- The reset value of the register at address `a` (R11). -/
def regReset (a : Nat) : Word :=
  match regRow a with
  | some r => r.reset
  | none => 0

end Sys2Proof.Machine
end

