-- ==== Sys2Proof/Machine/State.lean ====
section
/-! DEFINITION. The state of the part as plain data, and the state after power-on reset. Registers live in `regs`, one
word per BAR0 address, as a sparse map over the reset values of the register maps (R11); what the spec gives the part
beyond its registers stands in the structures below, chapter by chapter. -/

namespace Sys2Proof.Machine

/-- The faults of the model. -/
inductive Fault where
  /-- Raised by no meaning today: the spec gives every command an effect. Kept so that the type is inhabited; safe. -/
  | none
  deriving DecidableEq, Repr

/-- The refusals of the model. -/
inductive Refusal where
  /-- Raised by `exec`'s arm of a command that has no meaning yet; safe (the machine stops where the part goes on). -/
  | notModelled (mnemonic : String)
  deriving DecidableEq, Repr

/-- What a step answers. -/
abbrev Out (σ : Type) := Host.Outcome σ Fault Refusal
/-! ### The spindle (spec/02_spindle_time.md) -/

/-- What the spindle keeps of one time domain (R49, R431). -/
structure Domain where
  /-- The offset of the last sample since the spindle began turning, ns, moved with every step (R50). -/
  lastOfs : Option Int := none
  /-- The turn in which the last valid sample was captured (R431). -/
  lastTurn : Option Nat := none
  /-- The reference time of the last valid sample since the clock was set (R430). -/
  lastRef : Option Nat := none
  /-- Consecutive samples within the jump threshold while suspect (R49). -/
  clean : Nat := 0
  deriving DecidableEq, Repr

/-- One time trigger (R52). -/
structure Trigger where
  armed : Bool := false
  /-- Sampled start, ns of the wide clock. -/
  start : Nat := 0
  /-- Sampled period and width, ticks, after the limits of R52. -/
  period : Nat := 0
  width : Nat := 0
  /-- Index of the next of the programmed times. -/
  next : Nat := 0
  /-- A pulse is on the pin; the reference time at which it ends. -/
  pulseEnd : Option Nat := none
  /-- Index of the last pulse emitted since arming. -/
  last : Option Nat := none
  /-- The level the device drives, none while the output is released. -/
  pin : Option Bool := none
  deriving DecidableEq, Repr

/-- What is saved on entry to DEEP (R53). It lies in the Thallus die. -/
structure SpnSaved where
  wideU : Nat := 0
  hasTime : Bool := false
  turn : Nat := 0
  angle : Nat := 0
  raw : Nat := 0
  f : Int := 0
  /-- The saved registers, address and value. -/
  regs : List (Nat × Word) := []
  deriving DecidableEq, Repr

/-- The angle counter of the Frond die beside the core's clock (R18, R19, R81). -/
structure FrondClk where
  /-- Its clock less the core's, in 10^-9 of half a nanosecond: not 0 where a step's strobe was ignored. -/
  lag : Int := 0
  /-- While it has no strobes to follow: its clock at a reference time, from which it runs on the reference. -/
  free : Option (Int × Nat) := none
  /-- Ranges of ticks that forward steps have removed, each half-open, the latest first (R48, R74). -/
  removed : List (Nat × Nat) := []
  deriving DecidableEq, Repr

structure SpnState where
  /-- The wide clock holds time (R42). -/
  hasTime : Bool := false
  /-- The wide clock, in units of 10^-9 of half a nanosecond. -/
  wideU : Nat := 0
  /-- The servo's frequency term F and correction R, ppb (R430). -/
  f : Int := 0
  r : Int := 0
  domA : Domain := {}
  domB : Domain := {}
  /-- The run of consecutive samples within LOCK_THR (R432). -/
  run : Nat := 0
  /-- The last turn that has begun; none before the first. -/
  lastTurn : Option Nat := none
  /-- Held words of an epoch write (R37). -/
  heldNs : Option Word := none
  heldSecLo : Option Word := none
  /-- The pending offset that ACCEPT schedules, ns (R46, R47, R50). -/
  pendOfs : Int := 0
  /-- The scheduled step, ns (R47). -/
  sched : Option Int := none
  /-- A wake estimate's bound waits for its step (R54). -/
  estWait : Bool := false
  /-- The reference time of entry to HOLDOVER (R43). -/
  holdRef : Nat := 0
  /-- The last accepted PPS edge: the second it was labelled with, and its reference time (R45). -/
  pps : Option (Nat × Nat) := none
  /-- A PTM dialog is in progress (R44). -/
  ptmBusy : Bool := false
  /-- The turn-start latch: turn, wide time in ns, narrow value (R51). -/
  tlTurn : Nat := 0
  tlWide : Nat := 0
  tlNarrow : Nat := 0
  /-- The four time triggers (R52). -/
  tto : Vector Trigger 4 := Vector.replicate 4 {}
  /-- The reference time of the last turn start. -/
  turnRef : Nat := 0
  /-- The reference time at which the next PTM dialog is due (R44). -/
  ptmNext : Nat := 0
  /-- The Frond counter, and as it would stand had the last strobe not reached Frond (R19). -/
  frond : FrondClk := {}
  frondWas : FrondClk := {}
  deriving DecidableEq, Repr
/-! ### Buffers (spec/11_buffers_credits_order.md) -/

/-- A packet's chain of buffers (R244). -/
structure Chain where
  /-- The model's own number of the chain: handles change in a spill (R257). -/
  id : Nat
  /-- The handles of R243, first buffer first. -/
  bufs : List Nat
  len : Nat
  data : List Byte
  /-- One owner code of R246 for each reference. -/
  owners : List Nat
  deriving DecidableEq, Repr

structure ChkState where
  chains : List Chain := []
  nextId : Nat := 0
  /-- Received MPDUs that a Frond link which was down has lost, per radio (R17). -/
  rxLost : Vector Nat 3 := Vector.replicate 3 0
  /-- Credits spent and not yet returned, per radio (R252). -/
  out : Vector Nat 3 := Vector.replicate 3 0
  deriving DecidableEq, Repr

/-! ### The radios (spec/03_frond_radios.md) -/

/-- What a transmit frame is, where R117, R138, R139, R158 and R159 tell kinds apart. -/
inductive TxKind where
  | data
  | mgmt
  /-- A Block Ack Request with its starting number (R139). -/
  | bar (ssn : Nat)
  /-- A flood of the radio's flood queue (R158), or a SCHED frame (R157). -/
  | flood
  | sched
  /-- A frame for the upstream AP (R127). -/
  | uplink
  deriving DecidableEq, Repr

/-- One frame on its way to the air. -/
structure TxFrame where
  /-- The model's own number of the frame. -/
  fid : Nat
  chain : Nat
  aid : Nat
  kind : TxKind
  /-- 0 to 7, or 8 for management and non-QoS frames. -/
  tid : Nat
  len : Nat
  air : AirTime
  /-- The turn in which it was first queued (R117). -/
  turn : Nat
  robust : Bool := false
  eapol : Bool := false
  sn : Option Nat := none
  pn : Option Nat := none
  /-- Counted tries (R117). -/
  tries : Nat := 0
  /-- The member of the last try, and the run of counted failures on it (R138). -/
  last : Option Nat := none
  run : Nat := 0
  /-- A member barred for the next try (R138). -/
  bar : Option Nat := none
  /-- Flood frames: FCNT and payload (R158). -/
  fcnt : Nat := 0
  dst : BitVec 48 := 0
  ttl0 : Nat := 0
  keyid : Nat := 0
  /-- A flood that has its FCNT (R158). -/
  built : Bool := false
  /-- It goes ahead of its queue, and back there (R139, R197). -/
  front : Bool := false
  /-- It goes under a PV1 MAC header (R92). -/
  pv1 : Bool := false
  /-- It has come back from a queue of Frond untried (R140). -/
  recalled : Bool := false
  /-- The member of the first try (R138). -/
  first : Option Nat := none
  /-- It follows an MU-RTS trigger padded by this many µs (R150); 0 for none. -/
  pad : Nat := 0
  /-- The nonce and the additional authentication data it was encrypted under (R135, R153). -/
  nonce : List Byte := []
  aad : List Byte := []
  /-- Flood frames: the MPDU as far as the Zitrity header, which it ends with (R151, R152); the encrypted payload and MIC behind it
  (R153). -/
  hdr : List Byte := []
  ct : List Byte := []
  deriving DecidableEq, Repr

/-- The status codes of R79. -/
inductive TxStatus where
  | ok
  | noack
  | late
  | abort
  | nochan
  deriving DecidableEq, Repr

/-- A narrow stamp with its turn tag, and the chain that gave it (R51, R84, R85). -/
structure Stamp where
  narrow : BitVec 32
  tag : BitVec 8
  chain : Nat
  deriving DecidableEq, Repr

/-- What a PPDU carries: a frame of a queue or a template by its number (R77, R78), or a control frame of R90. -/
inductive TxUnit where
  | frame (f : TxFrame)
  | tpl (t : Nat)
  /-- A Trigger frame that gives a station its resource units, or an NDP announcement with its NDP (R90). -/
  | solicit (aid : Nat) (rus : List (Nat × Nat))
  | sound (aid : Nat)
  deriving DecidableEq, Repr

/-- What Frond has returned with its status (R79). -/
structure TxReturn where
  radio : Fin 3
  unit : TxUnit
  status : TxStatus
  /-- None for what was not sent. -/
  stamp : Option Stamp
  deriving DecidableEq, Repr

/-- An entry of a calibration store (R63). -/
structure Cal where
  idx : Nat
  temp : Int
  stale : Bool
  /-- The synthesiser's settings; then each chain's DC, I/Q and LO-leakage corrections, chain A first (free values). -/
  vals : List Nat
  deriving DecidableEq, Repr

/-- What a synthesiser keeps beyond its status register. -/
structure Synth where
  /-- Most recently used first, at most 32 (R63). -/
  store : List Cal := []
  /-- Runs of the present calibration that have failed (R61). -/
  fails : Nat := 0
  /-- A full calibration, not a relock. -/
  full : Bool := false
  /-- The tick at which the preparation is budgeted to end (R60). -/
  doneAt : Nat := 0
  /-- The channel as prepared: centre in kHz, BW code, band group (R58). -/
  khz : Nat := 0
  bw : Nat := 0
  group : Nat := 0
  deriving DecidableEq, Repr

/-- The dynamic content of one beacon, by the sources of R121. -/
structure Beacon where
  interval : Nat
  /-- It is an S1G beacon. -/
  s1g : Bool := false
  dtimCount : Nat
  dtimPeriod : Nat
  /-- AIDs whose TIM bit is set, and the S1G segment carried. -/
  tim : List Nat
  segment : Nat
  /-- RAW: AID_LO, AID_HI, start in 2 TU, slots, slot duration in µs. -/
  raws : List (Nat × Nat × Nat × Nat × Nat)
  /-- TWT: AID, target wake time, mantissa, exponent, duration in 256 µs. -/
  twts : List (Nat × Nat × Nat × Nat × Nat)
  /-- WUR duty cycle: AID, WUR_ON, WUR_PERIOD, WUR_ON_DUR. -/
  wurs : List (Nat × Nat × Nat × Nat)
  /-- The braid element of R98 and R437; empty when none is sent. -/
  braid : List Byte
  deriving DecidableEq, Repr

/-- A template copied for transmission (R78): its number, deadline, chains, timestamp offset, airtime, bytes with what was built
behind them, requested power, and its profile. -/
structure TplTx where
  num : Nat
  dl : Nat
  chains : Nat
  tsOfs : Nat
  dur : Nat
  bytes : List Byte
  pwr : Int
  phy : Phy
  deriving DecidableEq, Repr

/-- The operation that the pair is waiting in (R73, R75); ticks are counted from the epoch. -/
inductive SeqWait where
  | none
  /-- Until a tick, with nothing more to do (SYNC, WAIT_AT, WAIT_REL, BGCAL, RXWIN in SLEEP or STANDBY). -/
  | until_ (t : Nat)
  /-- WAKE: leaves SLEEP at `leave`, completes at `done`. -/
  | wake (leave done : Nat)
  /-- HOP: for the idle synthesiser's lock, then until the exchange is done. -/
  | hopLock
  | hopDone (t : Nat)
  /-- RXWIN: listening from `from_` until `until_`. -/
  | rx (from_ until_ : Nat) (chains profile : Nat)
  /-- TXQ: deadline of the first PPDU, end of the burst. -/
  | txq (dl end_ : Nat) (chains queue : Nat) (first : Bool)
  /-- TXTPL: deadline, the copied template and its duration. -/
  | tpl (t : TplTx)
  deriving DecidableEq, Repr

/-- A PPDU in transmission: its first tick and the tick boundary after its last sample. -/
structure TxPpdu where
  start : Nat
  end_ : Nat
  /-- What it carries. -/
  units : List TxUnit
  chains : Nat
  /-- It has ended and its expected response is awaited until this tick. -/
  await : Option Nat := none
  /-- No operation of the pair waits for it: coasting began or ended over it, or it answers a Trigger frame. -/
  loose : Bool := false
  /-- TX_OK was cleared before it began: it is not sent (R58). -/
  barred : Bool := false
  /-- The queue that its frames come from. -/
  queue : Nat := 0
  deriving DecidableEq, Repr

/-- What an immediate response is (R59, R90): the frames it acknowledges by transmitter and sequence number, as an NDP on an S1G
channel (R92); the answer to a Trigger frame with the numbers of its frames; a beamforming report. -/
inductive RspKind where
  | ack (ndp : Bool) (acked : List (BitVec 48 × BitVec 12))
  | tb (fids : List Nat)
  | report
  deriving DecidableEq, Repr

/-- The immediate response of a PPDU, from its first tick to its end. -/
structure Rsp where
  from_ : Nat
  to_ : Nat
  chains : Nat
  phy : Phy
  what : RspKind
  /-- TX_OK is clear: it is not sent (R58). -/
  barred : Bool
  deriving DecidableEq, Repr

/-- A frame received over the Frond link (R82, R84, R85). -/
structure RxItem where
  radio : Fin 3
  frame : AirFrame
  fmt : Fmt
  chan : Nat
  /-- Captured tick counted from the epoch; none for a bad stamp (R51). -/
  tick : Option Nat
  narrow : BitVec 32
  tag : BitVec 8
  chainNo : Nat
  rssi : BitVec 8
  /-- The chain of buffers that holds it. -/
  chain : Nat := 0
  deriving DecidableEq, Repr

/-- The Block Ack scoreboard of one transmitter and traffic identifier on one member: its window, and the numbers in it that have
come (R136, R141). -/
structure Board where
  ta : BitVec 48
  tid : Nat
  size : Nat
  start : Nat
  got : List Nat := []
  deriving DecidableEq, Repr

structure FrnState where
  syn0 : Synth := {}
  syn1 : Synth := {}
  /-- The idle synthesiser while none is active: false SY0, true SY1. -/
  idle : Bool := false
  wait : SeqWait := .none
  ppdu : Option TxPpdu := none
  /-- Reception and its response end at this tick (R76). -/
  rxEnd : Option Nat := none
  /-- Its immediate response (R59). -/
  rsp : Option Rsp := none
  /-- It does not listen before this tick, after a reception or a response (R60, R76). -/
  deaf : Nat := 0
  /-- The TX pattern is held until this tick (R69). -/
  lagTo : Nat := 0
  /-- The tick in which a window's RXWIN last completed, for the RX to TX budget (R60). -/
  rxLeft : Option Nat := none
  /-- Non-waiting operations executed in the tick `opsTick` (R73). -/
  ops : Nat := 0
  opsTick : Nat := 0
  /-- RUN is set and the pair starts at the next turn start; or restarts after a mismatch (R72, R73). -/
  starting : Bool := false
  /-- The pair restarts at the next turn start after a mismatch (R72). -/
  restart : Bool := false
  /-- Halt once the PPDU in progress completes (R433). -/
  halting : Bool := false
  /-- Every chain drives the OFF pattern since a sequencer fault or a coast limit (R67). -/
  femOff : Bool := false
  /-- The front-end modes driven and announced, with the chain mask: the present one, then those to come by tick (R67, R69). -/
  fem : List (Nat × Nat × Nat) := []
  /-- The die temperature, 0.125 °C. -/
  die : Int := 0
  queues : Vector (List TxFrame) 16 := Vector.replicate 16 []
  /-- The coast buffer, in capture order, and its bytes (R82). -/
  coast : List RxItem := []
  coastBytes : Nat := 0
  /-- The tick at which coasting began. -/
  coastFrom : Option Nat := none
  /-- Coasting begins, and ends, at the start of these turns (R81, R317). -/
  coastAt : Option Nat := none
  coastEnd : Option Nat := none
  /-- The pair ran when coasting began (R81). -/
  coastRan : Bool := false
  /-- Frames that have come since coasting began, which TXQ does not send until it ends (R81). -/
  coastNew : List Nat := []
  /-- The coast limit has halted the pair (R83). -/
  coastOver : Bool := false
  /-- By template, the bytes that the last beacon build has put behind it (R122). -/
  tails : List (Nat × Option Nat) := []
  /-- The link's sequence numbers of group-addressed frames (R134). -/
  groupSn : Nat := 0
  /-- Its Block Ack scoreboards (R141). -/
  boards : List Board := []
  deriving DecidableEq, Repr
/-! ### Scheduled access (spec/05_scheduled_access.md) -/

/-- An armed bank that waits for its swap (R112). -/
structure PlanArm where
  bank : Bool
  len : Nat
  turn : Nat
  deriving DecidableEq, Repr

/-- Static fragments of one MSDU in reassembly (R97). -/
structure Frag where
  aid : Nat
  tid : Nat
  sn : BitVec 12
  count : Nat
  bytes : Nat
  body : List Byte
  /-- The MSDU is over a limit and is discarded as a whole. -/
  dead : Bool
  deriving DecidableEq, Repr

/-- A station's placement in a window: its tick, and the nominal start of the announced period that it waits for (R436). -/
structure Placement where
  aid : Nat
  at_ : Nat
  ann : Option Nat
  deriving DecidableEq, Repr

/-- A window as it was generated: its start, its placements' ticks, the stations that they serve (R436). -/
structure Placed where
  start : Nat
  ticks : List Nat
  stations : List Placement
  deriving DecidableEq, Repr

/-- The frames that a station itself initiated in one period or slot of nominal start `start`: their captured ticks in rising
order, and bytes 32 to 62 of the context as they stood before the first (R35, R104). -/
structure OwnRx where
  start : Nat
  was : Nat
  ticks : List Nat
  deriving DecidableEq, Repr

structure AccState where
  /-- Cached AIDs, most recently used first, at most 512 (R101). -/
  cache : List Nat := []
  /-- Frames that wait for a context fetch, in arrival order (R101). -/
  fetching : List (Nat × RxItem) := []
  /-- Station queues by 16 × AID + TID, TID 8 for all other frames; key 15 is the uplink queue (R117, R127). -/
  queues : List (Nat × List TxFrame) := []
  /-- The AID served last in each group and the placement at which it was, by 4,096 × ALL + 1,024 × radio + group (R115). -/
  served : List (Nat × Nat × Nat) := []
  arms : Vector (Option PlanArm) 3 := Vector.replicate 3 none
  /-- The turn whose half is complete (R113). -/
  genTurn : Vector (Option Nat) 3 := Vector.replicate 3 none
  frags : List Frag := []
  /-- Builds begun and not finished. -/
  building : List Nat := []
  /-- The last period or slot in which a frame that the station itself initiated was taken (R104). -/
  firstIn : List (Nat × Option OwnRx) := []
  /-- By radio, the placements of the windows that have been generated and are not over (R436). -/
  placed : Vector (List Placed) 3 := Vector.replicate 3 []
  /-- The nominal start of the last service period in which any frame was captured (R108). -/
  seenIn : List (Nat × Option Nat) := []
  /-- By AID, the tick of a wake-up frame after which no frame has come yet (R123). -/
  woken : List (Nat × Option Nat) := []
  /-- By AID, the nominal start of the service period that has passed last (R102). -/
  passedSp : List (Nat × Option Nat) := []
  /-- EMLSR padding delay of a station, µs, 0 for none; the start of the window in which it was last sent to (R150). -/
  emlsr : List (Nat × Nat) := []
  emlsrIn : List (Nat × Option Nat) := []
  /-- The last template status that has crossed from each radio (R79). -/
  tplRet : Vector (Option TxReturn) 3 := Vector.replicate 3 none
  /-- The turn in which a context entered ASSOC (R108). -/
  assocTurn : List (Nat × Nat) := []
  nextFid : Nat := 0
  /-- The next predicted upstream TBTT, its beacon interval in ticks, and the turn in which LOST began (R125, R126). -/
  upTbtt : Nat := 0
  upBi : Nat := 0
  upLost : Nat := 0
  /-- The upstream AP that the device has associated with: its address on the link, the link's band group (R128, R131). -/
  upAp : Option (Nat × Nat) := none
  deriving DecidableEq, Repr
/-! ### The cluster's view of contexts (spec/08_cluster.md R183) -/

/-- A REPORT record that waits to be confirmed (R183): STATION_SET or STATION_CLEAR, MAC, AID, TICK (packed). -/
structure Report where
  set : Bool
  mac : Nat
  aid : Nat
  tick : Nat
  /-- It has been sent once; every HB sends it again. -/
  sent : Bool := false
  deriving DecidableEq, Repr

/-- A packet on its way through the router or from it. -/
structure Packet where
  chain : Nat
  /-- 0 air, 1 Ethernet, 2 host, 3 flood, 4 engine. -/
  src : Nat
  /-- Radio, port or queue pair. -/
  port : Nat
  aid : Nat := 0
  tid : Nat := 0
  /-- The packed tick and the narrow stamp of its capture. -/
  tick : Nat := 0
  narrow : BitVec 32 := 0
  tag : BitVec 8 := 0
  stampOk : Bool := true
  lid : Nat := 0
  chainNo : Nat := 0
  rssi : BitVec 8 := 0
  hops : Nat := 0
  unknown : Bool := false
  unassoc : Bool := false
  fcnt : Nat := 0
  ttl0 : Nat := 0
  /-- Transmitter or originator address. -/
  ta : BitVec 48 := 0
  /-- The port receive status of R230. -/
  ethst : List Byte := []
  /-- TXWORD and TAG of a host frame's SOP descriptor (R403). -/
  txword : BitVec 32 := 0
  tagw : BitVec 32 := 0
  /-- It has waited for a reorder slot and is counted (R201). -/
  waited : Bool := false
  /-- A protected frame of the backbone that waits for its lane (R170). -/
  sec : Bool := false
  bytes : List Byte := []
  deriving DecidableEq, Repr

/-- A frame between two stages of the receive path: the frame and its station (0 none). -/
structure RxStage where
  item : RxItem
  aid : Nat
  /-- The cipher engine has left its packet number to the check at release (R143). -/
  unchecked : Bool := false
  deriving DecidableEq, Repr
/-! ### Braided links (spec/06_braided_links.md) -/

/-- One entry of the reorder pool in use (R133): a held frame, or a HOLE. -/
structure PoolEntry where
  hole : Bool
  lid : Nat
  pn : Nat
  held : Option RxStage
  deriving DecidableEq, Repr

/-- A reorder buffer whose hole timer has expired and whose settle wait runs (R144); frames captured at or after the
expiry wait behind it. -/
structure Settle where
  aid : Nat
  tid : Nat
  expiry : Nat
  late : List RxStage
  deriving DecidableEq, Repr

structure MlkState where
  /-- The reorder pool by entry index, 0 to 131,071. -/
  pool : List (Nat × Option PoolEntry) := []
  /-- The tick of each running hole timer, by 8 × AID + TID. -/
  expiry : List (Nat × Nat) := []
  settling : List Settle := []
  deriving DecidableEq, Repr
/-! ### The flood layer (spec/07_flood_relay.md) -/

/-- An entry of the sorus cache (R162); its index is its place in the map. -/
structure Sorus where
  orig : BitVec 48
  fcnt : BitVec 32
  keyid : Nat
  turn : Nat
  lid : Nat
  hops : Nat
  tick : Nat
  copies : Nat
  deriving DecidableEq, Repr

/-- A flood frame that has passed R154 and the CCM check, and waits for its settle end or its lookup (R163). -/
structure FloodWait where
  f : FloodFrame
  tick : Nat
  lid : Nat
  chainNo : Nat
  rssi : BitVec 8
  chain : Nat
  body : List Byte
  deriving DecidableEq, Repr

structure FldState where
  /-- The flood queues of the radios; a SCHED frame stands in none (R157, R158). -/
  queues : Vector (List TxFrame) 3 := Vector.replicate 3 []
  /-- Frames that have come back unsent, to be sent again in the next FLOOD window of their radio (R159). -/
  again : Vector (List TxFrame) 3 := Vector.replicate 3 []
  /-- Sorus entries by index, 0 to 4,095. -/
  sorus : List (Nat × Option Sorus) := []
  waiting : List FloodWait := []
  /-- Key slots written since the counter was last reset (R160). -/
  keysWritten : List Nat := []
  /-- The block last recorded in the Thallus journal; none before the first (R160). -/
  block : Option Nat := none
  /-- The cycle, counted from the epoch, in which each radio last sent SCHED (R157). -/
  schedAt : Vector (Option Nat) 3 := Vector.replicate 3 none
  /-- The start of the last FLOOD window that each radio was served in (R159). -/
  servedAt : Vector (Option Nat) 3 := Vector.replicate 3 none
  deriving DecidableEq, Repr
/-! ### The cluster unit (spec/08_cluster.md) -/

/-- A station entry of the directory (R181). -/
structure DirEntry where
  addr : Nat
  tick : Nat
  deriving DecidableEq, Repr

/-- A record of a DIR message (R182). -/
structure DirRec where
  kind : Nat
  mac : Nat
  addr : Nat
  tick : Nat
  deriving DecidableEq, Repr

/-- A FULL transfer in progress (R185). -/
structure FullRx where
  seq : Nat
  total : Nat
  got : List (Nat × DirRec)
  deriving DecidableEq, Repr

/-- An activation (R191). -/
structure Activation where
  kind : Nat
  map : Nat
  id : Nat
  turn : Nat
  deriving DecidableEq, Repr

/-- A plan being received (R190). -/
structure PlanRx where
  id : Nat
  nfrag : Nat
  got : List Nat
  deriving DecidableEq, Repr

/-- A handoff that this device takes part in (R196). -/
structure Handoff where
  /-- 0 manager, 1 source, 2 target. -/
  part : Nat
  mac : Nat
  src : Nat
  dst : Nat
  cut : Nat
  hid : Nat
  tkey : Nat
  aid : Nat := 0
  /-- The source has passed its cut. -/
  loaded : Bool := false
  /-- WSIZE of the receive agreements, by traffic identifier, as they stood at the cut (R195). -/
  sizes : List Nat := []
  /-- The station's link addresses as they stood when its context was freed (R130, R198). -/
  lmacs : List Nat := []
  deriving DecidableEq, Repr

structure CluState where
  /-- The SYNC slot, counted from the epoch, that is next to be received, missed or sent. -/
  slot : Nat := 0
  /-- Consecutive slots in which no SYNC of the cluster was captured, and whether one has been since the last slot closed
  (R178). -/
  run : Nat := 0
  caught : Bool := false
  /-- A takeover is held by the spindle's state (R178). -/
  takeHeld : Bool := false
  /-- Since its takeover the manager has named no deputy (R178). -/
  noDeputy : Bool := false
  /-- The tick of the last HB sent. -/
  hbAt : Nat := 0
  /-- The last HB of each DID: its tick (R177). -/
  hbSeen : List (Nat × Option Nat) := []
  /-- HFLAGS but for bit 1 (R176): DID_CONFLICT, ACT_LATE, EPOCH_MIS, SKEW. -/
  hflags : Nat := 0
  /-- What holds PLAN_FAIL: bit r, a plan of radio r failed its checks; bit 3 + r, one came while its bank was armed; bit 6,
  an activation lacked a staged plan (R190, R192). -/
  planBad : Nat := 0
  /-- The directory: station entries by MAC, and the devices' DIDs by backbone MAC (R181, R187). -/
  dir : List (Nat × Option DirEntry) := []
  devs : List (Nat × Option Nat) := []
  held : List (Nat × DirRec) := []
  log : List (Nat × DirRec) := []
  full : Option FullRx := none
  reportSeq : Nat := 0
  planRx : Vector (Option PlanRx) 3 := Vector.replicate 3 none
  /-- PLAN_ID and length staged on each radio (R190). -/
  staged : Vector (Nat × Nat) 3 := Vector.replicate 3 (0, 0)
  /-- The manager's activation and the DIDs it waits for (R191). -/
  act : Option (Activation × Nat) := none
  /-- The activations taken, and those withdrawn (R192, R193). -/
  taken : List Activation := []
  withdrawn : List Activation := []
  /-- The activations that an ACT has named, with their RADIO_MAP (R192). -/
  heard : List Activation := []
  /-- DIDs that have reported an image session ready: DID and session (R191, R309). -/
  ready : List (Nat × Nat) := []
  hands : List Handoff := []
  /-- Handoffs of stations handed out whose UPDATE has not been applied (R196 step 6). -/
  forward : List Handoff := []
  /-- Stations whose old AID is still taken: the AID Switch Response's frame number and the new AID (R197). -/
  peers : List (Nat × Nat) := []
  deriving DecidableEq, Repr
/-! ### The router (spec/09_router_pipeline.md) -/

/-- What parsing gives (R205, R206). -/
structure ParseRes where
  status : Nat := 0
  depth : Nat := 0
  lastHdr : Nat := 0
  /-- Key bytes 8 to 63 as written by extracts; the others are formed from the packet. -/
  key : List Byte := []
  padLen : Nat := 0
  offs : List Nat := []
  node : Nat := 0
  deriving DecidableEq, Repr

/-- An output of a packet (R213, R268). -/
structure Output where
  port : Nat
  queue : Nat := 0
  dst : Nat := 0
  txw : Nat := 0
  /-- DST of a flood (R268). -/
  fdst : Nat := 0
  deriving DecidableEq, Repr

/-- The slot states of R219. -/
inductive SlotSt where
  | pending
  | redisp
  | done
  | dropped
  | hole
  deriving DecidableEq, Repr

structure Slot where
  /-- The sequence tag (R201). -/
  seq : Nat
  st : SlotSt := .pending
  /-- The flow, once the classifier has finished (R219). -/
  flow : Option Nat := none
  pkt : Packet
  len : Nat
  parse : ParseRes
  /-- The wildcard table's result, found at entry (R207). -/
  wc : Option Nat := none
  /-- The rule result, 16 bytes as a number (R211). -/
  result : Nat := 0
  /-- An exception's class, and its host queue pair or none when it is dropped (R215). -/
  exc : Option (Nat × Option Nat) := none
  outs : List Output := []
  /-- The reference time of classification (R221). -/
  classAt : Nat := 0
  /-- Head release has begun. -/
  releasing : Bool := false
  /-- Its wait for a descriptor has been counted (R264). -/
  held : Bool := false
  /-- ROB still holds the slot's reference to the packet. -/
  ref : Bool := true
  deriving DecidableEq, Repr

/-- A wildcard entry (R208). -/
structure WcEntry where
  value : List Byte
  mask : List Byte
  result : Nat
  deriving DecidableEq, Repr

/-- A table command in progress (R210): operation, table, index, the staged entry. -/
structure TblCmd where
  op : Nat
  exact : Bool
  index : Nat
  data : List Byte
  deriving DecidableEq, Repr

structure PrsState where
  wc : List (Nat × Option WcEntry) := []
  /-- Exact entries by 4 × bucket + way: masked key and result (R209). -/
  em : List (Nat × Option (List Byte × Nat)) := []
  cmd : Option TblCmd := none
  /-- Token buckets: level in 1/2,000,000,000 packet and the reference time it held at; none is full (R215). -/
  tokens : List (Nat × Option (Nat × Nat)) := []
  /-- The slots in use, in arrival order (R219, R223). -/
  slots : List Slot := []
  /-- The loop queue (R268). -/
  loopq : List Packet := []
  deriving DecidableEq, Repr
/-! ### Ethernet ports (spec/10_ethernet.md) -/

/-- A frame in a port's transmit queue. -/
structure EthTx where
  /-- Its packet; none for a frame that the cluster unit or the flood layer has made. -/
  chain : Option Nat
  bytes : List Byte
  txw : Nat
  /-- The sequence tag of a frame that entered at IPORT 5 (R405). -/
  host : Option Nat := none
  /-- It goes to a cluster device, protected as R170 describes (R222). -/
  sec : Bool := false
  /-- A SYNC: TX_NS and TX_SEC are written at its departure (R173). -/
  sync : Bool := false
  /-- The packet number of a protected frame that has passed its lane (R329). -/
  pn : Option Nat := none
  deriving DecidableEq, Repr

structure EthPort where
  ingress : List Packet := []
  txq : List EthTx := []
  timing : List EthTx := []
  /-- Frames for the timing queue that wait at their source, the cluster unit (R235). -/
  late : List EthTx := []
  /-- The reference time at which a pause ends (R227). -/
  pauseEnd : Option Nat := none
  /-- The reference time since which the queues have been empty (R240). -/
  idleFrom : Nat := 0
  /-- No frame begins before this reference time (R240). -/
  readyAt : Nat := 0
  deriving DecidableEq, Repr
/-! ### Tasks and engines (spec/12_gouge_engines.md) -/

/-- Where a task is (R263). -/
inductive TaskSt where
  | ready
  | run (thread : Nat)
  /-- Waits for an engine other than the one that faulted. -/
  | redisp (not_ : Nat)
  deriving DecidableEq, Repr

structure Task where
  /-- The descriptor. -/
  desc : Nat
  /-- Enqueue order. -/
  order : Nat
  cls : Nat
  src : Nat
  arg0 : DWord := 0
  arg1 : DWord := 0
  /-- The sequence tag of its packet's slot. -/
  slot : Option Nat := none
  attempt : Nat := 0
  st : TaskSt := .ready
  deriving DecidableEq, Repr

/-- A thread that runs a task (R267). -/
structure Thread where
  desc : Nat
  pc : Nat
  regs : Vector DWord 16
  loc : List Byte
  /-- The return stack (R270). -/
  stack : List Nat := []
  /-- Its packet's bytes as changed so far; none without a packet. -/
  pkt : Option (List Byte) := none
  /-- Net bytes added at the head and at the tail since dispatch (R271). -/
  head : Int := 0
  tail : Int := 0
  /-- The chain that PNEW made (R270). -/
  made : Option Nat := none
  words : Nat := 0
  deriving DecidableEq, Repr

/-- An action timer (R273). -/
structure Timer where
  /-- The reference time at which it fires; none while not armed. -/
  at_ : Option Nat := none
  cls : Nat := 0
  arg0 : DWord := 0
  /-- A firing that waits for its task: class and ARG0, and whether its wait is counted. -/
  fired : Option (Nat × DWord × Bool) := none
  deriving DecidableEq, Repr

/-- An event in the event queue (R263): class, ARG0, ARG1, whether its wait is counted. -/
structure TaskEvent where
  cls : Nat
  arg0 : Nat
  arg1 : Nat
  waited : Bool := false
  deriving DecidableEq, Repr

structure TskState where
  tasks : List Task := []
  /-- Busy threads by 4 × engine + thread. -/
  threads : List (Nat × Option Thread) := []
  nextOrder : Nat := 0
  evq : List TaskEvent := []
  timers : List (Nat × Timer) := []
  /-- The engine that took a class's previous task (R217); 15 before the first. -/
  lastEng : List (Nat × Nat) := []
  /-- The thread of an engine that issued last (R260); 3 before the first. -/
  lastThr : List (Nat × Nat) := []
  /-- Threads whose last word may make them wait: for a table, a packet byte beyond the head window, a station context (R260). -/
  waits : List Nat := []
  /-- The action-store image, the same in all sixteen stores and in PROGCOPY (R261, R290). -/
  store : List Byte := []
  /-- The trace ring has no unwritten entry left (R279). -/
  trcFull : Bool := false
  /-- Action tables 2 to 63, byte 2^34 × table + offset (R289). -/
  tables : List Host.Cell := []
  deriving DecidableEq, Repr
/-! ### The blank in use (spec/13_blank_image.md) -/

/-- The blank in use: the bytes of its header and of each section, as they were loaded (R283, R298). -/
structure Blank where
  hdr : List Byte := []
  memmap : List Byte := []
  parse : List Byte := []
  tables : List Byte := []
  programs : List Byte := []
  classes : List Byte := []
  radio : List Byte := []
  seqprog : List Byte := []
  plantpl : List Byte := []
  faultpol : List Byte := []
  deriving DecidableEq, Repr
/-! ### Updates and turnover (spec/14_update_turnover.md) -/

/-- The states of an image slot (R304). -/
inductive ImgSlot where
  | none
  | pending
  | trial
  | confirmed
  deriving DecidableEq, Repr

/-- The training record (R336). -/
structure TrainRec where
  rate : Nat
  dens : Bool
  ranks : Bool
  delays : List Word
  order : Nat
  deriving DecidableEq, Repr

/-- What the Thallus journal keeps beyond the flood counter's block (R160) and the persistent fault log (R389). -/
structure Journal where
  slotA : ImgSlot := .none
  slotB : ImgSlot := .none
  /-- The result that the next boot reports after a fallback: 0, EXPIRED or REVERTED (R322). -/
  why : Nat := 0
  verFloor : Nat := 0
  /-- [0] STAGE, [1] ACTIVATE (R311). -/
  locks : BitVec 2 := 0
  tokenCtr : Nat := 0
  train : Option TrainRec := .none
  deriving DecidableEq, Repr

/-- An armed turnover (R314, R322). -/
structure TurnArm where
  turn : Nat
  /-- By an ACT of KIND IMAGE. -/
  cluster : Bool
  /-- A fallback: it is never refused. -/
  fallback : Bool
  deriving DecidableEq, Repr

/-! ### The key store (spec/15_cipher_keys.md) -/

/-- A key slot with its record (R329, R330, R331). -/
structure KeySlot where
  suite : Nat
  key : BitVec 256
  txPn : Nat := 0
  rxPn : Nat := 0
  mgPn : Nat := 0
  deriving DecidableEq, Repr

/-- A key command that runs (R332, R333). -/
inductive KeyCmd where
  | install (slot suite : Nat) (key : BitVec 256)
  | erase (slot : Nat)
  | wipe
  deriving DecidableEq, Repr

structure KeyState where
  /-- Slots 0 to 16,383; an unlisted slot is empty. -/
  slots : List (Nat × Option KeySlot) := []
  /-- The persistent backing of slots 0 to 0x03FF (R331). -/
  backing : List (Nat × Option KeySlot) := []
  /-- KEY_DATA0 to KEY_DATA7, low word first; they read 0 (R332). -/
  data : BitVec 256 := 0
  cmd : Option KeyCmd := none
  deriving DecidableEq, Repr
/-! ### The DRAM controller (spec/16_dram.md) -/

/-- A run of the pattern helper: compare or write, in raw or region mode, its first access, their number, and its pattern (R347). -/
structure PatRun where
  cmp : Bool
  raw : Bool
  base : Nat
  len : Nat
  kind : Nat
  inv : Bool
  seed : Nat
  deriving DecidableEq, Repr

structure DmcState where
  /-- Refreshes outstanding on CH0 and CH1 (R341). -/
  out0 : Nat := 0
  out1 : Nat := 0
  /-- A tracking run of CH0, CH1 waits for the end of panic (R342). -/
  trk0 : Bool := false
  trk1 : Bool := false
  /-- The pattern run in progress (R347). -/
  pat : Option PatRun := .none
  /-- What the pattern helper has written, by the place of the access in the DRAM (R337, R347). -/
  cells : List (Nat × Option (List Byte)) := []
  /-- The refresh intervals of CH0 and CH1, in quarters of the nominal one (R341). -/
  ivl0 : Nat := 4
  ivl1 : Nat := 4
  deriving DecidableEq, Repr
/-! ### The power sequencer (spec/17_power_reset.md) -/

/-- Where the part is, beyond PWR_STAT: running (RUN, IDLE, SLEEP and the moves between them), in the boot ROM before its
choice, unpowered in DEEP or OFF, leaving DEEP, powered down after a rail failure, or without VDD_AON. -/
inductive PwrPhase where
  | run
  | boot
  | deep
  | deepExit
  | off
  | railFail
  /-- VDD_AON is gone (R365). -/
  | unpowered
  deriving DecidableEq, Repr

structure PwrState where
  phase : PwrPhase := .boot
  /-- The wake that arrived during an entry (R356), as PWR_LAST.WAKE codes it. -/
  wake : Option Nat := .none
  /-- The reference time of the last rail failure, and whether a second try is due (R363). -/
  railAt : Option Nat := .none
  retry : Bool := false
  /-- The reference time of the last boot (R385). -/
  bootAt : Nat := 0
  /-- The reference time at which the present entry began. -/
  entryAt : Nat := 0
  /-- The reference time at which something that keeps the device out of IDLE last came or went (R352). -/
  busyAt : Nat := 0
  /-- The spindle's latch and saved configuration, and the raw count, of R53. -/
  saved : Option (SpnSaved) := .none
  deriving DecidableEq, Repr
/-! ### The real-time clock (spec/18_rtc.md) -/

/-- The calendar of R370: two BCD digits in each, as the registers show them. -/
structure Calendar where
  sec : Nat := 0
  min : Nat := 0
  hour : Nat := 0
  wday : Nat := 6
  date : Nat := 1
  month : Nat := 1
  century : Nat := 0x20
  year : Nat := 0
  deriving DecidableEq, Repr

/-- What the clock keeps beyond its registers, which show the shadows of R371. The start values are those of R366. -/
structure RtcState where
  cal : Calendar := {}
  /-- The prescaler, 0 to 32,767, and the raw count of 48 bits (R369). -/
  pre : Nat := 0
  raw : Nat := 0
  /-- The held copy and the reference time of its first write (R372). -/
  held : Option Calendar := none
  heldAt : Nat := 0
  /-- The reference time at which the freeze began (R371). -/
  frozenAt : Option Nat := none
  /-- An accepted SET waits for the next edge: the copy, and the mode it writes (R372, R373). -/
  pend : Option (Calendar × Option Bool) := none
  /-- The reference time of the first write of that copy (R372). -/
  pendAt : Nat := 0
  /-- A forward shift that waits for the next edge, and the counts still to be withheld (R374). -/
  shift : Nat := 0
  withhold : Nat := 0
  /-- A dip is latched (R366). -/
  dip : Bool := true
  deriving DecidableEq, Repr
/-! ### The fault collector (spec/19_faults_test.md) -/

/-- One event of a fault source on its way to the collector (R380, R382). -/
structure FltEvent where
  src : Nat
  code : Nat
  detail : Nat
  /-- The packed tick of the event. -/
  tick : Nat
  /-- The fabric cycle of the event (R435). -/
  cycle : Nat
  /-- The spindle was not LOCKED (R387). -/
  est : Bool := true
  /-- Caused by the collector's own reaction (R390). -/
  second : Bool := false
  deriving DecidableEq, Repr

/-- One fault source (R381, R384, R388). -/
structure FltSource where
  /-- 0 CLEAR, 1 MINOR, 2 MAJOR. -/
  state : Nat := 0
  count : Nat := 0
  recovered : Nat := 0
  /-- The reference time at which the window ends; none while no window is open. -/
  winEnd : Option Nat := none
  /-- The reference time of the latest event. -/
  last : Nat := 0
  /-- The ring index of the episode's record; none where it is not in the ring. -/
  pos : Option Nat := none
  /-- The serial number of the episode's entry in the persistent log. -/
  logged : Option Nat := none
  /-- The register whose bit an isolation cleared, until the host writes it. -/
  iso : Option Nat := none
  deriving DecidableEq, Repr

structure FltState where
  /-- Events that wait to be classified (R382). -/
  queue : List FltEvent := []
  /-- A reaction of the collector runs (R390). -/
  reacting : Bool := false
  srcs : List (Nat × FltSource) := []
  /-- The number of the last record (R387). -/
  seq : Nat := 0
  /-- Entries ever written to the persistent log, which lies in the journal (R389). -/
  logTot : Nat := 0
  /-- The reference time at which the present ERR_N pulse began or begins, and the earliest start of the next (R386). -/
  errn : Option Nat := none
  errnNext : Nat := 0
  deriving DecidableEq, Repr

/-! ### The idle-time test (spec/19_faults_test.md) -/

structure IttState where
  /-- The step in progress: test, and the tick at which it began; for RTC_FREQ the reference time. -/
  step : Option (Nat × Nat) := none
  /-- The turn in which the round began; none before the first. -/
  round : Option Nat := none
  /-- A round is under way. -/
  going : Bool := false
  /-- STARVED has been raised in this round. -/
  starved : Bool := false
  deriving DecidableEq, Repr
/-! ### The host interface (spec/20_host_interface.md) -/

/-- An output that waits for a receive ring (R401, R402). -/
structure HostOut where
  q : Nat
  chain : Nat
  bytes : List Byte
  seq : Nat
  tag : Nat
  exc : Option Nat
  status : List Byte
  /-- Held under HOLD 1 since this reference time; none once it has its descriptors. -/
  held : Option Nat
  /-- Recorded in the handover area, and so written ahead of its pair's later outputs (R256). -/
  recorded : Bool := false
  deriving DecidableEq, Repr

/-- Completions since the last interrupt of a ring, and the reference time of the first (R406). -/
structure Moderation where
  count : Nat := 0
  first : Nat := 0
  deriving DecidableEq, Repr

structure HifState where
  wait : List HostOut := []
  /-- By 2 × queue pair, plus 1 for transmit. -/
  mods : List (Nat × Moderation) := []
  /-- The reference time of the last heartbeat write, or since when it is watched (R408). -/
  hbAt : Nat := 0
  /-- The queue pair read last (R403). -/
  lastTx : Nat := 31
  /-- The queue pairs whose next frame waits for a reorder slot and is counted (R201). -/
  stalled : List Nat := []
  deriving DecidableEq, Repr
/-- What is in flight on the core die and keeps its buffers over a turnover (R318). -/
structure InFlight where
  rxq : List RxItem
  cipq : List RxStage
  mlkq : List RxStage
  prsq : List Packet
  ciptx : List (Fin 3 × TxFrame)
  reports : List Report
  wait : List HostOut
  deriving DecidableEq, Repr

/-- The handover area, as R316 divides it, and what lies in DRAM under self-refresh: what the boot ROM restores. -/
structure Handover where
  /-- The slot made PENDING, none at a fallback, and the session. -/
  slot : Option Bool
  session : Nat
  turn : Nat
  /-- The register image: addresses and values. -/
  regs : List (Nat × Word)
  /-- What the device itself moves of the ring records and of the state record: ring indices, plan and uplink state, the
  cluster unit's STAT, TERM and DSEQ. -/
  shown : List (Nat × Word)
  /-- The image of the ACC window. -/
  acc : List Byte
  /-- SPN_FREQ and SPN_STAT at the seal, the wide clock at turn start T, and the reference time of turn start T. -/
  freq : Int
  spnStat : Word
  wideU : Nat
  refAt : Nat
  /-- The blank handed over from, and the slot it lies in. -/
  old : Blank
  oldSlot : Bool
  /-- UPD_CNT_HO_DROP. -/
  drops : Nat
  chk : ChkState
  /-- The former owners of every chain that passed to HANDOVER. -/
  owners : List (Nat × List Nat)
  accS : AccState
  mlkx : MlkState
  fld : FldState
  clu : CluState
  wc : List (Nat × Option WcEntry)
  em : List (Nat × Option (List Byte × Nat))
  tables : List Host.Cell
  flight : InFlight
  deriving DecidableEq, Repr

structure UpdState where
  /-- The last identifier issued (R305). -/
  lastSess : Nat := 0
  /-- The size of the open session. -/
  total : Nat := 0
  /-- The reference time of the last accepted block, of the opening or of a disarming (R308). -/
  sessAt : Nat := 0
  armed : Option TurnArm := .none
  /-- The handover area as it is sealed, before the core die resets (R315 step 6). -/
  area : Option Handover := .none
  /-- The handover of a turnover whose core die has been reset (R315 step 7). -/
  ho : Option Handover := .none
  /-- The reference time of the end of R298 step 7 (R321). -/
  runAt : Nat := 0
  /-- The blank in use was taken by a turnover (R322). -/
  byTurnover : Bool := false
  /-- The boot ROM waits for the host (R27). -/
  waiting : Bool := false
  /-- The token being checked (R311). -/
  token : Option (List Byte) := .none
  /-- The settings region that SETTINGS shows: false 0, true 1; and whether the other is free (R302, R303). -/
  active : Bool := false
  freeOther : Bool := false
  /-- Radios whose COAST records are loaded when coasting ends (R298 step 5). -/
  coastLoad : List (Fin 3) := []
  /-- IMG acknowledgements of the workers, by DID: session, OFFSET, LAST (R309). -/
  acks : List (Nat × Option (Nat × Nat × Bool)) := []
  deriving DecidableEq, Repr
/-- What leaves the part. -/
inductive OutMsg where
  | strobe (tag : BitVec 8)
  | ptmRequest
  /-- A PPDU of queued frames begins: radio, first tick, chain mask, highest power in 0.25 dBm, what it carries; or a template with
  its power, parameters and bytes (R58, R77, R78, R122). One announced for the same tick replaces an earlier one. -/
  | airTx (r : Fin 3) (start chains : Nat) (pwr : Int) (units : List TxUnit)
  | airTpl (r : Fin 3) (start chains : Nat) (pwr : Int) (phy : Phy) (bytes : List Byte)
  /-- What was announced of a radio's transmission from this tick on is not sent (R65, R72). -/
  | airCut (r : Fin 3) (at_ : Nat)
  /-- An immediate response to a PPDU, with its chains, highest power and parameters (R58, R59, R90, R95). -/
  | airRsp (r : Fin 3) (at_ chains : Nat) (pwr : Int) (phy : Phy) (what : RspKind)
  /-- The control lines of a radio's four front-end modules, chain A first, from a tick on, in place of what stood announced
  for that tick and later (R67, R69). -/
  | fem (r : Fin 3) (lines : List Nat) (at_ : Nat)
  /-- An association response: radio, station, status, AID, vendor element (R22, R99). -/
  | assocResp (r : Fin 3) (mac status aid : Nat) (elem : List Byte)
  /-- An ADDBA response: station, TID, status, granted size (R136). -/
  | addbaResp (aid tid status size : Nat)
  /-- A frame on an Ethernet port's line without its FCS: port, wide time of departure in half nanoseconds, whether it is
  protected as R170 describes, whether its FCS is inverted (R236). -/
  | ethTx (p : Fin 2) (at_ : Nat) (bytes : List Byte) (pn : Option Nat) (badFcs : Bool)
  /-- A posted write to host memory (R397). -/
  | hostWrite (addr : Nat) (bytes : List Byte)
  /-- An MSI-X message (R397). -/
  | msix (vec : Nat)
  /-- The status byte of a Host Serial Port frame and the words that follow it (R410). -/
  | hsp (status : Nat) (words : List Word)
  /-- The level of ERR_N changes: low or released, from a reference time on (R386). -/
  | errN (low : Bool) (at_ : Nat)
  /-- A TTO output, the front end or a transmitter is released or silenced (R362, R364): 0 front end, 1 Ethernet, 2 PCIe,
  3 HSP_DO, 4 time triggers. -/
  | released (what : Nat)
  /-- The inactive level to which a time-trigger output is driven before its release at an entry to DEEP or OFF (R52, R354). -/
  | ttoRest (n : Fin 4) (level : Bool)
  /-- The rail-enable outputs: RAILEN_CORE, RAILEN_RF (R349). -/
  | rails (core rf : Bool)
  /-- A DRAM mode register is written (R346): channel mask, rank, register, value. -/
  | modeReg (ch rank mr op : Nat)
  /-- A refresh of a channel is issued, per bank or all-bank (R341); a channel's ZQ calibration (R343). -/
  | refresh (ch : Fin 2) (perBank : Bool)
  | zqCal (ch : Fin 2)
  /-- An EVENT code posted to the access scheduler (R75, R116). -/
  | seqEvent (r : Fin 3) (code tick : Nat)
  deriving DecidableEq, Repr

/-- The state of the part. -/
structure State where
  /-- The commands that wait, first in, first out. -/
  pending : List Instr := []
  /-- Registers that differ from their reset value, by BAR0 address (R11, R28). -/
  regs : List (Nat × Word) := []
  /-- The 40 MHz reference's time since power-on, in half nanoseconds. -/
  ref : Nat := 0
  /-- How many free values have been taken (log entry 4): the model's own field. -/
  freeCtr : Nat := 0
  /-- The word that the last host read has returned. -/
  hostRd : Word := 0
  /-- What has left the part: the model's own record of it. -/
  out : List OutMsg := []
  /-- Byte memories of BAR0 and of the table windows, by BAR0 address; sequencer programs and channel tables among them. -/
  bar : List Host.Cell := []
  /-- Station contexts, byte 256 × AID + offset (R102). -/
  ctx : List Host.Cell := []
  /-- Braid records, byte 256 × AID + offset (R133). -/
  mlk : List Host.Cell := []
  acc : AccState := {}
  mlkx : MlkState := {}
  fld : FldState := {}
  clu : CluState := {}
  key : KeyState := {}
  prs : PrsState := {}
  eth : Vector EthPort 2 := Vector.replicate 2 {}
  tsk : TskState := {}
  hif : HifState := {}
  /-- Frames on their way through the cipher engine toward a radio (R135). -/
  ciptx : List (Fin 3 × TxFrame) := []
  /-- REPORT records that wait for the next HB (R183). -/
  reports : List Report := []
  /-- Received frames on their way: to the cipher engine, to the reorder buffers, to the parser. -/
  cipq : List RxStage := []
  mlkq : List RxStage := []
  prsq : List Packet := []
  spn : SpnState := {}
  flt : FltState := {}
  rtc : RtcState := {}
  itt : IttState := {}
  upd : UpdState := {}
  jrn : Journal := {}
  /-- The bytes of the image slots and settings regions in the magnetoresistive memory (R280). -/
  thal : List Host.Cell := []
  dmc : DmcState := {}
  pwr : PwrState := {}
  chk : ChkState := {}
  /-- The three radios. -/
  frn : Vector FrnState 3 := Vector.replicate 3 {}
  /-- Frames that have crossed the Frond link, and statuses that are to cross it (R82, R79). -/
  rxq : List RxItem := []
  retq : List TxReturn := []
  /-- The blank in use (R298). -/
  blk : Option Blank := none
  /-- EVENT codes on their way to the access scheduler (R116): radio, code, tick. -/
  seqEvs : List (Fin 3 × Nat × Nat) := []
  /-- The holding registers of R9 for writes and reads, by 2 × address of the low word, plus 1 for the Host Serial Port. -/
  wrHold : List (Nat × Option Word) := []
  rdHold : List (Nat × Option Word) := []
  /-- Failures so far of the flit in hand on the Frond link, the Thallus link and the key lane (R16). -/
  linkFails : Vector Nat 3 := Vector.replicate 3 0
  /-- A host access that ends IDLE has come (R352). -/
  stir : Bool := false
  deriving DecidableEq, Repr

/-- The machine right after power-on reset, in the boot ROM before it has chosen a slot: every register at the reset value
its register map gives (no entry listed), every memory and every queue empty, the RTC's domain with a latched dip (R361,
R366). What the spec gives no reset value stands at the value log entries 5 to 7 name. -/
def State.reset : State := { pwr := { phase := .boot }, rtc := { dip := true } }

end Sys2Proof.Machine
end

