-- ==== Sys2Proof/Machine/Ops.lean ====
section
/-! DEFINITION. The named operations over the state: the sparse maps, registers and fields, counters, the passing of
time, the spindle's reading of the wide clock, and the raising of a fault source. -/

namespace Sys2Proof.Machine

/-! ### Sparse maps: an unlisted key reads as the map's default -/

/-- What key `k` reads as in the map `m` whose unlisted keys read as `d` says. -/
def SMap.get {α : Type} (d : Nat → α) : List (Nat × α) → Nat → α
  | [], k => d k
  | (a, v) :: t, k => if a = k then v else SMap.get d t k

/-- Put an entry before the first larger key. -/
def SMap.insert {α : Type} : List (Nat × α) → Nat → α → List (Nat × α)
  | [], k, v => [(k, v)]
  | (a, w) :: t, k, v => if k < a then (k, v) :: (a, w) :: t else (a, w) :: SMap.insert t k v

/-- Drop every entry of a key. -/
def SMap.drop {α : Type} : List (Nat × α) → Nat → List (Nat × α)
  | [], _ => []
  | (a, w) :: t, k => if a = k then SMap.drop t k else (a, w) :: SMap.drop t k

/-- Write `v` at key `k`, keeping the canonical form: the value an unlisted key reads as removes the entry. -/
def SMap.set {α : Type} [DecidableEq α] (d : Nat → α) (m : List (Nat × α)) (k : Nat) (v : α) : List (Nat × α) :=
  if v = d k then SMap.drop m k else SMap.insert (SMap.drop m k) k v

/-- Keys strictly rising, starting above `lo`. -/
def SMap.sortedFrom {α : Type} : Nat → List (Nat × α) → Bool
  | _, [] => true
  | lo, (a, _) :: t => decide (lo ≤ a) && SMap.sortedFrom (a + 1) t

/-- The canonical form: keys strictly rising, no entry equal to what an unlisted key reads as. -/
def SMap.wf {α : Type} [DecidableEq α] (d : Nat → α) (m : List (Nat × α)) : Bool :=
  SMap.sortedFrom 0 m && m.all (fun e => decide (e.2 ≠ d e.1))

/-! ### Bytes, little-endian (R6) -/

/-- `n` bytes of a byte map from address `a`, lowest address least significant. -/
def leGet (d : Nat → Byte) (m : List Host.Cell) (a : Nat) : Nat → Nat
  | 0 => 0
  | n + 1 => (SMap.get d m a).toNat + 256 * leGet d m (a + 1) n

/-- Write `n` bytes of `v` from address `a`, lowest address least significant. -/
def leSet (d : Nat → Byte) (m : List Host.Cell) (a : Nat) : Nat → Nat → List Host.Cell
  | 0, _ => m
  | n + 1, v => leSet d (SMap.set d m a (BitVec.ofNat 8 v)) (a + 1) n (v / 256)

/-- Write a run of bytes. -/
def bytesSet (d : Nat → Byte) (m : List Host.Cell) (a : Nat) : List Byte → List Host.Cell
  | [] => m
  | b :: t => bytesSet d (SMap.set d m a b) (a + 1) t

/-- Read a run of bytes. -/
def bytesGet (d : Nat → Byte) (m : List Host.Cell) (a : Nat) : Nat → List Byte
  | 0 => []
  | n + 1 => SMap.get d m a :: bytesGet d m (a + 1) n

/-- The number that a run of bytes spells, least significant first. -/
def leNum : List Byte → Nat
  | [] => 0
  | b :: t => b.toNat + 256 * leNum t

/-- `n` bytes of a number, least significant first. -/
def leBytes : Nat → Nat → List Byte
  | 0, _ => []
  | n + 1, v => BitVec.ofNat 8 v :: leBytes n (v / 256)

/-! ### Registers and fields -/

/-- The current value of the register at a BAR0 address. -/
def State.rd (s : State) (a : Nat) : Word := SMap.get regReset s.regs a

/-- Set the register at a BAR0 address, all bits. -/
def State.wr (s : State) (a : Nat) (v : Word) : State := { s with regs := SMap.set regReset s.regs a v }

/-- The bits that a field takes in its register. -/
def Fld.mask (f : Fld) : Word := BitVec.ofNat 32 ((2 ^ f.w - 1) * 2 ^ f.lo)

/-- The value of a field. -/
def State.get (s : State) (f : Fld) : Nat := (s.rd f.addr).toNat / 2 ^ f.lo % 2 ^ f.w

/-- The field as a flag. -/
def State.flag (s : State) (f : Fld) : Bool := s.get f != 0

/-- Set a field; a value that does not fit loses its high bits. -/
def State.put (s : State) (f : Fld) (v : Nat) : State :=
  s.wr f.addr ((s.rd f.addr &&& ~~~ f.mask) ||| (BitVec.ofNat 32 (v * 2 ^ f.lo) &&& f.mask))

/-- Set a one-bit field. -/
def State.putB (s : State) (f : Fld) (b : Bool) : State := s.put f (if b then 1 else 0)

/-- Add `n` to a whole-word counter, saturating at 0xFFFF_FFFF. -/
def State.bumpBy (s : State) (a n : Nat) : State :=
  s.wr a (BitVec.ofNat 32 (min 0xFFFFFFFF ((s.rd a).toNat + n)))

/-- Count one in a whole-word counter. -/
def State.bump (s : State) (a : Nat) : State := s.bumpBy a 1

/-- Count one in a field, saturating at all ones. -/
def State.bumpF (s : State) (f : Fld) : State := s.put f (min (2 ^ f.w - 1) (s.get f + 1))

/-- A signed number as a 32-bit word. -/
def word32 (i : Int) : Word := BitVec.ofInt 32 i

/-- A signed number saturated to ±(2^31 − 1). -/
def sat31 (i : Int) : Int := max (-2147483647) (min 2147483647 i)

/-- A value taken with 0 standing for 1 (many fields: "0 taken as 1"). -/
def atLeast1 (n : Nat) : Nat := max 1 n

/-- A 64-bit register pair as one number: the low word's address is given (R9). -/
def State.rd64 (s : State) (lo : Nat) : Nat := (s.rd lo).toNat + 2 ^ 32 * (s.rd (lo + 4)).toNat

/-- Set a 64-bit register pair. -/
def State.wr64 (s : State) (lo : Nat) (v : Nat) : State :=
  (s.wr lo (BitVec.ofNat 32 v)).wr (lo + 4) (BitVec.ofNat 32 (v / 2 ^ 32))

/-! ### Free values -/

/-- The next free value: nothing constrains it (log entry 4). -/
def State.draw (s : State) : Nat := (Config.freeValue s.freeCtr).toNat

/-- One free value has been taken. -/
def State.drawn (s : State) : State := { s with freeCtr := s.freeCtr + 1 }

/-! ### Time -/

/-- One turn: 2^20 µs, in nanoseconds (R31). -/
def turnNs : Nat := 1048576000

/-- One turn in ticks of 62.5 ns. -/
def turnTicks : Nat := 0x1000000

/-- The rate correction in use, ppb: 0 in FREE, the frequency term F in HOLDOVER and ESTIMATED, else R (R430). -/
def State.rate (s : State) : Int :=
  match s.get SPN_STAT_STATE with
  | 1 => 0
  | 4 => s.spn.f
  | 5 => s.spn.f
  | _ => s.spn.r

/-- How far the wide clock moves in half a nanosecond of the reference: in 10^-9 of half a nanosecond. -/
def State.pace (s : State) : Nat := (1000000000 + s.rate).toNat

/-- `dt` half nanoseconds of the reference pass. -/
def State.pass (s : State) (dt : Nat) : State :=
  { s with ref := s.ref + dt,
           spn := { s.spn with wideU := if s.spn.hasTime then s.spn.wideU + dt * s.pace else s.spn.wideU } }

/-- The wide time in half nanoseconds. -/
def State.wideHalf (s : State) : Nat := s.spn.wideU / 1000000000

/-- The wide time in nanoseconds. -/
def State.wideNs (s : State) : Nat := s.spn.wideU / 2000000000

/-- The committed epoch, in nanoseconds (R37). -/
def State.epochNs (s : State) : Nat :=
  ((s.rd SPN_EPOCH_SEC_LO).toNat + 2 ^ 32 * (s.rd SPN_EPOCH_SEC_HI).toNat) * 1000000000 + (s.rd SPN_EPOCH_NS).toNat

/-- Turns run: the spindle is enabled, holds time, and its time is not before the epoch (R32, R42). -/
def State.running (s : State) : Bool :=
  s.flag SPN_CTL_EN && s.spn.hasTime && decide (2 * s.epochNs ≤ s.wideHalf)

/-- Ticks since the epoch, floor((W − E) / 62.5 ns): turn × 2^24 + angle (R31). -/
def State.absTick (s : State) : Nat := (s.wideHalf - 2 * s.epochNs) / 125

/-- What is placed on the spindle runs: turns run and the spindle is not held (R42, R48). -/
def State.placing (s : State) : Bool := s.running && !s.flag SPN_STAT_HELD

/-- The turn number (R31); 0 before the epoch (R32). -/
def State.turn (s : State) : Nat := if s.running then s.absTick / turnTicks else 0

/-- The angle (R31); 0 before the epoch (R32). -/
def State.angle (s : State) : Nat := if s.running then s.absTick % turnTicks else 0

/-- A tick packed into 64 bits: [39:0] turn, [63:40] angle. -/
def packTick (abs : Nat) : Nat := abs / turnTicks % 2 ^ 40 + 2 ^ 40 * (abs % turnTicks)

/-- Ticks since the epoch that a packed tick names. -/
def unpackTick (p : Nat) : Nat := p % 2 ^ 40 * turnTicks + p / 2 ^ 40 % turnTicks

/-- The tick that a record made now carries: with no time held, a free value (log entry 4). -/
def State.stampTick (s : State) : Nat :=
  if s.running then packTick s.absTick else if s.spn.hasTime then 0 else (Config.tickNoTime s.ref).toNat

/-- The least wait, in half nanoseconds, after which the wide clock reads at least `target` half nanoseconds. -/
def State.waitFor (s : State) (target : Nat) : Nat :=
  (target * 1000000000 - s.spn.wideU + (s.pace - 1)) / s.pace

/-- One tick of 62.5 ns passes with no command: what a step does on an empty queue (DESIGN CHOICE, log entry 1). -/
def State.idle (s : State) : State := s.pass 125

/-- Time passes until the wide clock reads `target` half nanoseconds; it never runs back. -/
def State.toWideHalf (s : State) (target : Nat) : State :=
  if s.spn.hasTime then s.pass (s.waitFor target) else s

/-- Time passes until the spindle reaches the tick `abs` counted from the epoch. -/
def State.toAbsTick (s : State) (abs : Nat) : State := s.toWideHalf (2 * s.epochNs + 125 * abs)

/-- Time passes until the reference reads `t` half nanoseconds; it never runs back. -/
def State.toRef (s : State) (t : Nat) : State := s.pass (t - s.ref)

/-! ### The Frond die's angle counter (R18, R19, R81) -/

/-- Frond's clock since the epoch, in 10^-9 of half a nanosecond: the core's but for a step whose strobe Frond ignored; on the
reference alone while there are no strobes. -/
def State.frnClk (s : State) : Int :=
  match s.spn.frond.free with
  | some (c, t) => c + 1000000000 * ((s.ref - t : Nat) : Int)
  | none => (s.spn.wideU : Int) - 2000000000 * s.epochNs + s.spn.frond.lag

/-- How far it moves in half a nanosecond of the reference. -/
def State.frnPace (s : State) : Nat := if s.spn.frond.free.isSome then 1000000000 else s.pace

/-- Ticks since the epoch by the Frond counter. -/
def State.frnTick (s : State) : Nat := (s.frnClk / 125000000000).toNat

/-- The Frond counter runs: the spindle does, or Frond runs on without its strobes. -/
def State.frnRuns (s : State) : Bool := s.spn.frond.free.isSome || s.running

/-- The pairs execute: the spindle runs turns and is not held (R73), or Frond runs on without its strobes (R81). -/
def State.frnGo (s : State) : Bool := s.spn.frond.free.isSome || s.placing

/-- The turn and the angle of the Frond counter. -/
def State.frnTurnNo (s : State) : Nat := if s.frnRuns then s.frnTick / turnTicks else 0
def State.frnAngle (s : State) : Nat := if s.frnRuns then s.frnTick % turnTicks else 0

/-- Time passes until the Frond counter reads the tick `t`; it never runs back. -/
def State.toFrnTick (s : State) (t : Nat) : State :=
  if s.spn.frond.free.isSome || s.spn.hasTime then
    s.pass ((((t : Int) * 125000000000 - s.frnClk).toNat + (s.frnPace - 1)) / s.frnPace)
  else s

/-! ### Raising a fault source (R379, R380, R382) -/

/-- The base source number of the EVT register at an address (R379); none for a register that is no EVT register. -/
def srcBase (a : Nat) : Option Nat :=
  if a = SPN_EVT then some 8
  else if a = FRN_EVT 0 then some 19
  else if a = FRN_EVT 1 then some 30
  else if a = FRN_EVT 2 then some 41
  else if a = ACC_EVT then some 52
  else if a = MLK_EVT then some 63
  else if a = FLD_EVT then some 68
  else if a = CLU_EVT then some 75
  else if a = PRS_EVT then some 88
  else if a = ROB_EVT then some 93
  else if a = ETH_EVT 0 then some 97
  else if a = ETH_EVT 1 then some 104
  else if a = CHK_EVT then some 111
  else if a = TSK_EVT then some 116
  else if a = UPD_EVT then some 141
  else if a = CIP_EVT then some 149
  else if a = KEY_EVT then some 158
  else if a = DMC_EVT then some 160
  else if a = PWR_EVT then some 166
  else if a = RTC_EVT then some 170
  else if a = HIF_EVT then some 176
  else if a = ITT_EVT then some 184
  else none

/-- Place an event behind those of earlier fabric cycles and, within its own cycle, in ascending source number (R382). -/
def fltPlace (e : FltEvent) : List FltEvent → List FltEvent
  | [] => [e]
  | h :: t => if h.cycle = e.cycle ∧ e.src < h.src then e :: h :: t else h :: fltPlace e t

/-- An event of a fault source reaches the collector: it waits in the queue of 64, or is counted as lost when the
queue is full (R382). With FLT_CTL.EN clear nothing is classified, so nothing waits. -/
def State.raiseSrc (s : State) (src code detail : Nat) : State :=
  if s.flag FLT_CTL_EN then
    if s.flt.queue.length < 64 then
      let e : FltEvent := { src := src, code := code, detail := detail, tick := s.stampTick, cycle := s.ref / 2,
                             est := decide (s.get SPN_STAT_STATE ≠ 3), second := s.flt.reacting }
      { s with flt := { s.flt with queue := fltPlace e s.flt.queue } }
    else (s.bump FLT_CNT_OVERFLOW).put FLT_FLAG_OVERFLOW 1
  else s

/-- Set one bit of an EVT register and raise its fault source; `detail` is the record's DETAIL (R387). Each occurrence is
an event, whether or not the bit is already set (R380). -/
def State.raiseD (s : State) (f : Fld) (detail : Nat) : State :=
  match srcBase f.addr with
  | some b => (s.put f 1).raiseSrc (b + f.lo) f.lo detail
  | none => s.put f 1

/-- Set one bit of an EVT register and raise its fault source. -/
def State.raise (s : State) (f : Fld) : State := s.raiseD f 0

/-- Raise when `c` holds. -/
def State.raiseIf (s : State) (c : Bool) (f : Fld) : State := if c then s.raise f else s

/-- The core die's clocks run: the device is not in SLEEP (R350). -/
def State.awake (s : State) : Bool := decide (s.get PWR_STAT_STATE ≠ 2)

/-- The core die has power. -/
def State.powered (s : State) : Bool :=
  match s.pwr.phase with
  | .boot => true
  | .run => true
  | _ => false

/-- The core die's blocks act of themselves: they have power and clocks, and no turnover has sealed what they hold (R315 step 6,
R350). -/
def State.clockOn (s : State) : Bool := s.awake && s.powered && s.upd.area.isNone && s.upd.ho.isNone

/-- What a block of the core die does of itself. -/
def State.clocked (s : State) (f : State → State) : State := if s.clockOn then f s else s

/-- An entry to SLEEP, DEEP or OFF is in progress (R354). -/
def State.entering (s : State) : Bool := s.flag PWR_STAT_TRANS && decide (s.get PWR_STAT_TARGET ≠ 0)

/-- The parser takes packets, transmit rings are read and halves are generated: the device is in RUN, no entry is in progress
and no turnover has reached its handover start (R315, R352, R354). -/
def State.serving (s : State) : Bool :=
  decide (s.get PWR_STAT_STATE = 0) && !s.entering && decide (s.get UPD_STAT_TOV ≠ 2)

/-- The blocks whose first host access ends IDLE: TSK, GGE, PRS and ROB (R352). -/
def stirs (a : Nat) : Bool := [0x0A, 0x0B, 0x0D, 0x0E].contains (a / 0x10000)

/-- A host access to an address comes while the device may be in IDLE (R352). -/
def State.stirred (s : State) (a : Nat) : State :=
  { s with stir := s.stir || (decide (s.get PWR_STAT_STATE = 1) && stirs a) }

/-- A host write of a register: an isolation that cleared one of its bits is not undone (R384), and it may end IDLE. -/
def State.hostWrote (s : State) (a : Nat) : State :=
  let s1 := s.stirred a
  { s1 with flt := { s.flt with srcs := s.flt.srcs.map (fun (e : Nat × FltSource) =>
             if e.2.iso = some a then (e.1, { e.2 with iso := none }) else e) },
            clu := { s.clu with noDeputy := s.clu.noDeputy && a != CLU_CFG } }

/-! ### Whether a host access reaches its register (R28, R29, R320, R351, R412) -/

/-- What becomes of a host access: it is made, or it completes as a read of 0 or a discarded write, counted as a
host-interface access error or not. -/
inductive Reach where
  | made
  | silent
  | counted
  deriving DecidableEq, Repr

/-- The host interface that the boot ROM serves (R26). -/
def State.bootIface (s : State) : Iface := if s.get SYS_STRAP_BOOTIF % 2 = 0 then .pcie else .hsp

/-- The table-window range (R28). -/
def inWindows (a : Nat) : Bool := decide (0x1000000 ≤ a ∧ a < 0x4000000)

/-- The ranges of BAR0 that no block and no window has. -/
def noBlock (a : Nat) : Bool := decide (0x160000 ≤ a ∧ a < 0x200000) || decide (0x380000 ≤ a ∧ a < 0x1000000) || decide (0x4000000 ≤ a)

/-- The blocks that answer during BOOT, WAIT and LOAD: SYS, PWR, FLT, RTC, HIF, UPD, KEY and DMC (R412). -/
def bootBlock (a : Nat) : Bool := [0x00, 0x01, 0x02, 0x05, 0x06, 0x07, 0x08, 0x11].contains (a / 0x10000)

/-- The blocks that answer in SLEEP: SYS, PWR, SPN and RTC (R351). -/
def sleepBlock (a : Nat) : Bool := [0x00, 0x01, 0x04, 0x05].contains (a / 0x10000)

/-- The link to the die of an address is down (R29): the FRN blocks are on Frond, PWR, RTC and KEY on Thallus. -/
def State.linkDown (s : State) (a : Nat) : Bool :=
  if decide (0x200000 ≤ a ∧ a < 0x380000) then !s.flag SYS_DIE_STAT_FRN_UP
  else if [0x01, 0x05, 0x08].contains (a / 0x10000) then !s.flag SYS_DIE_STAT_THL_UP
  else false

/-- What becomes of an access to an address of a block, over an interface where the command names one. Before SERVING the
table-window range behaves as unassigned (R298). -/
def State.reach (s : State) (i : Option Iface) (a : Nat) : Reach :=
  let serving := decide (s.get HIF_STAT_PHASE = 3)
  if !s.powered || s.upd.ho.isSome then .silent
  else if !serving && i.any (fun (j : Iface) => j != s.bootIface) then .silent
  else if noBlock a || (!serving && inWindows a) then .counted
  else if !serving && !bootBlock a then .silent
  else if !s.awake && !inWindows a && !sleepBlock a then .counted
  else if s.linkDown a then .counted
  else .made

/-- A host-interface access error: counted, and fault source 4. -/
def State.accessErr (s : State) : State := (s.bump HIF_CNT_ACCESS).raiseSrc 4 4 0

/-- A host write to address `a`, whose effect is `f`. -/
def State.hostAt (s : State) (i : Option Iface) (a : Nat) (f : State → State) : State :=
  match s.reach i a with
  | .made => f (s.hostWrote a)
  | .silent => s
  | .counted => s.accessErr

/-- A host read of address `a`, whose effect is `f`. -/
def State.hostGet (s : State) (i : Option Iface) (a : Nat) (f : State → State) : State :=
  match s.reach i a with
  | .made => f (s.stirred a)
  | .silent => { s with hostRd := 0 }
  | .counted => { s.accessErr with hostRd := 0 }

/-- Something leaves the device: it is appended to what the surroundings have seen. -/
def State.emit (s : State) (m : OutMsg) : State := { s with out := s.out ++ [m] }

/-- What the partners see of a reset or a loss of power (R364): the front end, both kinds of transmitter, the time triggers and
HSP_DO are released, and so is ERR_N (R386). -/
def State.absence (s : State) : State :=
  [0, 1, 2, 3, 4].foldl (fun (s : State) w => s.emit (.released w)) (s.emit (.errN false s.ref))

/-- Something that keeps the device out of IDLE comes or goes (R352). -/
def State.busyNow (s : State) : State := { s with pwr := { s.pwr with busyAt := s.ref } }

end Sys2Proof.Machine
end

