-- ==== Sys2Proof/Machine/Chuck.lean ====
section
/-! DEFINITION. Byte memories of BAR0, and Chuck's buffers: allocation by tier, references and owners, and the transmit
credits of the radios (spec/11_buffers_credits_order.md). -/

namespace Sys2Proof.Machine

/-! ### The byte memories that BAR0 shows -/

/-- A byte of a memory whose reset value is X reads as 0 until it is written (log entry 5). -/
def zeroByte : Nat → Byte := fun _ => 0

/-- `n` bytes of a BAR0 memory from address `a`. -/
def State.mem (s : State) (a n : Nat) : Nat := leGet zeroByte s.bar a n

def State.memBytes (s : State) (a n : Nat) : List Byte := bytesGet zeroByte s.bar a n

def State.memSet (s : State) (a n v : Nat) : State := { s with bar := leSet zeroByte s.bar a n v }

def State.memPut (s : State) (a : Nat) (b : List Byte) : State := { s with bar := bytesSet zeroByte s.bar a b }

/-! ### Owners (R246) -/

def ownEth (p : Nat) : Nat := p
def ownHif : Nat := 2
def ownAirRx : Nat := 3
def ownCip : Nat := 4
def ownMlk : Nat := 5
def ownRob : Nat := 6
def ownAcc : Nat := 7
def ownFld : Nat := 8
def ownClu : Nat := 9
def ownHandover : Nat := 10
def ownGge : Nat := 11

/-! ### Handles (R243) -/

def hTier (h : Nat) : Nat := h / 2 ^ 22 % 4
def hIndex (h : Nat) : Nat := h % 2 ^ 20

/-- Handle of buffer `i` of a tier: true on die. -/
def mkHandle (onDie : Bool) (i : Nat) : Nat := (if onDie then 2 ^ 22 else 0) + i

/-- A handle that names no buffer (R243). -/
def State.badHandle (s : State) (h : Nat) : Bool :=
  match hTier h with
  | 0 => decide ((s.rd CHK_DRAM_CNT).toNat ≤ hIndex h)
  | 1 => decide (2048 ≤ hIndex h)
  | _ => true

def State.chains (s : State) : List Chain := s.chk.chains

def State.chain? (s : State) (id : Nat) : Option Chain := s.chk.chains.find? (fun c => c.id == id)

/-- The indices in use of one tier. -/
def State.usedIdx (s : State) (onDie : Bool) : List Nat :=
  ((s.chk.chains.flatMap (·.bufs)).filter (fun h => hTier h == (if onDie then 1 else 0))).map hIndex

/-- The first index of `n`, going up from `i` and round, that is not in use. -/
def freeFrom (used : List Nat) (n : Nat) : Nat → Nat → Nat
  | 0, i => i % n
  | k + 1, i => if used.contains (i % n) then freeFrom used n k (i + 1) else i % n

/-- Free buffers of both tiers, against CHK_LOW. -/
def State.freeBufs (s : State) : Nat := (s.rd CHK_FREE_ODIE).toNat + (s.rd CHK_FREE_DRAM).toNat

/-- CHK_EVT.LOW: the free count fell to or below CHK_LOW. -/
def State.lowCheck (s : State) (before : Nat) : State :=
  s.raiseIf (decide ((s.rd CHK_LOW).toNat < before ∧ s.freeBufs ≤ (s.rd CHK_LOW).toNat)) CHK_EVT_LOW

/-- Take one buffer for an owner (R245). Which free buffer of the tier it is the spec does not say: a free value picks
(log entry 4). Answers its handle. -/
def State.takeBuf (s : State) (own : Nat) : State × Option Nat :=
  let odie := (s.rd CHK_FREE_ODIE).toNat
  let dram := (s.rd CHK_FREE_DRAM).toNat
  let guest := own ≤ 2
  if (s.rd CHK_TIER).getLsbD own && decide (0 < odie) then
    let u := s.usedIdx true
    let h := mkHandle true (freeFrom u 2048 (u.length + 1) s.draw)
    (((s.wr CHK_FREE_ODIE (BitVec.ofNat 32 (odie - 1))).drawn).lowCheck (odie + dram), some h)
  else if (if guest then (s.rd CHK_RSV).toNat < dram else 0 < dram) then
    let u := s.usedIdx false
    let h := mkHandle false (freeFrom u (atLeast1 (s.rd CHK_DRAM_CNT).toNat) (u.length + 1) s.draw)
    (((s.wr CHK_FREE_DRAM (BitVec.ofNat 32 (dram - 1))).drawn).lowCheck (odie + dram), some h)
  else ((s.bump CHK_CNT_ALLOC_FAIL).raise CHK_EVT_EMPTY, none)

/-- Give buffers back to their free lists. -/
def State.freeBuf (s : State) : List Nat → State
  | [] => s
  | h :: t =>
    let a := if hTier h = 1 then CHK_FREE_ODIE else CHK_FREE_DRAM
    (s.wr a (s.rd a + 1)).freeBuf t

/-- Replace a chain in the list. -/
def setChain (l : List Chain) (c : Chain) : List Chain := l.map (fun x => if x.id = c.id then c else x)

/-- Take `n` more buffers for a chain already listed, one after the other; answers whether all were got. -/
def State.grow (s : State) (own : Nat) (id : Nat) : Nat → State × Bool
  | 0 => (s, true)
  | n + 1 =>
    match s.takeBuf own with
    | (s1, none) => (s1, false)
    | (s1, some h) =>
      let cs := s1.chk.chains.map (fun c => if c.id = id then { c with bufs := c.bufs ++ [h] } else c)
      let s2 := { s1 with chk := { s1.chk with chains := cs } }
      s2.grow own id n

/-- Drop a chain whose last reference has gone (R247). -/
def State.dropChain (s : State) (id : Nat) : State :=
  match s.chain? id with
  | some c => ({ s with chk := { s.chk with chains := s.chk.chains.filter (fun x => x.id != id) } }).freeBuf c.bufs
  | none => s

/-- A packet of `len` bytes takes ceil(len / 2,048) buffers for an owner (R244, R245); answers the chain's number, or
none when a buffer was refused, in which case what it had taken goes back. -/
def State.alloc (s : State) (own len : Nat) (data : List Byte) : State × Option Nat :=
  let id := s.chk.nextId
  let c : Chain := ⟨id, [], len, data, [own]⟩
  let s1 := { s with chk := { s.chk with nextId := id + 1, chains := s.chk.chains ++ [c] } }
  match s1.grow own id ((atLeast1 len + 2047) / 2048) with
  | (s2, true) => (s2, some id)
  | (s2, false) => (s2.dropChain id, none)

/-- Hand a packet on: the reference leaves one owner and joins the next (R246). -/
def State.moveRef (s : State) (id o1 o2 : Nat) : State :=
  let cs := s.chk.chains.map (fun c =>
    if c.id = id ∧ o1 ∈ c.owners then { c with owners := (c.owners.erase o1) ++ [o2] } else c)
  { s with chk := { s.chk with chains := cs } }

/-- An owner finishes with a packet (R247). -/
def State.release (s : State) (id own : Nat) : State :=
  match s.chain? id with
  | some c =>
    if own ∈ c.owners then
      if c.owners.length ≤ 1 then s.dropChain id
      else { s with chk := { s.chk with chains := setChain s.chk.chains { c with owners := c.owners.erase own } } }
    else (s.bump CHK_CNT_BAD_REL).raise CHK_EVT_BAD_REL
  | none => (s.bump CHK_CNT_BAD_REL).raise CHK_EVT_BAD_REL

/-- A reference is added for an owner; a chain has at most 4 (R247). Answers whether it was. -/
def State.addRef (s : State) (id own : Nat) : State × Bool :=
  match s.chain? id with
  | some c =>
    if c.owners.length < 4 then
      ({ s with chk := { s.chk with chains := setChain s.chk.chains { c with owners := c.owners ++ [own] } } }, true)
    else ((s.bump CHK_CNT_BAD_REL).raise CHK_EVT_BAD_REL, false)
  | none => ((s.bump CHK_CNT_BAD_REL).raise CHK_EVT_BAD_REL, false)

/-- The chain that holds a buffer. -/
def State.chainOf (s : State) (h : Nat) : Option Chain := s.chk.chains.find? (fun c => c.bufs.contains h)

/-- The first handle of a chain (0 for none). -/
def State.headOf (s : State) (id : Nat) : Nat := ((s.chain? id).bind (fun c => c.bufs.head?)).getD 0

/-- The bytes of a chain. -/
def State.dataOf (s : State) (id : Nat) : List Byte := ((s.chain? id).map (·.data)).getD []

def State.lenOf (s : State) (id : Nat) : Nat := ((s.chain? id).map (·.len)).getD 0

/-- OWN_o: references held by an owner, in buffers (R248). -/
def State.ownBufs (s : State) (o : Nat) : Nat :=
  (s.chk.chains.map (fun c => (c.owners.filter (· == o)).length * c.bufs.length)).sum

/-- EXTRA: Σ (reference count − 1) over every buffer in use (R248). -/
def State.extra (s : State) : Nat := (s.chk.chains.map (fun c => (c.owners.length - 1) * c.bufs.length)).sum

/-- A packet's chain takes bytes of another length: it holds ceil(len / 2,048) buffers again, spare ones go back and lacking ones
are taken for the owner (R244, R245). Answers whether they were got. -/
def State.refit (s : State) (own id : Nat) (b : List Byte) : State × Bool :=
  match s.chain? id with
  | none => (s, true)
  | some c =>
    let need := (atLeast1 b.length + 2047) / 2048
    let c1 := { c with data := b, len := b.length, bufs := c.bufs.take need }
    (({ s with chk := { s.chk with chains := setChain s.chk.chains c1 } }).freeBuf (c.bufs.drop need)).grow own id (need - c.bufs.length)

/-! ### The buffer commands -/

/-- BUFFER_ALLOC: a block asks for the buffers of a packet of `len` bytes. -/
def execBufferAlloc (own : BitVec 4) (len : BitVec 24) (s : State) : Out State :=
  .next (s.clocked fun (s : State) => if own.toNat ≤ 11 then (s.alloc own.toNat len.toNat []).1 else s)

/-- BUFFER_RELEASE: an owner releases its reference to the packet that a handle names. A free buffer or an invalid
handle is a bad release (R247). -/
def State.bufferRelease (s : State) (own h : Nat) : State :=
  match (if s.badHandle h then none else s.chainOf h) with
  | some c => s.release c.id own
  | none => (s.bump CHK_CNT_BAD_REL).raise CHK_EVT_BAD_REL

def execBufferRelease (own : BitVec 4) (handle : BitVec 24) (s : State) : Out State :=
  .next (s.clocked fun (s : State) => s.bufferRelease own.toNat handle.toNat)

/-- REFERENCE_ADD: a copy or a mirror adds a reference for its destination's owner (R247). -/
def State.referenceAdd (s : State) (own h : Nat) : State :=
  match (if s.badHandle h then none else s.chainOf h) with
  | some c => (s.addRef c.id own).1
  | none => (s.bump CHK_CNT_BAD_REL).raise CHK_EVT_BAD_REL

def execReferenceAdd (own : BitVec 4) (handle : BitVec 24) (s : State) : Out State :=
  .next (s.clocked fun (s : State) => s.referenceAdd own.toNat handle.toNat)

/-! ### Transmit credits (R251, R252) -/

/-- Credits of an MPDU of `len` bytes. -/
def creditsFor (len : Nat) : Nat := (len + 255) / 256

def State.avail (s : State) (r : Fin 3) : Nat := 8192 - s.chk.out[r]

def State.spend (s : State) (r : Fin 3) (n : Nat) : State :=
  { s with chk := { s.chk with out := s.chk.out.set r (s.chk.out[r] + n) } }

def State.repay (s : State) (r : Fin 3) (n : Nat) : State :=
  { s with chk := { s.chk with out := s.chk.out.set r (s.chk.out[r] - n) } }

end Sys2Proof.Machine
end

