-- ==== Sys2Proof/Machine/Elements.lean ====
section
/-! DEFINITION. The bytes that the device appends to a beacon's template (spec/05_scheduled_access.md R121, R122). R121 names the
standard's fields; their places in the elements are IEEE 802.11's (PRESUMED, log entry 42). -/

namespace Sys2Proof.Machine

/-- An element: identifier, length, body. -/
def element (id : Nat) (body : List Byte) : List Byte := BitVec.ofNat 8 id :: BitVec.ofNat 8 body.length :: body

/-- The octet of a bitmap that holds AIDs 8n to 8n + 7. -/
def aidOctet (l : List Nat) (n : Nat) : Nat := (l.filter (fun a => decide (a / 8 = n))).foldl (fun v a => v ||| 2 ^ (a % 8)) 0

/-- The TIM of a beacon that is no S1G beacon: the partial virtual bitmap from an even first octet, of AIDs up to 2,007. -/
def timElement (count period : Nat) (all : List Nat) : List Byte :=
  let l := all.filter (fun a => decide (a < 2008))
  let os := l.map (· / 8)
  let lo := (os.foldl min (os.headD 0)) / 2 * 2
  let hi := os.foldl max lo
  element 5 ([BitVec.ofNat 8 count, BitVec.ofNat 8 period, BitVec.ofNat 8 lo] ++
    (List.range (hi + 1 - lo)).map (fun i => BitVec.ofNat 8 (aidOctet l (lo + i))))

/-- One block of 64 AIDs of an S1G bitmap: its offset in the page, its block bitmap, its octets that are not 0. -/
def timBlock (l : List Nat) (b : Nat) : List Byte :=
  let os := (List.range 8).filter (fun i => aidOctet l (8 * b + i) != 0)
  if os = [] then []
  else [BitVec.ofNat 8 (8 * (b % 32)), BitVec.ofNat 8 (os.foldl (fun v i => v ||| 2 ^ i) 0)] ++
    os.map (fun i => BitVec.ofNat 8 (aidOctet l (8 * b + i)))

/-- The segment of `n` that an AID is in: blocks of 64 AIDs in `n` runs of one length. -/
def timSegment (n a : Nat) : Nat := a / 64 * n / 128

/-- The S1G TIM, an element for each page of 2,048 AIDs that it has bits of: the segment as its page slice, the page, then the blocks
of the AIDs that it carries. -/
def timS1g (count period segment : Nat) (l : List Nat) : List Byte :=
  let pages := (l.map (· / 2048)).eraseDups
  (if pages = [] then [0] else pages).flatMap (fun p =>
    element 5 ([BitVec.ofNat 8 count, BitVec.ofNat 8 period, BitVec.ofNat 8 (2 * (segment % 32) + 64 * p)] ++
      ((l.filter (fun a => decide (a / 2048 = p))).map (· / 64)).eraseDups.flatMap (timBlock l)))

/-- The slot definition of a RAW: of 8 bits of slot count and 6 of slots, or, for a longer slot, of 11 and 3. -/
def slotDef (cslot slots : Nat) : Nat :=
  if cslot < 256 then 4 * cslot + 1024 * min 63 slots else 1 + 4 * min 2047 cslot + 8192 * min 7 slots

/-- One RAW of an RPS element: slot count of duration, slots, start in 2 TU, first and last AID. -/
def rawBytes (e : Nat × Nat × Nat × Nat × Nat) : List Byte :=
  let (lo, hi, start, slots, dur) := e
  let slot := slotDef ((dur - 500) / 120) slots
  [BitVec.ofNat 8 0x30] ++ leBytes 2 slot ++ [BitVec.ofNat 8 start] ++ leBytes 3 (lo / 2048 % 4 + lo % 2048 * 4 + hi % 2048 * 8192)

/-- An individual TWT: target wake time, mantissa, exponent, minimum duration. -/
def twtElement (e : Nat × Nat × Nat × Nat × Nat) : List Byte :=
  let (_, t, m, x, d) := e
  element 216 ([BitVec.ofNat 8 0] ++ leBytes 2 (x % 32 * 1024) ++ leBytes 8 t ++ [BitVec.ofNat 8 d] ++ leBytes 2 m ++ [0])

/-- A station's WUR duty cycle: AID, WUR_ON, WUR_PERIOD, WUR_ON_DUR. -/
def wurElement (e : Nat × Nat × Nat × Nat) : List Byte :=
  let (a, on_, per, dur) := e
  element 255 ([BitVec.ofNat 8 50] ++ leBytes 2 a ++ leBytes 8 on_ ++ leBytes 8 per ++ leBytes 4 dur)

/-- The elements in their order, as far as the 512 bytes that the host keeps free hold them. -/
def fitElements (room : Nat) : List (List Byte) → List Byte
  | [] => []
  | e :: t => if e.length ≤ room then e ++ fitElements (room - e.length) t else fitElements room t

/-- What is appended to a beacon. -/
def Beacon.bytes (b : Beacon) : List Byte :=
  let tim := if b.s1g then timS1g b.dtimCount b.dtimPeriod b.segment b.tim else timElement b.dtimCount b.dtimPeriod b.tim
  let rps := if b.raws = [] then [] else [element 208 (b.raws.flatMap rawBytes)]
  fitElements 512 ([tim] ++ rps ++ b.twts.map twtElement ++ b.wurs.map wurElement ++ [b.braid])

end Sys2Proof.Machine
end

