-- ==== Sys2Proof/Machine/Phy.lean ====
section
/-! DEFINITION. The PPDU formats: which a channel's row lists at which bandwidths, the parameters of each format, the largest
frames, and what may share a PPDU (spec/04_air_interfaces.md R87 to R94). -/

namespace Sys2Proof.Machine

/-! ### Channels and rows (R56, R57, R87, R88) -/

/-- Bandwidth in kHz of a BW code (R57). -/
def bwKhz (c : Nat) : Nat := [1000, 2000, 4000, 8000, 16000, 20000, 40000, 80000, 160000, 320000].getD c 0

/-- Both edges lie in the group's range and the range allows the bandwidth (R56). -/
def channelOk (khz bw group : Nat) : Bool :=
  let w := bwKhz bw / 2
  match group with
  | 0 => decide (bw ≤ 4 ∧ 750000 + w ≤ khz ∧ khz + w ≤ 1000000)
  | 1 => decide ((bw = 5 ∨ bw = 6) ∧ 2300000 + w ≤ khz ∧ khz + w ≤ 2700000)
  | 2 => decide (5 ≤ bw ∧ bw ≤ 9 ∧ 4900000 + w ≤ khz ∧ khz + w ≤ 7200000)
  | _ => false

/-- A group-2 channel follows the 6 GHz row where its lower edge lies at or above 5,925,000 kHz (R88). -/
def sixGhz (khz bw : Nat) : Bool := decide (5925000 + bwKhz bw / 2 ≤ khz)

/-- The bandwidth codes at which a channel's row of R87 lists a format; empty where it does not list it. On the 6 GHz row
non-HT is the duplicate of control responses alone. -/
def fmtWidths (khz bw group : Nat) (f : Fmt) : List Nat :=
  match group, f with
  | 0, .s1g => [0, 1, 2, 3, 4]
  | 0, _ => []
  | 1, .dsss => [5]
  | 1, .wur => [5]
  | 1, .vht => []
  | 1, .s1g => []
  | 1, _ => [5, 6]
  | _, .he => [5, 6, 7, 8]
  | _, .eht => [5, 6, 7, 8, 9]
  | _, .nonHt => if sixGhz khz bw then [] else [5]
  | _, .ht => if sixGhz khz bw then [] else [5, 6]
  | _, .vht => if sixGhz khz bw then [] else [5, 6, 7, 8]
  | _, .wur => if sixGhz khz bw then [] else [5]
  | _, _ => []

/-- The formats of a channel's row of R87, which the device decodes: not WUR, which it only sends (R93). -/
def fmtListed (khz bw group : Nat) (f : Fmt) : Bool := f != .wur && !(fmtWidths khz bw group f).isEmpty

/-- The formats that are sent: those listed, but on a 320 MHz channel EHT alone (R88). -/
def fmtSent (khz bw group : Nat) (f : Fmt) : Bool :=
  if bw = 9 then f == .eht else !(fmtWidths khz bw group f).isEmpty

/-- A PPDU of a width fits a channel whose row lists its format: not wider than the channel. -/
def widthFits (khz bw group : Nat) (p : Phy) : Bool :=
  (fmtWidths khz bw group p.fmt).contains p.bw.toNat && decide (p.bw.toNat ≤ bw)

/-! ### The parameters of R89 -/

/-- Rates, bandwidth codes, most streams, guard codes, LDPC, rates with DCM, short preamble, of a format's code. -/
def fmtTable : Nat → Option (List Nat × List Nat × Nat × List Nat × Bool × List Nat × Bool)
  | 0 => some (List.range 4, [5], 1, [0], false, [], true)
  | 1 => some (List.range 8, [5, 6], 1, [0], false, [], false)
  | 2 => some (List.range 32, [5, 6], 4, [0, 2], true, [], false)
  | 3 => some (List.range 10, [5, 6, 7, 8], 4, [0, 2], true, [], false)
  | 4 => some (List.range 12, [5, 6, 7, 8], 4, [0, 1, 2], true, [0, 1, 3, 4], false)
  | 5 => some (List.range 14 ++ [15], [5, 6, 7, 8, 9], 4, [0, 1, 2], true, [15], false)
  | 6 => some (List.range 11, [0, 1, 2, 3, 4], 4, [0, 2], true, [], false)
  | 7 => some (List.range 2, [5], 1, [0], false, [], false)
  | _ => none

/-- The parameters lie inside R89's table. STBC is received only, by S1G, HT, VHT and HE; an HT rate fixes its streams, and S1G
MCS 10 goes at 1 MHz alone. -/
def phyListed (p : Phy) (sending : Bool) : Bool :=
  match fmtTable p.fmt.code with
  | none => false
  | some (rates, bws, nss, gis, ldpc, dcm, sp) =>
    let m := p.rate.toNat
    rates.contains m && (bws.contains p.bw.toNat || p.dup) && decide (1 ≤ p.nss.toNat ∧ p.nss.toNat ≤ nss) &&
      gis.contains p.gi.toNat && (!p.ldpc || ldpc) && (!p.dcm || dcm.contains m) &&
      (!p.stbc || (!sending && [Fmt.s1g, .ht, .vht, .he].contains p.fmt)) &&
      (!p.short || sp) &&
      (decide (p.fmt ≠ .ht) || decide (p.nss.toNat = m / 8 + 1)) && (decide (p.fmt ≠ .s1g ∨ m ≠ 10) || decide (p.bw.toNat = 0))

/-- A PPDU may be sent on a channel: its format, its width and its parameters (R87, R88, R89, R93); as a duplicate only one of 2 MHz
in S1G (R91, R92). -/
def phySent (khz bw group : Nat) (p : Phy) : Bool :=
  fmtSent khz bw group p.fmt && widthFits khz bw group p && phyListed p true && (!p.dup || (p.fmt == .s1g && decide (p.bw.toNat = 1)))

/-- A non-HT duplicate on the 6 GHz row, which carries control responses (R87). -/
def dup6 (khz bw group : Nat) (p : Phy) : Bool :=
  decide (group = 2) && sixGhz khz bw && decide (p.fmt = .nonHt) && p.dup && decide (p.bw.toNat ≤ bw)

/-- A control response may be sent: as any PPDU, or on the 6 GHz row as a non-HT duplicate, but not on a 320 MHz channel (R87,
R88). -/
def ctlSent (khz bw group : Nat) (p : Phy) : Bool :=
  phySent khz bw group p || (dup6 khz bw group p && decide (bw ≠ 9) && phyListed p true)

/-- A PPDU is decoded on a channel: as its row lists it, and on the 6 GHz row non-HT duplicates; no other duplicate (R87, R91). -/
def phyHeard (khz bw group : Nat) (p : Phy) : Bool :=
  p.fmt != .wur && ((widthFits khz bw group p && !p.dup) || dup6 khz bw group p) && phyListed p false

/-! ### Frame sizes (R94) -/

/-- Largest MPDU and A-MPDU of a format. -/
def maxMpdu : Fmt → Nat
  | .dsss => 2346
  | .nonHt => 2346
  | .ht => 7935
  | .vht => 11454
  | .he => 11454
  | .eht => 11454
  | .s1g => 7991
  | .wur => 0

def maxAmpdu : Fmt → Nat
  | .ht => 65535
  | .vht => 1048575
  | .he => 6500631
  | .eht => 15523198
  | .s1g => 65535
  | _ => 0

/-- The Block Ack window of a format. -/
def baWindow : Fmt → Nat
  | .he => 256
  | .eht => 1024
  | .wur => 0
  | _ => 64

/-- The largest MPDU of a band group's formats. -/
def groupMax (g : Nat) : Nat := if g = 0 then 7991 else 11454

/-! ### What shares a PPDU (R90, R94) -/

/-- Bytes of an A-MPDU: a 4-byte delimiter before each MPDU, and each but the last padded to a multiple of 4 (PRESUMED from
IEEE 802.11, log entry 41). -/
def ampduLen : List Nat → Nat
  | [] => 0
  | [n] => 4 + n
  | n :: t => 4 + (n + 3) / 4 * 4 + ampduLen t

/-- The stations of a group of frames. -/
def stationsOf (l : List TxFrame) : List Nat := (l.map (·.aid)).eraseDups

/-- The sequence numbers of an A-MPDU lie within `w` of its first. -/
def spanFits (w : Nat) (l : List TxFrame) : Bool :=
  match l.filterMap (·.sn) with
  | [] => true
  | n :: t => t.all (fun m => decide ((m + 4096 - n) % 4096 < w))

/-- How many 26-tone units a bandwidth holds, and the sizes of a resource unit (IEEE 802.11, PRESUMED, log entry 41). -/
def ruUnits (bw : Nat) : Nat := [9, 18, 37, 74, 148].getD (bw - 5) 0
def ruSizes : List Nat := [1, 2, 4, 9, 18, 37, 74, 148]

/-- No two resource units overlap. -/
def ruApart : List (Nat × Nat) → Bool
  | [] => true
  | a :: t => t.all (fun b => decide (a.1 + a.2 ≤ b.1 ∨ b.1 + b.2 ≤ a.1)) && ruApart t

/-- The resource units of the stations of an OFDMA PPDU: each lies in its width, none overlaps another, and a station has one, or in
EHT several (R90). -/
def ruOk (fmt : Fmt) (bw : Nat) (us : List (List (Nat × Nat))) : Bool :=
  us.all (fun l => !l.isEmpty && (decide (l.length = 1) || fmt == .eht) &&
    l.all (fun u => ruSizes.contains u.2 && decide (u.1 + u.2 ≤ ruUnits bw))) && ruApart us.flatten

/-- The mode of a PPDU suits its format and frames: a multi-user mode in access-point role alone, OFDMA with its resource units,
MU-MIMO to at most 4 users with at most 4 streams in total, and each station's A-MPDU within its format's limits. -/
def modeFits (ap : Bool) (l : List TxFrame) : Bool :=
  match l with
  | [] => true
  | f :: _ =>
    let us := stationsOf l
    let fmt := f.air.phy.fmt
    let rus := us.map (fun a => ((l.find? (fun g => g.aid == a)).map (fun g => g.air.rus)).getD [])
    let streams := (us.map (fun a => ((l.find? (fun g => g.aid == a)).map (fun g => g.air.phy.nss.toNat)).getD 0)).sum
    let each := us.all (fun a =>
      let k := l.filter (fun g => g.aid == a)
      decide (k.length = 1) || (decide (ampduLen (k.map (·.len)) ≤ maxAmpdu fmt) && spanFits (baWindow fmt) k))
    l.all (fun g => g.air.phy.fmt == fmt && g.air.mode == f.air.mode) && each &&
      (match f.air.mode with
       | .su => decide (us.length ≤ 1)
       | .ofdma => ap && decide (fmt = .he ∨ fmt = .eht) && ruOk fmt f.air.phy.bw.toNat rus
       | .mimo => ap && decide (fmt = .vht ∨ fmt = .he ∨ fmt = .eht) && decide (us.length ≤ 4 ∧ streams ≤ 4)
       | .trigger => ap && decide (fmt = .he ∨ fmt = .eht) && decide (l.length = 1) && ruOk fmt f.air.phy.bw.toNat rus
       | .sounding => ap && decide (fmt = .vht ∨ fmt = .he ∨ fmt = .eht) && decide (l.length = 1))

/-- The frames behind a queue's head that ride in its PPDU, of those that `ok` admits, and the rest of the queue. -/
def joinRest (ok : TxFrame → Bool) (ap : Bool) (acc : List TxFrame) : List TxFrame → List TxFrame × List TxFrame
  | [] => (acc, [])
  | g :: t => if g.air.join && ok g && modeFits ap (acc ++ [g]) then joinRest ok ap (acc ++ [g]) t else (acc, g :: t)

/-- What the PPDU of a group of frames carries: by its mode a Trigger frame or an announcement with its NDP before them (R90). -/
def unitsOf (l : List TxFrame) : List TxUnit :=
  (match l.head? with
   | some f =>
     (match f.air.mode with
      | .trigger => [.solicit f.aid f.air.rus]
      | .sounding => [.sound f.aid]
      | _ => [])
   | none => []) ++ l.map .frame

/-! ### Frames of IEEE 802.11ba (R93) -/

/-- A WUR frame of a sort that the device sends: Beacon, Wake-up or Short Wake-up; bits [2:0] of its first byte tell (IEEE 802.11ba,
PRESUMED, log entry 42). -/
def wurSent (b : List Byte) : Bool := [0, 1, 4].contains ((b.getD 0 0).toNat % 8)

end Sys2Proof.Machine
end

