-- ==== Sys2Proof/Machine/Spindle.lean ====
section
/-! DEFINITION. The spindle (spec/02_spindle_time.md): the epoch, the servo and its samples, the lock, holdover, steps,
the two domains, narrow stamps, time triggers and the captured sets. -/

namespace Sys2Proof.Machine

/-! ### States of R41 -/

def spnStopped : Nat := 0
def spnFree : Nat := 1
def spnAcquire : Nat := 2
def spnLocked : Nat := 3
def spnHoldover : Nat := 4
def spnEstimated : Nat := 5

/-- The spindle's state code (R41). -/
def State.spnSt (s : State) : Nat := s.get SPN_STAT_STATE

/-- SPN_FREQ shows the correction in use (R430). -/
def State.showFreq (s : State) : State := s.wr SPN_FREQ (word32 s.rate)

/-- The holdover error bound in ticks, as SPN_EST_ERR shows it while in HOLDOVER (R43): rounded down and held at the register's
largest value, and left at the limit in FREE (DEDUCED, log entry 12); else the held estimate. -/
def State.estErr (s : State) : Nat :=
  if s.spnSt = spnHoldover then min 0xFFFFFF ((s.ref - s.spn.holdRef) * s.get SPN_HOLD_PPB_PPB / 125000000000)
  else (s.rd SPN_EST_ERR).toNat

/-- Enter ACQUIRE: the run starts anew (R432). Without a step still to come from a wake, no bound remains (R54). -/
def State.enterAcquire (s : State) : State :=
  let s1 := s.put SPN_STAT_STATE spnAcquire
  let s2 := if s1.spn.estWait then s1 else s1.wr SPN_EST_ERR 0
  ({ s2 with spn := { s2.spn with run := 0 } }).showFreq

/-- Enter LOCKED (R432); no error bound remains (DEDUCED, log entry 12), but for one that waits for the step of a wake (R54). -/
def State.enterLocked (s : State) : State :=
  let s1 := s.put SPN_STAT_STATE spnLocked
  ((if s1.spn.estWait then s1 else s1.wr SPN_EST_ERR 0).raise SPN_EVT_LOCKED).showFreq

/-- Enter HOLDOVER: the bound starts at 0 and the run starts anew (R43, R432), even while a wake estimate waits for its step
(DEDUCED, log entry 12). -/
def State.enterHoldover (s : State) : State :=
  let s1 := ((s.put SPN_STAT_STATE spnHoldover).wr SPN_EST_ERR 0).raise SPN_EVT_HOLDOVER
  ({ s1 with spn := { s1.spn with run := 0, holdRef := s1.ref } }).showFreq

/-! ### Time triggers: their times (R52) -/

def State.trig (s : State) (n : Fin 4) : Trigger := s.spn.tto[n]

def State.setTrig (s : State) (n : Fin 4) (t : Trigger) : State :=
  { s with spn := { s.spn with tto := s.spn.tto.set n t } }

/-- The `k`th programmed time of a trigger, half nanoseconds of wide time. -/
def Trigger.time (t : Trigger) (k : Nat) : Nat := 2 * t.start + 125 * t.period * k

/-- The first index, from `from_`, of a programmed time at or after `w` half nanoseconds. -/
def Trigger.firstAt (t : Trigger) (from_ w : Nat) : Nat :=
  if t.period = 0 then from_
  else max from_ ((w - 2 * t.start + (125 * t.period - 1)) / (125 * t.period))

/-- The active level of a trigger's pulse: high with POL 0. -/
def State.trigActive (s : State) (n : Fin 4) : Bool := !s.flag (SPN_TTO_CTL_POL n)

/-- Count `k` missed pulses; SPN_TTOn_MISSED saturates at 0xFFFF. -/
def State.trigMissed (s : State) (n : Fin 4) (k : Nat) : State :=
  s.wr (SPN_TTO_MISSED n) (BitVec.ofNat 32 (min 0xFFFF ((s.rd (SPN_TTO_MISSED n)).toNat + k)))

/-- A single pulse is over, fired or missed: EN clears. -/
def State.trigDone (s : State) (n : Fin 4) : State :=
  (s.put (SPN_TTO_CTL_EN n) 0).setTrig n { s.trig n with armed := false }

/-- After a step an armed trigger takes as its next pulse the first of its times later than the stepped clock and than its
last emitted pulse; times passed over by a forward step are missed (R52). -/
def State.trigAcross (s : State) (n : Fin 4) : State :=
  let t := s.trig n
  if t.armed then
    if t.period = 0 then
      if t.time 0 ≤ s.wideHalf then (s.trigMissed n 1).trigDone n else s
    else
      let k := t.firstAt ((t.last.map (· + 1)).getD 0) (s.wideHalf + 1)
      (s.trigMissed n (k - t.next)).setTrig n { t with next := k }
  else s

/-- Every trigger meets a clock that has moved. -/
def State.trigsAcross (s : State) : State := (((s.trigAcross 0).trigAcross 1).trigAcross 2).trigAcross 3

/-! ### The servo and the samples -/

/-- SLEW_MAX in ppb: 0 taken as 1, above 100 as 100. -/
def State.slewPpb (s : State) : Int := 1000 * (min 100 (atLeast1 (s.get SPN_SERVO_SLEW_MAX)) : Nat)

/-- A value held to ±`lim`. -/
def clip (lim v : Int) : Int := max (-lim) (min lim v)

/-- floor((o / Δ) / k) in ppb, o in ns and Δ in half nanoseconds; of two samples at one instant the spec states no
result: a free value (log entry 4). -/
def servoTerm (o : Int) (dt k : Nat) : Int :=
  if dt = 0 then (Config.servoAtZero o k).toInt else o * 2000000000 / ((k * dt : Nat) : Int)

/-- The domain record: false A, true B. -/
def State.dom (s : State) (b : Bool) : Domain := if b then s.spn.domB else s.spn.domA

def State.setDom (s : State) (b : Bool) (d : Domain) : State :=
  { s with spn := if b then { s.spn with domB := d } else { s.spn with domA := d } }

/-- The suspect flag of a domain. -/
def suspF (b : Bool) : Fld := if b then SPN_STAT_SUSP_B else SPN_STAT_SUSP_A

/-- The domain the servo follows: B only where MODE is 1 and ACTIVE says so (R49). -/
def State.activeDom (s : State) : Bool := s.flag SPN_CTL_MODE && s.flag SPN_STAT_ACTIVE

/-- Is a threshold in ticks exceeded in magnitude by an offset in nanoseconds? -/
def beyond (o : Int) (ticks : Nat) : Bool := decide (125 * ticks < 2 * o.natAbs)

/-- The servo acts on a sample (R430). -/
def State.servo (s : State) (b : Bool) (o : Int) : State :=
  let dt := match (s.dom b).lastRef with
    | some t => s.ref - t
    | none => 2000000000
  let f := clip s.slewPpb (s.spn.f + servoTerm o dt 8)
  let r := clip s.slewPpb (f + servoTerm o dt 2)
  { s with spn := { s.spn with f := f, r := r } }

/-- A valid sample is noted for the loss timeout, the switch test and the next Δ (R430, R431, R49). -/
def State.markSample (s : State) (b : Bool) (o : Int) : State :=
  (s.setDom b { s.dom b with lastOfs := some o, lastTurn := some s.turn, lastRef := some s.ref }).wr
    (if b then SPN_OFS_B else SPN_OFS_A) (word32 (sat31 o))

/-- The test of a domain switch: the other domain is not suspect and its last offset is within SPN_SWITCH_THR (R49). -/
def State.switchOk (s : State) : Bool :=
  s.flag SPN_CTL_MODE && !s.flag (suspF (!s.activeDom)) &&
    (match (s.dom (!s.activeDom)).lastOfs with
     | some o => !beyond o (s.rd SPN_SWITCH_THR).toNat
     | none => false)

/-- The servo takes the other domain; nothing is stepped (R49), the run starts anew (R432). -/
def State.doSwitch (s : State) : State :=
  let s1 := (s.putB SPN_STAT_ACTIVE (!s.activeDom)).raise SPN_EVT_SWITCHED
  { s1 with spn := { s1.spn with run := 0 } }

/-- A switch the device makes by itself; refused, ACQUIRE and LOCKED go to HOLDOVER (R41, R49). -/
def State.autoSwitch (s : State) : State :=
  if s.switchOk then s.doSwitch
  else
    let s1 := s.raise SPN_EVT_SW_REFUSED
    if s1.spnSt = spnAcquire ∨ s1.spnSt = spnLocked then s1.enterHoldover else s1

/-- The offset as SPN_STEP_PEND holds it: beyond 32 bits the spec states no value, so it is free (log entry 4). -/
def State.pendValue (s : State) (o : Int) : Int :=
  if o = sat31 o then o else (BitVec.ofNat 32 s.draw).toInt

/-- A sample refused under jump refusal (R46). -/
def State.refuseSample (s : State) (b : Bool) (o : Int) : State :=
  let p := s.pendValue o
  let s1 := (((s.wr (if b then SPN_OFS_B else SPN_OFS_A) (word32 (sat31 o))).raise SPN_EVT_REFUSED).bump SPN_CNT_REFUSED)
  let s2 := ((s1.wr SPN_STEP_PEND (word32 p)).put SPN_STAT_STEP_PEND 1).drawn
  { s2 with spn := { s2.spn with pendOfs := p, run := 0 } }

/-- A sample within the thresholds, of the domain the servo follows: servo, run, state (R41, R430, R432). In MODE 1 it is this
sample alone that leads from FREE to ACQUIRE, not one of a suspect or of the other domain (DEDUCED, log entry 12). -/
def State.takeSample (s : State) (b : Bool) (o : Int) : State :=
  let s1 := (s.servo b o).markSample b o
  let run := if beyond o (s1.get SPN_LOCK_CFG_LOCK_THR) then 0 else s1.spn.run + 1
  let s2 := { s1 with spn := { s1.spn with run := run } }
  if s2.spnSt = spnFree then s2.enterAcquire
  else if (s2.spnSt = spnAcquire ∨ s2.spnSt = spnHoldover) ∧ atLeast1 (s2.get SPN_LOCK_CFG_LOCK_CNT) ≤ run then s2.enterLocked
  else s2.showFreq

/-- A sample in MODE 1 (R49, R50). -/
def State.dualSample (s : State) (b : Bool) (o : Int) : State :=
  let act := b == s.activeDom
  if beyond o (s.rd SPN_JUMP_THR).toNat then
    let was := s.flag (suspF b)
    let s1 := (s.markSample b o).put (suspF b) 1
    let s2 := s1.setDom b { s1.dom b with clean := 0 }
    let s3 := if act then { s2 with spn := { s2.spn with run := 0 } } else s2
    if act && !was then s3.autoSwitch else s3
  else if s.flag (suspF b) then
    let s1 := s.markSample b o
    let n := (s1.dom b).clean + 1
    let s2 := s1.setDom b { s1.dom b with clean := n }
    let s3 := if act then { s2 with spn := { s2.spn with run := 0 } } else s2
    if atLeast1 (s3.get SPN_LOCK_CFG_LOCK_CNT) ≤ n then s3.put (suspF b) 0 else s3
  else if act then s.takeSample b o
  else s.markSample b o

/-- The first valid sample in ESTIMATED (R54). From one that is scheduled as a step, as from the one that sets the clock, the
correction in use is F until the next sample (DEDUCED, log entry 12). -/
def State.wakeSample (s : State) (b : Bool) (o : Int) : State :=
  let s1 := (s.wr SPN_WAKE_DIFF (word32 (sat31 o))).put SPN_STAT_EST 0
  if beyond o (s1.get SPN_LOCK_CFG_LOCK_THR) then
    let s2 := s1.markSample b o
    ({ s2 with spn := { s2.spn with sched := some o, estWait := true, r := s2.spn.f } }).enterAcquire
  else ((s1.servo b o).markSample b o).enterAcquire

/-- A clock set anew counts ticks from another point: slots and heartbeats are awaited from now on (DEDUCED, log entry 29). -/
def State.cluAnew (s : State) : State :=
  { s with clu := { s.clu with slot := 0, hbAt := 0,
                               hbSeen := s.clu.hbSeen.map (fun e => (e.1, e.2.map (fun _ => s.absTick))) } }

/-- The first valid sample sets the wide clock directly (R42); it is no step and does not count toward the run. A trigger
armed before there was time meets the clock as after a step (DEDUCED, log entry 12). -/
def State.setSample (s : State) (b : Bool) (ext : Nat) : State :=
  let s1 := { s with spn := { s.spn with hasTime := true, wideU := ext * 2000000000, r := s.spn.f, run := 0, lastTurn := none } }
  let s2 := { s1 with spn := { s1.spn with domA := {}, domB := {}, frond := { s1.spn.frond with lag := 0 } } }
  let s3 := (s2.markSample b 0).cluAnew
  ((s3.setDom b { s3.dom b with lastRef := none }).showFreq).trigsAcross

/-- A checked sample of a domain: external time `ext`, ns, at the present instant. While the clock has no time only the active
domain's sample counts (DEDUCED, log entry 12). -/
def State.sample (s : State) (b : Bool) (ext : Nat) : State :=
  if s.spnSt = spnStopped then s
  else if !s.spn.hasTime then (if b == s.activeDom then s.setSample b ext else s)
  else
    let o : Int := (ext : Int) - s.wideNs
    if s.spnSt = spnEstimated then (if b == s.activeDom then s.wakeSample b o else s.dualSample b o)
    else if s.flag SPN_CTL_MODE then s.dualSample b o
    else if beyond o (s.rd SPN_JUMP_THR).toNat then s.refuseSample b o
    else s.takeSample b o

/-- A sample of a source: it is given to each domain whose source code is `code` and whose PTP domain number passes
`num`; domain B is used only in MODE 1 (R39, SPN_SRC). -/
def State.sourceSample (s : State) (code : Nat) (num : Option Nat) (ext : Nat) : State :=
  let okA := s.get SPN_SRC_SRC_A = code ∧ (num = none ∨ num = some (s.get SPN_SRC_DOM_A))
  let okB := s.flag SPN_CTL_MODE = true ∧ s.get SPN_SRC_SRC_B = code ∧ (num = none ∨ num = some (s.get SPN_SRC_DOM_B))
  let s1 := if okA then s.sample false ext else s
  if okB then s1.sample true ext else s1

/-- PTP_SAMPLE (R39, R40, R430): an offset measurement of a port, with its message sequence in order and a path delay
measured within the last 16 exchanges. -/
def State.ptpSample (s : State) (port : Fin 2) (dom : BitVec 8) (ext : Nat) (inOrder : Bool) (exchanges : Nat) : State :=
  if s.awake && inOrder && decide (exchanges ≤ 16) then s.sourceSample (port.val + 1) (some dom.toNat) ext else s

def execPtpSample (port : Fin 2) (dom : BitVec 8) (ext : BitVec 80) (inOrder : Bool) (exchanges : BitVec 8) (s : State) :
    Out State :=
  .next (s.ptpSample port dom ext.toNat inOrder exchanges.toNat)

/-! ### PCIe Precision Time Measurement (R44) -/

/-- Does a domain in use take its time from this source code? -/
def State.usesSource (s : State) (code : Nat) : Bool :=
  decide (s.get SPN_SRC_SRC_A = code) || (s.flag SPN_CTL_MODE && decide (s.get SPN_SRC_SRC_B = code))

/-- HIF_STAT.PTM reads 0 while no domain in use follows PTM. -/
def State.ptmShow (s : State) : State := if s.flag SPN_CTL_EN && s.usesSource 3 then s else s.put HIF_STAT_PTM 0

/-- PTM_DIALOG_START (R44): a dialog every INTERVAL ms while a domain follows PTM. -/
def State.ptmStart (s : State) : State :=
  if s.awake && s.flag SPN_CTL_EN && s.usesSource 3 then
    let s1 := s.toRef s.spn.ptmNext
    let s2 := { s1 with spn := { s1.spn with ptmBusy := true,
                                             ptmNext := s1.ref + 2000000 * atLeast1 (s1.get SPN_PTM_CFG_INTERVAL) } }
    (s2.put HIF_STAT_PTM 1).emit .ptmRequest
  else s

def execPtmDialogStart (s : State) : Out State := .next s.ptmStart

/-- PTM_DIALOG_DONE (R39, R44): master time plus SPN_PTM_MAP, if the dialog completed with a round trip below 10 µs. -/
def State.ptmDone (s : State) (completed : Bool) (master : BitVec 64) (roundTripNs : Nat) : State :=
  let s1 := { (if s.spn.ptmBusy && !completed then s.put HIF_STAT_PTM 2 else s) with spn := { s.spn with ptmBusy := false } }
  if s.awake && s.spn.ptmBusy && completed && decide (roundTripNs < 10000) then
    s1.sourceSample 3 none ((master.toNat : Int) + (BitVec.ofNat 64 (s.rd64 SPN_PTM_MAP_LO)).toInt).toNat
  else s1

def execPtmDialogDone (completed : Bool) (master : BitVec 64) (roundTripNs : BitVec 32) (s : State) : Out State :=
  .next (s.ptmDone completed master roundTripNs.toNat)

/-! ### PPS_IN and the second label (R45) -/

/-- PPS_LABEL_WRITE: the label's high word; the label waits for the next pulse. -/
def State.ppsLabel (s : State) (hi : Word) : State :=
  (s.wr SPN_PPS_LABEL_HI (hi &&& 0xFFFF)).put SPN_PPS_CFG_LBL_VALID 1

def execPpsLabelWrite (hi : Word) (s : State) : Out State :=
  .next (s.hostAt none SPN_PPS_LABEL_HI fun (s : State) => s.ppsLabel hi)

/-- The second the label registers hold. -/
def State.labelSec (s : State) : Nat := (s.rd SPN_PPS_LABEL_LO).toNat + 2 ^ 32 * (s.rd SPN_PPS_LABEL_HI).toNat

/-- A pulse accepted for second `sec`: it consumes the label and is a sample. -/
def State.ppsAccept (s : State) (sec : Nat) : State :=
  let s1 := s.put SPN_PPS_CFG_LBL_VALID 0
  ({ s1 with spn := { s1.spn with pps := some (sec, s1.ref) } }).sourceSample 4 none (sec * 1000000000)

/-- PPS_EDGE (R45): half nanoseconds since the previous accepted edge decide glitch, label and rule. Edges with EN 0 are
ignored, and the last accepted one outlasts STOPPED (DEDUCED, log entry 12). -/
def State.ppsEdge (s : State) : State :=
  if s.flag SPN_CTL_EN && s.usesSource 4 then
    match s.spn.pps with
    | none => if s.flag SPN_PPS_CFG_LBL_VALID then s.ppsAccept s.labelSec else s
    | some (sec, t) =>
      if s.ref - t < 1998000000 then s.raise SPN_EVT_PPS_GLITCH
      else if s.flag SPN_PPS_CFG_LBL_VALID then s.ppsAccept s.labelSec
      else if 2002000000 < s.ref - t then s.raise SPN_EVT_PPS_GLITCH
      else (s.raise SPN_EVT_PPS_UNLAB).ppsAccept (sec + 1)
  else s

/-- The edge comes `afterNs` nanoseconds after the commands before it. -/
def execPpsEdge (afterNs : BitVec 32) (s : State) : Out State := .next ((s.pass (2 * afterNs.toNat)).ppsEdge)

/-! ### The epoch (R37) -/

/-- EPOCH_COMMIT: a write to SPN_EPOCH_SEC_HI commits the held words with it, or is ignored. A word not held keeps the epoch's
value (DEDUCED, log entry 12). -/
def State.epochCommit (s : State) (hi : Word) : State :=
  let ns := s.spn.heldNs.getD (s.rd SPN_EPOCH_NS)
  let lo := s.spn.heldSecLo.getD (s.rd SPN_EPOCH_SEC_LO)
  let s0 := { s with spn := { s.spn with heldNs := none, heldSecLo := none } }
  if s.flag SPN_CTL_EN ∨ 1000000000 ≤ ns.toNat then s0.raise SPN_EVT_EPOCH_IGN
  else ((s0.wr SPN_EPOCH_NS ns).wr SPN_EPOCH_SEC_LO lo).wr SPN_EPOCH_SEC_HI (hi &&& 0xFFFF)

def execEpochCommit (hi : Word) (s : State) : Out State :=
  .next (s.hostAt none SPN_EPOCH_SEC_HI fun (s : State) => s.epochCommit hi)

/-- A write to SPN_EPOCH_NS or SPN_EPOCH_SEC_LO is held (R37). -/
def State.epochHold (s : State) (a : Nat) (v : Word) : State :=
  if a = SPN_EPOCH_NS then { s with spn := { s.spn with heldNs := some (v &&& 0x3FFFFFFF) } }
  else { s with spn := { s.spn with heldSecLo := some v } }

/-! ### Enabling and stopping (R41, R42, R430) -/

/-- A source code that names a source (R39: 0 NONE, 5 to 7 treated as NONE). -/
def isSource (c : Nat) : Bool := decide (1 ≤ c ∧ c ≤ 4)

/-- SPINDLE_ENABLE: EN changes from 0 to 1. -/
def State.spnEnable (s : State) : State :=
  if s.flag SPN_CTL_EN then s
  else
    let s1 := s.put SPN_CTL_EN 1
    if isSource (s1.get SPN_SRC_SRC_A) then
      ({ s1 with spn := { s1.spn with hasTime := false, lastTurn := none } }).enterAcquire
    else
      ((({ s1 with spn := { s1.spn with hasTime := true, wideU := s1.epochNs * 2000000000, lastTurn := none } }).cluAnew.put
        SPN_STAT_STATE spnFree)).showFreq.trigsAcross

/-- SPINDLE_DISABLE: EN is cleared; from any state the spindle is STOPPED and F is 0 (R41, R430). What was measured
against the clock that is gone goes with it (DEDUCED, log entry 12). -/
def State.spnDisable (s : State) : State :=
  let s1 := ((((s.put SPN_CTL_EN 0).put SPN_STAT_STATE spnStopped).put SPN_STAT_EST 0).put SPN_STAT_HELD 0)
  let s2 := (s1.put SPN_STAT_SUSP_A 0).put SPN_STAT_SUSP_B 0
  ({ s2 with spn := { s2.spn with hasTime := false, f := 0, r := 0, run := 0, lastTurn := none, sched := none,
                                  estWait := false, domA := {}, domB := {}, frond := { free := s2.spn.frond.free } } }).showFreq

/-- A host's request for a domain switch: made only under the switch test (R49). -/
def State.switchRequest (s : State) : State :=
  if s.switchOk then s.doSwitch else s.raise SPN_EVT_SW_REFUSED

/-- A write of SPN_CTL: MODE and EN as written, then SWITCH. -/
def State.spnCtlWrite (s : State) (v : Word) : State :=
  let s1 := s.putB SPN_CTL_MODE (v.getLsbD 1)
  let s2 := if v.getLsbD 0 then s1.spnEnable else if s1.flag SPN_CTL_EN then s1.spnDisable else s1
  (if v.getLsbD 2 then s2.switchRequest else s2).ptmShow

def execSpindleEnable (mode : Bool) (s : State) : Out State :=
  .next (s.hostAt none SPN_CTL fun (s : State) => s.spnCtlWrite (if mode then 3 else 1))

def execSpindleDisable (mode : Bool) (s : State) : Out State :=
  .next (s.hostAt none SPN_CTL fun (s : State) => s.spnCtlWrite (if mode then 2 else 0))

def execDomainSwitchRequest (s : State) : Out State :=
  .next (s.hostAt none SPN_CTL fun (s : State) => s.switchRequest)

/-! ### Loss, holdover, steps -/

/-- LOSS_TIMEOUT (R431, R41, R49): at a turn start, LOSS_TMO whole turns have passed without a valid sample of the domain
followed. In MODE 1 the switch is tried in every state; ACQUIRE and LOCKED leave for HOLDOVER where it is refused, and the other
states meet a refusal with no effect (DEDUCED, log entry 12). -/
def State.lossTimeout (s : State) : State :=
  let silent := match (s.dom s.activeDom).lastTurn with
    | some t => decide (atLeast1 (s.get SPN_LOCK_CFG_LOSS_TMO) ≤ s.turn - t - 1)
    | none => true
  let follows := decide (s.spnSt = spnAcquire ∨ s.spnSt = spnLocked)
  if s.placing && decide (s.spn.turnRef = s.ref) && silent then
    if s.flag SPN_CTL_MODE then (if follows || s.switchOk then s.autoSwitch else s)
    else if follows then s.enterHoldover else s
  else s

def execLossTimeout (s : State) : Out State := .next s.lossTimeout

/-- HOLDOVER_LIMIT (R43, R41): the bound reaches SPN_HOLD_LIMIT and the spindle runs FREE. -/
def State.holdoverLimit (s : State) : State :=
  let ppb := s.get SPN_HOLD_PPB_PPB
  let lim := (s.rd SPN_HOLD_LIMIT).toNat
  if s.spnSt = spnHoldover ∧ (0 < ppb ∨ lim = 0) then
    let s1 := s.toRef (s.spn.holdRef + (lim * 125000000000 + (ppb - 1)) / ppb)
    (((s1.wr SPN_EST_ERR (BitVec.ofNat 32 lim)).put SPN_STAT_STATE spnFree).raise SPN_EVT_FREE).showFreq
  else s

def execHoldoverLimit (s : State) : Out State := .next s.holdoverLimit

/-- STEP_ACCEPT (R47): schedules a step by the pending offset, at the next turn start. -/
def State.stepAccept (s : State) : State :=
  if s.flag SPN_STAT_STEP_PEND then { s with spn := { s.spn with sched := some s.spn.pendOfs } } else s

def execStepAccept (s : State) : Out State :=
  .next (s.hostAt none SPN_STEP_CMD fun (s : State) => s.stepAccept)

/-- STEP_LOAD (R50): the host-written SPN_STEP_PEND becomes the pending offset. -/
def State.stepLoad (s : State) : State :=
  let s1 := s.put SPN_STAT_STEP_PEND 1
  { s1 with spn := { s1.spn with pendOfs := (s.rd SPN_STEP_PEND).toInt } }

def execStepLoad (s : State) : Out State :=
  .next (s.hostAt none SPN_STEP_CMD fun (s : State) => s.stepLoad)

/-! ### Captured sets (R55) -/

/-- Write a captured set: nanoseconds, seconds, turn, from the address of its NS register. -/
def State.putSet (s : State) (ns : Nat) (wide turn : Nat) : State :=
  ((((s.wr ns (BitVec.ofNat 32 (wide % 1000000000))).wr (ns + 4) (BitVec.ofNat 32 (wide / 1000000000))).wr (ns + 8)
    (BitVec.ofNat 32 (wide / 1000000000 / 2 ^ 32 % 2 ^ 16))).wr (ns + 12) (BitVec.ofNat 32 turn)).wr (ns + 16)
    (BitVec.ofNat 32 (turn / 2 ^ 32 % 2 ^ 8))

/-- NOW_CAPTURE: a read of SPN_NOW_NS captures the set. With no time held the set is free (log entry 4). -/
def State.nowCapture (s : State) : State :=
  let s1 :=
    if s.spn.hasTime then (s.putSet SPN_NOW_NS s.wideNs s.turn).wr SPN_NOW_ANGLE (BitVec.ofNat 32 s.angle)
    else (s.putSet SPN_NOW_NS (Config.tickNoTime s.ref).toNat (Config.tickNoTime s.ref).toNat).wr SPN_NOW_ANGLE
      (BitVec.ofNat 32 ((Config.tickNoTime s.ref).toNat % turnTicks))
  { s1 with hostRd := s1.rd SPN_NOW_NS }

def execNowCapture (s : State) : Out State :=
  .next (s.hostGet none SPN_NOW_NS fun (s : State) => s.nowCapture)

/-- TURN_LATCH_CAPTURE: a read of SPN_TL_NS captures the turn-start latch. -/
def State.tlCapture (s : State) : State :=
  let s1 := (s.putSet SPN_TL_NS s.spn.tlWide s.spn.tlTurn).wr SPN_TL_NARROW (BitVec.ofNat 32 s.spn.tlNarrow)
  { s1 with hostRd := s1.rd SPN_TL_NS }

def execTurnLatchCapture (s : State) : Out State :=
  .next (s.hostGet none SPN_TL_NS fun (s : State) => s.tlCapture)

/-! ### Time triggers: arming and pulses (R52) -/

/-- EN of trigger `n` changes from 0 to 1: start, period and width are sampled; a single pulse due less than 32 ticks
after arming is missed; a periodic trigger begins at its first time at least 32 ticks after arming. A pulse still on the pin
keeps its width. -/
def State.trigArm (s : State) (n : Fin 4) : State :=
  let p0 := (s.rd (SPN_TTO_PERIOD n)).toNat
  let p := if p0 = 0 then 0 else max 16 p0
  let w0 := atLeast1 (s.rd (SPN_TTO_WIDTH n)).toNat
  let w := if p ≠ 0 ∧ p ≤ w0 then p - 1 else w0
  let start := ((s.rd (SPN_TTO_START_SEC_LO n)).toNat + 2 ^ 32 * (s.rd (SPN_TTO_START_SEC_HI n)).toNat) * 1000000000 +
    (s.rd (SPN_TTO_START_NS n)).toNat
  let t : Trigger := { (s.trig n) with armed := true, start := start, period := p, width := w, next := 0, last := none }
  let pin := fun (x : State) => if t.pulseEnd.isSome then t.pin else some (!x.trigActive n)
  let now := s.wideHalf + 125 * 32
  let s1 := s.put (SPN_TTO_CTL_EN n) 1
  if p = 0 then
    if s1.spn.hasTime && decide (2 * start < now) then (s1.trigMissed n 1).trigDone n
    else s1.setTrig n { t with pin := pin s1 }
  else s1.setTrig n { t with next := t.firstAt 0 now, pin := pin s1 }

/-- A write of SPN_TTOn_CTL: POL and GATE as written, then EN. A pulse in progress ends by itself, and the idle level moves
with the next pulse (DEDUCED, log entry 12). -/
def State.trigCtlWrite (s : State) (n : Fin 4) (v : Word) : State :=
  let s1 := (s.putB (SPN_TTO_CTL_POL n) (v.getLsbD 1)).putB (SPN_TTO_CTL_GATE n) (v.getLsbD 2)
  if v.getLsbD 0 then (if s1.flag (SPN_TTO_CTL_EN n) then s1 else s1.trigArm n)
  else (s1.put (SPN_TTO_CTL_EN n) 0).setTrig n { s1.trig n with armed := false }

def execTriggerArm (n : Fin 4) (pol gate : Bool) (s : State) : Out State :=
  .next (s.hostAt none (SPN_TTO_CTL n) fun (s : State) => s.trigCtlWrite n (1 + (if pol then 2 else 0) + (if gate then 4 else 0)))

/-- TRIGGER_PULSE: the first tick boundary at or after the programmed time is reached; before the epoch the time itself. The
width is counted on the reference, and a single pulse clears EN as it begins (DEDUCED, log entry 12). -/
def State.trigPulse (s : State) (n : Fin 4) : State :=
  if (s.trig n).armed && s.spn.hasTime && s.flag SPN_CTL_EN then
    let t0 := s.trig n
    let e := 2 * s.epochNs
    let due := t0.time t0.next
    let s1 := s.toWideHalf (if e ≤ due then e + (due - e + 124) / 125 * 125 else due)
    let gated := s1.flag (SPN_TTO_CTL_GATE n) && decide (s1.spnSt ≠ spnLocked)
    let s2 := if gated then s1.trigMissed n 1
      else s1.setTrig n { t0 with pin := some (s1.trigActive n), pulseEnd := some (s1.ref + 125 * t0.width), last := some t0.next }
    if t0.period = 0 then s2.trigDone n else s2.setTrig n { s2.trig n with next := t0.next + 1 }
  else s

def execTriggerPulse (n : Fin 4) (s : State) : Out State := .next (s.trigPulse n)

/-- TRIGGER_PULSE_END: the width expires and the output returns to its inactive level. -/
def State.trigPulseEnd (s : State) (n : Fin 4) : State :=
  match (s.trig n).pulseEnd with
  | some t =>
    let s1 := s.toRef t
    s1.setTrig n { s1.trig n with pulseEnd := none, pin := some (!s1.trigActive n) }
  | none => s

def execTriggerPulseEnd (n : Fin 4) (s : State) : Out State := .next (s.trigPulseEnd n)

/-! ### Turn starts and steps (R31, R32, R48) -/

/-- The number of the next turn start: the least turn not yet begun whose start is not behind the clock. -/
def State.nextTurn (s : State) : Nat :=
  let w := s.wideHalf - 2 * s.epochNs
  let n := (w + (2 * turnNs - 1)) / (2 * turnNs)
  match s.spn.lastTurn with
  | some l => max n (l + 1)
  | none => n

/-- Move both domains' last offsets with the clock (R50: the switch test after a step sees the stepped clock). -/
def Domain.moved (d : Domain) (by_ : Int) : Domain := { d with lastOfs := d.lastOfs.map (· - by_) }

/-- A scheduled step by `d` ns is applied at the start of turn `t`, which SPN_STEP_TURN records however far the clock steps
(R48; DEDUCED, log entry 12). But in HOLDOVER the step ends any error bound, that of a wake among them (R54; DEDUCED for a
step that the host has accepted, log entry 12). Frond's clock is not stepped here: the strobe, or the hold, brings it along. -/
def State.applyStep (s : State) (t : Nat) (d : Int) : State :=
  let s1 := (s.raise SPN_EVT_STEPPED).bump SPN_CNT_STEP
  let s2 := (s1.wr SPN_STEP_TURN_LO (BitVec.ofNat 32 t)).wr SPN_STEP_TURN_HI (BitVec.ofNat 32 (t / 2 ^ 32 % 2 ^ 8))
  let s3 := s2.put SPN_STAT_STEP_PEND 0
  let s4 := if s3.spnSt = spnHoldover then s3 else s3.wr SPN_EST_ERR 0
  let s5 := { s4 with spn := { s4.spn with
    wideU := ((s4.spn.wideU : Int) + d * 2000000000).toNat, sched := none, estWait := false, run := 0,
    frond := { s4.spn.frond with lag := s4.spn.frond.lag - d * 2000000000 },
    domA := s4.spn.domA.moved d, domB := s4.spn.domB.moved d } }
  s5.trigsAcross

/-- The turn begins: the turn-start set is latched and the strobe leaves with the low 8 bits of the turn number (R15,
R31, R51), which re-aligns the Frond counter (R18). After a forward step the turn start is taken from the stepped clock (R48); the ticks that
Frond passes over are those the step removed. -/
def State.beginTurn (s : State) : State :=
  let t := s.turn
  let s1 := s.put SPN_STAT_HELD 0
  let old := s1.spn.frond.removed.filter (fun (e : Nat × Nat) => decide (s1.absTick < e.2 + turnTicks))
  let gone := if s1.spn.frond.free.isNone && decide (s1.frnTick < s1.absTick) then (s1.frnTick, s1.absTick) :: old else old
  ({ s1 with spn := { s1.spn with lastTurn := some t, turnRef := s1.ref, tlTurn := t, tlWide := s1.wideNs,
                                  tlNarrow := t * turnNs % 2 ^ 32, frond := { removed := gone }, frondWas := s1.spn.frond } }).emit
    (.strobe (BitVec.ofNat 8 t))

/-- The spindle's part of TURN_START. Answers the state and whether a turn began: a backward step holds the spindle
with HELD set until the clock reaches the turn's start again, and Frond's narrow counters follow it (R48). -/
def State.spnTurnStart (s : State) : State × Bool :=
  if s.flag SPN_CTL_EN && s.spn.hasTime then
    let n := s.nextTurn
    let s1 := s.toWideHalf (2 * (s.epochNs + n * turnNs))
    match s1.spn.sched with
    | none => (s1.beginTurn, true)
    | some d =>
      let s2 := s1.applyStep n d
      if d < 0 then
        let s3 := s2.put SPN_STAT_HELD 1
        let last := if n = 0 then none else some (n - 1)
        ({ s3 with spn := { s3.spn with lastTurn := last, frond := { s3.spn.frond with lag := 0 } } }, false)
      else (s2.beginTurn, true)
  else (s, false)

/-! ### Narrow stamps (R51) -/

/-- A narrow stamp with its turn tag: nanoseconds since the epoch, or bad. In a turn whose strobe Frond has ignored the turn
counts from the latch of the turn before, which is Frond's own count (R19). -/
def State.extendNs (s : State) (narrow : BitVec 32) (tag : BitVec 8) : Option Nat :=
  let c := s.frnTurnNo
  let back := (c + (256 - tag.toNat)) % 256
  if c < back then none
  else
    let base := (c - back) * turnNs
    let d := (narrow.toNat + (2 ^ 32 - base % 2 ^ 32)) % 2 ^ 32
    if turnNs ≤ d then none else some (base + d)

/-- The tick that a narrow stamp names: the one that contains its nanosecond. -/
def State.extendStamp (s : State) (narrow : BitVec 32) (tag : BitVec 8) : Option Nat :=
  (s.extendNs narrow tag).map (fun n => 2 * n / 125)

/-- The wide time that a narrow stamp extends to, E + S + d. -/
def State.stampWide (s : State) (narrow : BitVec 32) (tag : BitVec 8) : Option Nat :=
  (s.extendNs narrow tag).map (fun n => s.epochNs + n)

/-- The effects of a bad stamp. -/
def State.stampBad (s : State) : State := (s.raise SPN_EVT_STAMP_BAD).bump SPN_CNT_STAMP_BAD

/-- The wide time, ns, at which a tick counted from the epoch begins. -/
def State.wideOfTick (s : State) (abs : Nat) : Nat := s.epochNs + abs * 125 / 2

end Sys2Proof.Machine
end

