-- ==== Sys2Proof/Machine/Radio.lean ====
section
/-! DEFINITION. The radios of Frond (spec/03_frond_radios.md, spec/04_air_interfaces.md): channel tables, synthesisers,
radio states, the sequencer pair and its operations, transmission and reception, coasting. Ticks are counted from the
epoch by the Frond counter. -/

namespace Sys2Proof.Machine

/-! ### The state of one radio -/

def State.fr (s : State) (r : Fin 3) : FrnState := s.frn[r]

def State.setFr (s : State) (r : Fin 3) (f : FrnState) : State := { s with frn := s.frn.set r f }

def frnBase (r : Nat) : Nat := 0x200000 + 0x80000 * r

/-- The frame of a unit, where it is one. -/
def TxUnit.frame? : TxUnit → Option TxFrame
  | .frame f => some f
  | _ => none

/-- It returns a status (R79). -/
def TxUnit.owes : TxUnit → Bool
  | .frame _ => true
  | .tpl _ => true
  | _ => false

/-- The lowest chain of a mask. -/
def lowChain (mask : Nat) : Nat := ((List.range 4).find? (fun y => decide (mask / 2 ^ y % 2 = 1))).getD 0

/-- Nanoseconds since the epoch at the transmit reference point of a PPDU that starts at a tick: the departure of its first
sample plus TX_NS of the lowest chain in its mask (R84, R85). -/
def State.refNs (s : State) (r : Fin 3) (start chains : Nat) : Nat := start * 125 / 2 + s.get (FRN_CAP_DLY_TX_NS r (lowChain chains))

/-- The tick that contains the transmit reference point. -/
def State.refTick (s : State) (r : Fin 3) (start chains : Nat) : Nat := 2 * s.refNs r start chains / 125

/-- The narrow stamp of a transmission (R51, R84, R85). -/
def State.txStamp (s : State) (r : Fin 3) (start chains : Nat) : Stamp :=
  let n := s.refNs r start chains
  ⟨BitVec.ofNat 32 n, BitVec.ofNat 8 (n / turnNs), lowChain chains⟩

/-- The template with its timestamp field filled from the tick of the transmit reference point (R78, R119). -/
def stampTemplate (bytes : List Byte) (ofs tick : Nat) : List Byte :=
  if ofs = 0 then bytes else bytes.take ofs ++ (leBytes 8 (tick / 16) ++ bytes.drop (ofs + 8)).take (bytes.length - ofs)

/-- The status register of a synthesiser: false SY0, true SY1. -/
def synAddr (r : Nat) (k : Bool) : Nat := if k then FRN_SYN1_STAT r else FRN_SYN0_STAT r
def synCh (r : Nat) (k : Bool) : Fld := if k then FRN_SYN1_STAT_CH r else FRN_SYN0_STAT_CH r
def synLocked (r : Nat) (k : Bool) : Fld := if k then FRN_SYN1_STAT_LOCKED r else FRN_SYN0_STAT_LOCKED r
def synCalib (r : Nat) (k : Bool) : Fld := if k then FRN_SYN1_STAT_CALIB r else FRN_SYN0_STAT_CALIB r
def synFailed (r : Nat) (k : Bool) : Fld := if k then FRN_SYN1_STAT_FAILED r else FRN_SYN0_STAT_FAILED r
def synActive (r : Nat) (k : Bool) : Fld := if k then FRN_SYN1_STAT_ACTIVE r else FRN_SYN0_STAT_ACTIVE r
def synUsed (r : Nat) (k : Bool) : Fld := if k then FRN_SYN1_STAT_STORE_USED r else FRN_SYN0_STAT_STORE_USED r

def State.syn (s : State) (r : Fin 3) (k : Bool) : Synth := if k then (s.fr r).syn1 else (s.fr r).syn0

def State.setSyn (s : State) (r : Fin 3) (k : Bool) (y : Synth) : State :=
  s.setFr r (if k then { s.fr r with syn1 := y } else { s.fr r with syn0 := y })

/-- The active synthesiser (R61). -/
def State.activeSyn (s : State) (r : Fin 3) : Option Bool :=
  if s.flag (synActive r false) then some false else if s.flag (synActive r true) then some true else none

/-- The idle synthesiser. With none active it is the one last released, SY0 at first (log entry 6). -/
def State.idleSyn (s : State) (r : Fin 3) : Bool :=
  match s.activeSyn r with
  | some k => !k
  | none => (s.fr r).idle

/-- An entry of a store is valid within TEMP_WIN of its temperature and while it is not stale (R63). -/
def State.calValid (s : State) (r : Fin 3) (c : Cal) : Bool :=
  !c.stale && decide (((s.fr r).die - c.temp).natAbs ≤ 8 * atLeast1 (s.get (FRN_CAL_CFG_TEMP_WIN r)))

/-- The synthesiser has prepared its channel and holds lock. -/
def State.prepared (s : State) (r : Fin 3) (k : Bool) : Bool :=
  decide (s.get (synCh r k) ≠ 0xFF) && s.flag (synLocked r k) && !s.flag (synFailed r k)

def State.frnSt (s : State) (r : Fin 3) : Nat := s.get (FRN_STAT_STATE r)
def State.seqSt (s : State) (r : Fin 3) : Nat := s.get (FRN_STAT_SEQ r)

/-- FRN_STAT and the stores' counts show the synthesisers as they stand. -/
def State.frnShow (s : State) (r : Fin 3) : State :=
  let i := s.idleSyn r
  let s1 := match s.activeSyn r with
    | some k => (((s.putB (FRN_STAT_ACT_SYN r) k).putB (FRN_STAT_ACT_LOCK r) (s.flag (synLocked r k))).put
        (FRN_STAT_ACT_CH r) (s.get (synCh r k)))
    | none => (s.put (FRN_STAT_ACT_LOCK r) 0).put (FRN_STAT_ACT_CH r) 0xFF
  let s2 := (s1.putB (FRN_STAT_PREP_RDY r) (s1.prepared r i)).put (FRN_STAT_PREP_CH r)
    (if s1.flag (synFailed r i) then 0xFF else s1.get (synCh r i))
  let n := fun k => ((s.syn r k).store.filter (s.calValid r)).length
  (s2.put (synUsed r false) (n false)).put (synUsed r true) (n true)

/-- A synthesiser is marked unprepared; its store is kept. -/
def State.unprepare (s : State) (r : Fin 3) (k : Bool) : State :=
  ((((s.put (synCh r k) 0xFF).put (synLocked r k) 0).put (synCalib r k) 0).put (synFailed r k) 0).put (synActive r k) 0

/-- The front-end modes of R67. -/
def femOffMode : Nat := 0
def femStby : Nat := 1
def femRx : Nat := 2
def femRxByp : Nat := 3
def femTx : Nat := 4

/-- The five control lines of one chain in a front-end mode (R67, R68): with no active channel the group-0 STBY pattern;
the transmit-enable line is 0 in every mode except TX, and 1 there only while the active synthesiser is locked. -/
def State.femLine (s : State) (r : Fin 3) (y mode : Nat) : Nat :=
  if mode = femOffMode then 0
  else
    let (m, g) := match s.activeSyn r with
      | some k => (mode, (s.syn r k).group)
      | none => (femStby, 0)
    let p := if m = femRx then s.get (FRN_FEM_PAT_RX r y g)
      else if m = femRxByp then s.get (FRN_FEM_PAT_RX_BYP r y g)
      else if m = femTx then s.get (FRN_FEM_PAT_TX r y g)
      else s.get (FRN_FEM_PAT_STBY r y g)
    let en := s.get (FRN_FEM_CFG_TXEN r)
    let bit := 2 ^ (if en ≤ 4 then en else 0)
    let rest := if p / bit % 2 = 1 then p - bit else p
    if m = femTx ∧ s.flag (FRN_STAT_ACT_LOCK r) then rest + bit else rest

/-- The chains that the operation in progress names; a chain left out shows the STBY pattern. -/
def SeqWait.chains : SeqWait → Nat
  | .rx _ _ c _ => c
  | .txq _ _ c _ _ => c
  | .tpl t => t.chains
  | _ => 15

/-- The lines of the four chains in a mode, with a chain mask. -/
def State.femLines (s : State) (r : Fin 3) (mode mask : Nat) : List Nat :=
  (List.range 4).map (fun y => s.femLine r y (if mode = femOffMode ∨ mask / 2 ^ y % 2 = 1 then mode else femStby))

/-- Of announced modes, the one that holds at a tick and those after it. -/
def femFrom (now : Nat) (l : List (Nat × Nat × Nat)) : List (Nat × Nat × Nat) :=
  (l.filter (fun e => decide (e.1 ≤ now))).getLast?.toList ++ l.filter (fun e => decide (now < e.1))

/-- The lines of the four chains go to a mode at a tick (R67, R69). -/
def State.femDrive (s : State) (r : Fin 3) (mode at_ : Nat) : State :=
  let f := s.fr r
  let mask := f.wait.chains
  let l := femFrom s.frnTick (f.fem.filter (fun e => decide (e.1 < at_))) ++ [(at_, mode, mask)]
  (s.setFr r { f with fem := l }).emit (.fem r (s.femLines r mode mask) at_)

/-- A write of a pattern: the present mode and those announced are driven with it, each at its tick (R67, R69). -/
def State.femAgain (s : State) (r : Fin 3) : State :=
  (femFrom s.frnTick (s.fr r).fem).foldl (fun (s : State) e => s.emit (.fem r (s.femLines r e.2.1 e.2.2) (max s.frnTick e.1))) s

/-- The mode that goes with a radio state. -/
def State.femMode (s : State) (r : Fin 3) : Nat :=
  let st := s.get (FRN_STAT_STATE r)
  if st ≤ 1 ∨ (s.fr r).femOff then femOffMode
  else if st = 4 then femRx
  else if st = 5 then femTx
  else femStby

/-- The radio takes a state of R59, and its front ends the mode of that state; the STBY pattern comes once the TX pattern's lag
has passed (R69). -/
def State.toRadio (s : State) (r : Fin 3) (st : Nat) : State :=
  let s1 := s.put (FRN_STAT_STATE r) st
  let m := s1.femMode r
  s1.femDrive r m (if m = femStby then max s1.frnTick (s1.fr r).lagTo else s1.frnTick)

/-- Leads and lag of R69, with their limits. -/
def State.txLead (s : State) (r : Fin 3) : Nat := min 0x34 (s.get (FRN_FEM_CFG_TX_LEAD r))
def State.txLag (s : State) (r : Fin 3) : Nat := min 0x10 (s.get (FRN_FEM_CFG_TX_LAG r))
def State.rxLead (s : State) (r : Fin 3) : Nat := min 0x2D (s.get (FRN_FEM_CFG_RX_LEAD r))

/-- The TX to RX budget of R60. -/
def txToRx : Nat := 0x2D

/-- A transmission from tick `a` whose last sample leaves at `b`: the TX pattern leads its reference point and is held after it, and
the RX pattern follows where the radio listens next (R69). -/
def State.femTxSpan (s : State) (r : Fin 3) (a b chains : Nat) (listen : Bool) : State :=
  let s1 := (s.setFr r { s.fr r with lagTo := b + s.txLag r }).femDrive r femTx (s.refTick r a chains - s.txLead r)
  let s2 := s1.femDrive r femStby (b + s.txLag r)
  if listen then s2.femDrive r femRx (b + txToRx - s.rxLead r) else s2

/-- FRNn_STAT as it reads: STATE is TX while an immediate response is being sent (R59). -/
def State.frnStat (s : State) (r : Fin 3) : Word :=
  let rsp := (s.fr r).rsp.any (fun x => !x.barred && decide (x.from_ ≤ s.frnTick ∧ s.frnTick < x.to_))
  if rsp && decide (s.get (FRN_STAT_STATE r) = 4) then (s.put (FRN_STAT_STATE r) 5).rd (FRN_STAT r) else s.rd (FRN_STAT r)

/-- Entry to STANDBY (R59): the active synthesiser becomes the idle one and keeps its lock unless it has failed; the
other is marked unprepared. -/
def State.toStandby (s : State) (r : Fin 3) : State :=
  match s.activeSyn r with
  | some k =>
    let failed := s.flag (synFailed r k)
    let s1 := (s.unprepare r (!k)).put (synActive r k) 0
    let s2 := if failed then s1.unprepare r k else s1
    ((s2.setFr r { s2.fr r with idle := k }).toRadio r 2).frnShow r
  | none => if 1 ≤ s.frnSt r then (s.toRadio r 2).frnShow r else s

/-! ### The channel table (R56, R57, R58) -/

def chanAddr (r idx : Nat) : Nat := frnBase r + 0x10000 + 16 * idx

def State.chKhz (s : State) (r idx : Nat) : Nat := s.mem (chanAddr r idx) 4
def State.chBw (s : State) (r idx : Nat) : Nat := s.mem (chanAddr r idx + 4) 1
def State.chGroup (s : State) (r idx : Nat) : Nat := s.mem (chanAddr r idx + 5) 1
def State.chFlags (s : State) (r idx : Nat) : Nat := s.mem (chanAddr r idx + 7) 1

/-- The entry is valid (R58); index 0xFF is never a channel. -/
def State.chValid (s : State) (r idx : Nat) : Bool :=
  decide (idx < 0xFF ∧ s.chFlags r idx % 2 = 1) && channelOk (s.chKhz r idx) (s.chBw r idx) (s.chGroup r idx)

/-- A radio's channel table names no channel at all: the channel plan is missing (R4). -/
def State.noPlan (s : State) (r : Nat) : Bool := (List.range 255).all (fun i => !s.chValid r i)

/-- A channel-plan table is missing (R4): source 5 with the radio's block. -/
def State.planMissing (s : State) (r : Fin 3) : State := if s.noPlan r then s.raiseSrc 5 5 (0x20 + 8 * r.val) else s

/-- A signed byte. -/
def signed8 (n : Nat) : Int := (BitVec.ofNat 8 n).toInt

/-- The channel in use permits transmission (R58). -/
def State.txOk (s : State) (r : Fin 3) : Bool :=
  match s.activeSyn r with
  | some k => decide (s.chFlags r (s.get (synCh r k)) / 2 % 2 = 1)
  | none => false

/-- PWR_MAX of the channel in use, in 0.25 dBm: values above +24 are taken as +24 (R57). -/
def State.pwrMax (s : State) (r : Fin 3) : Int :=
  match s.activeSyn r with
  | some k => min 24 (signed8 (s.mem (chanAddr r (s.get (synCh r k)) + 6) 1))
  | none => 24

/-- A PPDU is announced: what it carries, its first tick, chains, and power under the channel's PWR_MAX (R57, R78). -/
def State.announce (s : State) (r : Fin 3) (p : TxPpdu) : State :=
  match (s.fr r).wait, p.units with
  | .tpl t, [.tpl _] => s.emit (.airTpl r p.start p.chains (min t.pwr (s.pwrMax r)) t.phy (stampTemplate t.bytes t.tsOfs
      (s.refTick r p.start p.chains)))
  | _, us => s.emit (.airTx r p.start p.chains (s.pwrMax r) us)

/-- An immediate response is announced, under the channel's PWR_MAX (R58, R59). -/
def State.sendRsp (s : State) (r : Fin 3) (x : Rsp) : State := s.emit (.airRsp r x.from_ x.chains (s.pwrMax r) x.phy x.what)

/-- The PPDU in hand is the immediate response itself: it answers a Trigger frame. -/
def FrnState.answers (f : FrnState) (p : TxPpdu) : Bool := p.loose && f.rsp.any (fun x => decide (x.from_ = p.start))

/-- A PPDU that is placed and has not begun meets a write of its channel's PWR_MAX and TX_OK (R58). -/
def State.ppduMoved (s : State) (r : Fin 3) : State :=
  match (s.fr r).ppdu with
  | some p =>
    if s.frnTick < p.start ∧ p.await = none then
      let q := { p with barred := !s.txOk r }
      let s1 := s.setFr r { s.fr r with ppdu := some q }
      if (s.fr r).answers p then s1
      else if q.barred then (s1.emit (.airCut r p.start)).femDrive r femStby s1.frnTick
      else (s1.femTxSpan r p.start p.end_ p.chains false).announce r q
    else s
  | none => s

/-- An immediate response that has not begun meets the same write. -/
def State.rspMoved (s : State) (r : Fin 3) : State :=
  match (s.fr r).rsp with
  | some x =>
    if s.frnTick < x.from_ then
      let y := { x with barred := !s.txOk r }
      let s1 := s.setFr r { s.fr r with rsp := some y }
      if y.barred then (s1.emit (.airCut r x.from_)).femDrive r femRx s1.frnTick
      else (s1.femTxSpan r x.from_ x.to_ x.chains (decide (s.frnSt r = 4))).sendRsp r y
    else s
  | none => s

/-- A write of an entry meets what is placed on its channel and has not begun (R58). -/
def State.channelMoved (s : State) (r : Fin 3) (idx : Nat) : State :=
  match s.activeSyn r with
  | some k => if s.get (synCh r k) = idx then (s.ppduMoved r).rspMoved r else s
  | none => s

/-- CHANNEL_ENTRY_WRITE: one word of an entry; a change of CENTRE_KHZ, BW or GROUP discards the index's stored
calibrations in both synthesisers, and a PPDU yet to begin is sent under the PWR_MAX and TX_OK written (R58). -/
def State.channelWrite (s : State) (r : Fin 3) (idx w : Nat) (v : Word) : State :=
  let v := if w = 1 then v &&& 0x03FFFFFF else if w = 0 then v else 0
  let s1 := (s.memSet (chanAddr r idx + 4 * w) 4 v.toNat).channelMoved r idx
  if s.chKhz r idx = s1.chKhz r idx ∧ s.chBw r idx = s1.chBw r idx ∧ s.chGroup r idx = s1.chGroup r idx then s1
  else
    let f := s1.fr r
    let cut := fun (y : Synth) => { y with store := y.store.filter (fun c => c.idx != idx) }
    (s1.setFr r { f with syn0 := cut f.syn0, syn1 := cut f.syn1 }).frnShow r

def execChannelEntryWrite (r : Fin 3) (idx : BitVec 8) (word : Fin 4) (v : Word) (s : State) : Out State :=
  .next (s.hostAt none (chanAddr r idx.toNat) fun (s : State) => s.channelWrite r idx.toNat word.val v)

/-! ### Program memory (R80) and the blank's profiles (R293) -/

def progAddr (r pc : Nat) : Nat := frnBase r + 0x40000 + 8 * (pc % 4096)

/-- The operation word at an address. -/
def State.progWord (s : State) (r pc : Nat) : Nat := s.mem (progAddr r pc) 8

/-- A byte of the RADIO section of the blank in use; 0 with no blank. -/
def State.radioByte (s : State) (off : Nat) : Nat :=
  match s.blk with
  | some b => (b.radio.getD off 0).toNat
  | none => 0

/-- RFLAGS bit `i` of radio `r` (R292). -/
def State.rflag (s : State) (r i : Nat) : Bool := decide (s.radioByte (2304 * r) / 2 ^ i % 2 = 1)

def State.rxProfile (s : State) (r p i : Nat) : Nat := s.radioByte (2304 * r + 128 + 8 * p + i)
def State.txProfile (s : State) (r p i : Nat) : Nat := s.radioByte (2304 * r + 256 + 8 * p + i)

/-- PROGRAM_WORD_COMMIT: the high word of a pair commits the whole operation; with no low word held the low word keeps
its value (R9, R80). -/
def State.progCommit (s : State) (i : Iface) (r : Fin 3) (a : Nat) (hi : Word) : State :=
  let k := 2 * progAddr r a + (if i = .hsp then 1 else 0)
  let s1 := match SMap.get (fun _ => none) s.wrHold k with
    | some lo => s.memSet (progAddr r a) 4 lo.toNat
    | none => s
  ({ s1 with wrHold := SMap.set (fun _ => none) s1.wrHold k none }).memSet (progAddr r a + 4) 4 hi.toNat

def execProgramWordCommit (i : Iface) (r : Fin 3) (a : BitVec 12) (hi : Word) (s : State) : Out State :=
  .next (s.hostAt (some i) (progAddr r a.toNat) fun (s : State) => s.progCommit i r a.toNat hi)

/-! ### Operations (R75) -/

/-- An operation with its fields. -/
inductive SeqOp where
  | halt
  | sync
  | waitAt (ang : Nat)
  | waitRel (ticks : Nat)
  | sleep
  | wake (ready : Nat)
  | prep (idx : Nat) (recal : Bool)
  | hop
  | rxwin (end_ chains profile : Nat)
  | txq (dl end_ chains queue : Nat)
  | txtpl (tpl dl chains : Nat)
  | bgcal (kind limit : Nat)
  | event (code : Nat)
  | jump (target : Nat)
  | jcyc (target len pos : Nat)
  deriving DecidableEq, Repr

/-- `n` bits of a number from bit `lo`. -/
def bitsOf (w lo n : Nat) : Nat := w / 2 ^ lo % 2 ^ n

/-- The operation that a word spells; none for a reserved opcode. -/
def decodeOp (w : Nat) : Option SeqOp :=
  match bitsOf w 0 6 with
  | 0x00 => some .halt
  | 0x01 => some .sync
  | 0x02 => some (.waitAt (bitsOf w 8 24))
  | 0x03 => some (.waitRel (bitsOf w 8 24))
  | 0x04 => some .sleep
  | 0x05 => some (.wake (bitsOf w 8 24))
  | 0x06 => some (.prep (bitsOf w 8 8) (decide (bitsOf w 16 1 = 1)))
  | 0x07 => some .hop
  | 0x08 => some (.rxwin (bitsOf w 8 24) (bitsOf w 32 4) (bitsOf w 36 4))
  | 0x09 => some (.txq (bitsOf w 8 24) (bitsOf w 32 24) (bitsOf w 56 4) (bitsOf w 60 4))
  | 0x0A => some (.txtpl (bitsOf w 8 8) (bitsOf w 16 24) (bitsOf w 40 4))
  | 0x0B => some (.bgcal (bitsOf w 8 3) (bitsOf w 16 24))
  | 0x0C => some (.event (bitsOf w 8 8))
  | 0x0D => some (.jump (bitsOf w 8 12))
  | 0x0E => some (.jcyc (bitsOf w 8 12) (bitsOf w 20 8) (bitsOf w 28 8))
  | _ => none

/-! ### Frames taken up and returned (R79) -/

/-- Frond returns what it took up with its status and its transmit stamp, none for what was not sent. -/
def State.frnReturn (s : State) (r : Fin 3) (u : TxUnit) (st : TxStatus) (stamp : Option Stamp) : State :=
  if u.owes then { s with retq := s.retq ++ [⟨r, u, st, stamp⟩] } else s

/-- Everything that a PPDU carries returns one status, with the PPDU's stamp. -/
def State.ppduReturn (s : State) (r : Fin 3) (p : TxPpdu) (st : TxStatus) : State :=
  p.units.foldl (fun (s : State) u => s.frnReturn r u st (some (s.txStamp r p.start p.chains))) s

def State.queue (s : State) (r : Fin 3) (q : Nat) : List TxFrame := if h : q < 16 then (s.fr r).queues[q] else []

def State.setQueue (s : State) (r : Fin 3) (q : Nat) (l : List TxFrame) : State :=
  if h : q < 16 then s.setFr r { s.fr r with queues := (s.fr r).queues.set q l } else s

/-- A frame joins a queue of Frond; while the radio coasts it is marked as come since (R81). -/
def State.toQueue (s : State) (r : Fin 3) (q : Nat) (f : TxFrame) : State :=
  let s1 := s.setQueue r q (s.queue r q ++ [f])
  if (s.fr r).coastFrom.isSome then s1.setFr r { s1.fr r with coastNew := f.fid :: (s1.fr r).coastNew } else s1

/-- The frames of a queue that TXQ may take, and those behind them: while the pair coasts, those that Frond held when coasting
began (R81). -/
def State.mayTake (s : State) (r : Fin 3) (q : Nat) : List TxFrame × List TxFrame :=
  let old := fun (f : TxFrame) => s.seqSt r != 2 || !(s.fr r).coastNew.contains f.fid
  ((s.queue r q).takeWhile old, (s.queue r q).dropWhile old)

/-- Cut the PPDU in transmission or its response period (R65, R72): ABORT, or back to its queue if not yet begun. -/
def State.cutTx (s : State) (r : Fin 3) : State :=
  match (s.fr r).ppdu with
  | some p =>
    let s1 := s.setFr r { s.fr r with ppdu := none, lagTo := 0 }
    if s.frnTick < p.start then
      (s1.setQueue r p.queue (p.units.filterMap TxUnit.frame? ++ s1.queue r p.queue)).emit (.airCut r p.start)
    else
      let s2 := s1.ppduReturn r p .abort
      if p.await = none then s2.emit (.airCut r s.frnTick) else s2
  | none => s

/-- A template whose transmission is given up before it has begun returns ABORT (R79; DEDUCED, log entry 13). -/
def State.dropTpl (s : State) (r : Fin 3) : State :=
  match (s.fr r).wait with
  | .tpl t =>
    if (s.fr r).ppdu.all (fun p => p.loose || decide (s.frnTick < p.start)) then s.frnReturn r (.tpl t.num) .abort none else s
  | _ => s

/-- A template that is held and not yet in a PPDU is given up alike. -/
def State.dropHeldTpl (s : State) (r : Fin 3) : State := if (s.fr r).ppdu.all (·.loose) then s.dropTpl r else s

/-- An immediate response that is due or being sent is cut with the reception. -/
def State.cutRx (s : State) (r : Fin 3) : State :=
  let s1 := s.setFr r { s.fr r with rxEnd := none, rsp := none, deaf := 0 }
  match (s.fr r).rsp with
  | some x => if s.frnTick < x.to_ then s1.emit (.airCut r (max x.from_ s.frnTick)) else s1
  | none => s1

/-! ### The pair (R71, R72, R73, R433) -/

def State.pc (s : State) (r : Fin 3) : Nat := s.get (FRN_SEQ_PC_PC r)

/-- The pair executes the operation `op` now: its word stands at the pair's address, and the pair neither waits nor halts
(R73, R75). -/
def State.canExec (s : State) (r : Fin 3) (op : SeqOp) : Bool :=
  s.flag (FRN_CTL_EN r) && decide (s.seqSt r = 1 ∨ s.seqSt r = 2) && decide ((s.fr r).wait = .none) &&
    !(s.fr r).halting && s.frnGo && decide (decodeOp (s.progWord r (s.pc r)) = some op)

def State.setWait (s : State) (r : Fin 3) (w : SeqWait) : State := s.setFr r { s.fr r with wait := w }

/-- The sequencer fault of R72: everything is cut, the radio is in STANDBY with the OFF pattern, the pair halts. -/
def State.seqFault (s : State) (r : Fin 3) (e : Fld) (restart : Bool) : State :=
  let s1 := ((s.dropTpl r).cutTx r).cutRx r
  let s2 := s1.setFr r { s1.fr r with wait := .none, halting := false, femOff := true, restart := restart }
  let s3 := (s2.toStandby r).femDrive r femOffMode s2.frnTick
  let s4 := ((s3.put (FRN_STAT_SEQ r) 3).put (FRN_SEQ_PC_FAULT_PC r) (s3.pc r)).bump (FRN_CNT_SEQ_ERR r)
  s4.raise e

/-- A program error (R73): AUTO_RST does not apply. -/
def State.progErr (s : State) (r : Fin 3) : State := s.seqFault r (FRN_EVT_PROG_ERR r) false

/-- The pair fetches the operation at its address (R71, R73): SECDED, then the opcode. -/
def State.seqFetch (s : State) (r : Fin 3) (e : Ecc) : State :=
  if s.seqSt r = 1 ∨ s.seqSt r = 2 then
    let s1 := if e = .single then s.bump (FRN_CNT_SEQ_ERR r) else s
    if e = .double ∨ decodeOp (s1.progWord r (s1.pc r)) = none then s1.progErr r else s1
  else s

/-- An operation is done: the pair goes on at an address and fetches there. -/
def State.seqGo (s : State) (r : Fin 3) (pc : Nat) (e : Ecc) : State :=
  ((s.setWait r .none).put (FRN_SEQ_PC_PC r) pc).seqFetch r e

/-- An operation is done: the next address follows. -/
def State.seqDone (s : State) (r : Fin 3) (e : Ecc) : State := s.seqGo r ((s.pc r + 1) % 4096) e

/-- A non-waiting operation counts toward the 8 of its tick; a ninth executes at the next tick (R73). -/
def State.countOp (s : State) (r : Fin 3) : State :=
  let f := s.fr r
  let t := s.frnTick
  if f.opsTick ≠ t then s.setFr r { f with ops := 1, opsTick := t }
  else if f.ops < 8 then s.setFr r { f with ops := f.ops + 1 }
  else
    let s1 := s.toFrnTick (t + 1)
    s1.setFr r { f with ops := 1, opsTick := s1.frnTick }

/-- The pair executes next, and the word at its address has come to hold a reserved opcode since it was fetched. -/
def State.badOp (s : State) (r : Fin 3) : Bool :=
  s.flag (FRN_CTL_EN r) && decide (s.seqSt r = 1 ∨ s.seqSt r = 2) && decide ((s.fr r).wait = .none) &&
    !(s.fr r).halting && s.frnGo && decide (decodeOp (s.progWord r (s.pc r)) = none)

/-- An operation that may wait: `f` sets the wait, or finishes the operation itself. A reserved opcode in its place is a program
error (R73). Only operations that do not wait count toward the 8 of a tick, not one that completes at once (DEDUCED, log entry 13). -/
def State.opWait (s : State) (r : Fin 3) (op : SeqOp) (f : State → State) : State :=
  if s.canExec r op then f s else if s.badOp r then s.progErr r else s

/-- A non-waiting operation. -/
def State.opNow (s : State) (r : Fin 3) (op : SeqOp) (e : Ecc) (f : State → State) : State :=
  s.opWait r op (fun s => (f (s.countOp r)).seqDone r e)

/-- The pair starts at an entry (R73); the OFF pattern of a fault ends (R67). A PPDU still on the air goes on without it. -/
def State.seqStart (s0 : State) (r : Fin 3) (seq pc : Nat) (e : Ecc) : State :=
  let s := s0.dropHeldTpl r
  let f := s.fr r
  let s1 := s.setFr r { f with wait := .none, starting := false, restart := false, halting := false, femOff := false,
                               ppdu := f.ppdu.map (fun (p : TxPpdu) => { p with loose := true }) }
  let s2 := if f.femOff then s1.femDrive r (s1.femMode r) s1.frnTick else s1
  ((s2.put (FRN_STAT_SEQ r) seq).put (FRN_SEQ_PC_PC r) pc).seqFetch r e

/-- The pair finds an operation at an address (R71, R73). -/
def State.fetches (s : State) (r : Fin 3) (pc : Nat) (e : Ecc) : Bool :=
  decide (e ≠ .double) && (decodeOp (s.progWord r pc)).isSome

/-- The halt of R433 is complete: SEQ reads IDLE and the radio is in STANDBY. -/
def State.haltDone (s : State) (r : Fin 3) : State :=
  let s1 := s.setFr r { s.fr r with wait := .none, halting := false, rxEnd := none, starting := false, restart := false }
  (s1.put (FRN_STAT_SEQ r) 0).toStandby r

/-- The halt of R433: an operation that waits stops waiting; a PPDU in progress, with its response, completes first. -/
def State.seqHalt (s : State) (r : Fin 3) : State :=
  match (s.fr r).ppdu with
  | some p =>
    let answer := (s.fr r).answers p
    if p.start ≤ s.frnTick ∨ answer then
      let s1 := if p.loose && !answer then (s.dropTpl r).setWait r .none else s
      s1.setFr r { s1.fr r with halting := true, starting := false, restart := false }
    else ((s.dropTpl r).cutTx r).haltDone r
  | none =>
    match (s.fr r).rxEnd with
    | some e => (s.toFrnTick e).haltDone r
    | none => (s.dropTpl r).haltDone r

/-! ### Enable, disable, run -/

/-- FRN_ENABLE: EN powers the radio to SLEEP; with RUN set its pair starts at the next turn start (R73). A radio with
neither role ignores it (R292). -/
def State.frnEnable (s : State) (r : Fin 3) : State :=
  if s.flag (FRN_CTL_EN r) || !(s.rflag r 0 || s.rflag r 1) then s
  else
    let s1 := (s.put (FRN_CTL_EN r) 1).setFr r { s.fr r with starting := s.flag (FRN_CTL_RUN r) }
    (s1.toRadio r 1).frnShow r

/-- FRN_DISABLE: the radio goes to OFF at once and the calibration stores are cleared (R59, R63). -/
def State.frnDisable (s : State) (r : Fin 3) : State :=
  let s1 := (((s.put (FRN_CTL_EN r) 0).dropTpl r).cutTx r).cutRx r
  let f := s1.fr r
  let s2 := s1.setFr r { f with wait := .none, starting := false, restart := false, halting := false,
                                femOff := false, idle := false, syn0 := {}, syn1 := {} }
  (((((s2.unprepare r false).unprepare r true).put (FRN_STAT_SEQ r) 0).toRadio r 0).frnShow r)

/-- FRN_RUN_SET: the pair starts at the next turn start. -/
def State.runSet (s : State) (r : Fin 3) : State :=
  if s.flag (FRN_CTL_RUN r) then s
  else (s.put (FRN_CTL_RUN r) 1).setFr r { s.fr r with starting := true }

/-- FRN_RUN_CLEAR: the halt of R433. -/
def State.runClear (s : State) (r : Fin 3) : State :=
  if s.flag (FRN_CTL_RUN r) then (s.put (FRN_CTL_RUN r) 0).seqHalt r else s

/-- A write of FRNn_CTL. -/
def State.frnCtlWrite (s : State) (r : Fin 3) (v : Word) : State :=
  let s1 := s.putB (FRN_CTL_AUTO_RST r) (v.getLsbD 2)
  let s2 := if v.getLsbD 0 then s1.frnEnable r else if s1.flag (FRN_CTL_EN r) then s1.frnDisable r else s1
  if v.getLsbD 1 then s2.runSet r else s2.runClear r

/-- The word of FRNn_CTL with one bit forced and the others as given. -/
def ctlWord (en run auto : Bool) : Word :=
  (if en then 1 else 0) + (if run then 2 else 0) + (if auto then 4 else 0)

/-! ### Angles of operations (R74) -/

/-- The tick that an angle names: the first at or after now that carries it, less than half a turn ahead. -/
def State.resolve (s : State) (ang : Nat) : Option Nat :=
  let now := s.frnTick
  let d := (ang + turnTicks - now % turnTicks) % turnTicks
  if d < 0x800000 then some (now + d) else none

/-- A forward step has removed a tick. -/
def State.stepped (s : State) (t : Nat) : Bool := s.spn.frond.removed.any (fun e => decide (e.1 ≤ t ∧ t < e.2))

/-- The event of an angle taken as passed: SKIPPED if a forward step removed the most recent tick that would have carried it,
else OVERRUN. -/
def State.passed (s : State) (r : Fin 3) (ang : Nat) : State :=
  let now := s.frnTick
  let back := (now + turnTicks - ang % turnTicks) % turnTicks
  if back ≤ now ∧ s.stepped (now - back) = true then s.raise (FRN_EVT_SKIPPED r) else s.raise (FRN_EVT_OVERRUN r)

/-- SKIPPED, where a forward step has removed the tick that a wait was to end at. -/
def State.skipped (s : State) (r : Fin 3) (t : Nat) : State := s.raiseIf (s.stepped t) (FRN_EVT_SKIPPED r)

/-- Wait until a tick. -/
def State.waitTick (s : State) (r : Fin 3) (ang : Nat) (e : Ecc) : State :=
  match s.resolve ang with
  | some t => if t = s.frnTick then s.seqDone r e else s.setWait r (.until_ t)
  | none => (s.passed r ang).seqDone r e

/-! ### Operations that do not transmit or receive -/

/-- HALT: the pair halts without a fault; radio to STANDBY. -/
def State.opHalt (s : State) (r : Fin 3) : State :=
  s.opWait r .halt (fun s => (s.put (FRN_STAT_SEQ r) 3).toStandby r)

def execHalt (r : Fin 3) (s : State) : Out State := .next (s.opHalt r)

/-- SYNC: until the next turn start. -/
def execSync (r : Fin 3) (s : State) : Out State :=
  .next (s.opWait r .sync (fun s => s.setWait r (.until_ ((s.frnTurnNo + 1) * turnTicks))))

def execWaitAt (r : Fin 3) (ang : BitVec 24) (ecc : Ecc) (s : State) : Out State :=
  .next (s.opWait r (.waitAt ang.toNat) (fun s => s.waitTick r ang.toNat ecc))

def execWaitRel (r : Fin 3) (ticks : BitVec 24) (ecc : Ecc) (s : State) : Out State :=
  .next (s.opWait r (.waitRel ticks.toNat) (fun s =>
    if ticks = 0 then s.seqDone r ecc else s.setWait r (.until_ (s.frnTick + ticks.toNat))))

/-- The radio sleeps: both synthesisers are off, their stores are kept, and SY0 is the idle one at the next WAKE (DESIGN
CHOICE, log entry 6). -/
def State.opSleep (s : State) (r : Fin 3) : State :=
  if s.frnSt r = 1 then s
  else
    let s1 := (s.unprepare r false).unprepare r true
    ((s1.setFr r { s1.fr r with idle := false }).toRadio r 1).frnShow r

def execSleep (r : Fin 3) (ecc : Ecc) (s : State) : Out State := .next (s.opNow r .sleep ecc (fun s => s.opSleep r))

/-- WAKE. -/
def State.opWake (s : State) (r : Fin 3) (ang : Nat) (e : Ecc) : State :=
  if s.frnSt r ≠ 1 then s.waitTick r ang e
  else
    let now := s.frnTick
    match s.resolve ang with
    | some t =>
      if now + 0x280 ≤ t then s.setWait r (.wake (t - 0x280) t)
      else (s.raise (FRN_EVT_OVERRUN r)).setWait r (.wake now (now + 0x280))
    | none => (s.passed r ang).setWait r (.wake now (now + 0x280))

def execWake (r : Fin 3) (ready : BitVec 24) (ecc : Ecc) (s : State) : Out State :=
  .next (s.opWait r (.wake ready.toNat) (fun s => s.opWake r ready.toNat ecc))

/-- The budgets of a full calibration and of a relock, in ticks (R60). -/
def calTicks : Nat := 0x300
def relockTicks : Nat := 0xC0

/-- Begin to relock or calibrate a synthesiser on the channel it is to hold. -/
def State.calStart (s : State) (r : Fin 3) (k full : Bool) : State :=
  let y := { s.syn r k with fails := 0, full := full, doneAt := s.frnTick + (if full then calTicks else relockTicks) }
  (((s.put (synLocked r k) 0).put (synCalib r k) 1).put (synFailed r k) 0).setSyn r k y

/-- The store of a synthesiser holds a valid entry for an index. -/
def State.stored (s : State) (r : Fin 3) (k : Bool) (idx : Nat) : Bool :=
  (s.syn r k).store.any (fun c => c.idx == idx && s.calValid r c)

/-- PREP (R61); with no channel plan the missing table is recorded (R4). -/
def State.opPrep (s : State) (r : Fin 3) (idx : Nat) (recal : Bool) : State :=
  if s.frnSt r ≤ 1 then s.raise (FRN_EVT_CH_INVALID r)
  else
    let k := s.idleSyn r
    if !s.chValid r idx then (((s.planMissing r).unprepare r k).raise (FRN_EVT_CH_INVALID r)).frnShow r
    else if s.get (synCh r k) = idx ∧ (s.flag (synLocked r k) || s.flag (synCalib r k)) then s
    else
      let s1 := (s.put (synCh r k) idx).calStart r k (recal || !s.stored r k idx)
      (s1.setSyn r k { s1.syn r k with khz := s.chKhz r idx, bw := s.chBw r idx, group := s.chGroup r idx }).frnShow r

def execPrep (r : Fin 3) (idx : BitVec 8) (recal : Bool) (ecc : Ecc) (s : State) : Out State :=
  .next (s.opNow r (.prep idx.toNat recal) ecc (fun s => s.opPrep r idx.toNat recal))

/-- HOP finds no prepared synthesiser: the active one is released (R62). -/
def State.hopFail (s : State) (r : Fin 3) (ev : Fld) (e : Ecc) : State := ((s.toStandby r).raise ev).seqDone r e

/-- HOP executes (R62). -/
def State.opHop (s : State) (r : Fin 3) (e : Ecc) : State :=
  if s.frnSt r ≤ 1 then (s.raise (FRN_EVT_CH_INVALID r)).seqDone r e
  else
    let k := s.idleSyn r
    if s.flag (synFailed r k) then s.hopFail r (FRN_EVT_CAL_FAIL r) e
    else if s.get (synCh r k) = 0xFF then (s.planMissing r).hopFail r (FRN_EVT_CH_INVALID r) e
    else if s.flag (synLocked r k) then s.setWait r (.hopDone (s.frnTick + 0x20))
    else s.setWait r .hopLock

def execHop (r : Fin 3) (ecc : Ecc) (s : State) : Out State := .next (s.opWait r .hop (fun s => s.opHop r ecc))

/-- The exchange of the two synthesisers is done: the radio is in SYNTH on the new channel. -/
def State.hopDone (s : State) (r : Fin 3) : State :=
  let k := s.idleSyn r
  ((((s.put (synActive r (!k)) 0).put (synActive r k) 1).toRadio r 3).frnShow r)

/-- The die temperature has moved: the active channel's entry may leave its window (R63). -/
def State.dieMoved (s : State) (r : Fin 3) (temp : BitVec 12) : State :=
  let s1 := s.setFr r { s.fr r with die := temp.toInt }
  match s1.activeSyn r with
  | some k =>
    let idx := s1.get (synCh r k)
    let y := s1.syn r k
    if y.store.any (fun c => c.idx == idx && !c.stale && !s1.calValid r c) then
      let st := y.store.map (fun c => if c.idx = idx then { c with stale := true } else c)
      ((s1.setSyn r k { y with store := st }).raise (FRN_EVT_TEMP_DRIFT r)).frnShow r
    else s1.frnShow r
  | none => s1.frnShow r

/-- FRNn_TEMP takes the die temperature. -/
def State.tempRead (s : State) (r : Fin 3) (temp : BitVec 12) : State := (s.dieMoved r temp).put (FRN_TEMP_TEMP r) temp.toNat

/-- `n` free values. -/
def State.draws (s : State) : Nat → State × List Nat
  | 0 => (s, [])
  | n + 1 =>
    let (s1, l) := s.drawn.draws n
    (s1, s.draw :: l)

/-- A loopback calibration renews the active entry's corrections of one sort in every chain: 0 DC, 1 I/Q, 2 LO leakage. The
spec states no value (log entry 4). -/
def State.retrim (s : State) (r : Fin 3) (sort : Nat) : State :=
  match s.activeSyn r with
  | some k =>
    let idx := s.get (synCh r k)
    let y := s.syn r k
    let (s1, v) := s.draws 4
    let at_ := fun (c : Cal) => (List.range 4).foldl (fun (l : List Nat) y => l.set (1 + 3 * y + sort) (v.getD y 0)) c.vals
    s1.setSyn r k { y with store := y.store.map (fun c => if c.idx = idx then { c with vals := at_ c } else c) }
  | none => s

/-- What a BGCAL of a kind renews. -/
def State.bgDone (s : State) (r : Fin 3) (kind : Nat) : State :=
  if kind = 0 then s.retrim r 0 else if kind = 1 then s.retrim r 1 else (s.retrim r 1).retrim r 2

/-- BGCAL (R66); `temp` is the die temperature that KIND 4 reads. -/
def State.opBgcal (s : State) (r : Fin 3) (kind ang : Nat) (temp : BitVec 12) (e : Ecc) : State :=
  if 5 ≤ kind then s.progErr r
  else
    let now := s.frnTick
    let dur := [0x40, 0x140, 0x200, 0x300, 0x10].getD kind 0
    let skip := fun (s : State) => ((s.bump (FRN_CNT_BGSKIP r)).countOp r).seqDone r e
    match s.resolve ang with
    | none => skip (s.passed r ang)
    | some lim =>
      if lim ≤ now + dur then skip s
      else if kind ≤ 2 then (if s.frnSt r = 3 then (s.bgDone r kind).setWait r (.until_ (now + dur)) else skip s)
      else if kind = 3 then
        (if s.prepared r (s.idleSyn r) then (((s.calStart r (s.idleSyn r) true).frnShow r).countOp r).seqDone r e else skip s)
      else ((s.tempRead r temp).countOp r).seqDone r e

def execBgcal (r : Fin 3) (kind : BitVec 3) (limit : BitVec 24) (temp : BitVec 12) (ecc : Ecc) (s : State) : Out State :=
  .next (s.opWait r (.bgcal kind.toNat limit.toNat) (fun s => s.opBgcal r kind.toNat limit.toNat temp ecc))

/-- EVENT: the code and the current tick go to the access scheduler. -/
def State.opEvent (s : State) (r : Fin 3) (code : Nat) : State :=
  ({ s with seqEvs := s.seqEvs ++ [(r, code, packTick s.frnTick)] }).emit (.seqEvent r code (packTick s.frnTick))

/-- JUMP: the pair continues at TARGET. -/
def State.opJump (s : State) (r : Fin 3) (target : Nat) (e : Ecc) : State :=
  s.opWait r (.jump target) (fun s => (s.countOp r).seqGo r target e)

def execJump (r : Fin 3) (target : BitVec 12) (ecc : Ecc) (s : State) : Out State := .next (s.opJump r target.toNat ecc)

/-- JCYC: jumps if turn mod LEN = POS; `len` is LEN − 1. -/
def State.opJcyc (s : State) (r : Fin 3) (target len pos : Nat) (e : Ecc) : State :=
  s.opWait r (.jcyc target len pos) (fun s =>
    if s.frnTurnNo % (len + 1) = pos then (s.countOp r).seqGo r target e else (s.countOp r).seqDone r e)

def execJcyc (r : Fin 3) (target : BitVec 12) (len pos : BitVec 8) (ecc : Ecc) (s : State) : Out State :=
  .next (s.opJcyc r target.toNat len.toNat pos.toNat ecc)

/-! ### Transmission (R64, R77, R78, R79) -/

/-- A transmit operation is over: the radio is in SYNTH again, or back in the window that a Trigger frame was answered from. A
PPDU that no operation waits for ends none. -/
def State.txDone (s : State) (r : Fin 3) (e : Ecc) : State :=
  match (s.fr r).wait with
  | .txq _ _ _ _ _ => if (s.fr r).halting then (s.toRadio r 3).haltDone r
    else (if s.frnSt r = 5 ∨ s.frnSt r = 4 then s.toRadio r 3 else s).seqDone r e
  | .tpl _ => if (s.fr r).halting then (s.toRadio r 3).haltDone r
    else (if s.frnSt r = 5 ∨ s.frnSt r = 4 then s.toRadio r 3 else s).seqDone r e
  | .rx _ _ _ _ => if (s.fr r).halting then s.haltDone r else s.put (FRN_STAT_STATE r) 4
  | _ => if (s.fr r).halting then s.haltDone r else if s.frnSt r = 5 ∨ s.frnSt r = 4 then s.toRadio r 3 else s

/-- What the waiting operation has at its head returns with a status, and the operation ends. -/
def State.txFail (s : State) (r : Fin 3) (st : TxStatus) (e : Ecc) : State :=
  let s0 := if st = .late then (s.bump (FRN_CNT_LATE r)).raise (FRN_EVT_LATE r) else s
  match (s.fr r).wait with
  | .txq _ _ _ q _ =>
    (match s0.mayTake r q with
     | (f :: t, u) => ((s0.setQueue r q (t ++ u)).frnReturn r (.frame f) st none).txDone r e
     | ([], _) => s0.txDone r e)
  | .tpl t => (s0.frnReturn r (.tpl t.num) st none).txDone r e
  | _ => s0.txDone r e

/-- A PPDU is placed: its pattern leads it and is held after it, and it is announced (R69, R78). -/
def State.txBegin (s : State) (r : Fin 3) (start dur chains : Nat) (units : List TxUnit) (q : Nat) : State :=
  let p : TxPpdu := { start := start, end_ := start + dur, units := units, chains := chains, queue := q }
  let s1 := s.setFr r { s.fr r with ppdu := some p }
  ((s1.put (FRN_STAT_STATE r) 5).femTxSpan r start (start + dur) chains false).announce r p

/-- The SYNTH → TX budget, or RX → TX where the operation executes at the tick that closed a receive window (R60; the
latter is R107's example, DEDUCED, log entry 13). -/
def State.txBudget (s : State) (r : Fin 3) : Nat := if (s.fr r).rxLeft = some s.frnTick then 0x34 else 0x80

/-- A PPDU may be sent on the channel in use (R87 to R89, R93, R94). -/
def State.phyOk (s : State) (r : Fin 3) (p : Phy) (longest : Nat) : Bool :=
  match s.activeSyn r with
  | some k =>
    let y := s.syn r k
    phySent y.khz y.bw y.group p && (decide (longest ≤ maxMpdu p.fmt) || p.fmt == .wur)
  | none => false

/-- A queued frame's format, length and parameters suit the channel in use; queued frames go out neither in WUR PPDUs nor as duplicates
(R87 to R89, R91 to R94). -/
def State.frameSends (s : State) (r : Fin 3) (f : TxFrame) : Bool :=
  s.phyOk r f.air.phy f.len && f.air.phy.fmt != .wur && !f.air.phy.dup

/-- The frames of a queue that its head's PPDU takes, and the rest: the head alone where its own mode does not fit. -/
def State.txGroup (s : State) (r : Fin 3) (f : TxFrame) (t : List TxFrame) : List TxFrame × List TxFrame :=
  joinRest (fun g => s.frameSends r g) (s.rflag r 0) [f] t

/-- The head of a queue may go out as the baseband would send it (R87 to R90, R94; otherwise NOCHAN, DEDUCED, log entry 41). -/
def State.headSends (s : State) (r : Fin 3) (f : TxFrame) : Bool := s.frameSends r f && modeFits (s.rflag r 0) [f]

/-- The waiting operation has a template or a head frame that may be sent on the channel in use. -/
def State.unitSends (s : State) (r : Fin 3) : Bool :=
  match (s.fr r).wait with
  | .txq _ _ _ q _ => (s.mayTake r q).1.head?.all (fun f => s.headSends r f)
  | .tpl t => s.phyOk r t.phy (t.bytes.length + 4) && (t.phy.fmt != .wur || wurSent t.bytes)
  | _ => true

/-- The deadline of the waiting operation. -/
def FrnState.txDl (f : FrnState) : Nat :=
  match f.wait with
  | .txq d _ _ _ _ => d
  | .tpl t => t.dl
  | _ => 0

/-- The first PPDU of the waiting transmit operation begins, is held, or ends LATE or NOCHAN (R64). -/
def State.txTry (s : State) (r : Fin 3) (e : Ecc) : State :=
  if s.frnSt r < 3 ∨ s.activeSyn r = none ∨ !s.txOk r then (s.planMissing r).txFail r .nochan e
  else if !s.unitSends r then s.txFail r .nochan e
  else if (s.fr r).ppdu.isSome then s
  else
    let start := s.frnTick + s.txBudget r
    if (s.fr r).txDl ≤ start then (s.skipped r (s.fr r).txDl).txFail r .late e
    else if s.flag (FRN_STAT_ACT_LOCK r) then
      match (s.fr r).wait with
      | .txq d en ch q _ =>
        match s.mayTake r q with
        | (f :: t, u) =>
          let g := s.txGroup r f t
          ((s.setQueue r q (g.2 ++ u)).setWait r (.txq d en ch q false)).txBegin r start f.air.dur.toNat ch (unitsOf g.1) q
        | ([], _) => s.txDone r e
      | .tpl t => s.txBegin r start t.dur t.chains [.tpl t.num] 0
      | _ => s
    else s

/-- A deadline taken as passed is one that no PPDU can begin before. -/
def State.deadline (s : State) (r : Fin 3) (ang : Nat) : State × Nat :=
  match s.resolve ang with
  | some t => (s, t)
  | none => (s.passed r ang, 0)

/-- TXQ executes (R77). -/
def State.opTxq (s : State) (r : Fin 3) (dl end_ chains q : Nat) (e : Ecc) : State :=
  if (s.mayTake r q).1 = [] then s.seqDone r e
  else
    let (s1, d) := s.deadline r dl
    let (s2, en) := s1.deadline r end_
    (s2.setWait r (.txq d en chains q true)).txTry r e

/-- The next PPDU of the burst may begin at or after `base` (R77). -/
def State.txNext (s : State) (r : Fin 3) (base : Nat) (spaced : Bool) (e : Ecc) : State :=
  match (s.fr r).wait, (s.fr r).halting with
  | .txq _ en ch q _, false =>
    match s.mayTake r q with
    | (f :: t, u) =>
      let start := if spaced then base + f.air.sifs.toNat else base
      let done := start + f.air.dur.toNat + (if f.air.resp = 0 then 0 else f.air.sifs.toNat + f.air.resp.toNat)
      if done ≤ en then
        (if s.txOk r && s.headSends r f then
           let g := s.txGroup r f t
           (s.setQueue r q (g.2 ++ u)).txBegin r start f.air.dur.toNat ch (unitsOf g.1) q
         else s.txFail r .nochan e)
      else s.txDone r e
    | ([], _) => s.txDone r e
  | _, _ => s.txDone r e

/-- A PPDU and the period of its response are over at `t`: what follows in its operation; what a loose PPDU has held back begins
then. -/
def State.ppduOver (s : State) (r : Fin 3) (p : TxPpdu) (t : Nat) (spaced : Bool) (e : Ecc) : State :=
  let s1 := s.setFr r { s.fr r with ppdu := none }
  if p.loose then
    (if (s1.fr r).halting then s1.haltDone r else match (s1.fr r).wait with
     | .txq _ _ _ _ true => s1.txTry r e
     | .tpl _ => s1.txTry r e
     | _ => s1.txDone r e)
  else s1.txNext r t spaced e

/-- The facts of a PPDU's head frame; none for a template. -/
def TxPpdu.air (p : TxPpdu) : Option AirTime := (p.units.filterMap TxUnit.frame?).head?.map (·.air)

/-- PPDU_TX_END: the PPDU ends; an expected response is awaited, or what it carries returns OK. One that TX_OK has barred ends
where it would have begun, NOCHAN (R58, R64; DEDUCED, log entry 13). -/
def State.ppduTxEnd (s : State) (r : Fin 3) (e : Ecc) : State :=
  match (s.fr r).ppdu with
  | some p =>
    if p.barred then
      let s1 := (s.toFrnTick p.start).setFr r { s.fr r with ppdu := none, lagTo := 0 }
      (p.units.foldl (fun (s : State) u => s.frnReturn r u .nochan none) s1).txDone r e
    else if p.await = none then
      let s1 := s.toFrnTick p.end_
      match p.air with
      | some a =>
        if a.resp = 0 then (s1.ppduReturn r p .ok).ppduOver r p p.end_ true e
        else
          let s2 := s1.setFr r { s1.fr r with ppdu := some { p with await := some (p.end_ + a.tmo.toNat) } }
          (s2.put (FRN_STAT_STATE r) 4).femDrive r femRx (p.end_ + txToRx - s2.rxLead r)
      | none => (s1.ppduReturn r p .ok).ppduOver r p p.end_ true e
    else s
  | none => s

/-- RESPONSE_RECEIVED: the expected response has been received: the radio was not taking in another PPDU at its reference point (R76).
The frames that it acknowledges return OK; those that `lost` names by their place in the PPDU do not, and return NOACK (DEDUCED,
log entry 41). -/
def State.responseRx (s : State) (r : Fin 3) (lost : List Nat) (e : Ecc) : State :=
  match (s.fr r).ppdu with
  | some p =>
    (match p.await, p.air with
     | some _, some a =>
       let t := p.end_ + a.sifs.toNat + a.resp.toNat
       let st := some (s.txStamp r p.start p.chains)
       let s1 := (p.units.filter TxUnit.owes).zipIdx.foldl
         (fun (s : State) u => s.frnReturn r u.1 (if lost.contains u.2 then .noack else .ok) st) (s.toFrnTick t)
       if (s.fr r).deaf ≤ p.end_ + a.sifs.toNat then s1.ppduOver r p t true e else s
     | _, _ => s)
  | none => s

/-- RESPONSE_TIMEOUT: the response timeout ends without the response; NOACK. -/
def State.responseTmo (s : State) (r : Fin 3) (e : Ecc) : State :=
  match (s.fr r).ppdu with
  | some p =>
    (match p.await with
     | some t => ((s.toFrnTick t).ppduReturn r p .noack).ppduOver r p t false e
     | none => s)
  | none => s

def tplAddr (r : Nat) : Nat := frnBase r + 0x60000

/-- The parameters of a transmit profile (R293). -/
def State.txPhy (s : State) (r prof : Nat) : Phy :=
  let f := s.txProfile r prof 0
  let fl := s.txProfile r prof 5
  { fmt := [Fmt.dsss, .nonHt, .ht, .vht, .he, .eht, .s1g, .wur].getD f .wur, bw := BitVec.ofNat 4 (s.txProfile r prof 3),
    rate := BitVec.ofNat 5 (s.txProfile r prof 1), nss := BitVec.ofNat 4 (s.txProfile r prof 2),
    gi := BitVec.ofNat 2 (s.txProfile r prof 4), ldpc := decide (fl % 2 = 1), dcm := decide (fl / 2 % 2 = 1), stbc := false, dup := false,
    short := decide (fl / 4 % 2 = 1) }

/-- The next number of a link's own counter for group-addressed frames, which Frond keeps: a turnover does not set it back (R134;
DEDUCED, log entry 28). -/
def State.nextGroupSn (s : State) (r : Fin 3) : State × Nat :=
  let f := s.fr r
  (s.setFr r { f with groupSn := (f.groupSn + 1) % 4096 }, f.groupSn)

/-- A copied template that is a group-addressed data or management MPDU takes the link's next number in its Sequence Control
field (R134; the field's place is IEEE 802.11's, PRESUMED, log entry 42). -/
def State.numberGroup (s : State) (r : Fin 3) (f : Fmt) (b : List Byte) : State × List Byte :=
  let typ := (b.getD 0 0).toNat / 4 % 4
  if f ≠ .wur ∧ 24 ≤ b.length ∧ (b.getD 4 0).toNat % 2 = 1 ∧ (typ = 0 ∨ typ = 2) then
    let (s1, n) := s.nextGroupSn r
    (s1, b.take 22 ++ leBytes 2 (16 * n) ++ b.drop 24)
  else (s, b)

/-- How many bytes stand built behind a beacon's template (R122); none for another template. -/
def State.tplTail (s : State) (r : Fin 3) (t : Nat) : Option Nat := SMap.get (fun _ => none) (s.fr r).tails t

/-- The address behind the LENGTH bytes of a template, and the room to the end of the template data. -/
def State.tplEnd (s : State) (r t : Nat) : Nat × Nat :=
  let d := tplAddr r + 8 * t
  let e := s.mem d 2 + s.mem (d + 2) 2
  (tplAddr r + 0x800 + e, 0xF800 - e)

/-- A beacon's built elements are appended behind its template's LENGTH bytes (R122). -/
def State.appendTpl (s : State) (r : Fin 3) (t : Nat) (b : List Byte) : State :=
  let (a, room) := s.tplEnd r t
  let f := s.fr r
  (s.setFr r { f with tails := SMap.set (fun _ => none) f.tails t (some (min room b.length)) }).memPut a (b.take room)

/-- How a template goes out: by its transmit profile (R293), a 2 MHz S1G beacon on a wider channel as a 2 MHz duplicate (R92). -/
def State.tplPhy (s : State) (r : Fin 3) (t prof : Nat) : Phy :=
  let phy := s.txPhy r prof
  let wide := (s.activeSyn r).any (fun k => decide (1 < (s.syn r k).bw))
  { phy with dup := (s.tplTail r t).isSome && decide (phy.fmt = .s1g ∧ phy.bw = 1) && wide }

/-- TXTPL executes (R78, R293); `dur` is the airtime of the template's PPDU. What was built behind a beacon's template is sent
with it (R122). -/
def State.opTxtpl (s : State) (r : Fin 3) (t dl chains dur : Nat) (e : Ecc) : State :=
  let d := tplAddr r + 8 * t
  let ofs := s.mem d 2
  let len := s.mem (d + 2) 2
  let prof := s.mem (d + 4) 1
  if s.mem (d + 6) 1 % 2 = 0 ∨ 0xF800 < ofs + len ∨ s.txProfile r prof 6 % 2 = 0 then s.progErr r
  else
    let phy := s.tplPhy r t prof
    let (s0, data) := s.numberGroup r phy.fmt (s.memBytes (tplAddr r + 0x800 + ofs) (len + (s.tplTail r t).getD 0))
    let (s1, lim) := s0.deadline r dl
    let x : TplTx := { num := t, dl := lim, chains := chains, tsOfs := s.mem (d + 7) 1, dur := dur,
                       bytes := data, pwr := signed8 (s.mem (d + 5) 1), phy := phy }
    (s1.setWait r (.tpl x)).txTry r e

/-! ### Reception (R76, R84, R85, R87, R91, R95) -/

/-- RXWIN executes (R76, R293). -/
def State.opRxwin (s : State) (r : Fin 3) (end_ chains prof : Nat) (e : Ecc) : State :=
  if s.rxProfile r prof 4 % 2 = 0 then s.progErr r
  else
    match s.resolve end_ with
    | none => (s.passed r end_).seqDone r e
    | some t =>
      if t = s.frnTick then s.seqDone r e
      else if s.frnSt r < 3 then s.setWait r (.until_ t)
      else
        let from_ := s.frnTick + 0x60
        ((s.setWait r (.rx from_ t chains prof)).put (FRN_STAT_STATE r) 4).femDrive r femRx (from_ - s.rxLead r)

def execRxwin (r : Fin 3) (end_ : BitVec 24) (chains profile : BitVec 4) (ecc : Ecc) (s : State) : Out State :=
  .next (s.opWait r (.rxwin end_.toNat chains.toNat profile.toNat) (fun s => s.opRxwin r end_.toNat chains.toNat profile.toNat ecc))

/-- The earliest stamp of a PPDU and its chain, each less the chain's RX_NS; of equal stamps the lower chain's (R85). -/
def State.earliest (s : State) (r : Fin 3) (p : RxPpdu) : Option (BitVec 32 × Nat) :=
  let at_ := fun (y : Nat) (n : Option (BitVec 32)) =>
    n.map (fun v => (v - BitVec.ofNat 32 (s.get (FRN_CAP_DLY_RX_NS r y)), y))
  let all := [at_ 0 p.stampA, at_ 1 p.stampB, at_ 2 p.stampC, at_ 3 p.stampD].filterMap id
  all.foldl (fun m x => match m with
    | none => some x
    | some b => if 0 < (b.1 - x.1).toInt then some x else m) none

/-- The frame is over its format's limit (R95). -/
def oversize (f : Fmt) (m : AirFrame) : Bool :=
  decide (maxMpdu f < m.len.toNat) || (decide (m.ends ≠ 0) && decide (maxAmpdu f < m.ends.toNat))

/-- Discard the oversize frames of a PPDU, counting each. -/
def State.sift (s : State) (f : Fmt) : List AirFrame → State × List AirFrame
  | [] => (s, [])
  | m :: t =>
    if oversize f m then (s.bump ACC_CNT_RX_OVERSIZE).sift f t
    else
      let (s1, l) := s.sift f t
      (s1, if m.fcsOk then m :: l else l)

/-- An MPDU crosses the Frond link into a buffer of AIR_RX; without one it is lost (R245). -/
def State.airIn (s : State) (x : RxItem) : State :=
  match s.alloc ownAirRx x.frame.len.toNat x.frame.body with
  | (s1, some id) => { s1 with rxq := s1.rxq ++ [{ x with chain := id }] }
  | (s1, none) => s1

def State.airInAll (s : State) : List RxItem → State
  | [] => s
  | x :: t => (s.airIn x).airInAll t

/-- MPDUs that a link which is down does not carry are lost, and counted (R17; log entry 41). -/
def State.linkLost (s : State) (r : Fin 3) (n : Nat) : State :=
  { s with chk := { s.chk with rxLost := s.chk.rxLost.set r (s.chk.rxLost[r] + n) } }

/-- The tick up to which the radio's window listens; none without one. -/
def FrnState.window (f : FrnState) : Option (Nat × Nat) :=
  match f.wait with
  | .rx a b _ _ => some (a, b)
  | _ => none

/-- The radio listens at a tick: in a receive window, or while it awaits a response, once it is back from what it last sent or
took in (R60, R76). -/
def State.listens (s : State) (r : Fin 3) (t : Nat) : Bool :=
  let f := s.fr r
  decide (f.deaf ≤ t) &&
  (f.ppdu.any (fun p => p.await.any (fun e => decide (p.end_ + txToRx ≤ t ∧ t < e))) ||
   (f.ppdu.isNone && f.window.any (fun w => decide (w.1 ≤ t ∧ t < w.2))))

/-- The receive profile in force decodes a format (R293). -/
def State.decodes (s : State) (r : Fin 3) (f : Fmt) : Bool :=
  match (s.fr r).wait with
  | .rx _ _ _ p => decide ((s.rxProfile r p 0 + 256 * s.rxProfile r p 1) / 2 ^ f.code % 2 = 1)
  | _ => true

/-- The level of a PPDU reaches the packet detection threshold of the receive profile in force (R293). -/
def State.detects (s : State) (r : Fin 3) (p : RxPpdu) : Bool :=
  match (s.fr r).wait with
  | .rx _ _ _ q => decide (signed8 (s.rxProfile r q 2) ≤ p.rssi.toInt)
  | _ => true

/-- It exceeds the profile's bypass threshold (R67, R293). -/
def State.bypasses (s : State) (r : Fin 3) (p : RxPpdu) : Bool :=
  match (s.fr r).wait with
  | .rx _ _ _ q => decide (signed8 (s.rxProfile r q 3) < p.rssi.toInt)
  | _ => false

/-- A frame that the baseband answers itself and that goes no further. -/
def toBaseband (m : AirFrame) : Bool := decide (m.kind = .trigger ∨ m.kind = .sounding)

/-- An immediate response of a kind is placed from `a` to `b`, on the chains that received. With TX_OK clear it is not sent, unless it
is set again before its start (R58). -/
def State.placeRsp (s : State) (r : Fin 3) (a b : Nat) (phy : Phy) (w : RspKind) : State :=
  let f := s.fr r
  let x : Rsp := { from_ := a, to_ := b, chains := f.wait.chains, phy := phy, what := w, barred := !s.txOk r }
  let s1 := s.setFr r { f with rsp := some x, deaf := b + txToRx }
  if x.barred then s1
  else (s1.femTxSpan r a b x.chains (f.window.any (fun w => decide (b + txToRx < w.2)))).sendRsp r x

/-- What the station role answers a Trigger frame with: the head of queue 15, where the response may carry it (R90). -/
def State.answerTrigger (s : State) (r : Fin 3) (a b : Nat) (phy : Phy) : State :=
  match s.mayTake r 15 with
  | (g :: t, u) =>
    if s.phyOk r phy g.len then
      let s1 := s.setQueue r 15 (t ++ u)
      let p : TxPpdu := { start := a, end_ := b, units := [.frame g], chains := (s.fr r).wait.chains, loose := true, queue := 15,
                          barred := !s.txOk r }
      (s1.setFr r { s1.fr r with ppdu := some p }).placeRsp r a b phy (.tb [g.fid])
    else s.placeRsp r a b phy (.tb [])
  | ([], _) => s.placeRsp r a b phy (.tb [])

/-- A number comes on a member: it enters the scoreboard, whose window it moves where it lies ahead (R141; the scoreboard's own rule
is IEEE 802.11's, PRESUMED, log entry 42). -/
def Board.take (b : Board) (sn : Nat) : Board :=
  let k := (sn + 4096 - b.start) % 4096
  if k < b.size then { b with got := sn :: b.got.filter (· != sn) }
  else if k < 2048 then
    let st := (sn + 4097 - b.size) % 4096
    { b with start := st, got := sn :: b.got.filter (fun n => decide ((n + 4096 - st) % 4096 < b.size)) }
  else b

/-- A Block Ack Request moves a scoreboard's window. -/
def Board.moveTo (b : Board) (ssn : Nat) : Board :=
  let k := (ssn + 4096 - b.start) % 4096
  if 1 ≤ k ∧ k < 2048 then
    { b with start := ssn, got := b.got.filter (fun n => decide ((n + 4096 - ssn) % 4096 < b.size)) }
  else b

/-- The frame is one that a scoreboard takes. -/
def Board.of (b : Board) (m : AirFrame) : Bool := m.kind == .qos && m.ta == b.ta && decide (m.tid.toNat = b.tid)

/-- The frames of a PPDU enter the member's scoreboards. -/
def State.scored (s : State) (r : Fin 3) (ms : List AirFrame) : State :=
  s.setFr r { s.fr r with boards := (s.fr r).boards.map (fun b => (ms.filter b.of).foldl (fun (b : Board) m => b.take m.sn.toNat) b) }

/-- What a response acknowledges: frames without an agreement by themselves, the others as their scoreboard's window shows (R136). -/
def State.acked (s : State) (r : Fin 3) (ms : List AirFrame) : List (BitVec 48 × BitVec 12) :=
  let bs := (s.fr r).boards
  ((ms.filter (fun m => !toBaseband m && bs.all (fun b => !b.of m))).map (fun m => (m.ta, m.sn))) ++
    (bs.filter (fun b => ms.any b.of)).flatMap (fun b => b.got.map (fun n => (b.ta, BitVec.ofNat 12 n)))

/-- The immediate response of a PPDU, from `a` to `b` (R59): acknowledgements; in station role the answer to a Trigger frame, or a
beamforming report (R90). One that the channel's row does not allow is not sent (R87, R88). -/
def State.respond (s : State) (r : Fin 3) (a b : Nat) (p : RxPpdu) (ms : List AirFrame) : State :=
  match s.activeSyn r with
  | none => s
  | some k =>
    let y := s.syn r k
    let sent := phySent y.khz y.bw y.group p.rsp
    if s.rflag r 1 && ms.any (fun m => m.kind == .trigger) then
      (if sent && decide (p.rsp.fmt = .he ∨ p.rsp.fmt = .eht) then s.answerTrigger r a b p.rsp else s)
    else if s.rflag r 1 && ms.any (fun m => m.kind == .sounding) then
      (if sent && decide (p.rsp.fmt = .vht ∨ p.rsp.fmt = .he ∨ p.rsp.fmt = .eht) then s.placeRsp r a b p.rsp .report else s)
    else if ctlSent y.khz y.bw y.group p.rsp then
      s.placeRsp r a b p.rsp (.ack (p.rsp.fmt == .s1g) (s.acked r ms))
    else s

/-- A PPDU received: measured, sifted, acknowledged, and sent to the core die or kept in the coast buffer. -/
def State.takePpdu (s : State) (r : Fin 3) (p : RxPpdu) (k : Bool) (n : BitVec 32) (c : Nat) (tick : Option Nat) (t : Nat) :
    State :=
  let s1 := if tick = none ∧ s.upd.ho = none then s.stampBad else s
  let (s0, ms) := s1.sift p.phy.fmt p.frames
  let s2 := s0.scored r ms
  let up := ms.filter (fun m => !toBaseband m)
  let items := up.map (fun m => ({ radio := r, frame := m, fmt := p.phy.fmt, chan := s.get (synCh r k), tick := tick,
                                   narrow := n, tag := p.tag, chainNo := c, rssi := p.rssi } : RxItem))
  let bytes := (up.map (fun m => m.len.toNat)).sum
  let stop := t + p.dur.toNat
  let taken := fun (s : State) (resp : Nat) => s.setFr r { s.fr r with rxEnd := some (stop + resp), deaf := stop + resp, rsp := none }
  let ack := fun (s : State) =>
    if p.resp = 0 ∨ ms = [] then taken s 0
    else (taken s p.resp.toNat).respond r (stop + p.sifs.toNat) (stop + p.resp.toNat) p ms
  if s.get UPD_STAT_TOV = 2 ∨ (s.seqSt r = 2 ∧ s.flag SYS_DIE_STAT_FRN_UP = false) then
    let f := s2.fr r
    if 262144 < f.coastBytes + bytes then taken ((s2.bump (FRN_CNT_COAST_DROP r)).raise (FRN_EVT_COAST_DROP r)) 0
    else ack (s2.setFr r { f with coast := f.coast ++ items, coastBytes := f.coastBytes + bytes })
  else
    let s3 := ack s2
    if s3.flag SYS_DIE_STAT_FRN_UP then s3.airInAll items else s3.linkLost r items.length

/-- A PPDU that reaches the radio at a tick is received, with synthesiser `k` active: it is one that the baseband decodes. On the
6 GHz row a non-HT duplicate brings control responses alone (R87); several stations share a PPDU in HE and EHT in access-point
role (R90). -/
def State.hears (s : State) (r : Fin 3) (p : RxPpdu) (k : Bool) (t : Nat) : Bool :=
  let y := s.syn r k
  let ctl := !(decide (y.group = 2) && sixGhz y.khz y.bw && decide (p.phy.fmt = .nonHt)) || p.frames.all (fun m => m.kind == .ctrl)
  let one := decide ((p.frames.map (·.ta)).eraseDups.length ≤ 1) || (s.rflag r 0 && decide (p.phy.fmt = .he ∨ p.phy.fmt = .eht))
  s.listens r t && s.flag (FRN_STAT_ACT_LOCK r) && s.decodes r p.phy.fmt && s.detects r p && !p.absent && phyHeard y.khz y.bw y.group p.phy &&
    ctl && one

/-- PPDU_RECEIVED: the instant is the PPDU's receive reference point. -/
def State.ppduRx (s : State) (r : Fin 3) (p : RxPpdu) : State :=
  match s.earliest r p, s.activeSyn r with
  | some (n, c), some k =>
    let tick := s.extendStamp n p.tag
    let s1 := match tick with
      | some t => s.toFrnTick t
      | none => s
    let t := tick.getD s.frnTick
    if s1.hears r p k t then
      (s1.femDrive r (if s1.bypasses r p then femRxByp else femRx) (t + p.stf.toNat)).takePpdu r p k n c tick t
    else s1
  | _, _ => s

/-! ### Synthesiser events -/

/-- The stored entry of an index becomes the most recently used; a full calibration makes a new one with the values `vals`
(R63). -/
def Synth.touch (y : Synth) (idx : Nat) (die : Int) (vals : List Nat) : Synth :=
  let old := y.store.filter (fun c => c.idx != idx)
  let c := if y.full then some ⟨idx, die, false, vals⟩ else y.store.find? (fun c => c.idx == idx)
  match c with
  | some c => { y with store := (c :: old).take 32 }
  | none => y

/-- A synthesiser has locked. A full calibration finds the settings and the four chains' corrections, which are free values. -/
def State.synLock (s : State) (r : Fin 3) (k : Bool) (e : Ecc) : State :=
  let s0 := (s.put (synCalib r k) 0).put (synLocked r k) 1
  let (s1, v) := if (s0.syn r k).full then s0.draws 13 else (s0, [])
  let s2 := (s1.setSyn r k ((s1.syn r k).touch (s.get (synCh r k)) (s.fr r).die v)).frnShow r
  if s2.activeSyn r = some k then
    match (s2.fr r).wait, (s2.fr r).ppdu with
    | .txq _ _ _ _ true, none => s2.txTry r e
    | .tpl _, none => s2.txTry r e
    | _, _ => s2
  else
    match (s2.fr r).wait with
    | .hopLock => s2.setWait r (.hopDone (s2.frnTick + 0x20))
    | _ => s2

/-- A calibration has failed twice: the synthesiser is failed (R61, R62, R65). A HOP that waits finds nothing prepared. -/
def State.synFail (s : State) (r : Fin 3) (k : Bool) (e : Ecc) : State :=
  let act := s.activeSyn r == some k
  let s1 := (((s.put (synCalib r k) 0).put (synFailed r k) 1).raise (FRN_EVT_CAL_FAIL r)).frnShow r
  if act then
    let s2 := s1.toStandby r
    match (s2.fr r).wait with
    | .txq _ _ _ _ _ => s2.txFail r .nochan e
    | .tpl _ => s2.txFail r .nochan e
    | .rx _ t _ _ => s2.setWait r (.until_ t)
    | .hopLock => s2.hopFail r (FRN_EVT_CH_INVALID r) e
    | .hopDone _ => s2.hopFail r (FRN_EVT_CH_INVALID r) e
    | _ => s2
  else
    match (s1.fr r).wait with
    | .hopLock => s1.hopFail r (FRN_EVT_CAL_FAIL r) e
    | _ => s1

/-- SYNTH_CAL_DONE: a relock or calibration completes, at its budget (R60). A relock that fails is followed by a full
calibration (R65), a calibration that fails by one more run (R61). -/
def State.calDone (s : State) (r : Fin 3) (k ok : Bool) (e : Ecc) : State :=
  if s.flag (synCalib r k) then
    let s1 := s.toFrnTick (min (s.syn r k).doneAt (s.frnTick + calTicks))
    let y := s1.syn r k
    if ok then s1.synLock r k e
    else if !y.full then s1.setSyn r k { y with full := true, fails := 0, doneAt := s1.frnTick + calTicks }
    else if y.fails = 0 then s1.setSyn r k { y with fails := 1, doneAt := s1.frnTick + calTicks }
    else s1.synFail r k e
  else s

/-- LOCK_LOSS: the active synthesiser's loss of lock is detected (R65): the transmit-enable line drops in a response too. A PPDU
that has begun ends its operation; one that has not is held again. -/
def State.lockLoss (s : State) (r : Fin 3) (e : Ecc) : State :=
  match s.activeSyn r with
  | some k =>
    if s.flag (synLocked r k) then
      let begun := (s.fr r).ppdu.any (fun p => decide (p.start ≤ s.frnTick) && !p.loose)
      let rsp := (s.fr r).rsp.any (fun x => decide (s.frnTick < x.to_))
      let s1 := (s.cutTx r).cutRx r
      let s2 := (((s1.bump (FRN_CNT_UNLOCK r)).raise (FRN_EVT_UNLOCK r)).calStart r k
        (!s.stored r k (s.get (synCh r k)))).frnShow r
      let s3 := if s2.frnSt r = 5 then s2.toRadio r 3 else if rsp then s2.femDrive r femRx s2.frnTick else s2
      match (s3.fr r).wait with
      | .txq d en c q _ => if begun then s3.txDone r e else s3.setWait r (.txq d en c q true)
      | .tpl _ => if begun then s3.txDone r e else s3
      | _ => if (s3.fr r).halting then s3.haltDone r else s3
    else s
  | none => s

/-- TEMP_DRIFT: the die temperature is now `temp`. -/
def execTempDrift (r : Fin 3) (temp : BitVec 12) (s : State) : Out State := .next (s.dieMoved r temp)

/-! ### The end of a wait -/

/-- SEQ_WAIT_END: the waiting operation's tick is reached and the next operation is fetched. A radio that leaves SLEEP shows
SLEEP and its OFF pattern until STANDBY holds (DEDUCED, log entry 6). -/
def State.seqWaitEnd (s : State) (r : Fin 3) (e : Ecc) : State :=
  if s.frnGo then
    match (s.fr r).wait with
    | .until_ t => ((s.toFrnTick t).skipped r t).seqDone r e
    | .wake _ t => ((((s.toFrnTick t).skipped r t).toRadio r 2).frnShow r).seqDone r e
    | .hopDone t => ((s.toFrnTick t).hopDone r).seqDone r e
    | .rx _ t _ _ =>
      if (s.fr r).ppdu.isSome then s
      else
        let s1 := (s.toFrnTick (max t ((s.fr r).rxEnd.getD 0))).skipped r t
        let s2 := s1.setFr r { s1.fr r with rxEnd := none, rxLeft := some s1.frnTick }
        (s2.toRadio r 3).seqDone r e
    | .txq d _ _ _ true => if (s.fr r).ppdu = none then ((s.toFrnTick (d - 0x80)).skipped r d).txFail r .late e else s
    | .tpl t => if (s.fr r).ppdu = none then ((s.toFrnTick (t.dl - 0x80)).skipped r t.dl).txFail r .late e else s
    | _ => s
  else s

def execSeqWaitEnd (r : Fin 3) (ecc : Ecc) (s : State) : Out State := .next (s.seqWaitEnd r ecc)

/-- SEQ_MISMATCH: the two copies' outputs disagree (R72). -/
def State.seqMismatch (s : State) (r : Fin 3) : State :=
  if s.seqSt r = 1 ∨ s.seqSt r = 2 then s.seqFault r (FRN_EVT_MISMATCH r) (s.flag (FRN_CTL_AUTO_RST r)) else s

/-- A Frond turn has just begun. -/
def State.atFrnTurn (s : State) : Bool := s.frnRuns && decide (s.spn.turnRef = s.ref)

/-- SEQ_AUTO_RESTART: at the turn start after a mismatch both copies restart, at the main or the coast entry (R72); from
an entry to SLEEP until its end none does (R354). -/
def State.autoRestart (s : State) (r : Fin 3) (e : Ecc) : State :=
  if (s.fr r).restart && s.atFrnTurn && s.awake && !s.entering then
    (if (s.fr r).coastFrom.isSome then s.seqStart r 2 (s.get (FRN_SEQ_ENTRY_COAST r)) e
     else s.seqStart r 1 (s.get (FRN_SEQ_ENTRY_MAIN r)) e)
  else s

def execSeqAutoRestart (r : Fin 3) (ecc : Ecc) (s : State) : Out State := .next (s.autoRestart r ecc)

/-! ### Coasting (R81, R82, R83) -/

/-- COAST_START: at the named turn start coasting begins; a running pair continues at the coast entry. -/
def State.coastStart (s : State) (r : Fin 3) (e : Ecc) : State :=
  if decide ((s.fr r).coastAt = some s.frnTurnNo) && decide (s.spn.turnRef = s.ref) then
    let s1 := s.setFr r { s.fr r with coastFrom := some s.frnTick, coastAt := none, coastRan := decide (s.seqSt r = 1), coastNew := [] }
    if s.seqSt r = 1 then s1.seqStart r 2 (s.get (FRN_SEQ_ENTRY_COAST r)) e else s1
  else s

def execCoastStart (r : Fin 3) (ecc : Ecc) (s : State) : Out State := .next (s.coastStart r ecc)

/-- COAST_END: at the named turn start coasting ends; a coasting pair continues at the main entry. -/
def State.coastEnd (s : State) (r : Fin 3) (e : Ecc) : State :=
  if decide ((s.fr r).coastEnd = some s.frnTurnNo) && decide (s.spn.turnRef = s.ref) then
    let s1 := s.setFr r { s.fr r with coastFrom := none, coastEnd := none, coastRan := false, coastNew := [] }
    if s.seqSt r = 2 then s1.seqStart r 1 (s.get (FRN_SEQ_ENTRY_MAIN r)) e else s1
  else s

/-- FRNn_COAST_LIMIT: values above the default are taken as it. -/
def State.coastMax (s : State) (r : Fin 3) : Nat := min 0x30D400 ((s.rd (FRN_COAST_LIMIT r)).toNat % 2 ^ 24)

/-- COAST_LIMIT: coasting has lasted its limit and has not been ended: the pair halts, one that had halted while it coasted too, the
chains go to the OFF pattern, and held frames are to return ABORT (R83). Naming the turn at which it ends has ended it (R317). -/
def State.coastLimit (s : State) (r : Fin 3) : State :=
  match (s.fr r).coastFrom with
  | some t =>
    if (s.seqSt r = 2 ∨ (s.seqSt r = 3 ∧ (s.fr r).coastRan = true)) ∧ (s.fr r).coastEnd = none then
      let s0 := s.toFrnTick (t + s.coastMax r)
      let s1 := ((s0.dropTpl r).cutTx r).cutRx r
      let s2 := s1.setFr r { s1.fr r with wait := .none, halting := false, femOff := true, restart := false, coastOver := true }
      let s3 := ((s2.toStandby r).put (FRN_STAT_SEQ r) 3).femDrive r femOffMode s2.frnTick
      s3.raise (FRN_EVT_COAST_LIMIT r)
    else s
  | none => s

def execCoastLimit (r : Fin 3) (s : State) : Out State := .next (s.coastLimit r)

/-- Frond's part of a turn start: a pair that waits for one starts, but none from an entry to SLEEP until its end (R354), and the die
temperature is taken (R73, FRNn_TEMP). -/
def State.frnTurn (s : State) (r : Fin 3) (temp : BitVec 12) (e : Ecc) : State :=
  if s.flag (FRN_CTL_EN r) then
    let s1 := s.tempRead r temp
    if (s1.fr r).starting && s1.awake && !s1.entering then s1.seqStart r 1 (s1.get (FRN_SEQ_ENTRY_MAIN r)) e else s1
  else s

end Sys2Proof.Machine
end

