-- ==== Sys2Proof/Machine/Context.lean ====
section
/-! DEFINITION. Station contexts (R101, R102, R103, R120), the drift estimate (R105, R106, R107), braid records and
members (R128, R129, R132, R133), and station queues (R117). -/

namespace Sys2Proof.Machine

/-! ### Ethernet II form (R200) -/

/-- `n` bytes of a number, most significant first. -/
def beBytes (n v : Nat) : List Byte := (leBytes n v).reverse

/-- Destination, source, EtherType or length, and what follows. The model holds a MAC address as a number whose least
significant byte is the one transmitted first. -/
def etherBytes (da sa : BitVec 48) (typ body : List Byte) : List Byte :=
  leBytes 6 da.toNat ++ leBytes 6 sa.toNat ++ typ ++ body

/-- An MSDU as an Ethernet II frame: the EtherType of its LLC/SNAP header, or its length where it has none. -/
def etherOf (f : AirFrame) : List Byte :=
  match f.body with
  | 0xAA#8 :: 0xAA#8 :: 0x03#8 :: 0#8 :: 0#8 :: 0#8 :: t1 :: t2 :: rest => etherBytes f.da f.sa [t1, t2] rest
  | b => etherBytes f.da f.sa (beBytes 2 b.length) b

/-! ### Fields of a context and of a braid record -/

/-- `n` bytes of the context of an AID, from byte `o`. -/
def State.cx (s : State) (aid o n : Nat) : Nat := leGet zeroByte s.ctx (256 * aid + o) n

def State.cxSet (s : State) (aid o n v : Nat) : State := { s with ctx := leSet zeroByte s.ctx (256 * aid + o) n v }

/-- A bit of a context byte. -/
def State.cxBit (s : State) (aid o i : Nat) : Bool := decide (s.cx aid o 1 / 2 ^ i % 2 = 1)

/-- Set or clear a bit of a byte. -/
def withBit (v i : Nat) (b : Bool) : Nat :=
  if decide (v / 2 ^ i % 2 = 1) = b then v else if b then v + 2 ^ i else v - 2 ^ i

def State.cxPutBit (s : State) (aid o i : Nat) (b : Bool) : State := s.cxSet aid o 1 (withBit (s.cx aid o 1) i b)

/-- Add to a field of `n` bytes, saturating at all ones; RX_CNT and TX_CNT too, of which R102 does not say it (DESIGN CHOICE, log
entry 28). -/
def State.cxBump (s : State) (aid o n k : Nat) : State := s.cxSet aid o n (min (256 ^ n - 1) (s.cx aid o n + k))

def State.mr (s : State) (aid o n : Nat) : Nat := leGet zeroByte s.mlk (256 * aid + o) n

def State.mrSet (s : State) (aid o n v : Nat) : State := { s with mlk := leSet zeroByte s.mlk (256 * aid + o) n v }

/-- STATE of a context: 0 FREE, 1 ASSOC, 2 HANDOFF. -/
def State.cxState (s : State) (aid : Nat) : Nat := s.cx aid 2 1

/-- The AIDs whose context is not FREE, rising. -/
def State.aids (s : State) : List Nat := (s.ctx.filter (fun e => e.1 % 256 == 2)).map (fun e => e.1 / 256)

def State.mac (s : State) (aid : Nat) : Nat := s.cx aid 4 6

/-- MEMBERS bit `l`. -/
def State.member (s : State) (aid l : Nat) : Bool := s.cxBit aid 192 l
def State.susp (s : State) (aid l : Nat) : Bool := s.cxBit aid 192 (l + 3)

/-- Number of members of a braid (R128). -/
def State.memberCount (s : State) (aid : Nat) : Nat :=
  ((List.range 3).filter (fun l => s.member aid l)).length

/-- The AID whose braid record has this transmitter address on this radio (R130). -/
def State.aidOf (s : State) (r : Nat) (ta : BitVec 48) : Option Nat :=
  s.aids.find? (fun a => s.member a r && decide (s.mr a (6 * r) 6 = ta.toNat))

/-- The AID that a received frame is of: by its transmitter address, or by the AID that a PV1 header names. Until a station handed
to this device has acknowledged its new AID, PV1 frames under its old AID are its (R197; before any station that has that
AID here: DEDUCED, log entry 36). -/
def State.rxAid (s : State) (r : Nat) (f : AirFrame) : Option Nat :=
  if f.kind = .pv1 ∧ f.sid ≠ 0 then
    match s.clu.peers.find? (fun p => s.member p.2 r && decide (s.cx p.2 242 2 % 8192 = f.sid.toNat)) with
    | some p => some p.2
    | none => s.aids.find? (fun a => decide (a = f.sid.toNat) && s.member a r)
  else s.aidOf r f.ta

/-- The AID in state ASSOC whose MAC this is (R165). -/
def State.aidOfMac (s : State) (m : Nat) : Option Nat :=
  s.aids.find? (fun a => decide (s.cxState a = 1 ∧ s.mac a = m))

/-- Band group of a member (R128, R133). -/
def State.mgroup (s : State) (aid l : Nat) : Nat := s.mr aid 22 1 / 4 ^ l % 4

/-- The member may carry frames of a traffic identifier (R129); TID 8 stands for management and non-QoS frames. -/
def State.eligible (s : State) (aid l tid : Nat) : Bool :=
  s.member aid l && s.cxBit aid 10 l && !s.susp aid l &&
    (decide (8 ≤ tid) || decide (s.mr aid (18 + l) 1 / 2 ^ tid % 2 = 1))

/-! ### The context cache (R101) -/

/-- A context is used: it is the most recently used of at most 512. -/
def State.cacheTouch (s : State) (aid : Nat) : State :=
  let c := (aid :: s.acc.cache.filter (· != aid)).take 512
  ({ s with acc := { s.acc with cache := c } }).put ACC_STAT_CACHED c.length

def State.cacheDrop (s : State) (aid : Nat) : State :=
  let c := s.acc.cache.filter (· != aid)
  ({ s with acc := { s.acc with cache := c } }).put ACC_STAT_CACHED c.length

/-! ### Drift (R105, R106, R107) -/

/-- A signed field of a context. -/
def State.cxInt (s : State) (aid o n : Nat) : Int := (BitVec.ofNat (8 * n) (s.cx aid o n)).toInt

def State.gate (s : State) : Nat := (s.rd ACC_DRIFT_GATE).toNat % 2 ^ 24

/-- The predicted offset at a tick, 1/16 tick, and its error bound, ticks (R105, R107). -/
def State.predict (s : State) (aid e : Nat) : Int × Int :=
  if s.cxBit aid 62 0 then
    let dt : Int := (e : Int) - unpackTick (s.cx aid 44 8)
    let pred := s.cxInt aid 32 4 + (s.cxInt aid 36 4 * dt * 16) / 1000000000
    let unc : Int := (s.get ACC_DRIFT_UNC_UNC_PPB : Int) * dt
    (pred, (s.cx aid 40 3 : Int) - (-unc) / 1000000000 + (s.estErr : Int))
  else (0, (s.gate : Int) + (s.estErr : Int))

/-- The captured range of a period or slot of nominal start `e` and length `d` (R104). -/
def State.inPeriod (s : State) (aid e d t : Nat) : Bool :=
  let (pred, err) := s.predict aid e
  let lo : Int := (e : Int) + pred / 16 - err - s.gate
  let hi : Int := (e : Int) + d + pred / 16 + err + s.gate
  decide (lo ≤ (t : Int) ∧ (t : Int) < hi)

/-- An anchor updates the estimate (R105, R106); `o` is the measured offset at nominal start `e`. -/
def State.anchor (s : State) (aid e t : Nat) : State :=
  let (pred, err) := s.predict aid e
  let o : Int := ((t : Int) - e - s.get ACC_DRIFT_LAT_TX_LAT) * 16
  let innov := o - pred
  let taken := fun (s : State) (ofs rate : Int) (flags : Nat) =>
    ((((((s.cxSet aid 32 4 (word32 ofs).toNat).cxSet aid 36 4 (word32 rate).toNat).cxSet aid 44 8 (packTick e)).cxSet aid 40 3
      (s.get ACC_DRIFT_CFG_ERR_FLOOR)).cxBump aid 60 2 1).cxSet aid 62 1 flags)
  let fl := s.cx aid 62 1
  if fl % 2 = 0 then taken s o 0 (fl % 8 / 2 * 2 + 1)
  else if 16 * (err + s.gate) < (innov.natAbs : Int) then
    let s1 := s.bump ACC_CNT_OUTLIER
    let n := fl / 8 % 8 + 1
    let lim := min 7 (atLeast1 (s.get ACC_DRIFT_CFG_OUT_MAX))
    if lim ≤ n then (s1.cxSet aid 62 1 (fl % 8 / 4 * 4 + 8 * min 7 n)).raise ACC_EVT_DRIFT_RESET
    else s1.cxSet aid 62 1 (fl % 8 + 8 * n)
  else
    let dt : Int := (e : Int) - unpackTick (s.cx aid 44 8)
    let ofs := pred + innov / 2 ^ s.get ACC_DRIFT_CFG_OFS_SHIFT
    let rate := s.cxInt aid 36 4
    if (0x1000000 : Int) ≤ dt then
      taken s ofs (rate + (innov * 1000000000) / (16 * dt) / 2 ^ s.get ACC_DRIFT_CFG_RATE_SHIFT) (fl % 8 / 4 * 4 + 3)
    else taken s ofs rate (fl % 8)

/-- A bound frame: a one-sided update, none while VALID is clear (R104). -/
def State.boundFrame (s : State) (aid e t : Nat) : State :=
  let o : Int := ((t : Int) - e - s.get ACC_DRIFT_LAT_TX_LAT) * 16
  if s.cxBit aid 62 0 ∧ o < (s.predict aid e).1 then
    (((s.cxSet aid 32 4 (word32 o).toNat).cxSet aid 44 8 (packTick e)).cxPutBit aid 62 2 true)
  else s

/-! ### Plans (R109, R110, R33) -/

/-- A window of a plan. -/
structure Window where
  start : Nat
  end_ : Nat
  kind : Nat
  chidx : Nat
  wg : Nat
  flags : Nat
  slots : Nat
  profile : Nat
  param : Nat
  deriving DecidableEq, Repr

def Window.flag (w : Window) (i : Nat) : Bool := decide (w.flags / 2 ^ i % 2 = 1)
def Window.shared (w : Window) : Bool := w.flag 0
def Window.tx (w : Window) : Bool := w.flag 1
def Window.rx (w : Window) : Bool := w.flag 2
def Window.slotStart (w : Window) : Bool := w.flag 3
def Window.drift (w : Window) : Bool := w.flag 4
def Window.all (w : Window) : Bool := decide (w.wg / 2 ^ 15 % 2 = 1)
def Window.group (w : Window) : Nat := w.wg % 1024

def State.planBase (s : State) : Nat := s.get ACC_WIN_BASE_START * 0x10000
def State.bankAddr (s : State) (r : Nat) (b : Bool) : Nat := s.planBase + (2 * r + (if b then 1 else 0)) * 0x4000

/-- The window at an address. -/
def State.windowAt (s : State) (a : Nat) : Window :=
  { start := s.mem a 4, end_ := s.mem (a + 4) 4, kind := s.mem (a + 8) 1, chidx := s.mem (a + 9) 1, wg := s.mem (a + 10) 2,
    flags := s.mem (a + 12) 1, slots := s.mem (a + 13) 1, profile := s.mem (a + 14) 1, param := s.mem (a + 15) 1 }

/-- The windows of a bank: the first of KIND 0 ends it. -/
def State.windowsFrom (s : State) (a : Nat) : Nat → List Window
  | 0 => []
  | n + 1 => if s.mem (a + 8) 1 = 0 then [] else s.windowAt a :: s.windowsFrom (a + 16) n

def State.bank (s : State) (r : Nat) (b : Bool) : List Window := s.windowsFrom (s.bankAddr r b) 1024

/-- The plan that runs in turn `t`, bank and length: an armed bank from the turn it is to become active in, else the active one
(R112, R113). -/
def State.planAt (s : State) (r t : Nat) : Option (Bool × Nat) :=
  let cur := if s.flag (ACC_PLAN_STAT_RUNNING r) then some (s.flag (ACC_PLAN_STAT_ACT_BANK r), s.get (ACC_PLAN_STAT_LEN r) + 1)
    else none
  match (if h : r < 3 then s.acc.arms[r] else none) with
  | some a => if a.turn ≤ t then some (a.bank, a.len) else cur
  | none => cur

/-- The windows of the active bank; none where no plan runs. -/
def State.plan (s : State) (r : Nat) : List Window :=
  match s.planAt r s.turn with
  | some p => s.bank r p.1
  | none => []

def State.planLen (s : State) (r : Nat) : Nat := ((s.planAt r s.turn).map (·.2)).getD 1

/-- The windows of turn `t`, each with its start and end as ticks from the epoch. -/
def State.windowsIn (s : State) (r t : Nat) : List (Window × Nat × Nat) :=
  match s.planAt r t with
  | some (b, len) =>
    let p := t % len
    ((s.bank r b).filter (fun w => w.start / turnTicks == p)).map
      (fun w => (w, t * turnTicks + w.start % turnTicks, t * turnTicks + (w.end_ - p * turnTicks)))
  | none => []

/-- SHARED windows are silent while the spindle runs FREE (R118). -/
def State.windowRuns (s : State) (w : Window) : Bool := !(w.shared && decide (s.spnSt = spnFree))

/-- The window of a radio's plan that holds a tick. -/
def State.windowOf (s : State) (r t : Nat) : Option (Window × Nat × Nat) :=
  (s.windowsIn r (t / turnTicks)).find? (fun x => decide (x.2.1 ≤ t ∧ t < x.2.2) && s.windowRuns x.1)

/-- A context that is being handed out has passed its cut (R196, R199). -/
def State.cutOff (s : State) (aid : Nat) : Bool :=
  decide (s.cxState aid = 2) && (!s.cxBit aid 240 1 || decide (unpackTick (s.cx aid 248 8) ≤ s.absTick))

/-- The device serves the station: its context is in ASSOC, or is being handed out and its cut is still to come (R196). -/
def State.serves (s : State) (aid : Nat) : Bool := decide (s.cxState aid ≠ 0) && !s.cutOff aid

/-- The station belongs to the window's stations on that radio (R110, R115). -/
def State.inGroup (s : State) (r : Nat) (w : Window) (aid : Nat) : Bool :=
  let wg := s.cx aid (12 + 2 * r) 2
  s.serves aid && s.cxBit aid 10 r && (w.all || (decide (wg < 2 ^ 15) && decide (wg % 1024 = w.group)))

/-- Largest slot duration of 500 + 120 × cslot µs, in ticks, that lets the slots fit before END (R121); with no slot
fitting whole, the shortest. -/
def slotTicks (w : Window) : Nat :=
  let d := (w.end_ - w.start) / atLeast1 w.slots / 16
  if d < 500 then (if 8000 ≤ w.end_ - w.start then 8000 else 0) else 16 * (500 + 120 * ((d - 500) / 120))

/-- A station's slot in a window: nominal start and length (R104). -/
def slotOf (w : Window) (start end_ aid : Nat) : Nat × Nat :=
  if w.slots = 0 then (start, end_ - start) else (start + aid % w.slots * slotTicks w, slotTicks w)

/-- The service period of a station whose nominal start lies in a range: the first at or after it (R102, R120). One that has begun
before the range counts as none in it (R107; DESIGN CHOICE, log entry 28). -/
def State.spIn (s : State) (aid lo hi : Nat) : Option Nat :=
  let step := s.cx aid 72 6
  let n := unpackTick (s.cx aid 64 8)
  if step = 0 then none
  else
    let e := if n < lo then n + (lo - n + step - 1) / step * step else n
    if e < hi then some e else none

/-! ### Station queues (R117) -/

def qKey (aid tid : Nat) : Nat := 16 * aid + tid

def State.stq (s : State) (aid tid : Nat) : List TxFrame := SMap.get (fun _ => []) s.acc.queues (qKey aid tid)

/-- The frames that a radio holds: in its queues, and in the PPDU on the air. -/
def FrnState.frames (f : FrnState) : List TxFrame :=
  (match f.ppdu with
   | some p => p.units.filterMap TxUnit.frame?
   | none => []) ++ f.queues.toList.flatten

/-- Frames that have left their queues and are not resolved: on their way through the cipher engine, with a radio, or with a
status that has not arrived. -/
def State.underway (s : State) : List TxFrame :=
  (List.finRange 3).flatMap (fun r => (s.fr r).frames) ++ s.ciptx.map (·.2) ++ s.retq.filterMap (fun x => x.unit.frame?)

/-- PENDING follows a station's frames: set while one is queued, here or on its way to the air (R102; that a frame counts until
its status has come is DEDUCED, log entry 28). -/
def State.pendShow (s : State) (aid : Nat) : State :=
  if aid = 0 then s
  else
    let some_ := (List.range 9).any (fun t => !(s.stq aid t).isEmpty) || s.underway.any (fun f => f.aid == aid)
    if s.cxBit aid 11 3 = some_ then s else s.cxPutBit aid 11 3 some_

/-- A queue changes. -/
def State.setStq (s : State) (aid tid : Nat) (l : List TxFrame) : State :=
  ({ s with acc := { s.acc with queues := SMap.set (fun _ => []) s.acc.queues (qKey aid tid) l } }).pendShow aid

/-- The frame is a Block Ack Request, which holds no buffers. -/
def TxFrame.isBar (f : TxFrame) : Bool :=
  match f.kind with
  | .bar _ => true
  | _ => false

/-- A transmit frame is finished with: owner ACC releases its packet. -/
def State.freeFrame (s : State) (f : TxFrame) : State := if f.isBar then s else s.release f.chain ownAcc

/-- A frame goes back to its queue for another try: ahead of later frames, behind a Block Ack Request or an AID Switch Response,
which goes back to the head (R117, R139, R197). -/
def requeue (f : TxFrame) : List TxFrame → List TxFrame
  | [] => [f]
  | g :: t => if !f.front && (g.front || decide (g.fid < f.fid)) then g :: requeue f t else f :: g :: t

/-- A radio's queue of Frond gives its frames back, NOCHAN. -/
def State.recallQueue (s : State) (r : Fin 3) (q : Nat) (mine : TxFrame → Bool) : State :=
  let l := s.queue r q
  (l.filter mine).foldl (fun s f => s.frnReturn r
      (.frame { f with recalled := true, first := if f.last = none then none else f.first }) .nochan none)
    (s.setQueue r q (l.filter (fun f => !mine f)))

/-- The frames of a station that wait in Frond on a member that may not carry them any more come back to be sent on another: no
member that is not eligible is sent to (R129). -/
def State.recallUnfit (s : State) (a : Nat) : State :=
  (List.finRange 3).foldl (fun (s : State) (r : Fin 3) =>
    let out := fun (f : TxFrame) => f.aid == a && !s.eligible a r f.tid
    ((List.range 16).filter (fun q => (s.queue r q).any out)).foldl (fun (s : State) q => s.recallQueue r q out) s) s

/-- The MPDU limit of a station on one member, or on the best of its members (R96). -/
def State.mpduLimit (s : State) (aid : Nat) (ls : List Nat) : Nat :=
  let m := (ls.filter (fun l => s.member aid l)).foldl (fun m l => max m (groupMax (s.mgroup aid l))) 0
  let adv := s.cx aid 18 2
  if adv = 0 then m else min adv m

/-- The MPDU limit toward the upstream AP, which has no context: its radio's band group alone (R94, R96). -/
def State.upLimit (s : State) : Nat :=
  if h : s.get ACC_UP_CFG_RADIO < 3 then
    match s.activeSyn ⟨s.get ACC_UP_CFG_RADIO, h⟩ with
    | some k => groupMax (s.syn ⟨s.get ACC_UP_CFG_RADIO, h⟩ k).group
    | none => groupMax 2
  else groupMax 2

/-! ### Cluster reports (R183) -/

/-- A STATION_SET or STATION_CLEAR report waits for the next HB; at most 256 wait (R183). -/
def State.report (s : State) (set : Bool) (aid tick : Nat) : State :=
  if s.get CLU_STAT_STATE ≠ 0 then
    if s.reports.length < 256 then { s with reports := s.reports ++ [⟨set, s.mac aid, aid, tick, false⟩] }
    else s.bump CLU_CNT_RPT_DROP
  else s

end Sys2Proof.Machine
end

