-- ==== Sys2Proof/Machine/Access.lean ====
section
/-! DEFINITION. The access scheduler (spec/05_scheduled_access.md): association, context commands, received frames,
plans and their activation, the generated halves, queues toward the air, beacons, wake-up frames and the uplink. -/

namespace Sys2Proof.Machine

/-- ACC_STAT shows whether the scheduler generates and what the spindle's state means for it (R118). -/
def State.accShow (s : State) : State :=
  ((s.putB ACC_STAT_RUN (s.flag ACC_CTL_EN && s.running && !s.flag SPN_STAT_HELD)).putB ACC_STAT_WIDENED
    (decide (s.spnSt = spnHoldover ∨ s.spnSt = spnEstimated) || decide (s.estErr ≠ 0))).putB ACC_STAT_QUIET
    (decide (s.spnSt = spnFree))

/-- The present instant is the start of a turn. -/
def State.atTurnStart (s : State) : Bool := s.running && !s.flag SPN_STAT_HELD && decide (s.spn.turnRef = s.ref)

/-! ### Association (R21, R22, R98, R99, R100, R128, R437) -/

/-- A link that a (Re)Association exchange sets up: radio, station address, band group, TID map. -/
structure LinkReq where
  lid : Nat
  mac : Nat
  group : Nat
  tids : Nat
  deriving DecidableEq, Repr

/-- Enter a member into a braid (R128, R133); it is not suspended. -/
def State.addMember (s : State) (aid : Nat) (l : LinkReq) : State :=
  let g := s.mr aid 22 1
  let g' := g - g / 4 ^ l.lid % 4 * 4 ^ l.lid + l.group % 4 * 4 ^ l.lid
  (((((s.mrSet aid (6 * l.lid) 6 l.mac).mrSet aid (18 + l.lid) 1 l.tids).mrSet aid 22 1 g').cxPutBit aid 192 l.lid true).cxPutBit
    aid 192 (l.lid + 3) false).cxPutBit aid 10 l.lid true

/-- RXR and the flags that follow a braid's members: DEFER under an agreement or with more than one member (R143), SLOW of a
buffer (R144). -/
def State.rxFlags (s : State) (aid : Nat) : State :=
  (List.range 8).foldl (fun (s : State) t =>
    let ba := s.cxBit aid 194 t
    let slow := (List.range 3).any (fun l => s.eligible aid l t && decide (s.mgroup aid l = 0))
    let f := s.mr aid (32 + 24 * t + 10) 1
    let f1 := withBit f 3 (ba || decide (1 < s.memberCount aid))
    s.mrSet aid (32 + 24 * t + 10) 1 (if ba then withBit f1 2 slow else f1)) s

/-! ### The uplink braid (R131) -/

/-- The AIDs of the upstream peer on other radios, from the blank (R292). -/
def State.upPeers (s : State) : List Nat :=
  let r := s.get ACC_UP_CFG_RADIO
  if r < 3 then
    ([s.radioByte (2304 * r + 10) + 256 * s.radioByte (2304 * r + 11),
      s.radioByte (2304 * r + 12) + 256 * s.radioByte (2304 * r + 13)].map (· % 8192)).filter (· != 0)
  else []

/-- The AID whose braid record joins the links of the upstream peer: the lowest of its AIDs that is associated (DEDUCED, log
entry 14), or of all while none is. -/
def State.upAid (s : State) : Option Nat :=
  let there := s.upPeers.filter (fun a => decide (s.cxState a ≠ 0))
  match (if there = [] then s.upPeers else there) with
  | [] => none
  | p :: t => some (t.foldl min p)

/-- The AID whose braid record an AID's links are in; AID 0 names the upstream AP, whose link is in that of its peer (R131). -/
def State.braidAid (s : State) (aid : Nat) : Nat :=
  match s.upAid with
  | some p => if s.upPeers.contains aid || (decide (aid = 0) && decide (s.cxState p ≠ 0)) then p else aid
  | none => aid

/-- A member's scoreboards go with it (R141). -/
def State.dropBoards (s : State) (aid l : Nat) : State :=
  if h : l < 3 then
    let r : Fin 3 := ⟨l, h⟩
    let f := s.fr r
    let ta := BitVec.ofNat 48 (s.mr aid (6 * l) 6)
    if f.boards.any (fun b => b.ta == ta) then s.setFr r { f with boards := f.boards.filter (fun b => b.ta != ta) } else s
  else s

/-- Take a member out of a braid (R140). -/
def State.dropMember (s0 : State) (aid l : Nat) : State :=
  let s := s0.dropBoards aid l
  ((((s.mrSet aid (6 * l) 6 0).mrSet aid (18 + l) 1 0).cxPutBit aid 192 l false).cxPutBit aid 192 (l + 3) false).cxPutBit
    aid 10 l false

/-- The station-role link stands in the uplink braid's record once the device has associated; its SUSP is held while the link is not
associated (R128, R131). -/
def State.upJoin (s : State) (p : Nat) : State :=
  let r := s.get ACC_UP_CFG_RADIO
  match s.acc.upAp with
  | some (ap, g) =>
    if r < 3 then
      (if s.member p r && decide (s.mr p (6 * r) 6 = ap) then s else s.addMember p ⟨r, ap, g, 0xFF⟩).cxPutBit p 192 (r + 3)
        (decide (2 ≤ s.get ACC_UP_STAT_STATE))
    else s
  | none => s

/-- The links of the upstream peer's other AID join the record of the lowest one, and so does the station-role link. -/
def State.upMerge (s0 : State) : State :=
  match s0.upAid with
  | none => s0
  | some p =>
    if s0.cxState p = 0 then s0
    else
      let s := s0.upJoin p
      let s1 := (s.upPeers.filter (· != p)).foldl (fun (s : State) q =>
        (List.range 3).foldl (fun (s : State) l =>
          if s.cxState q ≠ 0 ∧ s.member q l ∧ !s.member p l then
            (s.addMember p ⟨l, s.mr q (6 * l) 6, s.mgroup q l, s.mr q (18 + l) 1⟩).dropMember q l
          else s) s) s
      (s1.cxPutBit p 193 2 true).rxFlags p

/-- The offer's descriptor for another radio: its first window on a valid group-0 channel in bank order (R437). -/
def State.offerOf (s : State) (l : Nat) : Option Nat :=
  if s.rflag l 2 then
    ((s.plan l).find? (fun w => s.chValid l w.chidx && decide (s.chGroup l w.chidx = 0))).map (·.chidx)
  else none

/-- BSSID of a radio, as a number whose least byte is sent first (R292). -/
def State.bssid (s : State) (l : Nat) : Nat :=
  match s.blk with
  | some b => leNum ((b.radio.drop (2304 * l + 14)).take 6)
  | none => 0

/-- One descriptor of the braid element (R98). -/
def braidDesc (lid bw tids st khz mac : Nat) : List Byte :=
  leBytes 1 lid ++ leBytes 1 bw ++ leBytes 1 tids ++ leBytes 1 st ++ leBytes 4 khz ++ leBytes 6 mac

/-- A whole element (R98). -/
def braidElem (kind st : Nat) (ds : List (List Byte)) : List Byte :=
  [0xDD, BitVec.ofNat 8 (8 + 14 * ds.length), 0x7A, 0x3C, 0xE1, 0x2B, 1, BitVec.ofNat 8 kind, BitVec.ofNat 8 st,
    BitVec.ofNat 8 ds.length] ++ ds.flatten

/-- The offer sent on radio `l`; empty when no radio qualifies (R437). -/
def State.offer (s : State) (l : Nat) : List Byte :=
  let ds := ((List.range 3).filter (· != l)).filterMap (fun m => (s.offerOf m).map (fun i =>
    braidDesc m (s.chBw m i) 0xFF 0 (s.chKhz m i) (s.bssid m)))
  if ds = [] then [] else braidElem 0 0 ds

/-- The status of one request descriptor: the first condition it meets in the order of R99. -/
def State.descStatus (s : State) (r aid : Nat) (earlier : List Nat) (d : List Byte) : Nat :=
  let lid := leNum (d.take 1) % 4
  let offered := decide (lid ≠ r) && (match s.offerOf lid with
    | some i => decide (leNum ((d.drop 1).take 1) = s.chBw lid i ∧ leNum ((d.drop 4).take 4) = s.chKhz lid i)
    | none => false)
  if leNum ((d.drop 2).take 1) = 0 then 4
  else if lid < 3 ∧ s.rflag lid 2 = false then 3
  else if !offered then 1
  else if s.member aid lid || earlier.contains lid then 2
  else 0

/-- Answer the request's descriptors in order; accepted ones become members. -/
def State.answerDescs (s : State) (r aid : Nat) : List (List Byte) → List Nat → State × List (List Byte)
  | [], _ => (s, [])
  | d :: t, seen =>
    let lid := leNum (d.take 1) % 4
    let st := s.descStatus r aid seen d
    let s1 := if st = 0 then (s.addMember aid ⟨lid, leNum ((d.drop 8).take 6), 0, leNum ((d.drop 2).take 1)⟩).cxPutBit aid 193 1 true
      else s
    let (s2, ds) := s1.answerDescs r aid t (lid :: seen)
    (s2, braidDesc lid (leNum ((d.drop 1).take 1)) (leNum ((d.drop 2).take 1)) st (leNum ((d.drop 4).take 4)) (s.bssid lid) :: ds)

/-- Cut a run of bytes into pieces of 14. -/
def pieces14 : Nat → List Byte → List (List Byte)
  | 0, _ => []
  | n + 1, b => b.take 14 :: pieces14 n (b.drop 14)

/-- Answer a request element (R99, R100); an element of another OUI type is ignored. -/
def State.answerElem (s : State) (r aid : Nat) (e : List Byte) : State × List Byte :=
  let at_ := fun i => (e.getD i 0).toNat
  if e = [] ∨ at_ 0 ≠ 0xDD ∨ (e.drop 2).take 4 ≠ [0x7A, 0x3C, 0xE1, 0x2B] then (s, [])
  else if at_ 1 ≠ 8 + 14 * at_ 9 ∨ e.length < at_ 1 + 2 ∨ 2 < at_ 9 ∨ at_ 6 ≠ 1 ∨ at_ 7 % 4 ≠ 1 then (s, braidElem 2 4 [])
  else
    let (s1, ds) := s.answerDescs r aid (pieces14 (at_ 9) (e.drop 10)) []
    (s1, braidElem 2 0 ds)

/-- The AID for a new station: one that is free; which one the spec does not say, a free value picks (log entry 4).
None when all 8,191 are taken (R22). -/
def State.freeAid (s : State) : Option Nat :=
  let u := s.aids
  if u.length < 8191 then some (freeFrom (u.map (· - 1)) 8191 (u.length + 1) s.draw + 1) else none

/-- Clear a station's context and its braid record. -/
def State.wipeCtx (s : State) (aid : Nat) : State := (s.cxSet aid 0 256 0).mrSet aid 0 32 0

/-- A station's context enters ASSOC: the turn is noted for R108, a report is due (R183). -/
def State.enterAssoc (s : State) (aid : Nat) : State :=
  let s1 := { s with acc := { s.acc with assocTurn := SMap.set (fun _ => 0) s.acc.assocTurn aid s.turn } }
  s1.report true aid s.stampTick

/-! ### Context commands (R103, R120) -/

/-- The interval fits the standard's mantissa and exponent and is a multiple of 16 ticks (R120). -/
def intervalOk (t : Nat) : Bool :=
  decide (t % 16 = 0) && (List.range 32).any (fun e => decide (t / 16 % 2 ^ e = 0 ∧ t / 16 / 2 ^ e ≤ 65535))

/-- Mantissa and exponent of a wake interval in µs, the least exponent that holds it (R121). -/
def mantExp (us : Nat) : Nat × Nat :=
  match (List.range 32).find? (fun e => decide (us % 2 ^ e = 0 ∧ us / 2 ^ e ≤ 65535)) with
  | some e => (us / 2 ^ e, e)
  | none => (0, 0)

def ctxData : Nat := 0x121000

/-- The H fields of R102: first byte, bytes, writable bits. -/
def hFields : List (Nat × Nat × Nat) :=
  [(2, 1, 0xFF), (3, 1, 0x1F), (4, 6, 0xFFFFFFFFFFFF), (10, 1, 7), (12, 2, 0x83FF), (14, 2, 0x83FF), (16, 2, 0x83FF),
   (18, 2, 0xFFFF), (20, 4, 0xFFFFFFFF), (24, 2, 0xBFFF), (26, 2, 0xFFFF), (64, 8, 0xFFFFFFFFFFFFFFFF),
   (72, 6, 0xFFFFFFFFFFFF), (78, 2, 0xFFFF), (80, 8, 0xFFFFFFFFFFFFFFFF), (88, 4, 0xFFFFFFFF), (92, 2, 0xFFFF),
   (94, 1, 0xFF), (95, 1, 1), (96, 2, 0xFFF), (184, 8, 0xFFFFFFFFFFFFFFFF)]

/-- The D* fields. -/
def dFields : List (Nat × Nat × Nat) :=
  [(32, 4, 0xFFFFFFFF), (36, 4, 0xFFFFFFFF), (40, 4, 0xFFFFFF), (44, 8, 0xFFFFFFFFFFFFFFFF), (62, 1, 0x3F)]

def State.takeFields (s : State) (aid : Nat) (fs : List (Nat × Nat × Nat)) : State :=
  fs.foldl (fun s f => s.cxSet aid f.1 f.2.1 (s.mem (ctxData + f.1) f.2.1 &&& f.2.2)) s

/-- WRITE: the H bytes, and with DRIFT_LOAD the D* bytes. A link that LINKS gives up gives back the station's frames (R129). -/
def State.ctxWrite (s : State) (aid : Nat) (drift : Bool) : State :=
  let was := s.cxState aid
  let s1 := (s.takeFields aid hFields)
  let s2 := if drift then s1.takeFields aid dFields else s1
  let s3 := if s2.cxState aid = 0 then s2 else s2.cxSet aid 0 2 aid
  let s4 := if s3.cxState aid = 0 then s3 else (s3.rxFlags aid).recallUnfit aid
  if was ≠ 1 ∧ s4.cxState aid = 1 then s4.upMerge.enterAssoc aid else s4

/-- Every frame that waits in a station's queues is released. -/
def State.dropQueues (s : State) (aid : Nat) : State :=
  (List.range 9).foldl (fun s t => ((s.stq aid t).foldl (fun s f => s.freeFrame f) s).setStq aid t []) s

/-! ### The plan bank checks (R111, R120) -/

/-- A window whose KIND, START or END breaks R111 by itself. -/
def windowBad (bi len : Nat) (w : Window) : Bool :=
  decide (9 < w.kind) || decide (len * turnTicks ≤ w.start) || decide (w.end_ < w.start) ||
    (decide (w.start < w.end_) && decide (w.start / turnTicks ≠ (w.end_ - 1) / turnTicks)) ||
    (decide (w.kind = 1) && (decide (bi = 0) || decide (len * 1024 % bi ≠ 0) || decide (w.start % (bi * 0x4000) ≠ 0)))

/-- Ascending START order without overlap. -/
def windowsInOrder : List Window → Bool
  | [] => true
  | [_] => true
  | a :: b :: t => decide (a.start ≤ b.start) && decide (a.end_ ≤ b.start) && windowsInOrder (b :: t)

def State.bankBad (s : State) (r : Nat) (b : Bool) (len : Nat) : Bool :=
  let ws := s.bank r b
  ws.any (windowBad (s.get (ACC_BCN_CFG_BI r)) len) || !windowsInOrder ws

/-- The first turn at or after `t` that is a multiple of `l`. -/
def cycleFrom (t l : Nat) : Nat := (t + l - 1) / l * l

/-- ARM (R111, R112): a bank that fails a check is refused; an activation turn that has passed takes the next cycle. -/
def State.armBank (s : State) (r : Fin 3) (b : Bool) (len turn : Nat) : State :=
  if s.bankBad r b len then s.raise ACC_EVT_PLAN_BAD
  else
    let late := s.running && decide (turn ≤ s.turn)
    let at_ := if late then cycleFrom (s.turn + 1) len else cycleFrom turn len
    let a : PlanArm := ⟨b, len, at_⟩
    let s1 := { s with acc := { s.acc with arms := s.acc.arms.set r (some a) } }
    (s1.put (ACC_PLAN_STAT_ARMED r) 1).raiseIf late ACC_EVT_SWAP_LATE

/-- A bank is no longer armed; a plan of Afette is no longer kept out by it (R190). -/
def State.cancelBank (s : State) (r : Fin 3) : State :=
  ({ s with acc := { s.acc with arms := s.acc.arms.set r none },
            clu := { s.clu with planBad := withBit s.clu.planBad (3 + r.val) false } }).put (ACC_PLAN_STAT_ARMED r) 0

/-- A write of ACC_PLAN_CMD: RADIO 3 ignores it; ARM, then CANCEL. -/
def State.planCmd (s : State) (v : Word) : State :=
  if h : v.toNat % 4 < 3 then
    let r : Fin 3 := ⟨v.toNat % 4, h⟩
    let turn := (s.rd ACC_PLAN_TURN_LO).toNat + 2 ^ 32 * ((s.rd ACC_PLAN_TURN_HI).toNat % 256)
    let s1 := if v.getLsbD 16 then s.armBank r (v.getLsbD 2) (v.toNat / 256 % 256 + 1) turn else s
    if v.getLsbD 17 then s1.cancelBank r else s1
  else s

/-- PLAN_ARM: the command word with ARM set. -/
def execPlanArm (radio : BitVec 2) (bank : Bool) (len : BitVec 8) (cancel : Bool) (s : State) : Out State :=
  .next (s.hostAt none ACC_PLAN_CMD fun (s : State) => s.planCmd (BitVec.ofNat 32 (radio.toNat + (if bank then 4 else 0) + 256 * len.toNat + 2 ^ 16 +
    (if cancel then 2 ^ 17 else 0))))

/-- PLAN_CANCEL: the command word with CANCEL set. -/
def execPlanCancel (radio : BitVec 2) (bank : Bool) (len : BitVec 8) (s : State) : Out State :=
  .next (s.hostAt none ACC_PLAN_CMD fun (s : State) =>
    s.planCmd (BitVec.ofNat 32 (radio.toNat + (if bank then 4 else 0) + 256 * len.toNat + 2 ^ 17)))

/-- An armed bank becomes the active one. -/
def State.swapTo (s : State) (r : Fin 3) (a : PlanArm) : State :=
  let s1 := (s.cancelBank r).putB (ACC_PLAN_STAT_ACT_BANK r) a.bank
  ((s1.put (ACC_PLAN_STAT_RUNNING r) 1).put (ACC_PLAN_STAT_LEN r) (a.len - 1)).put (ACC_PLAN_STAT_NWIN r) (s.bank r a.bank).length

/-- PLAN_SWAP: at the turn start it waits for, an armed bank becomes active (R112). -/
def State.planSwap (s : State) (r : Fin 3) : State :=
  match s.acc.arms[r] with
  | some a => if s.atTurnStart && decide (a.turn ≤ s.turn ∧ s.turn % a.len = 0) then s.swapTo r a else s
  | none => s

/-- A bank whose turn came while the core die was away is active when it is back (R318). -/
def State.swapLate (s : State) (r : Fin 3) : State :=
  match s.acc.arms[r] with
  | some a => if s.running && decide (a.turn ≤ s.turn) then s.swapTo r a else s
  | none => s

def execPlanSwap (r : Fin 3) (s : State) : Out State := .next (s.clocked fun (s : State) => s.planSwap r)

/-! ### Operation words (R75) -/

def wSync : Nat := 1
def wWaitAt (t : Nat) : Nat := 2 + 2 ^ 8 * (t % turnTicks)
def wPrep (i : Nat) : Nat := 6 + 2 ^ 8 * i
def wHop : Nat := 7
def wRxwin (e prof : Nat) : Nat := 8 + 2 ^ 8 * (e % turnTicks) + 2 ^ 32 * 15 + 2 ^ 36 * (prof % 16)
def wTxq (dl e q : Nat) : Nat := 9 + 2 ^ 8 * (dl % turnTicks) + 2 ^ 32 * (e % turnTicks) + 2 ^ 56 * 15 + 2 ^ 60 * q
def wTxtpl (t dl : Nat) : Nat := 10 + 2 ^ 8 * t + 2 ^ 16 * (dl % turnTicks) + 2 ^ 40 * 15
def wJump (a : Nat) : Nat := 13 + 2 ^ 8 * (a % 4096)

/-! ### Placements (R107, R123, R436) -/

/-- The tick of a station's first transmission in a window. It takes a service period only of a station with FLAGS.TWT (R107; DESIGN
CHOICE, log entry 28). -/
def State.placement (s : State) (w : Window) (start end_ aid : Nat) : Nat :=
  let sp := if s.cxBit aid 3 3 then s.spIn aid start end_ else none
  let e := match sp with
    | some e => e
    | none => if w.slotStart then (slotOf w start end_ aid).1 else start
  let (pred, err) := s.predict aid e
  let ann := decide (w.kind = 3) && sp.isSome && !s.cxBit aid 3 4
  let p : Int := if ann then (e : Int) + s.get ACC_DRIFT_LAT_TX_LAT + pred / 16 + err + s.gate
    else if w.drift then (e : Int) + pred / 16 + err + s.get ACC_DRIFT_LAT_STA_RDY
    else if w.slotStart then ((slotOf w start end_ aid).1 : Int) else (start : Int)
  (max (start : Int) p).toNat

/-- In an announced service period in this window; with its nominal start. -/
def State.announced (s : State) (w : Window) (start end_ aid : Nat) : Option Nat :=
  if decide (w.kind = 3) && s.cxBit aid 3 3 && !s.cxBit aid 3 4 then s.spIn aid start end_ else none

/-- Insert a tick in rising order without repeats. -/
def insertTick (p : Nat) : List Nat → List Nat
  | [] => [p]
  | a :: t => if p < a then p :: a :: t else if p = a then a :: t else a :: insertTick p t

/-- The placements of a window in rising order (R436). -/
def State.placements (s : State) (r : Nat) (w : Window) (start end_ : Nat) : List Nat :=
  if !w.tx then []
  else if w.kind = 8 then [start]
  else
    let st := s.aids.filter (s.inGroup r w)
    let single := !w.drift && !w.slotStart && st.all (fun a => (s.announced w start end_ a).isNone)
    if single then [start].filter (fun p => decide (p + 0x100 ≤ end_))
    else
      let own := st.map (s.placement w start end_)
      let slots := if w.slotStart && !w.drift then
          (if w.slots = 0 then [start] else (List.range w.slots).map (fun k => start + k * slotTicks w))
        else []
      ((own ++ slots).filter (fun p => decide (p + 0x100 ≤ end_))).foldl (fun l p => insertTick p l) []

/-- The operations laid out between placements (R436). -/
def layOut (w : Window) (start end_ q : Nat) : List Nat → List Nat
  | [] => [if w.rx then wRxwin end_ w.profile else wWaitAt end_]
  | p :: t =>
    (if p = start then [] else [if w.rx then wRxwin p w.profile else wWaitAt p]) ++
      wTxq (p + 0x100) (match t with
        | [] => end_
        | n :: _ => n) q :: layOut w start end_ q t

/-- A window's placements and the stations of each, as they are generated (R436). -/
def State.placedIn (s : State) (r : Nat) (x : Window × Nat × Nat) : Placed :=
  let (w, start, end_) := x
  { start := start, ticks := if w.kind = 5 ∧ !w.drift ∧ !w.slotStart then [start] else s.placements r w start end_,
    stations := (s.aids.filter (s.inGroup r w)).map (fun a => ⟨a, s.placement w start end_ a, s.announced w start end_ a⟩) }

/-- The starts of a station's wake-up frames in the on-period of nominal start `on`: placement, repeats or one in the centre, and
whether the range could be covered (R123). `f` is the frame's duration. -/
def State.wakeStarts (s : State) (aid on f : Nat) : List Nat × Bool :=
  let (pred, err) := s.predict aid on
  let st : Int := (on : Int) + pred / 16
  let dur : Int := 16 * s.cx aid 92 2
  let rep := atLeast1 (s.get ACC_WUR_CFG_REP_MAX)
  let f := atLeast1 f
  let n := ((2 * err).toNat + f - 1) / f + 1
  if st + err + f ≤ st + dur - err then ([(st + err).toNat], true)
  else if n ≤ rep then ((List.range n).map (fun (k : Nat) => (st - err + (k : Int) * f).toNat), true)
  else ([(st + dur / 2 - f / 2).toNat], false)

/-- The station's on-periods, from the next one, whose frames begin before a tick. -/
def State.wurPeriods (s : State) (aid f hi : Nat) : List Nat :=
  let on := unpackTick (s.cx aid 80 8)
  let per := s.cx aid 88 4
  if per = 0 then []
  else ((List.range ((hi + turnTicks - on) / per + 1)).map (fun k => on + k * per)).filter (fun o =>
    decide ((s.wakeStarts aid o f).1.headD hi < hi))

/-- A frame that starts at `p` lies within a WUR window on WUR_CH of the windows `ws` of a radio. -/
def State.inWur (s : State) (r aid f : Nat) (ws : List (Window × Nat × Nat)) (p : Nat) : Bool :=
  ws.any (fun x => decide (x.1.kind = 4) && decide (s.cx aid 94 1 = x.1.chidx) && s.inGroup r x.1 aid &&
    decide (x.2.1 ≤ p ∧ p + atLeast1 f ≤ x.2.2))

/-- The radio whose generation serves a station's on-periods of turn `t`: the first of its scheduled links that has a WUR window
for one of its frames, else the first of them. -/
def State.wakeRadio (s : State) (aid f t : Nat) : Option Nat :=
  let ls := (List.range 3).filter (fun q => s.cxBit aid 10 q && decide (s.get ACC_CTL_LINK_EN / 2 ^ q % 2 = 1))
  let ps := (s.wurPeriods aid f ((t + 1) * turnTicks)).flatMap (fun o => (s.wakeStarts aid o f).1)
  (ls.find? (fun q => ps.any (s.inWur q aid f ((s.windowsIn q t).filter (fun x => s.windowRuns x.1))))).orElse (fun _ => ls.head?)

/-- Insert a tick in rising order. -/
def insertRep (p : Nat) : List Nat → List Nat
  | [] => [p]
  | a :: t => if p ≤ a then p :: a :: t else a :: insertRep p t

/-- One TXTPL per wake-up frame; the wait before it is left out where the frame before leaves no time for it. -/
def wakeOps (tpl end_ f : Nat) : Nat → List Nat → List Nat
  | _, [] => []
  | free, t :: l => (if free + 0x80 ≤ t then [wWaitAt (t - 0x80)] else []) ++
      wTxtpl tpl end_ :: wakeOps tpl end_ f (max free t + atLeast1 f) l

/-- The station owes a wake-up frame (R123). -/
def State.owesWake (s : State) (aid : Nat) : Bool :=
  s.cxBit aid 11 1 && s.cxBit aid 11 3 && !s.cxBit aid 11 4 && decide (s.cx aid 88 4 ≠ 0)

/-! ### The uplink's listen ranges (R125) -/

/-- GUARD × 2^MISS, widened by SPN_EST_ERR (R118, R125). -/
def State.upGuard (s : State) : Nat := s.get ACC_UP_GUARD_GUARD * 2 ^ s.get ACC_UP_STAT_MISS + s.estErr

/-- The listen range of a TBTT. -/
def State.upRange (s : State) (tbtt : Nat) : Nat × Nat :=
  (tbtt - s.upGuard, tbtt + s.upGuard + s.get ACC_UP_GUARD_BCN_MAX)

/-- The listen ranges that lie wholly inside a window, in time order. -/
def State.upRanges (s : State) (start end_ : Nat) : List (Nat × Nat) :=
  if s.acc.upBi = 0 ∨ s.get ACC_UP_STAT_STATE ≠ 1 then []
  else
    let n := (end_ - s.acc.upTbtt) / s.acc.upBi + 1
    ((List.range n).map (fun k => s.upRange (s.acc.upTbtt + k * s.acc.upBi))).filter
      (fun x => decide (start ≤ x.1 ∧ x.2 ≤ end_))

/-- The operations of a gap of an UPLINK window (R127). -/
def State.upGap (s : State) (w : Window) (a b : Nat) : List Nat :=
  if b ≤ a then []
  else if s.get ACC_UP_STAT_STATE = 1 then
    (if a + 0x200 ≤ b then [wTxq (a + 0x100) b 15, wRxwin b w.profile] else [])
  else [wRxwin b w.profile]

/-- The operations of the gaps and listen ranges of an UPLINK window. -/
def State.upOps (s : State) (w : Window) (end_ : Nat) : Nat → List (Nat × Nat) → List Nat
  | a, [] => s.upGap w a end_
  | a, x :: t => s.upGap w a x.1 ++ [wWaitAt (x.1 - 0x60), wRxwin x.2 w.profile] ++ s.upOps w end_ x.2 t

/-- The operations of one window and the tick of its first transition (R114). No transmission begins before its window, so
an UPLINK window whose first operation is not a wait begins with one, as every other window does (DEDUCED, log entry 28). -/
def State.windowOps (s : State) (r : Nat) (wurDur : Nat) (w : Window) (start end_ : Nat) : List Nat × Nat :=
  match w.kind with
  | 1 => ([wWaitAt (start - 0x80), wTxtpl w.param end_], start - 0x80)
  | 4 =>
    let t := start / turnTicks
    let ts := (s.aids.filter (fun a => s.owesWake a && s.wakeRadio a wurDur t == some r)).flatMap (fun a =>
      ((s.wurPeriods a wurDur ((t + 1) * turnTicks)).flatMap (fun o => (s.wakeStarts a o wurDur).1)).filter
        (s.inWur r a wurDur [(w, start, end_)]))
    (wakeOps w.param end_ wurDur 0 (ts.foldl (fun l p => insertRep p l) []), start - 0x80)
  | 7 =>
    -- The station-role operations are the uplink radio's alone (R127).
    if r ≠ s.get ACC_UP_CFG_RADIO then ([], start)
    else match s.upOps w end_ start (s.upRanges start end_) with
    | [] => ([], start)
    | o :: t =>
      let f := if o % 64 = 9 then start - 0x80 else start - 0x60
      (if o % 64 = 2 then o :: t else wWaitAt f :: o :: t, f)
  | 9 => ([wWaitAt end_], start)
  | 5 =>
    if w.drift || w.slotStart then
      let f := if w.rx then start - 0x60 else start - 0x80
      (wWaitAt f :: layOut w start end_ 0 (s.placements r w start end_), f)
    else ([wWaitAt (start - 0x80), wTxq (start + 0x100) end_ 0], start - 0x80)
  | k =>
    let f := if w.rx then start - 0x60 else start - 0x80
    (wWaitAt f :: layOut w start end_ (if k = 8 then 14 else 0) (s.placements r w start end_), f)

/-- The body of a half: operations of the windows that fit, those windows, whether any was cut (R113, R114). The PREP of a half's
first window stands at its head, where the window before it lies in an earlier half (DESIGN CHOICE, log entry 28). -/
def State.halfBody (s : State) (r wurDur room : Nat) :
    Option Nat → List (Window × Nat × Nat) → List Nat × List (Window × Nat × Nat) × Bool
  | _, [] => ([], [], false)
  | ch, (w, a, b) :: t =>
    let (ops, first) := s.windowOps r wurDur w a b
    let pre := if ch = some w.chidx then [] else [wPrep w.chidx, wWaitAt (first - 0x20), wHop]
    if room < pre.length + ops.length then ([], [], true)
    else
      let (rest, l, cut) := s.halfBody r wurDur (room - pre.length - ops.length) (some w.chidx) t
      (pre ++ ops ++ rest, (w, a, b) :: l, cut)

/-- The core die writes an operation into program memory; the Frond link carries it, so that it is lost while the link is down
(R15, R17). -/
def State.progSet (s : State) (r a w : Nat) : State := if s.flag SYS_DIE_STAT_FRN_UP then s.memSet (progAddr r a) 8 w else s

/-- Write operations one after the other into program memory. -/
def State.writeOps (s : State) (r a : Nat) : List Nat → State
  | [] => s
  | w :: t => (s.progSet r a w).writeOps r (a + 1) t

/-- A station's on-periods of turn `t` in the books of the radio that serves it: frames sent, wide or deferred, WUR_ON moved on
(R102, R123). `ws` are the radio's windows, `kept` those of a half that will run. -/
def State.wakeBook (s : State) (r wurDur t : Nat) (ws kept : List (Window × Nat × Nat)) (a : Nat) : State :=
  let ps := s.wurPeriods a wurDur ((t + 1) * turnTicks)
  if ps = [] ∨ s.wakeRadio a wurDur t ≠ some r then s
  else
    let one := fun (s : State) (on : Nat) =>
      let (ts, ok) := s.wakeStarts a on wurDur
      if !ts.any (s.inWur r a wurDur ws) then
        (if ts.all (fun p => decide (p < t * turnTicks)) then s else s.bump ACC_CNT_WUR_DEFER)
      else
        match ts.filter (s.inWur r a wurDur kept) with
        | [] => s
        | p :: _ =>
          let s1 := if (SMap.get (fun _ => none) s.acc.woken a).isSome then s
            else { s with acc := { s.acc with woken := SMap.set (fun _ => none) s.acc.woken a (some p) } }
          if ok then s1 else (s1.bump ACC_CNT_WUR_WIDE).raise ACC_EVT_WUR_WIDE
    let s1 := if s.owesWake a then ps.foldl one s else s
    s1.cxSet a 80 8 (packTick (ps.getLastD 0 + s.cx a 88 4))

/-- The channel of the window before turn `t`: the last that runs in the turns of one cycle. -/
def State.lastChannel (s : State) (r t : Nat) : Option Nat :=
  (List.range (min (s.planLen r) (t + 1))).findSome? (fun k =>
    ((s.windowsIn r (t - k)).filter (fun x => s.windowRuns x.1)).getLast?.map (fun x => x.1.chidx))

/-- A window's placements need its stations' contexts: for their drift, their service periods or their on-periods. -/
def Window.needsContext (w : Window) : Bool := (w.tx && (w.drift || w.kind == 3)) || w.kind == 4

def State.genBase (s : State) (r : Nat) : Nat := s.get (ACC_GEN_CFG_BASE r)
def State.genHalf (s : State) (r : Nat) : Nat := s.get (ACC_GEN_CFG_HALF r)

/-- GENERATE_HALF: at a turn start the half for the next turn is written in the order of R113. `took` is the time that
steps 1 to 3 take, in ticks, and never beyond R113's bound; `wurDur` the duration of a wake-up frame. With the Frond link down the
half is not written, and so not completed. The contexts that it reads leave the cache as it is (R101; DESIGN CHOICE, log entry 28). -/
def State.generateHalf (s : State) (r : Fin 3) (took wurDur : Nat) : State :=
  let base := s.genBase r
  let half := s.genHalf r
  if !s.flag ACC_CTL_EN || !s.placing || !s.serving then s
  -- A deposed device's radios stay silent (R179): its halves keep SYNC.
  else if s.get CLU_STAT_STATE = 5 then s
  else if half = 0 then s
  else if half < 16 ∨ 4096 < base + 2 * half then s.raise ACC_EVT_PLAN_BAD
  else
    let t := s.turn + 1
    let h := base + t % 2 * half
    if s.get ACC_CTL_LINK_EN / 2 ^ r.val % 2 = 0 then s.progSet r h wSync
    else
      let main := s.get (FRN_SEQ_ENTRY_MAIN r)
      let ws := (s.windowsIn r t).filter (fun x => s.windowRuns x.1)
      let s0 := if s.planBase = 0 ∨ s.planAt r t = none then s.raiseSrc 5 5 0x12 else s
      let (ops, kept, cut) := s0.halfBody r wurDur (half - 4) (s0.lastChannel r s.turn) ws
      let cold := s.aids.filter (fun a => !s.acc.cache.contains a && ws.any (fun x => s.inGroup r x.1 a && x.1.needsContext))
      let bound := (100 * (ops.length + 5) + 3000 * cold.length) * 2 / 125
      let s1 := (s0.writeOps r h [wSync, wJump main]).writeOps r (h + 2) (ops ++ [wSync, wJump main])
      let s2 := if cut then (s1.bump ACC_CNT_GEN_LATE).raise ACC_EVT_GEN_LATE else s1
      let done := s.flag SYS_DIE_STAT_FRN_UP && decide (s.angle + min took bound < (s.rd ACC_GEN_DONE).toNat % 2 ^ 24)
      let s3 := (s.aids.foldl (fun (s : State) a => s.wakeBook r wurDur t ws (if done then kept else []) a) s2).accShow
      if done then
        let ps := ((kept.filter (fun x => x.1.tx)).map (s0.placedIn r)) ++
          s3.acc.placed[r].filter (fun g => decide (s.turn ≤ g.start / turnTicks))
        ({ s3 with acc := { s3.acc with genTurn := s3.acc.genTurn.set r (some t), placed := s3.acc.placed.set r ps } }).progSet r h
          (wJump (h + 2))
      else s3

def execGenerateHalf (r : Fin 3) (took wurDur : BitVec 24) (s : State) : Out State :=
  .next (s.clocked fun (s : State) => s.generateHalf r took.toNat wurDur.toNat)

/-- GEN_DEADLINE: the angle ACC_GEN_DONE; a half that is not complete stays SYNC and is counted late. -/
def State.genDeadline (s : State) (r : Fin 3) : State :=
  if s.flag ACC_CTL_EN && s.placing && decide (s.get CLU_STAT_STATE ≠ 5) && decide (s.get ACC_CTL_LINK_EN / 2 ^ r.val % 2 = 1) &&
      decide (16 ≤ s.genHalf r ∧ s.genBase r + 2 * s.genHalf r ≤ 4096) then
    let t := s.turn + 1
    let s1 := s.toAbsTick (s.turn * turnTicks + (s.rd ACC_GEN_DONE).toNat % 2 ^ 24)
    if s.acc.genTurn[r] = some t then s1
    else ((s1.progSet r (s.genBase r + t % 2 * s.genHalf r) wSync).bump ACC_CNT_GEN_LATE).raise ACC_EVT_GEN_LATE
  else s

def execGenDeadline (r : Fin 3) (s : State) : Out State := .next (s.clocked fun (s : State) => s.genDeadline r)

/-- ACC_CTL_WRITE: EN 0 writes SYNC to word 0 of every half at once. -/
def State.accCtlWrite (s : State) (en : Bool) (links : Nat) : State :=
  let s1 := (s.putB ACC_CTL_EN en).put ACC_CTL_LINK_EN links
  let s2 := if en then s1 else
    (List.range 3).foldl (fun s r => if s.genHalf r = 0 then s else
      (s.progSet r (s.genBase r) wSync).progSet r (s.genBase r + s.genHalf r) wSync) s1
  s2.accShow

def execAccCtlWrite (en : Bool) (linkEn : BitVec 3) (s : State) : Out State :=
  .next (s.hostAt none ACC_CTL fun (s : State) => s.accCtlWrite en linkEn.toNat)

/-! ### Received frames (R97, R101, R104, R108, R124, R130, R137, R142) -/

/-- The service period, or slot, of a station that a captured tick lies in: nominal start and whether it is a service
period. -/
def State.periodOf (s : State) (r aid t : Nat) : Option (Nat × Bool) :=
  let step := s.cx aid 72 6
  let n := unpackTick (s.cx aid 64 8)
  -- By the station's own clock, the periods about the tick from the next one on; and the period that has passed last.
  let k := if step = 0 then 0 else (((t : Int) - (s.predict aid n).1 / 16 - n) / step).toNat
  let sps := if step = 0 then [] else
    [n + k * step, n + (k + 1) * step, n + (k - 1) * step] ++ (SMap.get (fun _ => none) s.acc.passedSp aid).toList
  match sps.find? (fun e => s.inPeriod aid e (16 * s.cx aid 78 2) t) with
  | some e => some (e, true)
  | none =>
    let u := t / turnTicks
    (((s.windowsIn r u ++ s.windowsIn r (u - 1) ++ s.windowsIn r (u + 1)).filter (fun x =>
        x.1.slotStart && s.windowRuns x.1 && s.inGroup r x.1 aid)).findSome?
      (fun x => let (e, d) := slotOf x.1 x.2.1 x.2.2 aid
                if s.inPeriod aid e d t then some (e, false) else none))

/-- The last period or slot of a station in which a frame that it initiated was taken. -/
def State.ownRx (s : State) (aid : Nat) : Option OwnRx := SMap.get (fun _ => none) s.acc.firstIn aid

/-- The station's own first frame of its present period has come, in the period of nominal start `e` (R115). -/
def State.opened (s : State) (aid e : Nat) : Bool := (s.ownRx aid).any (fun g => decide (g.start = e))

def State.setOwnRx (s : State) (aid : Nat) (g : OwnRx) : State :=
  { s with acc := { s.acc with firstIn := SMap.set (fun _ => none) s.acc.firstIn aid (some g) } }

/-- A frame that the station initiated in its period of nominal start `e`: the first captured is the anchor, every other bound. One
captured before what has come already is put in its place, and the estimate is made anew (R35, R104; DEDUCED, log entry 28). -/
def State.ownFrame (s : State) (aid e t : Nat) : State :=
  match (s.ownRx aid).filter (fun g => decide (g.start = e)) with
  | none => (s.setOwnRx aid ⟨e, s.cx aid 32 31, [t]⟩).anchor aid e t
  | some g =>
    let ts := insertRep t g.ticks
    let s1 := s.setOwnRx aid { g with ticks := ts }
    if g.ticks.all (fun u => decide (u ≤ t)) then s1.boundFrame aid e t
    else match ts with
      | a :: l => l.foldl (fun (s : State) u => s.boundFrame aid e u) ((s1.cxSet aid 32 31 g.was).anchor aid e a)
      | [] => s1

/-- Every frame updates RX_CNT, clears DORMANT and ends a wake, and LAST_RX, RSSI, LAST_SRC and the power save bit are those of the
frame last captured (R35, R104, R123); then its class updates the estimate. -/
def State.classify (s : State) (aid : Nat) (x : RxItem) : State :=
  let f := x.frame
  let last := x.tick.all (fun t => decide (unpackTick (s.cx aid 52 8) ≤ t))
  let s0 := (s.cxBump aid 168 4 1).cxPutBit aid 11 2 false
  let s2 := if last then
      ((s0.cxSet aid 180 1 x.rssi.toNat).cxSet aid 181 1 (x.radio.val + 4 * x.chainNo)).cxPutBit aid 11 0 f.pm
    else s0
  let s3 := match SMap.get (fun _ => none) s2.acc.woken aid with
    | some w =>
      if w ≤ x.tick.getD s2.absTick then
        ({ s2 with acc := { s2.acc with woken := SMap.set (fun _ => none) s2.acc.woken aid none } }).cxPutBit aid 11 4 true
      else s2
    | none => s2
  match x.tick with
  | none => s3
  | some t =>
    let s4 := if last then s3.cxSet aid 52 8 (packTick t) else s3
    match s3.periodOf x.radio aid t with
    | none => s4
    | some (e, sp) =>
      let s5 := if sp then { s4 with acc := { s4.acc with seenIn := SMap.set (fun _ => none) s4.acc.seenIn aid (some e) } } else s4
      if f.initiated then s5.ownFrame aid e t else s5

/-- The duplicate cache entry of a frame: traffic identifier 0 to 7, or 8 for the rest (R124). -/
def dupEntry (f : AirFrame) : Nat := if f.kind = .qos then f.tid.toNat else 8

/-- The word that a duplicate cache entry takes (R102). -/
def dupWord (f : AirFrame) (lid : Nat) : Nat := f.sn.toNat + 2 ^ 12 * f.fn.toNat + 2 ^ 16 * lid + 2 ^ 18

/-- A receive Block Ack agreement covers the frame. -/
def State.underBa (s : State) (aid : Nat) (f : AirFrame) : Bool := decide (f.kind = .qos) && !f.group && s.cxBit aid 194 f.tid.toNat

/-- What the duplicate cache and the rule of R137 say of a frame: 0 pass, 1 single-link duplicate, 2 cross-link
duplicate, 3 old. -/
def State.dupCheck (s : State) (aid : Nat) (x : RxItem) : Nat :=
  let f := x.frame
  if s.underBa aid f then 0
  else
    let w := s.cx aid (128 + 4 * dupEntry f) 4
    let valid := decide (w / 2 ^ 18 % 2 = 1)
    let same := valid && f.retry && decide (w % 2 ^ 16 = f.sn.toNat + 2 ^ 12 * f.fn.toNat)
    if same && decide (w / 2 ^ 16 % 4 = x.radio.val) then 1
    else if same && decide (1 < s.memberCount aid) then 2
    else
      let back := (w % 4096 + 4096 - f.sn.toNat) % 4096
      if valid && decide (f.kind = .qos) && decide (1 < s.memberCount aid) && decide (1 ≤ back ∧ back ≤ 2047) then 3 else 0

/-- The frame of a station whose context is at hand. -/
def State.stationRx (s : State) (aid : Nat) (x : RxItem) : State :=
  let s1 := s.classify aid x
  let drop := fun (s : State) => s.release x.chain ownAirRx
  let dup := fun (s : State) => s.cxBump aid 176 2 1
  match s1.dupCheck aid x with
  | 1 => drop ((dup s1).bump ACC_CNT_DUP)
  | 2 => drop ((dup (s1.bump MLK_CNT_DUP_X)).cxBump aid 220 4 1)
  | 3 => drop (s1.bump MLK_CNT_OLD)
  | _ =>
    if x.frame.kind = .ctrl then drop s1
    else { s1 with cipq := s1.cipq ++ [{ item := x, aid := aid }] }

/-- A frame that matches no member goes to the blank's actions as from an unassociated station (R130). -/
def State.noLink (s : State) (x : RxItem) : State :=
  let s1 := ((s.bump MLK_CNT_NOLINK).raise MLK_EVT_NOLINK).moveRef x.chain ownAirRx ownMlk
  let p : Packet := { chain := x.chain, src := 0, port := x.radio, tick := (x.tick.map packTick).getD 0, narrow := x.narrow,
                      tag := x.tag, stampOk := x.tick.isSome, lid := x.radio, chainNo := x.chainNo, rssi := x.rssi,
                      unassoc := true, tid := dupEntry x.frame, ta := x.frame.ta, bytes := etherOf x.frame }
  { s1 with prsq := s1.prsq ++ [p] }

/-- STATION_FRAME_RX: the next frame from the Frond link, unless it is a flood frame. -/
def State.stationFrameRx (s : State) : State :=
  match s.rxq with
  | x :: t =>
    if x.frame.kind = .flood then s
    else
      let s1 := { s with rxq := t }
      match s1.rxAid x.radio x.frame with
      | none => s1.noLink x
      | some aid =>
        if s1.acc.cache.contains aid && !s1.acc.fetching.any (fun w => w.1 == aid) then (s1.cacheTouch aid).stationRx aid x
        else
          let s2 := if s1.acc.fetching.any (fun w => w.1 == aid) then s1 else s1.bump ACC_CNT_CACHE_MISS
          { s2 with acc := { s2.acc with fetching := s2.acc.fetching ++ [(aid, x)] } }
  | [] => s

/-- CONTEXT_FETCH_DONE: the frames that waited for the context follow in arrival order (R101). -/
def State.fetchDone (s : State) (aid : Nat) : State :=
  let mine := s.acc.fetching.filter (fun w => w.1 == aid)
  let s1 := { s with acc := { s.acc with fetching := s.acc.fetching.filter (fun w => w.1 != aid) } }
  if mine = [] then s else mine.foldl (fun s w => s.stationRx aid w.2) (s1.cacheTouch aid)

/-- STATION_DORMANT: DORMANT_TURNS without a frame, at a turn start (R108). -/
def State.stationDormant (s : State) (aid : Nat) : State :=
  let last := max (SMap.get (fun _ => 0) s.acc.assocTurn aid) (unpackTick (s.cx aid 52 8) / turnTicks)
  if s.atTurnStart && decide (s.cxState aid = 1) && decide (atLeast1 (s.get ACC_STA_CFG_DORMANT_TURNS) ≤ s.turn - last) then
    s.cxPutBit aid 11 2 true
  else s

def execStationDormant (aid : BitVec 13) (s : State) : Out State := .next (s.clocked fun (s : State) => s.stationDormant aid.toNat)

/-- SERVICE_PERIOD_END: a period passes; with no frame in it MISS_CNT counts, whether or not the station has an anchor (R108; DESIGN
CHOICE, log entry 28), and NEXT_SP moves on (R102). -/
def State.servicePeriodEnd (s : State) (aid : Nat) : State :=
  let step := s.cx aid 72 6
  if step = 0 ∨ s.cxState aid = 0 ∨ s.placing = false then s
  else
    let e := unpackTick (s.cx aid 64 8)
    let (pred, err) := s.predict aid e
    let s1 := s.toAbsTick ((e : Int) + 16 * s.cx aid 78 2 + pred / 16 + err + s.gate).toNat
    let s2 := if SMap.get (fun _ => none) s1.acc.seenIn aid = some e then s1 else s1.cxBump aid 178 2 1
    ({ s2 with acc := { s2.acc with passedSp := SMap.set (fun _ => none) s2.acc.passedSp aid (some e) } }).cxSet aid 64 8
      (packTick (e + step))

def execServicePeriodEnd (aid : BitVec 13) (s : State) : Out State := .next (s.clocked fun (s : State) => s.servicePeriodEnd aid.toNat)

/-- WOKE_EXPIRY: a whole WUR_PERIOD with no frame from the station clears WOKE (R123). -/
def State.wokeExpiry (s : State) (aid : Nat) : State :=
  if s.cxBit aid 11 4 ∧ s.cx aid 88 4 ≠ 0 ∧ s.placing = true then
    (s.toAbsTick (unpackTick (s.cx aid 52 8) + s.cx aid 88 4)).cxPutBit aid 11 4 false
  else s

def execWokeExpiry (aid : BitVec 13) (s : State) : Out State := .next (s.clocked fun (s : State) => s.wokeExpiry aid.toNat)

/-! ### Frames toward the air (R96, R117, R126) -/

/-- An MPDU of this length would exceed the limit at queuing (R96). -/
def State.overLimit (s : State) (aid len : Nat) : Bool :=
  decide ((if aid = 0 then s.upLimit else s.mpduLimit aid [0, 1, 2]) < len)

/-- A frame joins its station's queue; AID 0 stands for the upstream AP (R127), and the AIDs of the upstream peer share one
braid (R131). Over the station's limit it is dropped
before it is queued (R96). -/
def State.enqueue (s : State) (dst tid chain len : Nat) (kind : TxKind) (air : AirTime) (robust eapol : Bool) : State :=
  let aid := s.braidAid dst
  let gone := decide (aid ≠ 0 ∧ s.cxState aid = 0)
  if gone || s.overLimit aid len then
    (if gone then s else s.bump ACC_CNT_TX_OVERSIZE).release chain ownAcc
  else
    let q := if aid = 0 then 15 else tid
    let f : TxFrame := { fid := s.acc.nextFid, chain := chain, aid := aid, kind := if aid = 0 then .uplink else kind, tid := q,
                         len := len, air := air, turn := s.turn, robust := robust, eapol := eapol }
    ({ s with acc := { s.acc with nextFid := s.acc.nextFid + 1 } }).setStq aid q (s.stq aid q ++ [f])

/-- STATION_ENQUEUE: the router has placed a frame for a station; its packet takes buffers of owner ACC. -/
def State.stationEnqueue (s : State) (aid tid len : Nat) (mgmt robust eapol : Bool) (air : AirTime) (data : List Byte) : State :=
  match s.alloc ownAcc len data with
  | (s1, some id) => s1.enqueue aid (if mgmt then 8 else min tid 8) id len (if mgmt then .mgmt else .data) air robust eapol
  | (s1, none) => s1

def execStationEnqueue (aid : BitVec 13) (tid : BitVec 4) (len : BitVec 14) (mgmt robust eapol : Bool) (air : AirTime)
    (data : List Byte) (s : State) : Out State :=
  .next (s.clocked fun (s : State) => s.stationEnqueue aid.toNat tid.toNat len.toNat mgmt robust eapol air data)

/-- SUSP of the station-role link of an uplink braid (R131). -/
def State.upSusp (s : State) (b : Bool) : State :=
  match s.upAid with
  | some p => if s.cxState p = 0 then s else (s.cxPutBit p 192 (s.get ACC_UP_CFG_RADIO + 3) b).rxFlags p
  | none => s

/-! ### The uplink (R125, R126) -/

/-- The tick lies in an UPLINK window of the uplink radio's plan; answers its bounds. -/
def State.upWindow (s : State) (t : Nat) : Option (Nat × Nat) :=
  ((s.windowsIn (s.get ACC_UP_CFG_RADIO) (t / turnTicks)).find?
    (fun x => decide (x.1.kind = 7) && s.windowRuns x.1 && decide (x.2.1 ≤ t ∧ t < x.2.2))).map (·.2)

/-- ACC_UP_TSF and the next TBTT, from a beacon whose TSF at the reference point is `tsf` (R125). -/
def State.upTake (s : State) (tsf : Nat) (bi t : Nat) : State :=
  let us := bi * 1024
  let wait := if us = 0 then 0 else us - tsf % us
  let s1 := s.wr64 ACC_UP_TSF_LO (BitVec.ofInt 64 ((tsf : Int) - t / 16)).toNat
  ({ s1 with acc := { s1.acc with upBi := us * 16, upTbtt := (t / 16 + wait) * 16 } }).put ACC_UP_STAT_MISS 0

/-- The listen range of a TBTT lies wholly inside an UPLINK window, and is opened. -/
def State.upOpened (s : State) (tbtt : Nat) : Bool :=
  let (lo, hi) := s.upRange tbtt
  (s.upWindow lo).any (fun w => decide (w.1 ≤ lo ∧ hi ≤ w.2))

/-- The first TBTT from `tbtt` on that meets a condition, among `n`. -/
def State.upSeek (s : State) (p : Nat → Bool) : Nat → Nat → Option Nat
  | 0, _ => none
  | n + 1, tbtt => if p tbtt then some tbtt else s.upSeek p n (tbtt + s.acc.upBi)

/-- How many TBTTs two cycles of the uplink radio's plan hold. -/
def State.upCount (s : State) : Nat := 2 * s.planLen (s.get ACC_UP_CFG_RADIO) * turnTicks / atLeast1 s.acc.upBi + 2

/-- The first TBTT from the stored one on whose range is opened: the others count neither as heard nor as missed (R125). -/
def State.upNext (s : State) : Option Nat := s.upSeek s.upOpened s.upCount s.acc.upTbtt

/-- UPLINK_BEACON: a beacon of the upstream BSSID with a good FCS: its timestamp, the µs from the PPDU's start to the
timestamp, the upstream beacon interval in TU, and the captured tick as ticks from now. -/
def State.upBeacon (s : State) (tsf lead bi dt : Nat) : State :=
  let t := s.absTick + dt
  let s1 := s.toAbsTick t
  let at_ := (tsf + 2 ^ 64 - lead) % 2 ^ 64
  match s1.upWindow t with
  | some (a, b) =>
    match s.get ACC_UP_STAT_STATE with
    | 1 =>
      -- The first TBTT from the stored one on whose range is not over at the beacon's tick.
      let k := (t + 1 - (s1.upRange s1.acc.upTbtt).2 + s1.acc.upBi - 1) / atLeast1 s1.acc.upBi
      let (lo, hi) := s1.upRange (s1.acc.upTbtt + k * s1.acc.upBi)
      if s1.acc.upBi = 0 ∨ (lo ≤ t ∧ t < hi ∧ a ≤ lo ∧ hi ≤ b) then s1.upTake at_ bi t else s1
    | 2 => ((s1.upTake at_ bi t).put ACC_UP_STAT_STATE 1).upSusp false
    | _ => s1
  | none => s1

def execUplinkBeacon (tsf : BitVec 64) (lead : BitVec 16) (bi : BitVec 16) (dt : BitVec 24) (s : State) : Out State :=
  .next (s.clocked fun (s : State) => s.upBeacon tsf.toNat lead.toNat bi.toNat dt.toNat)

/-- Nothing is sent on a LOST link: what queue 15 holds comes back to be held (R126; DEDUCED, log entry 28). -/
def State.upRecall (s : State) : State :=
  if h : s.get ACC_UP_CFG_RADIO < 3 then s.recallQueue ⟨s.get ACC_UP_CFG_RADIO, h⟩ 15 (fun _ => true) else s

/-- UPLINK_MISS: a listen range closes without a beacon: the next that is opened. -/
def State.upMiss (s : State) : State :=
  if s.get ACC_UP_STAT_STATE = 1 ∧ s.acc.upBi ≠ 0 ∧ s.placing = true then
    match s.upNext with
    | some tbtt =>
      let s1 := s.toAbsTick (s.upRange tbtt).2
      let s2 := { s1 with acc := { s1.acc with upTbtt := tbtt + s1.acc.upBi } }
      let m := min 3 (s2.get ACC_UP_STAT_MISS + 1)
      let s3 := ((s2.put ACC_UP_STAT_MISS m).bump ACC_CNT_UP_MISS).raise ACC_EVT_UP_MISS
      if 3 ≤ m then
        let s4 := ((s3.put ACC_UP_STAT_STATE 2).put ACC_UP_STAT_TURNS_LOST 0).raise ACC_EVT_UP_LOST
        (({ s4 with acc := { s4.acc with upLost := s4.turn } }).upSusp true).upRecall
      else s3
    | none => s
  else s

/-- Turns since LOST began. -/
def State.upTurns (s : State) : Nat := s.turn - s.acc.upLost

/-- TURNS_LOST counts the turns of LOST, saturating (R126). -/
def State.upTurnShow (s : State) : State :=
  if s.get ACC_UP_STAT_STATE = 2 then s.put ACC_UP_STAT_TURNS_LOST (min 0xFFFF s.upTurns) else s

/-- UPLINK_ASSOCIATED: the blank's actions complete a new association, from DOWN or for the first time, with the AP whose
address on the link is `ap`. The link becomes a member of the uplink braid, now or once the peer is associated here (R128, R131). -/
def State.upAssociated (s : State) (ap : Nat) : State :=
  if h : s.get ACC_UP_CFG_RADIO < 3 then
    if s.get ACC_UP_STAT_STATE = 3 ∨ s.get ACC_UP_STAT_STATE = 0 then
      let r : Fin 3 := ⟨s.get ACC_UP_CFG_RADIO, h⟩
      let g := match s.activeSyn r with
        | some k => (s.syn r k).group
        | none => 0
      let s0 := ((s.put ACC_UP_STAT_STATE 1).put ACC_UP_STAT_MISS 0).put ACC_UP_STAT_TURNS_LOST 0
      ({ s0 with acc := { s0.acc with upBi := 0, upTbtt := 0, upAp := some (ap, g) } }).upMerge
    else s
  else s

def execUplinkAssociated (ap : BitVec 48) (s : State) : Out State := .next (s.clocked fun (s : State) => s.upAssociated ap.toNat)

/-! ### Beacons (R119, R121, R122) -/

/-- The RAW windows that a beacon carries: those after it and before the next beacon of the same radio and channel. -/
def rawsAfter (chidx bend : Nat) : List (Window × Nat × Nat) → List (Window × Nat × Nat)
  | [] => []
  | x :: t =>
    if x.2.1 < bend then rawsAfter chidx bend t
    else if x.1.kind = 1 ∧ x.1.chidx = chidx then []
    else if x.1.kind = 2 ∧ x.1.chidx = chidx then x :: rawsAfter chidx bend t else rawsAfter chidx bend t

/-- The beacon's elements from the device's own state (R121). -/
def State.beaconOf (s : State) (r : Nat) (w : Window) (start bend : Nat) : State × Beacon :=
  let t := start / turnTicks
  let all := (List.range (s.planLen r + 1)).flatMap (fun k => s.windowsIn r (t + k))
  let raws := rawsAfter w.chidx bend all
  let st := fun (x : Window × Nat × Nat) => (x.2.1 - bend + 0x7FFF) / 0x8000
  let bad := fun (x : Window × Nat × Nat) => decide (255 < st x) || decide (x.2.2 - x.2.1 < 8000)
  let fit := fun (x : Window × Nat × Nat) => min x.1.slots ((x.2.2 - x.2.1) / atLeast1 (slotTicks x.1))
  let grp := fun (x : Window × Nat × Nat) => s.mem (s.planBase + 0x18000 + r * 0x1000 + 4 * x.1.group) 4
  let bi := s.get (ACC_BCN_CFG_BI r)
  let dt := atLeast1 (s.get (ACC_BCN_CFG_DTIM r))
  let k := if bi = 0 then 0 else start / (bi * 0x4000)
  let own := s.aids.filter (fun a => decide (s.cxState a = 1) && s.cxBit a 10 r)
  let segs := s.get (ACC_BCN_CFG_SEG r) + 1
  let seg := k % dt % segs
  let s1g := decide (s.chGroup r w.chidx = 0)
  let s1 := s.bumpBy ACC_CNT_RAW_SHORT (raws.filter bad).length
  (s1, { interval := bi, s1g := s1g, dtimCount := (dt - k % dt) % dt, dtimPeriod := dt,
         tim := own.filter (fun a => s.cxBit a 11 0 && s.cxBit a 11 3 && (!s1g || decide (timSegment segs a = seg))),
         segment := seg,
         raws := (raws.filter (fun x => !bad x)).map (fun x =>
           (grp x % 8192, grp x / 65536 % 8192, st x, fit x, slotTicks x.1 / 16)),
         twts := (own.filter (fun a => s.cxBit a 3 3 && decide (s.cx a 72 6 ≠ 0))).map (fun a =>
           let (m, e) := mantExp (s.cx a 72 6 / 16)
           (a, unpackTick (s.cx a 64 8) / 16, m, e, (s.cx a 78 2 + 255) / 256)),
         wurs := (own.filter (fun a => s.cxBit a 3 2)).map (fun a => (a, s.cx a 80 8, s.cx a 88 4, s.cx a 92 2)),
         braid := if w.kind = 1 ∧ s.chGroup r w.chidx ≠ 0 then s.offer r else [] })

/-- The next BEACON window of a radio that starts at or after a tick, in this turn or the next. -/
def State.nextBeacon (s : State) (r : Nat) : Option (Window × Nat × Nat) :=
  (s.windowsIn r s.turn ++ s.windowsIn r (s.turn + 1)).find? (fun x => decide (x.1.kind = 1 ∧ s.absTick ≤ x.2.1))

/-- BEACON_BUILD: ACC_BCN_LEAD before its START the next beacon's elements are built and appended behind its template; `airtime` is
the beacon's duration in ticks, from which R121's RAW Start Time counts. A build that does not finish, or that the Frond link cannot
carry, leaves the old content. -/
def State.beaconBuild (s : State) (r : Fin 3) (airtime : Nat) (finished : Bool) : State :=
  match (if s.placing then s.nextBeacon r else none) with
  | some x =>
    let s1 := s.toAbsTick (x.2.1 - (s.rd ACC_BCN_LEAD).toNat % 2 ^ 24)
    let key := 256 * r.val + x.1.param
    if finished && s.flag SYS_DIE_STAT_FRN_UP then
      let (s2, b) := s1.beaconOf r x.1 x.2.1 (x.2.1 + airtime)
      ({ s2 with acc := { s2.acc with building := s2.acc.building.filter (· != key) } }).appendTpl r x.1.param b.bytes
    else { s1 with acc := { s1.acc with building := key :: s1.acc.building.filter (· != key) } }
  | none => s

def execBeaconBuild (r : Fin 3) (airtime : BitVec 24) (finished : Bool) (s : State) : Out State :=
  .next (s.clocked fun (s : State) => s.beaconBuild r airtime.toNat finished)

/-- A beacon goes out while its build is not finished: the old content is sent and counted (R122). -/
def State.timStale (s : State) (r tpl : Nat) : State :=
  let key := 256 * r + tpl
  if s.acc.building.contains key then
    (({ s with acc := { s.acc with building := s.acc.building.filter (· != key) } }).bump ACC_CNT_TIM_STALE).raise
      ACC_EVT_TIM_STALE
  else s

end Sys2Proof.Machine
end

