-- ==== Sys2Proof/Machine/Tables.lean ====
section
/-! DEFINITION. The tables: CRC-32C, the wildcard and exact rule tables with their host commands, and the blank's action
tables (spec/09_router_pipeline.md R207 to R212, spec/13_blank_image.md R289). -/

namespace Sys2Proof.Machine

/-! ### CRC-32C: reflected, initial value 0xFFFF_FFFF, final XOR 0xFFFF_FFFF (R209) -/

def crcBit (c : BitVec 32) : BitVec 32 := if c.getLsbD 0 then (c >>> 1) ^^^ 0x82F63B78#32 else c >>> 1

def crcBits : Nat → BitVec 32 → BitVec 32
  | 0, c => c
  | n + 1, c => crcBits n (crcBit c)

def crcGo : BitVec 32 → List Byte → BitVec 32
  | c, [] => c
  | c, b :: t => crcGo (crcBits 8 (c ^^^ BitVec.ofNat 32 b.toNat)) t

def crc32c (l : List Byte) : Nat := (crcGo (BitVec.allOnes 32) l ^^^ BitVec.allOnes 32).toNat

/-! ### Rule results (R211) -/

/-- Byte `i` of a result. -/
def resByte (v i : Nat) : Nat := v / 2 ^ (8 * i) % 256
def resDisp (v : Nat) : Nat := resByte v 0 % 4
def resCopy (v : Nat) : Bool := decide (resByte v 0 / 4 % 2 = 1)
def resMirror (v : Nat) : Bool := decide (resByte v 0 / 8 % 2 = 1)
def resValid (v : Nat) : Bool := decide (resByte v 0 / 16 % 2 = 1)
def resEport (v : Nat) : Nat := resByte v 1 % 16
def resQueue (v : Nat) : Nat := resByte v 2 % 32
def resTclass (v : Nat) : Nat := resByte v 3 % 32
def resDst (v : Nat) : Nat := v / 2 ^ 32 % 2 ^ 16
def resHprof (v : Nat) : Nat := resByte v 6 % 16
def resMirPort (v : Nat) : Nat := resByte v 7 % 4
def resMirQueue (v : Nat) : Nat := resByte v 7 / 4 % 32
def resProg (v : Nat) : Nat := v / 2 ^ 64 % 2 ^ 13
def resCnt (v : Nat) : Nat := v / 2 ^ 80 % 2 ^ 14
def resCntEn (v : Nat) : Bool := decide (v / 2 ^ 95 % 2 = 1)
def resTag (v : Nat) : Nat := v / 2 ^ 96 % 2 ^ 32

/-- A reserved bit is set: by the port, DST's meaning differs (R211). -/
def resReserved (v : Nat) : Bool :=
  decide (32 ≤ resByte v 0) || decide (16 ≤ resByte v 1) || decide (32 ≤ resByte v 2) || decide (32 ≤ resByte v 3) ||
    decide (16 ≤ resByte v 6) || decide (128 ≤ resByte v 7) || decide (2 ^ 13 ≤ v / 2 ^ 64 % 2 ^ 16) ||
    decide (v / 2 ^ 94 % 2 = 1) ||
    (if resDisp v = 1 ∧ resEport v = 3 then decide (2 ^ 13 ≤ resDst v)
     else if resDisp v = 1 ∧ resEport v = 4 then decide (32 ≤ resDst v) else false)

/-- The result breaks R211. -/
def resInvalid (v : Nat) : Bool :=
  (decide (resDisp v = 3 ∧ resProg v = 0)) || decide (resDisp v = 1 ∧ 5 ≤ resEport v) ||
    (resMirror v && decide (resMirPort v = 3)) || resReserved v

/-! ### The exact table (R209) -/

/-- The byte mask applied to a key: bit i keeps byte i, i to 47. -/
def maskKey (m : Nat) : Nat → List Byte → List Byte
  | _, [] => []
  | i, b :: t => (if m / 2 ^ i % 2 = 1 then b else 0) :: maskKey m (i + 1) t

def State.emMask (s : State) : Nat := s.rd64 PRS_EM_MASK_LO % 2 ^ 48

/-- A key as the exact table holds it. -/
def State.emKey (s : State) (k : List Byte) : List Byte := maskKey s.emMask 0 (k.take 48)

/-- The two candidate buckets for a hash among `n` buckets, a power of two. -/
def buckets (h n : Nat) : Nat × Nat :=
  let b1 := h % n
  let b2 := h / 2 ^ 15 % n
  (b1, if b2 = b1 then (if b1 % 2 = 0 then b1 + 1 else b1 - 1) else b2)

/-- The eight candidate places, in the order of insertion. -/
def candidates (h n : Nat) : List Nat :=
  let (b1, b2) := buckets h n
  (List.range 4).map (4 * b1 + ·) ++ (List.range 4).map (4 * b2 + ·)

def State.emGet (s : State) (i : Nat) : Option (List Byte × Nat) := SMap.get (fun _ => none) s.prs.em i

/-- The place of a masked key. -/
def State.emFind (s : State) (k : List Byte) : Option (Nat × Nat) :=
  (candidates (crc32c k) 32768).findSome? (fun i => match s.emGet i with
    | some (k2, r) => if k2 = k then some (i, r) else none
    | none => none)

def State.emSet (s : State) (i : Nat) (v : Option (List Byte × Nat)) : State :=
  let m := SMap.set (fun _ => none) s.prs.em i v
  ({ s with prs := { s.prs with em := m } }).put PRS_EM_STAT_USED m.length

/-- INSERT; false when both buckets are full. -/
def State.emInsert (s : State) (k : List Byte) (r : Nat) : State × Bool :=
  match s.emFind k with
  | some (i, _) => (s.emSet i (some (k, r)), true)
  | none => match (candidates (crc32c k) 32768).find? (fun i => (s.emGet i).isNone) with
    | some i => (s.emSet i (some (k, r)), true)
    | none => (s.raise PRS_EVT_EM_FULL, false)

/-- The exact lookup of a key vector. -/
def State.emLookup (s : State) (key : List Byte) : Option Nat :=
  if s.flag PRS_CTL_EM_EN then (s.emFind (s.emKey key)).map (·.2) else none

/-! ### The wildcard table (R208) -/

/-- The first 48 bytes match under a mask. -/
def maskMatch : List Byte → List Byte → List Byte → Bool
  | k :: ks, v :: vs, m :: ms => decide (k &&& m = v &&& m) && maskMatch ks vs ms
  | _, _, _ => true

def WcEntry.hits (e : WcEntry) (key : List Byte) : Bool := resValid e.result && maskMatch (key.take 48) e.value e.mask

/-- The matching entry with the lowest index. -/
def State.wcLookup (s : State) (key : List Byte) : Option Nat :=
  if s.flag PRS_CTL_WC_EN then
    s.prs.wc.findSome? (fun e => match e.2 with
      | some w => if w.hits key then some w.result else none
      | none => none)
  else none

def State.wcGet (s : State) (i : Nat) : Option WcEntry := SMap.get (fun _ => none) s.prs.wc i

/-! ### Table commands (R210) -/

/-- The staging window. -/
def entData : Nat := 0x0D1000

/-- A write of PRS_TBL_CMD; one while BUSY is ignored. -/
def State.tblCmd (s : State) (op : Nat) (exact : Bool) (index : Nat) : State :=
  if s.flag PRS_TBL_STAT_BUSY then s
  else ({ s with prs := { s.prs with cmd := some ⟨op, exact, index, s.memBytes entData 128⟩ } }).put PRS_TBL_STAT_BUSY 1

def execTableRead (exact : Bool) (index : BitVec 14) (s : State) : Out State :=
  .next (s.hostAt none PRS_TBL_CMD fun (s : State) => s.tblCmd 0 exact index.toNat)
def execTableWrite (index : BitVec 14) (s : State) : Out State :=
  .next (s.hostAt none PRS_TBL_CMD fun (s : State) => s.tblCmd 1 false index.toNat)
def execTableInsert (index : BitVec 14) (s : State) : Out State :=
  .next (s.hostAt none PRS_TBL_CMD fun (s : State) => s.tblCmd 1 true index.toNat)
def execTableDelete (exact : Bool) (index : BitVec 14) (s : State) : Out State :=
  .next (s.hostAt none PRS_TBL_CMD fun (s : State) => s.tblCmd 2 exact index.toNat)

/-- A command ends, with the code of its failure, 0 for none; HIT stays what the last exact READ made it. -/
def State.tblEnd (s : State) (code : Nat) : State :=
  ((s.put PRS_TBL_STAT_BUSY 0).putB PRS_TBL_STAT_ERR (code != 0)).put PRS_TBL_STAT_CODE code

/-- A command ends without an error. -/
def State.tblOk (s : State) : State := s.tblEnd 0

/-- A command fails with a code. -/
def State.tblErr (s : State) (code : Nat) : State := (s.tblEnd code).raise PRS_EVT_TBL_ERR

/-- An exact READ ends. -/
def State.tblHit (s : State) (hit : Bool) : State := s.tblOk.putB PRS_TBL_STAT_HIT hit

/-- TABLE_COMMAND_DONE: the change takes effect, BUSY clears. -/
def State.tblDone (s : State) : State :=
  match s.prs.cmd with
  | none => s
  | some c =>
    let s1 := { s with prs := { s.prs with cmd := none } }
    let part := fun a n => (c.data.drop a).take n
    if c.exact then
      let k := s1.emKey (part 0 48)
      match c.op with
      | 0 => match s1.emFind k with
        | some (_, r) => (s1.memPut entData (k ++ leBytes 16 r ++ List.replicate 64 0)).tblHit true
        | none => s1.tblHit false
      | 1 =>
        let r := leNum (part 48 16)
        if resInvalid r then s1.tblErr 3
        else match s1.emInsert k r with
          | (s2, true) => s2.tblOk
          | (s2, false) => s2.tblErr 1
      | _ => match s1.emFind k with
        | some (i, _) => (s1.emSet i none).tblOk
        | none => s1.tblErr 2
    else
      let put := fun (s : State) (e : Option WcEntry) =>
        { s with prs := { s.prs with wc := SMap.set (fun _ => none) s.prs.wc c.index e } }
      match c.op with
      | 0 =>
        let e := (s1.wcGet c.index).getD ⟨List.replicate 48 0, List.replicate 48 0, 0⟩
        (s1.memPut entData (e.value ++ e.mask ++ leBytes 16 e.result ++ List.replicate 16 0)).tblOk
      | 1 =>
        let r := leNum (part 96 16)
        if resInvalid r then s1.tblErr 3 else (put s1 (some ⟨part 0 48, part 48 48, r⟩)).tblOk
      | _ => (put s1 none).tblOk

def execTableCommandDone (s : State) : Out State := .next (s.clocked fun (s : State) => s.tblDone)

/-- EM_MASK_WRITE: one word of PRS_EM_MASK; it takes effect only while the exact table is empty. -/
def State.emMaskWrite (s : State) (hi : Bool) (v : Word) : State :=
  if s.get PRS_EM_STAT_USED = 0 then
    if hi then s.wr PRS_EM_MASK_HI (v &&& 0xFFFF) else s.wr PRS_EM_MASK_LO v
  else s.raise PRS_EVT_TBL_ERR

def execEmMaskWrite (hi : Bool) (v : Word) (s : State) : Out State :=
  .next (s.hostAt none (if hi then PRS_EM_MASK_HI else PRS_EM_MASK_LO) fun (s : State) => s.emMaskWrite hi v)

/-! ### Action tables (R289) -/

/-- The layout of an action table: kind (0 indexed, 1 hashed, 2 counter), entry bytes, key bytes, entries. -/
structure TblDef where
  kind : Nat
  ent : Nat
  key : Nat
  n : Nat
  dram : Bool
  deriving DecidableEq, Repr

/-- The TABLES entries of a blank. -/
def tblDefsGo : Nat → List Byte → List (Nat × TblDef)
  | 0, _ => []
  | k + 1, b =>
    if b.length < 16 then []
    else
      let at_ := fun o n => leNum ((b.drop o).take n)
      (at_ 0 1, ⟨at_ 1 1, at_ 4 2, at_ 6 1, at_ 8 4, decide (at_ 2 1 = 1)⟩) :: tblDefsGo k (b.drop 16)

def tblDefs (b : List Byte) : List (Nat × TblDef) := tblDefsGo 64 b

/-- The layout of a table in use. -/
def State.tblDef (s : State) (t : Nat) : Option TblDef :=
  match s.blk with
  | some b => ((tblDefs b.tables).find? (fun e => e.1 == t)).map (·.2)
  | none => none

/-- Bytes of one entry or slot. -/
def TblDef.slot (d : TblDef) : Nat := if d.kind = 1 then (d.key + 7) / 8 * 8 + d.ent + 8 else d.ent

def TblDef.size (d : TblDef) : Nat := d.slot * d.n

def tblKey (t ofs : Nat) : Nat := 2 ^ 34 * t + ofs

def State.tblBytes (s : State) (t ofs n : Nat) : List Byte := bytesGet zeroByte s.tsk.tables (tblKey t ofs) n

def State.tblPut (s : State) (t ofs : Nat) (b : List Byte) : State :=
  { s with tsk := { s.tsk with tables := bytesSet zeroByte s.tsk.tables (tblKey t ofs) b } }

/-- The slot of a hashed table that holds a key. -/
def State.hashFind (s : State) (t : Nat) (d : TblDef) (k : List Byte) : Option Nat :=
  (candidates (crc32c k) (d.n / 4)).find? (fun i =>
    decide (leNum (s.tblBytes t (i * d.slot + d.slot - 8) 8) % 2 = 1 ∧ s.tblBytes t (i * d.slot) d.key = k))

/-- The first free slot for a key. -/
def State.hashFree (s : State) (t : Nat) (d : TblDef) (k : List Byte) : Option Nat :=
  (candidates (crc32c k) (d.n / 4)).find? (fun i => decide (leNum (s.tblBytes t (i * d.slot + d.slot - 8) 8) % 2 = 0))

/-- Fill a slot of a hashed table. -/
def State.hashPut (s : State) (t : Nat) (d : TblDef) (i : Nat) (k r : List Byte) : State :=
  let pad := List.replicate ((d.key + 7) / 8 * 8 - d.key) (0 : Byte)
  s.tblPut t (i * d.slot) (k ++ pad ++ r.take d.ent ++ leBytes 8 1)

/-- Empty a slot of a hashed table. -/
def State.hashDel (s : State) (t : Nat) (d : TblDef) (i : Nat) : State := s.tblPut t (i * d.slot + d.slot - 8) (leBytes 8 0)

end Sys2Proof.Machine
end

