-- ==== Sys2Proof/Machine/Area.lean ====
section
/-! DEFINITION. The handover area as bytes (spec/14_update_turnover.md R316): its header, its seven sections, and the boot ROM's
test of it (R317). `Handover` holds what the bytes spell, and the boot restores it from there. -/

namespace Sys2Proof.Machine

/-- A list of bytes made `n` long. -/
def padTo (n : Nat) (l : List Byte) : List Byte := (l ++ List.replicate n 0).take n

/-- A register as the area records it. -/
def Handover.val (h : Handover) (a : Nat) : Nat :=
  (((h.shown.find? (fun e => e.1 == a)).orElse (fun _ => h.regs.find? (fun e => e.1 == a))).map (·.2)).getD (regReset a) |>.toNat

/-- The first handle of a chain. -/
def Handover.handle (h : Handover) (chain : Nat) : Nat :=
  ((h.chk.chains.find? (fun c => c.id == chain)).bind (fun c => c.bufs.head?)).getD 0

/-- A REPORT record not yet answered. -/
def Report.bytes (x : Report) : List Byte :=
  leBytes 1 (if x.set then 1 else 0) ++ leBytes 6 x.mac ++ leBytes 2 x.aid ++ leBytes 8 x.tick

/-- Section 1, the state record. R316 lists its contents and gives no layout: they stand here in the order it names them (DESIGN
CHOICE, log entry 30). The reference's tick count is of 25 ns. -/
def Handover.stateRecord (h : Handover) : List Byte :=
  padTo 4032 (leBytes 4 (word32 h.freq).toNat ++ leBytes 4 h.spnStat.toNat ++ leBytes 8 (h.refAt / 50) ++
    h.chk.out.toList.flatMap (leBytes 4) ++ leBytes 4 (h.val CLU_STAT) ++ leBytes 4 (h.val CLU_TERM) ++ leBytes 4 (h.val CLU_DSEQ) ++
    leBytes 2 h.flight.reports.length ++ h.flight.reports.flatMap Report.bytes ++
    h.clu.staged.toList.flatMap (fun p => leBytes 4 p.1 ++ leBytes 4 p.2) ++
    h.fld.queues.toList.flatMap (fun q => leBytes 2 q.length ++ q.flatMap (fun f => leBytes 3 (h.handle f.chain))))

/-- Registers that the blank loads whole (R288, R292). -/
def blankLoads (a : Nat) : Bool :=
  decide (a = PRS_EM_MASK_LO ∨ a = PRS_EM_MASK_HI ∨ a = ROB_CFG) ||
    (List.range 16).any (fun p => decide (a = PRS_HPROF_LO p ∨ a = PRS_HPROF_HI p)) ||
    (List.range 3).any (fun r => decide (a = ACC_GEN_CFG r))

/-- The addresses of a row's registers. -/
def RegRow.addrs (r : RegRow) : List Nat :=
  r.dims.foldl (fun (l : List Nat) d => l.flatMap (fun a => (List.range d.2).map (fun i => a + d.1 * i))) [r.base]

/-- The rows of the core-die blocks but UPD. -/
def coreRows : List RegRow :=
  rowsSYS ++ rowsFLT ++ rowsITT ++ rowsSPN ++ rowsHIF ++ rowsCIP ++ rowsTSK ++ rowsGGE ++ rowsCHK ++ rowsPRS ++ rowsROB ++ rowsETH ++
    rowsDMC ++ rowsACC ++ rowsMLK ++ rowsFLD ++ rowsCLU

/-- What the register image holds: every RW register of these blocks that the blank does not load (R316). -/
def imageAddrs : List Nat := ((coreRows.filter (fun r => r.rw != 0)).flatMap RegRow.addrs).filter (fun a => !blankLoads a)

/-- Section 2, the register image: pairs of BAR0 offset and value. -/
def Handover.regSection (h : Handover) : List Byte :=
  padTo 0xF000 (imageAddrs.flatMap (fun a => leBytes 4 a ++ leBytes 4 (h.val a)))

/-- The outputs of a queue pair that wait for descriptors, in release order (R402). -/
def Handover.waiting (h : Handover) (q : Nat) : List HostOut := h.flight.wait.filter (fun w => w.q == q && w.held.isSome)

/-- One ring record. -/
def ringRecord (base kind en log2 qp head tail wait : Nat) : List Byte :=
  padTo 32 (leBytes 8 base ++ leBytes 1 (kind + 4 * en) ++ leBytes 1 log2 ++ leBytes 1 qp ++ leBytes 1 0 ++ leBytes 2 head ++
    leBytes 2 tail ++ leBytes 2 wait)

/-- Section 3, the 65 ring records: receive rings, transmit rings, the status ring. -/
def Handover.ringSection (h : Handover) : List Byte :=
  let pair := fun a => h.val a + 2 ^ 32 * h.val (a + 4)
  let rx := (List.range 32).flatMap (fun q =>
    let c := h.val (HIF_Q_CFG q)
    ringRecord (pair (HIF_Q_RX_BASE_LO q)) 0 (c % 2) (c / 16 % 16) q (h.val (HIF_Q_RX_HEAD q)) (h.val (HIF_Q_RX_TAIL q))
      (h.waiting q).length)
  let tx := (List.range 32).flatMap (fun q =>
    let c := h.val (HIF_Q_CFG q)
    ringRecord (pair (HIF_Q_TX_BASE_LO q)) 1 (c / 2 % 2) (c / 256 % 16) q (h.val (HIF_Q_TX_HEAD q)) (h.val (HIF_Q_TX_TAIL q)) 0)
  let c := h.val HIF_STS_CFG
  padTo 0x10000 (rx ++ tx ++
    ringRecord (pair HIF_STS_BASE_LO) 2 (c / 16 % 2) (c % 16) 0 (h.val HIF_STS_HEAD) (h.val HIF_STS_TAIL) 0)

/-- Section 5, the wildcard rule table in the staging layout of R210. -/
def Handover.wcSection (h : Handover) : List Byte :=
  (List.range 16384).flatMap (fun i =>
    let e := ((SMap.get (fun _ => none) h.wc i : Option WcEntry)).getD ⟨List.replicate 48 0, List.replicate 48 0, 0⟩
    padTo 48 e.value ++ padTo 48 e.mask ++ leBytes 16 e.result)

/-- Section 6, the on-die action tables in ascending TABLE order, each at a 64-byte boundary (R289). -/
def Handover.tableSection (h : Handover) : List Byte :=
  let ts := (tblDefs h.old.tables).filter (fun e => !e.2.dram)
  padTo 0x100000 ((List.range 64).flatMap (fun t => (ts.filter (fun e => e.1 == t)).flatMap
    (fun e => padTo ((e.2.size + 63) / 64 * 64) (bytesGet zeroByte h.tables (tblKey e.1 0) e.2.size))))

/-- The references held by HANDOVER, as chain and former owner: first those of the waiting outputs, in queue-pair and release order,
then the rest. -/
def Handover.refs (h : Handover) : List (Nat × Nat) :=
  let waits := (List.range 32).flatMap (fun q => (h.waiting q).map (fun w => (w.chain, ownHif)))
  waits ++ waits.foldl List.erase (h.owners.flatMap (fun e => e.2.map (fun o => (e.1, o))))

/-- Section 7, the references held by HANDOVER: handle and former owner. -/
def Handover.chainSection (h : Handover) : List Byte :=
  padTo 0x100000 (h.refs.flatMap (fun e => leBytes 3 (h.handle e.1) ++ leBytes 1 e.2))

/-- The seven sections, in offset order. -/
def Handover.sections (h : Handover) : List (List Byte) :=
  [h.stateRecord, h.regSection, h.ringSection, padTo 0x20000 h.acc, h.wcSection, h.tableSection, h.chainSection]

/-- MAGIC. -/
def areaMagic : List Byte := [0x44, 0x47, 0x57, 0x48]

/-- The STATE codes. -/
def areaEmpty : Nat := 0
def areaWriting : Nat := 1
def areaSealed : Nat := 2
def areaTaken : Nat := 3

/-- The 64-byte header in a state. -/
def Handover.header (h : Handover) (st : Nat) : List Byte :=
  areaMagic ++ leBytes 1 1 ++ leBytes 1 st ++ leBytes 1 (if h.slot = some true then 1 else 0) ++ leBytes 1 0 ++
    leBytes 4 h.session ++ padTo 4 ((h.old.hdr.drop 12).take 4) ++ leBytes 5 h.turn ++ leBytes 3 0 ++ leBytes 4 imageAddrs.length ++
    leBytes 4 65 ++ h.sections.flatMap (fun l => leBytes 4 (crc32c l)) ++ leBytes 4 0

/-- The area as it is sealed. -/
def Handover.area (h : Handover) : List Byte := h.header areaSealed ++ h.sections.flatten

/-- Where the sections lie, and their sizes. -/
def areaSections : List (Nat × Nat) :=
  [(0x40, 4032), (0x1000, 0xF000), (0x10000, 0x10000), (0x20000, 0x20000), (0x40000, 0x1C0000), (0x200000, 0x100000),
   (0x300000, 0x100000)]

/-- The boot ROM's test of what DRAM holds: the header is SEALED and all seven CRCs hold (R317). -/
def areaHolds (l : List Byte) : Bool :=
  decide (l.take 4 = areaMagic) && decide (l.getD 4 0 = 1) && decide ((l.getD 5 0).toNat = areaSealed) &&
    areaSections.zipIdx.all (fun e => decide (leNum ((l.drop (32 + 4 * e.2)).take 4) = crc32c ((l.drop e.1.1).take e.1.2)))

/-- The header's STATE: WRITING from the handover start, SEALED until the boot ROM has taken it, then TAKEN (R316, R317). -/
def State.areaState (s : State) : Nat :=
  if s.upd.ho.isSome || s.upd.area.isSome then areaSealed
  else if s.get UPD_STAT_TOV = 2 then areaWriting
  else if s.upd.byTurnover then areaTaken else areaEmpty

end Sys2Proof.Machine
end

