-- ==== Sys2Proof/Machine/Blank.lean ====
section
/-! DEFINITION. The blank's layout and the checks of R297 (spec/13_blank_image.md R282 to R297). An image is a list of
bytes; a check answers whether it fails. Reserved encodings break a section; reserved bits do where R297 or the section's
rule says so, and are ignored elsewhere (R10). -/

namespace Sys2Proof.Machine

/-- `n` bytes at `a`, little-endian. -/
def num (b : List Byte) (a n : Nat) : Nat := leNum ((b.drop a).take n)

/-- Every byte of a range is 0. -/
def zeros (b : List Byte) (a n : Nat) : Bool := ((b.drop a).take n).all (fun x => x == 0)

/-- Two ranges, each given by its first address and its length, overlap. -/
def meets (a l b m : Nat) : Bool := decide (0 < l ∧ 0 < m ∧ a < b + m ∧ b < a + l)

/-- Some two ranges of a list overlap. -/
def anyMeet : List (Nat × Nat) → Bool
  | [] => false
  | x :: t => t.any (fun y => meets x.1 x.2 y.1 y.2) || anyMeet t

def noRepeat : List Nat → Bool
  | [] => true
  | x :: t => !t.contains x && noRepeat t

/-- Split into entries of `n` bytes. -/
def entries (n : Nat) : Nat → List Byte → List (List Byte)
  | 0, _ => []
  | k + 1, b => if b.length < n ∨ n = 0 then [] else b.take n :: entries n k (b.drop n)

/-! ### Header and directory (R282, R283) -/

structure DirSect where
  typ : Nat
  sver : Nat
  ofs : Nat
  len : Nat
  crc : Nat
  deriving DecidableEq, Repr

def dirEntry (e : List Byte) : DirSect := ⟨num e 0 1, num e 1 1, num e 4 4, num e 8 4, num e 12 4⟩

def directory (img : List Byte) : List DirSect :=
  (entries 16 (num img 26 1) ((img.drop 64).take (16 * num img 26 1))).map dirEntry

/-- The index of a section's entry, and its bytes. -/
def sectIdx (img : List Byte) (t : Nat) : Option Nat := (directory img).findIdx? (fun d => d.typ == t)

def sectBytes (img : List Byte) (t : Nat) : List Byte :=
  match (directory img).find? (fun d => d.typ == t) with
  | some d => (img.drop d.ofs).take d.len
  | none => []

/-- Code 1. -/
def badHeader (img : List Byte) : Bool :=
  let total := num img 8 4
  decide (num img 0 4 ≠ 0x42574744) || decide (num img 4 2 ≠ 1) || decide (num img 6 2 ≠ 64) || decide (num img 32 4 ≠ 64) ||
    decide (total < 256 ∨ 6291456 < total) || decide (num img 36 4 + 112 ≠ total) || decide (num img 24 1 / 8 ≠ 0) ||
    decide (num img 27 1 / 8 ≠ 0) || decide (num img 30 1 / 32 ≠ 0) || !zeros img 31 1 || !zeros img 40 24

/-- Code 2. -/
def badPart (img : List Byte) (rev : Nat) : Bool :=
  decide (num img 20 2 ≠ 0x3E58) || decide (rev < num img 22 1 ∨ num img 23 1 < rev)

/-- Code 3. -/
def badIdentity (img : List Byte) : Bool :=
  let cid := num img 28 2
  let role := num img 24 1 % 4
  let set := decide (num img 24 1 / 4 % 2 = 1)
  let bb := num img 27 1 / 2 % 4
  decide (cid = 0xFFFF) || (decide (cid = 0) && (decide (num img 30 1 % 32 ≠ 0) || (set && decide (role ≠ 0)))) ||
    (decide (cid ≠ 0) && ((set && decide (role = 0)) || decide (bb = 0))) || decide (bb = 3) || decide (num img 25 1 = 0)

/-- Code 4: what breaks one entry by itself. -/
def badEntry (img : List Byte) (d : DirSect) : Bool :=
  decide (d.typ = 0 ∨ 9 < d.typ) || decide (d.sver ≠ 1) || decide (d.ofs % 8 ≠ 0) || decide (d.ofs < 64 + 16 * num img 26 1) ||
    decide (num img 36 4 < d.ofs + d.len)

/-- Code 4: the failing entry, or 0xFF where the directory is broken as a whole. -/
def badDirectory (img : List Byte) : Option Nat :=
  let ds := directory img
  if num img 26 1 = 0 ∨ 32 < num img 26 1 then some 0xFF
  else match ds.findIdx? (badEntry img) with
    | some i => some i
    | none =>
      match (List.range ds.length).find? (fun i =>
          match ds[i]? with
          | some d => (ds.take i).any (fun e => e.typ == d.typ || meets e.ofs e.len d.ofs d.len)
          | none => false) with
      | some i => some i
      | none => if [1, 2, 4, 5, 6, 7].all (fun t => ds.any (fun d => d.typ == t)) then none else some 0xFF

/-- Code 5. -/
def badCrc (img : List Byte) : Option Nat :=
  (directory img).findIdx? (fun d => decide (crc32c ((img.drop d.ofs).take d.len) ≠ d.crc))

/-! ### MEMMAP (R285 to R287) -/

structure MapWin where
  base : Nat
  log2 : Nat
  kind : Nat
  table : Nat
  deriving DecidableEq, Repr

structure MapReg where
  kind : Nat
  table : Nat
  base : Nat
  size : Nat
  deriving DecidableEq, Repr

def mapWins (m : List Byte) : List MapWin :=
  (entries 8 (num m 1 1) ((m.drop 16).take (8 * num m 1 1))).map (fun e => ⟨num e 0 2, num e 2 1, num e 3 1, num e 4 1⟩)

def mapRegs (m : List Byte) : List MapReg :=
  (entries 12 (num m 2 1) (m.drop (16 + 8 * num m 1 1))).map (fun e => ⟨num e 0 1, num e 1 1, num e 4 4, num e 8 4⟩)

/-- The least size of a window, log2, where it is a constant; none for ATABLE. -/
def winLeast : Nat → Option Nat
  | 0 => some 19
  | 1 => some 17
  | 2 => some 17
  | 3 => some 21
  | 5 => some 20
  | 6 => some 20
  | _ => none

/-- The size of an action table (R289); none for a table without an entry. -/
def tableSize (tables : List Byte) (t : Nat) : Option Nat :=
  ((tblDefs tables).find? (fun e => e.1 == t)).map (fun e => e.2.size)

def badWindow (tables : List Byte) (w : MapWin) : Bool :=
  decide (w.base < 0x100 ∨ 0x3FF < w.base) || decide (w.log2 < 16 ∨ 24 < w.log2) || decide (6 < w.kind) ||
    decide (w.base * 0x10000 % 2 ^ w.log2 ≠ 0) || decide (0x4000000 < w.base * 0x10000 + 2 ^ w.log2) ||
    (if w.kind = 4 then decide (w.table < 2 ∨ 63 < w.table) || (match tableSize tables w.table with
        | some n => decide (2 ^ w.log2 < n)
        | none => true)
     else if w.kind = 5 then decide (w.table = 1 ∨ 63 < w.table) else decide (w.table ≠ 0)) ||
    (match winLeast w.kind with
     | some l => if w.kind = 2 ∨ w.kind = 5 ∨ w.kind = 6 then decide (w.log2 ≠ l) else decide (w.log2 < l)
     | none => false)

/-- The sum of the sizes of the tables with PLACE DRAM (R287). -/
def dramTables (tables : List Byte) : Nat := (((tblDefs tables).filter (fun e => e.2.dram)).map (fun e => e.2.size)).sum

def ceilMib (n : Nat) : Nat := (n + 1048575) / 1048576

/-- The least SIZE of a region, MiB. -/
def regLeast (bufCnt plan dram k : Nat) : Nat :=
  match k with
  | 0 => ceilMib (bufCnt * 2048)
  | 1 => 2
  | 2 => 4
  | 3 => 8
  | 4 => 32
  | 5 => 1
  | 6 => 4
  | 7 => 1
  | 8 => ceilMib dram
  | _ => ceilMib plan

/-- Code 6; `mib` is the DRAM found at training. -/
def badMemmap (img : List Byte) (mib : Nat) : Bool :=
  let m := sectBytes img 1
  let tables := sectBytes img 3
  let ws := mapWins m
  let rs := mapRegs m
  let cid := num img 28 2
  let bufCnt := num m 8 4
  let plan := (sectBytes img 8).length
  let dram := dramTables tables
  let need := [1, 2, 3, 5, 6] ++ (if 0 < bufCnt then [0] else []) ++ (if cid ≠ 0 then [4] else []) ++
    (if 0 < dram then [8] else []) ++ (if (sectIdx img 8).isSome then [9] else [])
  decide (m.length ≠ 16 + 8 * num m 1 1 + 12 * num m 2 1) || decide (32 < num m 1 1) || decide (16 < num m 2 1) ||
    decide (1048576 < bufCnt) || ws.any (badWindow tables) || anyMeet (ws.map (fun w => (w.base * 0x10000, 2 ^ w.log2))) ||
    !noRepeat (ws.map (fun w => if w.kind = 4 then 256 + w.table else w.kind)) ||
    !([0, 1, 2] ++ (if cid ≠ 0 then [3] else [])).all (fun k => ws.any (fun w => w.kind == k)) ||
    decide (mib < num m 4 4) ||
    rs.any (fun r => decide (9 < r.kind) || decide (num m 4 4 < r.base + r.size) ||
      decide (r.size < regLeast bufCnt plan dram r.kind) ||
      (if r.kind = 9 then decide (r.table < 2 ∨ 63 < r.table) else decide (r.table ≠ 0))) ||
    anyMeet (rs.map (fun r => (r.base, r.size))) || !noRepeat (rs.map (·.kind)) ||
    !need.all (fun k => rs.any (fun r => r.kind == k))

/-! ### PARSE (R203, R204, R288) -/

/-- A field of R204: SHIFT and WIDTH in range, the reserved byte 0. -/
def badField (b : List Byte) (a : Nat) : Bool :=
  decide (15 < num b (a + 1) 1) || decide (16 < num b (a + 2) 1) || !zeros b (a + 3) 1

def badExtract (e : List Byte) : Bool :=
  decide (16 < num e 1 1) || !zeros e 3 1 || (decide (num e 1 1 ≠ 0) && decide (num e 2 1 < 8 ∨ 64 < num e 2 1 + num e 1 1))

def badNode (n : List Byte) : Bool :=
  decide (num n 1 1 / 16 ≠ 0) || badField n 4 || badField n 8 || badField n 16 || decide (num n 14 2 / 256 % 128 ≠ 0) ||
    decide (16 < num n 22 1) || decide (4096 < num n 20 2 + num n 22 1) || !zeros n 23 1 ||
    (entries 4 4 ((n.drop 24).take 16)).any badExtract || !zeros n 40 24

def badTransition (t : List Byte) : Bool := decide (num t 4 2 / 256 % 128 ≠ 0) || !zeros t 6 2

/-- Code 7. -/
def badParse (img : List Byte) : Bool :=
  let p := sectBytes img 2
  decide (p.length ≠ 0xC090) || (entries 64 256 (p.take 0x4000)).any badNode ||
    (entries 8 4096 ((p.drop 0x4000).take 0x8000)).any badTransition || !zeros p 0xC086 2 ||
    decide (12 < num p 0xC088 1 % 16) || decide (num p 0xC088 1 / 16 ≠ 0) || !zeros p 0xC089 7

/-! ### TABLES (R289) -/

def badTable (e : List Byte) : Bool :=
  let ent := num e 4 2
  let key := num e 6 1
  let n := num e 8 4
  decide (num e 0 1 < 2 ∨ 63 < num e 0 1) || decide (2 < num e 1 1) || decide (1 < num e 2 1) || decide (ent % 8 ≠ 0) ||
    (if num e 1 1 = 0 then decide (ent < 8 ∨ 256 < ent ∨ key ≠ 0 ∨ n < 1 ∨ 2 ^ 24 < n)
     else if num e 1 1 = 1 then
       decide (ent < 8 ∨ 64 < ent ∨ key < 4 ∨ 48 < key ∨ n < 8) || !(List.range 23).any (fun i => n == 2 ^ i)
     else decide (ent ≠ 8 ∨ key ≠ 0 ∨ n < 1 ∨ 2 ^ 24 < n))

/-- On-die tables in ascending TABLE order, each at a 64-byte boundary: the end of the last. -/
def odieEnd (tables : List Byte) : Nat :=
  let ds := tblDefs tables
  (List.range 64).foldl (fun at_ t =>
    match ds.find? (fun e => e.1 == t && !e.2.dram) with
    | some e => (at_ + 63) / 64 * 64 + e.2.size
    | none => at_) 0

/-- Code 8. -/
def badTables (img : List Byte) : Bool :=
  let t := sectBytes img 3
  let es := entries 16 t.length t
  decide (t.length % 16 ≠ 0) || es.any badTable || !noRepeat (es.map (fun e => num e 0 1)) || decide (1048576 < odieEnd t)

/-! ### PROGRAMS and CLASSES (R269, R270, R290, R291) -/

/-- The bits of X that an opcode gives; none for a reserved opcode. -/
def opX : Nat → Option Nat
  | 0x01 => some 1
  | 0x02 => some 1
  | 0x03 => some 1
  | 0x04 => some 1
  | 0x05 => some 1
  | 0x06 => some 1
  | 0x07 => some 1
  | 0x08 => some 1
  | 0x09 => some 0
  | 0x10 => some 0x0E
  | 0x11 => some 0
  | 0x12 => some 0
  | 0x18 => some 0x0F
  | 0x19 => some 0x0F
  | 0x1A => some 0x0F
  | 0x1B => some 0x0F
  | 0x1C => some 1
  | 0x20 => some 0x3F
  | 0x21 => some 0x3F
  | 0x22 => some 0x3F
  | 0x23 => some 0x3F
  | 0x24 => some 0x3F
  | 0x28 => some 0x3F
  | 0x29 => some 0x3F
  | 0x30 => some 0
  | 0x31 => some 0x1F
  | 0x32 => some 0x1F
  | 0x33 => some 0
  | 0x34 => some 0
  | 0x35 => some 1
  | 0x3C => some 0
  | 0x3E => some 0
  | 0x3F => some 1
  | _ => none

/-- An action word with a reserved opcode, a reserved bit or a reserved encoding in X (R269, R270). -/
def badEnc (w : List Byte) : Bool :=
  let op := num w 0 1
  let x := num w 3 1
  let imm := num w 4 4
  match opX op with
  | none => true
  | some m =>
    decide (num w 2 1 / 16 ≠ 0) || decide (x ||| m ≠ m) || (decide (0x18 ≤ op ∧ op ≤ 0x1B) && decide (8 ≤ x)) ||
      (decide (op = 0x10) && (decide (x / 2 % 8 = 7) || decide (imm / 2 ^ 13 ≠ 0)))

/-- An action word that R269 or R290 does not allow in a program of `n` words. -/
def badWord (n : Nat) (w : List Byte) : Bool :=
  let to_ := num w 4 4 % 2 ^ 13
  badEnc w || (decide (num w 0 1 = 0x10 ∨ num w 0 1 = 0x11) && decide (to_ < 1 ∨ n ≤ to_))

/-- Code 9. -/
def badPrograms (img : List Byte) : Bool :=
  let p := sectBytes img 4
  let ws := entries 8 8192 p
  decide (p.length % 8 ≠ 0 ∨ p.length < 16 ∨ 65536 < p.length) || !zeros p 0 8 || (ws.drop 1).any (badWord ws.length)

/-- Code 10. -/
def badClasses (img : List Byte) : Bool :=
  let c := sectBytes img 5
  let words := (sectBytes img 4).length / 8
  decide (c.length ≠ 264) || (entries 8 32 c).any (fun e =>
    decide (num e 0 4 / 2 ^ 19 % 2 = 1) && (decide (num e 0 2 = 0) || decide (words ≤ num e 4 2 % 2 ^ 13)))

/-! ### RADIO (R87 to R93, R113, R292, R293) -/

/-- A VALID transmit profile that lies inside R87 to R93 for no band group. -/
def badTxProfile (p : List Byte) : Bool :=
  if num p 6 1 % 2 = 0 then false
  else match fmtTable (num p 0 1) with
    | none => true
    | some (rates, bws, nss, gis, ldpc, dcm, short) =>
      let m := num p 1 1
      let fl := num p 5 1
      !rates.contains m || !bws.contains (num p 3 1) || decide (num p 2 1 < 1 ∨ nss < num p 2 1) || !gis.contains (num p 4 1) ||
        (decide (fl % 2 = 1) && !ldpc) || (decide (fl / 2 % 2 = 1) && !dcm.contains m) || (decide (fl / 4 % 2 = 1) && !short) ||
        (decide (num p 0 1 = 2) && decide (num p 2 1 ≠ m / 8 + 1)) ||
        (decide (num p 0 1 = 6 ∧ m = 10) && decide (num p 3 1 ≠ 0))

def radioRec (radio : List Byte) (r : Nat) : List Byte := (radio.drop (2304 * r)).take 2304

def badRadioRec (p : List Byte) : Bool :=
  let half := num p 8 2 % 4096
  (decide (half ≠ 0) && decide (half < 16 ∨ 4096 < num p 6 2 % 4096 + 2 * half)) ||
    (decide (num p 0 1 / 2 % 2 = 0) && decide (num p 10 2 % 8192 ≠ 0 ∨ num p 12 2 % 8192 ≠ 0)) ||
    (entries 8 256 ((p.drop 256).take 2048)).any badTxProfile

/-- Code 11. -/
def badRadio (img : List Byte) : Bool :=
  let p := sectBytes img 6
  let recs := [0, 1, 2].map (radioRec p)
  decide (p.length ≠ 6912) || recs.any badRadioRec ||
    decide (1 < (recs.filter (fun b => decide (num b 0 1 / 2 % 2 = 1))).length)

/-! ### SEQPROG (R75, R294) -/

structure SeqRec where
  radio : Nat
  coast : Bool
  first : Nat
  ops : List (List Byte)
  deriving DecidableEq, Repr

/-- The records of a SEQPROG section; none where a record is cut short. -/
def seqRecs : Nat → List Byte → Option (List SeqRec)
  | 0, b => if b = [] then some [] else none
  | k + 1, b =>
    if b = [] then some []
    else
      let n := num b 4 2
      if b.length < 8 + 8 * n then none
      else (seqRecs k (b.drop (8 + 8 * n))).map (fun t =>
        ⟨num b 0 1 % 4, decide (num b 0 1 / 128 = 1), num b 2 2 % 4096, entries 8 n (b.drop 8)⟩ :: t)

def recsOf (b : List Byte) : Option (List SeqRec) := seqRecs b.length b

/-- The bits above the opcode that an operation gives (R75); none for a reserved opcode. -/
def seqMask : Nat → Option Nat
  | 0x00 => some 0
  | 0x01 => some 0
  | 0x02 => some 0xFFFFFF00
  | 0x03 => some 0xFFFFFF00
  | 0x04 => some 0
  | 0x05 => some 0xFFFFFF00
  | 0x06 => some 0x1FF00
  | 0x07 => some 0
  | 0x08 => some 0xFFFFFFFF00
  | 0x09 => some 0xFFFFFFFFFFFFFF00
  | 0x0A => some 0xFFFFFFFFF00
  | 0x0B => some 0xFFFFFF0700
  | 0x0C => some 0xFF00
  | 0x0D => some 0xFFF00
  | 0x0E => some 0xFFFFFFF00
  | _ => none

/-- The target of a JUMP or JCYC. -/
def seqTarget (w : Nat) : Option Nat := if w % 64 = 0x0D ∨ w % 64 = 0x0E then some (w / 256 % 4096) else none

def badSeqOp (w : Nat) : Bool :=
  match seqMask (w % 64) with
  | none => true
  | some m => decide (w ||| (m + 63) ≠ m + 63) || (decide (w % 64 = 0x0B) && decide (4 < w / 256 % 8))

def SeqRec.holds (x : SeqRec) (a : Nat) : Bool := decide (x.first ≤ a ∧ a < x.first + x.ops.length)

/-- The generated region of a radio: first address and length. -/
def genRegion (p : List Byte) : Nat × Nat := (num p 6 2 % 4096, 2 * (num p 8 2 % 4096))

/-- What R294 asks of one radio's records. -/
def badSeqRadio (recs : List SeqRec) (p : List Byte) : Bool :=
  let g := genRegion p
  let inGen := fun (a : Nat) => decide (g.1 ≤ a ∧ a < g.1 + g.2)
  anyMeet (g :: recs.map (fun x => (x.first, x.ops.length))) ||
    recs.any (fun x => decide (x.ops.length < 1 ∨ 4096 < x.first + x.ops.length) || x.ops.any (fun o =>
      badSeqOp (leNum o) || (match seqTarget (leNum o) with
        | some a => if x.coast then !recs.any (fun y => y.coast && y.holds a) else !(inGen a || recs.any (fun y => y.holds a))
        | none => false))) ||
    (decide (num p 0 1 % 4 ≠ 0) &&
      (!recs.any (fun y => !y.coast && y.holds (num p 2 2 % 4096)) || !recs.any (fun y => y.coast && y.holds (num p 4 2 % 4096))))

/-- Code 12. -/
def badSeqprog (img : List Byte) : Bool :=
  match recsOf (sectBytes img 7) with
  | none => true
  | some rs => rs.any (fun x => decide (x.radio = 3)) ||
      [0, 1, 2].any (fun r => badSeqRadio (rs.filter (fun x => x.radio == r)) (radioRec (sectBytes img 6) r))

/-! ### PLANTPL (R111, R295) -/

structure PlanTpl where
  tpl : Nat
  initial : Nat
  len : Nat
  wins : List (List Byte)
  deriving DecidableEq, Repr

def planTplsGo : Nat → List Byte → Option (List PlanTpl)
  | 0, b => if b = [] then some [] else none
  | k + 1, b =>
    if b = [] then some []
    else
      let n := num b 4 2
      if b.length < 8 + 16 * n then none
      else (planTplsGo k (b.drop (8 + 16 * n))).map (fun t =>
        ⟨num b 0 1, num b 1 1 % 8, num b 2 1, entries 16 n (b.drop 8)⟩ :: t)

def planTpls (b : List Byte) : Option (List PlanTpl) := planTplsGo b.length b

def windowOfBytes (w : List Byte) : Window :=
  { start := num w 0 4, end_ := num w 4 4, kind := num w 8 1, chidx := num w 9 1, wg := num w 10 2, flags := num w 12 1,
    slots := num w 13 1, profile := num w 14 1, param := num w 15 1 }

/-- The windows before the first of KIND 0 (R110). -/
def liveWindows (ws : List (List Byte)) : List Window := (ws.map windowOfBytes).takeWhile (fun w => decide (w.kind ≠ 0))

/-- Code 13; `bi` is the beacon interval in force. -/
def badPlantpl (img : List Byte) (bi : Nat) : Bool :=
  match planTpls (sectBytes img 8) with
  | none => true
  | some ts =>
    ts.any (fun t => decide (63 < t.tpl) || decide (1024 < t.wins.length) ||
      (liveWindows t.wins).any (windowBad bi (t.len + 1)) || !windowsInOrder (liveWindows t.wins)) ||
    !noRepeat (ts.map (·.tpl)) ||
    [0, 1, 2].any (fun r => decide (1 < (ts.filter (fun t => decide (t.initial / 2 ^ r % 2 = 1))).length))

/-! ### FAULTPOL (R296) -/

/-- Code 14. -/
def badFaultpol (img : List Byte) : Bool :=
  let f := sectBytes img 9
  let es := entries 16 f.length f
  let cls := fun (c : Nat) => decide (num (sectBytes img 5) (8 * c) 4 / 2 ^ 19 % 2 = 1)
  decide (f.length % 16 ≠ 0) || !noRepeat (es.map (fun e => num e 0 1)) || es.any (fun e =>
    decide (191 < num e 0 1) || decide (num e 2 1 < 1) || decide (num e 4 2 < 1) ||
      (decide ((num e 8 1 ||| num e 9 1) / 2 % 2 = 1) && !cls (num e 10 1 % 32)))

/-! ### TURNOVER (R297, code 15) -/

/-- A region of a MEMMAP section. -/
def regionOf (m : List Byte) (k : Nat) : Option (Nat × Nat) :=
  ((mapRegs m).find? (fun r => r.kind == k)).map (fun r => (r.base, r.size))

def recsOr (b : List Byte) : List SeqRec := (recsOf b).getD []

/-- Code 15, against the running blank. -/
def badTurnover (img : List Byte) (old : Blank) : Bool :=
  let m := sectBytes img 1
  decide (num m 0 1 % 4 ≠ num old.memmap 0 1 % 4) || decide (num m 8 4 ≠ num old.memmap 8 4) ||
    [0, 1, 2, 3, 4, 6].any (fun k => decide (regionOf m k ≠ regionOf old.memmap k)) ||
    (recsOr (sectBytes img 7)).any (fun x => !x.coast && (recsOr old.seqprog).any (fun y =>
      y.coast && decide (x.radio = y.radio) && meets x.first x.ops.length y.first y.ops.length))

/-! ### All checks in the order of their codes (R297) -/

/-- What the checks run against: the silicon's revision, the DRAM found, the beacon interval in force, the blank that a
turnover replaces, and whether an error is met while loading. -/
structure CheckEnv where
  rev : Nat
  mib : Nat
  bi : Nat
  old : Option Blank
  loadErr : Bool

/-- The first check that fails: its code and the failing section's directory index or 0xFF; none for a blank that passes. -/
def checkBlank (img : List Byte) (e : CheckEnv) : Option (Nat × Nat) :=
  let at_ := fun (t : Nat) => (sectIdx img t).getD 0xFF
  if badHeader img then some (1, 0xFF)
  else if badPart img e.rev then some (2, 0xFF)
  else if badIdentity img then some (3, 0xFF)
  else match badDirectory img with
    | some i => some (4, i)
    | none =>
      match badCrc img with
      | some i => some (5, i)
      | none =>
        if badMemmap img e.mib then some (6, at_ 1)
        else if badParse img then some (7, at_ 2)
        else if badTables img then some (8, at_ 3)
        else if badPrograms img then some (9, at_ 4)
        else if badClasses img then some (10, at_ 5)
        else if badRadio img then some (11, at_ 6)
        else if badSeqprog img then some (12, at_ 7)
        else if badPlantpl img e.bi then some (13, at_ 8)
        else if badFaultpol img then some (14, at_ 9)
        else match e.old with
          | some b => if badTurnover img b then some (15, 0xFF) else if e.loadErr then some (16, 0xFF) else none
          | none => if e.loadErr then some (16, 0xFF) else none

/-- The blank that an image holds. -/
def blankOf (img : List Byte) : Blank :=
  { hdr := img.take 64, memmap := sectBytes img 1, parse := sectBytes img 2, tables := sectBytes img 3,
    programs := sectBytes img 4, classes := sectBytes img 5, radio := sectBytes img 6, seqprog := sectBytes img 7,
    plantpl := sectBytes img 8, faultpol := sectBytes img 9 }

end Sys2Proof.Machine
end

