-- ==== Sys2Proof/Machine/HostRings.lean ====
section
/-! DEFINITION. The descriptor rings of the host: sizes and indices, outputs that wait for descriptors, interrupt
moderation and the status ring (spec/20_host_interface.md R397 to R402, R405, R406). -/

namespace Sys2Proof.Machine

/-! ### Rings (R398) -/

/-- Entries of a ring from its LOG2, 6 to `hi`; others are taken as the nearer limit. -/
def ringSize (log2 hi : Nat) : Nat := 2 ^ max 6 (min hi log2)

def State.rxSize (s : State) (q : Nat) : Nat := ringSize (s.get (HIF_Q_CFG_RX_LOG2 q)) 15
def State.txSize (s : State) (q : Nat) : Nat := ringSize (s.get (HIF_Q_CFG_TX_LOG2 q)) 15

/-- Descriptors that the device holds: (TAIL − HEAD) mod 2^LOG2. -/
def ringHeld (head tail n : Nat) : Nat := (tail % n + n - head % n) % n

def State.rxHead (s : State) (q : Nat) : Nat := (s.rd (HIF_Q_RX_HEAD q)).toNat % 2 ^ 15
def State.txHead (s : State) (q : Nat) : Nat := (s.rd (HIF_Q_TX_HEAD q)).toNat % 2 ^ 15

def State.rxd (s : State) (q : Nat) : Nat := ringHeld (s.rxHead q) (s.rd (HIF_Q_RX_TAIL q)).toNat (s.rxSize q)
def State.txd (s : State) (q : Nat) : Nat := ringHeld (s.txHead q) (s.rd (HIF_Q_TX_TAIL q)).toNat (s.txSize q)

/-- Receive buffer size in bytes: 128-byte units, 0 and 1 taken as 2. -/
def State.bufSize (s : State) (q : Nat) : Nat := 128 * max 2 (s.get (HIF_Q_CFG_BUFSZ q))

/-- Descriptors that `len` bytes need (R401). -/
def State.needs (s : State) (q len : Nat) : Nat := (atLeast1 len + s.bufSize q - 1) / s.bufSize q

/-- Descriptors already set aside for outputs that wait to be written. -/
def State.reserved (s : State) (q : Nat) : Nat :=
  ((s.hif.wait.filter (fun w => w.q == q && w.held.isNone)).map (fun w => s.needs q w.bytes.length)).sum

/-- Device-held and not yet used (R401). -/
def State.usable (s : State) (q : Nat) : Nat := s.rxd q - s.reserved q

/-! ### Moderation (R406) -/

def modKey (q : Nat) (tx : Bool) : Nat := 2 * q + (if tx then 1 else 0)

def State.modGet (s : State) (k : Nat) : Moderation := SMap.get (fun _ => {}) s.hif.mods k

def State.modSet (s : State) (k : Nat) (m : Moderation) : State :=
  { s with hif := { s.hif with mods := SMap.set (fun _ => {}) s.hif.mods k m } }

/-- The vector of a ring is raised. -/
def State.irqRaise (s : State) (q : Nat) (tx : Bool) : State :=
  (s.modSet (modKey q tx) {}).emit (.msix (s.get (if tx then HIF_Q_CFG_TX_VEC q else HIF_Q_CFG_RX_VEC q)))

/-- A completion of a ring: PKTS of them raise its vector. -/
def State.complete (s : State) (q : Nat) (tx : Bool) : State :=
  let k := modKey q tx
  let m := s.modGet k
  let pkts := atLeast1 (s.get (if tx then HIF_Q_IRQ_TX_PKTS q else HIF_Q_IRQ_RX_PKTS q))
  if pkts ≤ m.count + 1 then s.irqRaise q tx
  else s.modSet k ⟨m.count + 1, if m.count = 0 then s.ref else m.first⟩

/-- IRQ_MODERATION_EXPIRY: USEC µs after the first completion since the last raise. -/
def State.irqExpiry (s : State) (q : Nat) (tx : Bool) : State :=
  let m := s.modGet (modKey q tx)
  let us := s.get (if tx then HIF_Q_IRQ_TX_USEC q else HIF_Q_IRQ_RX_USEC q)
  if m.count = 0 ∨ us = 0 then s else (s.toRef (m.first + 2000 * us)).irqRaise q tx

def execIrqModerationExpiry (q : Fin 32) (tx : Bool) (s : State) : Out State := .next (s.clocked fun (s : State) => s.irqExpiry q tx)

/-! ### The status ring (R405) -/

def State.stsSize (s : State) : Nat := ringSize (s.get HIF_STS_CFG_LOG2) 12

/-- An entry of 16 bytes; one that finds the ring full or disabled is dropped. HIF_STS_TAIL names the next entry the host
will consume, so the ring is full one entry before HEAD reaches it (DEDUCED, log entry 17). -/
def State.stsWrite (s : State) (entry : List Byte) : State :=
  let n := s.stsSize
  let h := (s.rd HIF_STS_HEAD).toNat % n
  if !s.flag HIF_STS_CFG_EN || decide ((h + 1) % n = (s.rd HIF_STS_TAIL).toNat % n) then s.bump HIF_CNT_STS_DROP
  else ((s.wr HIF_STS_HEAD (BitVec.ofNat 32 ((h + 1) % n))).emit (.hostWrite (s.rd64 HIF_STS_BASE_LO + 16 * h) entry)).emit
    (.msix (s.get HIF_VEC_STS))

/-! ### Outputs that wait for descriptors (R401, R402) -/

/-- An output without enough descriptors is dropped at once. -/
def State.noDesc (s : State) : State := (s.bump HIF_CNT_RX_NODESC).raise HIF_EVT_RX_NODESC

/-- What an output to a queue pair meets: dropped, written when its turn comes, or held with its flow's head. None passes one that a
turnover has recorded as waiting (R256). -/
inductive HostFate where
  | drop
  | ready
  | hold
  deriving DecidableEq, Repr

def State.hostFate (s : State) (q len : Nat) : HostFate :=
  if !s.flag (HIF_Q_CFG_RX_EN q) then .drop
  else if s.hif.wait.any (fun w => w.q == q && w.recorded && w.held.isSome) then .hold
  else if s.needs q len ≤ s.usable q then .ready
  else if s.flag (HIF_Q_CFG_HOLD q) && !s.flag HIF_STAT_HOST_LOST then .hold
  else .drop

/-- Held outputs of a queue pair that now find enough descriptors take them, in release order (R402). -/
def takeHeld (s : State) (q : Nat) : List HostOut → List HostOut → List HostOut
  | done, [] => done
  | done, w :: t =>
    if w.q = q ∧ w.held.isSome then
      let s1 := { s with hif := { s.hif with wait := done ++ w :: t } }
      if s1.needs q w.bytes.length ≤ s1.usable q ∧ (w.recorded ∨ done.all (fun v => v.q != q || !v.recorded || v.held.isNone)) then
        takeHeld s q (done ++ [{ w with held := none }]) t
      else takeHeld s q (done ++ [w]) t
    else takeHeld s q (done ++ [w]) t

def State.serveHeld (s : State) (q : Nat) : State :=
  { s with hif := { s.hif with wait := takeHeld s q [] s.hif.wait } }

end Sys2Proof.Machine
end

