-- ==== Sys2Proof/Machine/Keys.lean ====
section
/-! DEFINITION. The key store (spec/15_cipher_keys.md): slots and their records, lane requests, and the key commands. -/

namespace Sys2Proof.Machine

def State.keySlot (s : State) (k : Nat) : Option KeySlot := SMap.get (fun _ => none) s.key.slots k

def State.setKeySlot (s : State) (k : Nat) (v : Option KeySlot) : State :=
  { s with key := { s.key with slots := SMap.set (fun _ => none) s.key.slots k v } }

/-- The slots that the running command has taken: a lane's request for one is answered empty (R332, R333). -/
def State.keyBusy (s : State) (k : Nat) : Bool :=
  match s.key.cmd with
  | some (.install j _ _) => j == k
  | some (.erase j) => j == k
  | some .wipe => decide (0x400 ≤ k)
  | none => false

/-- Suites of R323 by kind of frame. -/
def suitesAir : List Nat := [1, 2, 3, 4]
def suitesBip : List Nat := [5, 6, 7, 8]
def suitesLink : List Nat := [9]
def suitesFlood : List Nat := [10]

/-- A lane asks for a slot whose suite must be one of `ok`; an empty or unfit slot is answered empty and counted (R18,
R323). Keys come over the key lane alone: with it down no request is carried and the frame is dropped (R15, R17, R18). -/
def State.keyFetch (s : State) (k : Nat) (ok : List Nat) : State × Option KeySlot :=
  if !s.flag SYS_DIE_STAT_KEY_UP then ((s.bump CIP_CNT_NOKEY).raise CIP_EVT_NOKEY, none)
  else match (if s.keyBusy k then none else s.keySlot k) with
  | some e => if ok.contains e.suite then (s, some e)
    else (((s.bump KEY_CNT_EMPTY_REQ).bump CIP_CNT_NOKEY).raise CIP_EVT_NOKEY, none)
  | none => (((s.bump KEY_CNT_EMPTY_REQ).bump CIP_CNT_NOKEY).raise CIP_EVT_NOKEY, none)

/-! ### Lanes (R324, R325, R326) -/

/-- The MISMATCH bit of a lane. -/
def mismatchFld (l : Nat) : Fld := { CIP_EVT_MISMATCH with lo := l, w := 1 }

/-- What came of a lane request. -/
inductive LaneUse where
  /-- The frame is computed. -/
  | done
  /-- No lane is free; the frame waits. -/
  | waits
  /-- No lane is enabled, or two mismatches: the frame is given up. -/
  | gaveUp
  deriving DecidableEq, Repr

/-- Take a lane (R324, R325, R326). `held` and `urgentHeld` are the lanes that hold a normal and an urgent frame now;
`mism` how many times this frame's datapaths disagree. -/
def State.takeLane (s : State) (held urgentHeld : BitVec 4) (urgent : Bool) (mism : Nat) : State × LaneUse :=
  let en := (List.range 4).filter (fun l => (s.rd CIP_CTL).getLsbD l)
  let free := en.filter (fun l => !held.getLsbD l && !urgentHeld.getLsbD l)
  let run := fun (s : State) (l : Nat) =>
    let one := fun (s : State) => (s.bump (CIP_CNT_MISMATCH l)).raise (mismatchFld l)
    if mism = 0 then (s, LaneUse.done)
    else if mism = 1 then (one s, .done)
    else (((one (one s)).bump CIP_CNT_GIVEUP).raise CIP_EVT_GIVEUP, .gaveUp)
  if en = [] then ((s.bump CIP_CNT_GIVEUP).raise CIP_EVT_LANE_OFF, .gaveUp)
  else match free with
    | l :: _ => run s l
    | [] =>
      match (if urgent then en.find? (fun l => held.getLsbD l && !urgentHeld.getLsbD l) else none) with
      | some l => run (s.bump CIP_CNT_SUSPEND) l
      | none => (s, .waits)

/-! ### Packet numbers -/

/-- The largest packet number of a suite (R329). -/
def pnMax (suite : Nat) : Nat := if suite = 9 then 2 ^ 32 - 1 else 2 ^ 48 - 1

/-- The next TX_PN of a slot, or none when it is exhausted (R329). -/
def State.takePn (s : State) (k : Nat) (e : KeySlot) : State × Option Nat :=
  if pnMax e.suite ≤ e.txPn then ((s.bump CIP_CNT_PN_END).raise CIP_EVT_PN_END, none)
  else (s.setKeySlot k (some { e with txPn := e.txPn + 1 }), some (e.txPn + 1))

/-- A replay is dropped and counted (R330). -/
def State.cipReplay (s : State) : State := (s.bump CIP_CNT_REPLAY).raise CIP_EVT_REPLAY

/-- What becomes of a protected backbone frame in its lane: it passes, its ICV fails, or it is dropped otherwise. -/
inductive LinkUse where
  | passed
  | badIcv
  | dropped
  deriving DecidableEq, Repr

/-- A received protected frame of the backbone in a lane: suite 9, and RX_PN of the secure association's slot as its counter
(R323, R330). -/
def State.linkIn (s : State) (c : LinkSec) (urgent : Bool) : State × LinkUse :=
  match s.takeLane c.held c.urgentHeld urgent c.mism.toNat with
  | (_, .waits) => (s, .dropped)
  | (s1, .gaveUp) => (s1, .dropped)
  | (s1, .done) =>
    match s1.keyFetch c.slot.toNat suitesLink with
    | (s2, none) => (s2, .dropped)
    | (s2, some e) =>
      if !c.icvOk then (s2.bump CIP_CNT_MIC, .badIcv)
      else if c.pn.toNat ≤ e.rxPn then (s2.cipReplay, .dropped)
      else (s2.setKeySlot c.slot.toNat (some { e with rxPn := c.pn.toNat }), .passed)

/-! ### Key commands (R332, R333, R334) -/

/-- KEY_DATA is cleared at the end of each key command, and the command is no longer in progress if it is the one that
ran. -/
def State.keyClear (s : State) : State := { s with key := { s.key with data := 0 } }

/-- A key command is refused with a result code. -/
def State.keyRefuse (s : State) (code : Nat) : State :=
  (((s.put KEY_STAT_RESULT code).bump KEY_CNT_REFUSED).raise KEY_EVT_CMD_ERR).keyClear

/-- A 128-bit key leaves bits [255:128] of its slot 0 (R331). -/
def keyOf (suite : Nat) (d : BitVec 256) : BitVec 256 :=
  if [1, 3, 5, 7, 10].contains suite then BitVec.ofNat 256 (d.toNat % 2 ^ 128) else d

/-- INFO: the slot's record is copied into the KEY_INFO registers. -/
def State.keyInfo (s : State) (k : Nat) : State :=
  let e := (s.keySlot k).getD ⟨0, 0, 0, 0, 0⟩
  let s1 := s.wr KEY_INFO (BitVec.ofNat 32 (e.suite + if k < 0x400 then 16 else 0))
  let s2 := ((s1.wr64 KEY_INFO_TXPN_LO e.txPn).wr64 KEY_INFO_RXPN_LO e.rxPn).wr64 KEY_INFO_MGPN_LO e.mgPn
  (s2.put KEY_STAT_RESULT 0).keyClear

/-- A write of KEY_CMD: [0] INSTALL, [1] ERASE, [2] INFO, [3] WIPE. -/
def State.keyCmd (s : State) (v : BitVec 4) : State :=
  let k := s.get KEY_SEL_SLOT
  let su := s.get KEY_SEL_SUITE
  let n := ([0, 1, 2, 3].filter (fun i => v.getLsbD i)).length
  let inst := v.getLsbD 0
  let holds : Bool := match s.keySlot k with
    | some e => decide (e.suite = 11 ∨ e.suite = 12)
    | none => false
  if n = 0 then s
  else if s.flag KEY_STAT_BUSY then s.keyRefuse 1
  else if 1 < n then s.keyRefuse 5
  else if inst ∧ (su = 0 ∨ 13 ≤ su ∨ ((su = 11 ∨ su = 12) ∧ 0x400 ≤ k) ∨ (su = 11 ∧ 0x3FD < k)) then s.keyRefuse 2
  else if s.rd UPD_LOCK ≠ 0 ∧ (((inst || v.getLsbD 1) && holds) = true ∨ inst = true ∧ (su = 11 ∨ su = 12)) then s.keyRefuse 3
  else if v.getLsbD 2 then s.keyInfo k
  else
    let c := if inst then KeyCmd.install k su (keyOf su s.key.data) else if v.getLsbD 1 then .erase k else .wipe
    ({ s with key := { s.key with cmd := some c } }).put KEY_STAT_BUSY 1

def execInstall (cmd : BitVec 4) (s : State) : Out State :=
  .next (s.hostAt none KEY_CMD fun (s : State) => s.keyCmd (cmd ||| 1))
def execErase (cmd : BitVec 4) (s : State) : Out State :=
  .next (s.hostAt none KEY_CMD fun (s : State) => s.keyCmd (cmd ||| 2))
def execInfo (cmd : BitVec 4) (s : State) : Out State :=
  .next (s.hostAt none KEY_CMD fun (s : State) => s.keyCmd (cmd ||| 4))
def execWipe (cmd : BitVec 4) (s : State) : Out State :=
  .next (s.hostAt none KEY_CMD fun (s : State) => s.keyCmd (cmd ||| 8))

/-- A slot takes a new value, with its backing where it is persistent. -/
def State.keyStore (s : State) (k : Nat) (v : Option KeySlot) : State :=
  let s1 := s.setKeySlot k v
  if k < 0x400 then { s1 with key := { s1.key with backing := SMap.set (fun _ => none) s1.key.backing k v } } else s1

/-- The persistent backing could not be written: the slot is left EMPTY (R333). -/
def State.keyBackingFail (s : State) (k : Nat) : State :=
  (((s.setKeySlot k none).put KEY_STAT_RESULT 4).bump KEY_CNT_REFUSED).raise KEY_EVT_CMD_ERR

/-- KEY_COMMAND_DONE: the running command completes. -/
def State.keyDone (s : State) (backingOk : Bool) : State :=
  match s.key.cmd with
  | none => s
  | some c =>
    let s1 := (({ s with key := { s.key with cmd := none } }).put KEY_STAT_BUSY 0).put KEY_STAT_RESULT 0
    (match c with
     | .install k su key =>
       if k < 0x400 ∧ !backingOk then s1.keyBackingFail k
       else
         let s2 := (s1.keyStore k (some ⟨su, key, 0, 0, 0⟩)).bump KEY_CNT_INSTALL
         { s2 with fld := { s2.fld with keysWritten := k :: s2.fld.keysWritten.filter (· != k) } }
     | .erase k => if k < 0x400 ∧ !backingOk then s1.keyBackingFail k else s1.keyStore k none
     | .wipe => { s1 with key := { s1.key with slots := s1.key.slots.filter (fun e => decide (e.1 < 0x400)) } }).keyClear

def execKeyCommandDone (backingOk : Bool) (s : State) : Out State := .next (s.keyDone backingOk)

end Sys2Proof.Machine
end

