-- ==== Sys2Proof/Machine/Books.lean ====
section
/-! DEFINITION. The books page (spec/11_buffers_credits_order.md R249, R255): every part of every book is copied at one
fabric cycle. -/

namespace Sys2Proof.Machine

/-- Loaded key slots: every slot but one that is being written, which counts in INSTALL (R255). -/
def State.loadedSlots (s : State) : List Nat :=
  let busy := match s.key.cmd with
    | some (.install k _ _) => some k
    | _ => none
  (s.key.slots.map (·.1)).filter (fun k => decide (some k ≠ busy))

/-- A key slot is being written. -/
def State.installing (s : State) : Bool :=
  match s.key.cmd with
  | some (.install _ _ _) => true
  | _ => false

/-- The books of buffers and credits (R248, R252). -/
def State.snapBuffers (s : State) : State :=
  let s1 := ((s.wr CHK_BK_FREE_ODIE (s.rd CHK_FREE_ODIE)).wr CHK_BK_FREE_DRAM (s.rd CHK_FREE_DRAM)).wr CHK_BK_EXTRA
    (BitVec.ofNat 32 s.extra)
  let s2 := (List.range 12).foldl (fun (s : State) o => s.wr (CHK_BK_OWN o) (BitVec.ofNat 32 (s.ownBufs o))) s1
  (List.finRange 3).foldl (fun (s : State) (r : Fin 3) =>
    (s.put (CHK_BK_CRED_AVAIL r) (s.avail r)).put (CHK_BK_CRED_OUT r) s.chk.out[r]) s2

/-- The books of R255. -/
def State.snapOthers (s : State) : State :=
  let s1 := ((s.wr CHK_BK_TASK_A (s.rd TSK_STAT)).wr CHK_BK_TASK_B (s.rd TSK_RUN)).wr CHK_BK_ROB (s.rd ROB_STAT)
  let s2 := (s1.wr CHK_BK_ROB_REDISP (s.rd ROB_REDISP)).put CHK_BK_MLK_RB_FREE (s.get MLK_STAT_RB_FREE)
  let s3 := s2.wr CHK_BK_SORUS (s.rd FLD_SORUS)
  let l := s.loadedSlots
  let ins := if s.installing then 1 else 0
  let s4 := (s3.put CHK_BK_KEY_A_EMPTY (16384 - l.length - ins)).put CHK_BK_KEY_A_LOADED l.length
  let s5 := (s4.put CHK_BK_KEY_B_INSTALL ins).put CHK_BK_KEY_B_PLOADED (l.filter (fun k => decide (k < 0x400))).length
  (List.range 32).foldl (fun (s : State) q =>
    (s.put (CHK_BK_DESC_RXD q) (s.rxd q)).put (CHK_BK_DESC_TXD q) (s.txd q)) s5

/-- BOOKS_SNAP: CHK_BOOK_CMD.SNAP. -/
def State.booksSnap (s : State) : State := s.snapBuffers.snapOthers.wr64 CHK_BOOK_TICK_LO s.stampTick

def execBooksSnap (s : State) : Out State :=
  .next (s.hostAt none CHK_BOOK_CMD fun (s : State) => s.booksSnap)

end Sys2Proof.Machine
end

