-- ==== Sys2Proof/Machine/Braid.lean ====
section
/-! DEFINITION. Braided links (spec/06_braided_links.md): members, sequence numbers, Block Ack agreements, the reorder
buffers with their hole timers, and frames handed toward the radios. -/

namespace Sys2Proof.Machine

/-! ### Receive state RXR (R133) -/

def rxr (t : Nat) : Nat := 32 + 24 * t
def State.wstart (s : State) (a t : Nat) : Nat := s.mr a (rxr t) 2 % 4096
def State.wsize (s : State) (a t : Nat) : Nat := s.mr a (rxr t + 2) 2
def State.entAt (s : State) (a t : Nat) : Nat := s.mr a (rxr t + 4) 4
def State.held (s : State) (a t : Nat) : Nat := s.mr a (rxr t + 8) 2
def State.rflagBit (s : State) (a t i : Nat) : Bool := decide (s.mr a (rxr t + 10) 1 / 2 ^ i % 2 = 1)
def State.setRflag (s : State) (a t i : Nat) (b : Bool) : State :=
  s.mrSet a (rxr t + 10) 1 (withBit (s.mr a (rxr t + 10) 1) i b)
def State.lastPn (s : State) (a t : Nat) : Nat := s.mr a (rxr t + 16) 6
def State.rhead (s : State) (a t : Nat) : Nat := s.mr a (rxr t + 22) 2

/-- The pool index of the entry for a sequence number (R133). -/
def State.entryIdx (s : State) (a t sn : Nat) : Nat :=
  s.entAt a t + (s.rhead a t + (sn + 4096 - s.wstart a t) % 4096) % atLeast1 (s.wsize a t)

def State.poolGet (s : State) (i : Nat) : Option PoolEntry := SMap.get (fun _ => none) s.mlkx.pool i

def State.poolSet (s : State) (i : Nat) (e : Option PoolEntry) : State :=
  { s with mlkx := { s.mlkx with pool := SMap.set (fun _ => none) s.mlkx.pool i e } }

/-- A frame leaves the layer upward, toward the parser (R148). -/
def State.passUp (s : State) (x : RxStage) : State :=
  let i := x.item
  let p : Packet := { chain := i.chain, src := 0, port := i.radio, aid := x.aid, tid := dupEntry i.frame,
                      tick := (i.tick.map packTick).getD 0, narrow := i.narrow, tag := i.tag, stampOk := i.tick.isSome,
                      lid := i.radio, chainNo := i.chainNo, rssi := i.rssi, ta := i.frame.ta, bytes := etherOf i.frame }
  { s with prsq := s.prsq ++ [p] }

/-- A frame is released: its packet number is checked first where the cipher engine has left it, as it does while DEFER is set
(R143). -/
def State.releaseUp (s : State) (a t : Nat) (x : RxStage) : State :=
  let pn := x.item.frame.pn.toNat
  if x.unchecked && x.item.frame.prot then
    if pn ≤ s.lastPn a t then ((s.bump MLK_CNT_REPLAY).raise MLK_EVT_REPLAY).release x.item.chain ownMlk
    else (s.mrSet a (rxr t + 16) 6 pn).passUp x
  else s.passUp x

/-- The window's start moves on by one number: its entry is released, passed over if a HOLE, or counted in `cnt` if
absent. -/
def State.advance (s : State) (a t cnt : Nat) : State :=
  let i := s.entryIdx a t (s.wstart a t)
  let s1 := match s.poolGet i with
    | some e =>
      let s2 := s.poolSet i none
      (match e.held with
       | some x => ((s2.mrSet a (rxr t + 8) 2 (s2.held a t - 1)).releaseUp a t x)
       | none => s2)
    | none => s.bump cnt
  (s1.mrSet a (rxr t) 2 ((s.wstart a t + 1) % 4096)).mrSet a (rxr t + 22) 2 ((s.rhead a t + 1) % atLeast1 (s.wsize a t))

def State.advanceBy (s : State) (a t cnt : Nat) : Nat → State
  | 0 => s
  | n + 1 => (s.advance a t cnt).advanceBy a t cnt n

/-- Release while the entry at WSTART is present or a HOLE (R141). -/
def State.drain (s : State) (a t : Nat) : Nat → State
  | 0 => s
  | n + 1 => match s.poolGet (s.entryIdx a t (s.wstart a t)) with
    | some _ => (s.advance a t MLK_CNT_HOLE_MOVE).drain a t n
    | none => s

/-- SLOW is set while any member eligible for the traffic identifier has band group 0 (R144). -/
def State.slow (s : State) (a t : Nat) : Bool :=
  (List.range 3).any (fun l => s.eligible a l t && decide (s.mgroup a l = 0))

/-- Set EXPIRY to a tick plus the timeout, TIMING set (R144). -/
def State.holeStart (s : State) (a t from_ : Nat) : State :=
  let slow := s.slow a t
  let e := from_ + (s.rd (if slow then MLK_HOLE_SLOW else MLK_HOLE_FAST)).toNat % 2 ^ 24
  let s1 := ((s.setRflag a t 2 slow).setRflag a t 1 true).mrSet a (rxr t + 12) 4
    (e % turnTicks + 2 ^ 24 * (e / turnTicks % 256))
  { s1 with mlkx := { s1.mlkx with expiry := SMap.set (fun _ => 0) s1.mlkx.expiry (8 * a + t) e } }

/-- After a change: release what may be released, then start or stop the hole timer (R141). -/
def State.settleBuf (s : State) (a t from_ : Nat) : State :=
  let s1 := s.drain a t 4096
  if s1.held a t = 0 then s1.setRflag a t 1 false
  else if s1.rflagBit a t 1 then s1
  else s1.holeStart a t from_

/-- Count a duplicate within the window (R142). -/
def State.windowDup (s : State) (a : Nat) (e : PoolEntry) (x : RxStage) : State :=
  let s1 := s.cxBump a 176 2 1
  let s2 := if e.lid ≠ x.item.radio.val then (s1.bump MLK_CNT_DUP_X).cxBump a 220 4 1 else s1.bump MLK_CNT_DUP_RB
  s2.release x.item.chain ownMlk

/-- Store a frame at its number. -/
def State.storeRx (s : State) (a t : Nat) (x : RxStage) : State :=
  (s.poolSet (s.entryIdx a t x.item.frame.sn.toNat) (some ⟨false, x.item.radio, x.item.frame.pn.toNat, some x⟩)).mrSet a
    (rxr t + 8) 2 (s.held a t + 1)

/-- A QoS data frame enters its reorder buffer (R141). -/
def State.reorder (s : State) (a t : Nat) (x : RxStage) : State :=
  let sn := x.item.frame.sn.toNat
  let k := (sn + 4096 - s.wstart a t) % 4096
  let from_ := x.item.tick.getD s.absTick
  if 2048 ≤ k then (s.bump MLK_CNT_OLD).release x.item.chain ownMlk
  else if k < s.wsize a t then
    match s.poolGet (s.entryIdx a t sn) with
    | some e => s.windowDup a e x
    | none => (s.storeRx a t x).settleBuf a t from_
  else ((s.advanceBy a t MLK_CNT_HOLE_MOVE (k + 1 - s.wsize a t)).storeRx a t x).settleBuf a t from_

/-- The settle wait of this buffer, if one runs. -/
def State.settleOf (s : State) (a t : Nat) : Option Settle :=
  s.mlkx.settling.find? (fun g => g.aid == a && g.tid == t)

/-- The frame updates its duplicate cache entry; the entry's LID becomes that of the acceptance (R102, R124). -/
def State.dupWrite (s : State) (a : Nat) (x : RxItem) : State :=
  s.cxSet a (128 + 4 * dupEntry x.frame) 4 (dupWord x.frame x.radio)

/-- The scoreboards of a station and traffic identifier on its members: their windows begin at `ssn`, each no larger than the largest
of its member's formats; 0 takes them away (R136, R141). -/
def State.setBoards (s : State) (a t ssn n : Nat) : State :=
  (List.finRange 3).foldl (fun (s : State) (r : Fin 3) =>
    let ta := BitVec.ofNat 48 (s.mr a (6 * r.val) 6)
    let f := s.fr r
    let rest := f.boards.filter (fun b => !(b.ta == ta && b.tid == t))
    let new := if n ≠ 0 ∧ s.member a r then [⟨ta, t, min n (if s.mgroup a r = 0 then 64 else 1024), ssn, []⟩] else []
    if rest ++ new = f.boards then s else s.setFr r { f with boards := rest ++ new }) s

/-- The scoreboards of a station's agreements stand on its members as they are now. -/
def State.renewBoards (s : State) (a : Nat) : State :=
  ((List.range 8).filter (fun t => s.cxBit a 194 t)).foldl (fun (s : State) t => s.setBoards a t (s.wstart a t) (s.wsize a t)) s

/-- A Block Ack Request moves the scoreboard of the member that it came on. -/
def State.moveBoard (s : State) (r : Fin 3) (ta : BitVec 48) (t ssn : Nat) : State :=
  s.setFr r { s.fr r with boards := (s.fr r).boards.map (fun b => if b.ta = ta ∧ b.tid = t then b.moveTo ssn else b) }

/-- BLOCK_ACK_REQUEST_RX: a starting number 1 to 2,047 ahead moves the window there (R141). -/
def State.barRx (s0 : State) (r : Fin 3) (ta : BitVec 48) (t ssn : Nat) : State :=
  let s := s0.moveBoard r ta t ssn
  match s.aidOf r ta with
  | some a =>
    let k := (ssn + 4096 - s.wstart a t) % 4096
    if s.cxBit a 194 t && decide (1 ≤ k ∧ k ≤ 2047) then
      (s.advanceBy a t MLK_CNT_HOLE_MOVE k).settleBuf a t s.absTick
    else s
  | none => s

def execBlockAckRequestRx (r : Fin 3) (ta : BitVec 48) (tid : BitVec 3) (ssn : BitVec 12) (s : State) : Out State :=
  .next (s.clocked fun (s : State) => s.barRx r ta tid.toNat ssn.toNat)

/-! ### The hole timer (R144) -/

/-- HOLE_TIMER_EXPIRY: EXPIRY is reached; the settle wait begins. -/
def State.holeExpiry (s : State) (a t : Nat) : State :=
  if t < 8 ∧ s.rflagBit a t 1 ∧ (s.settleOf a t).isNone then
    let e := SMap.get (fun _ => 0) s.mlkx.expiry (8 * a + t)
    let s1 := s.toAbsTick e
    { s1 with mlkx := { s1.mlkx with settling := s1.mlkx.settling ++ [⟨a, t, e, []⟩] } }
  else s

def execHoleTimerExpiry (aid : BitVec 13) (tid : BitVec 3) (s : State) : Out State :=
  .next (s.clocked fun (s : State) => s.holeExpiry aid.toNat tid.toNat)

/-- Some frame of the station captured before a tick has not reached the layer yet. -/
def State.inFlight (s : State) (a e : Nat) : Bool :=
  let before := fun (x : RxItem) => decide (x.tick.getD e < e)
  s.rxq.any (fun x => before x && decide (s.rxAid x.radio x.frame = some a)) ||
    s.acc.fetching.any (fun w => w.1 == a && before w.2) || s.cipq.any (fun w => w.aid == a && before w.item) ||
    s.mlkq.any (fun w => w.aid == a && before w.item)

/-- Release up to the next held frame, counting each absent number (step 3 of R144). -/
def State.skipHole (s : State) (a t : Nat) : Nat → State
  | 0 => s
  | n + 1 =>
    if s.held a t = 0 then s
    else match s.poolGet (s.entryIdx a t (s.wstart a t)) with
      | some e => if e.held.isSome then s else (s.advance a t MLK_CNT_HOLE_TMO).skipHole a t n
      | none => (s.advance a t MLK_CNT_HOLE_TMO).skipHole a t n

/-- HOLE_SETTLE_END: every in-time frame has come or been dropped, at the latest 0x800 ticks after the expiry. -/
def State.holeSettle (s : State) (a t : Nat) : State :=
  match s.settleOf a t with
  | none => s
  | some g =>
    let s1 := if s.inFlight a g.expiry then s.toAbsTick (g.expiry + 0x800) else s
    let s2 := { s1 with mlkx := { s1.mlkx with settling := s1.mlkx.settling.filter (fun h => !(h.aid == a && h.tid == t)) } }
    let s3 := (((s2.setRflag a t 1 false).skipHole a t 4096).drain a t 4096)
    let s4 := if s3.held a t = 0 then s3 else s3.holeStart a t g.expiry
    g.late.foldl (fun s x => s.reorder a t x) s4

def execHoleSettleEnd (aid : BitVec 13) (tid : BitVec 3) (s : State) : Out State :=
  .next (s.clocked fun (s : State) => s.holeSettle aid.toNat tid.toNat)

/-- CIPHER_DROP_NOTICE: the number's entry is marked HOLE at once; outside the window the notice is discarded (R147). -/
def State.dropNotice (s : State) (a t sn lid : Nat) : State :=
  let k := (sn + 4096 - s.wstart a t) % 4096
  if s.rflagBit a t 0 && decide (k < s.wsize a t) && (s.poolGet (s.entryIdx a t sn)).isNone then
    (((s.poolSet (s.entryIdx a t sn) (some ⟨true, lid, 0, none⟩)).bump MLK_CNT_HOLE_CIPHER).raise MLK_EVT_CIPHER_HOLE).settleBuf
      a t s.absTick
  else s

def execCipherDropNotice (aid : BitVec 13) (tid : BitVec 3) (sn : BitVec 12) (lid : BitVec 2) (s : State) : Out State :=
  .next (s.clocked fun (s : State) => s.dropNotice aid.toNat tid.toNat sn.toNat lid.toNat)

/-! ### Agreements (R136, R145, R149) -/

/-- Every active reorder buffer: first entry and size. -/
def State.buffers (s : State) : List (Nat × Nat) :=
  ((s.ctx.filter (fun e => e.1 % 256 == 194)).map (fun e => e.1 / 256)).flatMap (fun a =>
    ((List.range 8).filter (fun t => s.cxBit a 194 t)).map (fun t => (s.entAt a t, s.wsize a t)))

/-- `n` entries from `i` overlap no buffer and lie in the pool. -/
def gapAt (bs : List (Nat × Nat)) (n i : Nat) : Bool :=
  decide (i + n ≤ 131072) && bs.all (fun b => decide (i + n ≤ b.1 ∨ b.1 + b.2 ≤ i))

/-- A place for `n` entries: where the spec leaves it open a free value is tried first (log entry 4). -/
def State.poolGap (s : State) (n : Nat) : Option Nat :=
  let bs := s.buffers
  ((s.draw % 8192 * 16) :: 0 :: bs.map (fun b => b.1 + b.2)).find? (gapAt bs n)

/-- Halve a grant until the pool holds it, down to 16 (R136). Answers the size and the place. -/
def State.fitPool (s : State) : Nat → Nat → Option (Nat × Nat)
  | 0, _ => none
  | k + 1, n =>
    match (if n ≤ s.get MLK_STAT_RB_FREE then s.poolGap n else none) with
    | some e => some (n, e)
    | none => if n ≤ 16 then none else s.fitPool k (max 16 (n / 2 / 16 * 16))

/-- A receive agreement ends: held frames are released in order, the entries go back to the pool (R145). Frames of it that have
come to the layer, those behind a hole's settling first, are taken in before, so that none passes a later one (R148). -/
def State.endRxBa (s : State) (a t : Nat) : State :=
  if s.cxBit a 194 t then
    let late := match s.settleOf a t with
      | some g => g.late
      | none => []
    let mine := fun (x : RxStage) => x.aid == a && x.item.frame.kind == .qos && decide (x.item.frame.tid.toNat = t)
    let sx := { s with mlkx := { s.mlkx with settling := s.mlkx.settling.filter (fun h => !(h.aid == a && h.tid == t)) },
                       mlkq := s.mlkq.filter (fun x => !mine x) }
    let s0 := (late ++ s.mlkq.filter mine).foldl (fun s x => s.reorder a t x) sx
    let last := ((List.range (s0.wsize a t)).filter (fun k =>
      (s0.poolGet (s0.entryIdx a t (s0.wstart a t + k))).isSome)).foldl (fun m k => max m (k + 1)) 0
    let s1 := s0.advanceBy a t MLK_CNT_HOLE_MOVE last
    let n := s1.wsize a t
    let s2 := (((s1.mrSet a (rxr t + 2) 2 0).mrSet a (rxr t + 8) 2 0).mrSet a (rxr t + 10) 1 0).setBoards a t 0 0
    ((s2.cxPutBit a 194 t false).rxFlags a).put MLK_STAT_RB_FREE
      (s.get MLK_STAT_RB_FREE + n)
  else s

/-- The limit of an agreement: the largest window of R94 among the formats of the members' band groups. -/
def State.baLimit (s : State) (a : Nat) : Nat :=
  if (List.range 3).any (fun l => s.member a l && decide (s.mgroup a l ≠ 0)) then 1024 else 64

/-- ADDBA_REQUEST: the device answers (R136). -/
def State.addba (s : State) (r : Nat) (ta : BitVec 48) (t ssn size : Nat) : State :=
  match s.aidOf r ta with
  | none => s
  | some a =>
    let s1 := s.endRxBa a t
    let lim := s1.baLimit a
    let req := if size = 0 then lim else size
    let small := decide (req < 16)
    let want := if small then 16 else min req lim / 16 * 16
    match s1.fitPool 12 want with
    | none => ((s1.drawn.bump MLK_CNT_RB_FULL).raise MLK_EVT_RB_FULL).emit (.addbaResp a t 37 0)
    | some (n, e) =>
      let s2 := if n < want then (s1.bump MLK_CNT_RB_FULL).raise MLK_EVT_RB_FULL else s1
      let s3 := ((((s2.drawn.mrSet a (rxr t) 2 ssn).mrSet a (rxr t + 2) 2 n).mrSet a (rxr t + 4) 4 e).mrSet a (rxr t + 8) 2 0).mrSet
        a (rxr t + 22) 2 0
      let s4 := (s3.mrSet a (rxr t + 10) 1 (1 + 8 + if s3.slow a t then 4 else 0)).cxPutBit a 194 t true
      ((s4.put MLK_STAT_RB_FREE (s4.get MLK_STAT_RB_FREE - n)).setBoards a t ssn n).emit (.addbaResp a t 0 (if small then req else n))

def execAddbaRequest (r : Fin 3) (ta : BitVec 48) (tid : BitVec 3) (ssn : BitVec 12) (size : BitVec 12) (s : State) : Out State :=
  .next (s.clocked fun (s : State) => s.addba r ta tid.toNat ssn.toNat size.toNat)

/-- A transmit agreement ends. -/
def State.endTxBa (s : State) (a t : Nat) : State := (s.cxPutBit a 195 t false).mrSet a (224 + 4 * t) 4 0

/-- Every agreement of a station ends (disassociation, ACC_CTX_CMD.FREE, a handoff). -/
def State.endAllBa (s : State) (a : Nat) : State := (List.range 8).foldl (fun s t => (s.endRxBa a t).endTxBa a t) s

/-- AGREEMENT_END: a DELBA, of the receive or the transmit agreement of one traffic identifier. -/
def State.agreementEnd (s : State) (r : Nat) (ta : BitVec 48) (t : Nat) (tx : Bool) : State :=
  match s.aidOf r ta with
  | some a => if tx then s.endTxBa a t else s.endRxBa a t
  | none => s

def execAgreementEnd (r : Fin 3) (ta : BitVec 48) (tid : BitVec 3) (tx : Bool) (s : State) : Out State :=
  .next (s.clocked fun (s : State) => s.agreementEnd r ta tid.toNat tx)

/-! ### ACC_CTX_CMD (R103) and MLK_CMD (R140) -/

/-- A context goes to FREE and its AID is free again; its agreements end, its frames are released. -/
def State.ctxGone (s : State) (a : Nat) : State := (((s.endAllBa a).dropQueues a).wipeCtx a).cacheDrop a

/-- FREE, which is reported to the manager (R103, R183). -/
def State.ctxFree (s : State) (a : Nat) : State :=
  if s.cxState a = 0 then s else (s.report false a s.stampTick).ctxGone a

/-! ### Frames that the cipher engine has passed (R97, R124, R141, R143, R145, MLK_CTL.EN) -/

/-- Reassembly of static fragments (R97): a whole MPDU goes on; a fragment waits; the last one goes on as the MSDU. A 17th
fragment carries number 0 again. A fragment of a format that R97 does not name, or out of its order, is not taken; what is left of
a discarded MSDU goes with the station's next number (DEDUCED, log entry 28). Answers the frame that goes on, if any. -/
def State.reassemble (s : State) (aid : Nat) (x : RxItem) : State × Option RxItem :=
  let f := x.frame
  let e := dupEntry f
  let mine := fun (g : Frag) => g.aid == aid && g.tid == e && g.sn == f.sn
  let rest := s.acc.frags.filter (fun g => !mine g && !(g.dead && g.aid == aid && g.tid == e))
  let put := fun (s : State) (l : List Frag) => { s with acc := { s.acc with frags := l } }
  let whole := decide (f.fn = 0) && !f.moreFrag
  if !whole && !([Fmt.nonHt, .ht, .vht, .s1g].contains x.fmt) then (s, none)
  else match s.acc.frags.find? mine with
  | none =>
    if whole then (put s rest, some x)
    else if f.fn = 0 then (put s (⟨aid, e, f.sn, 1, f.body.length, f.body, false⟩ :: rest), none)
    else (s, none)
  | some g =>
    if f.fn = 0 ∧ g.count ≠ 16 then
      if f.moreFrag then (put s (⟨aid, e, f.sn, 1, f.body.length, f.body, false⟩ :: rest), none) else (put s rest, some x)
    else if f.fn.toNat ≠ g.count % 16 then (s, none)
    else
      let b := g.bytes + f.body.length
      let past := decide (16 ≤ g.count) || decide (2304 < b)
      let s1 := if past && !g.dead then s.bump ACC_CNT_RX_OVERSIZE else s
      if f.moreFrag then
        (put s1 ({ g with count := g.count + 1, bytes := b, body := g.body ++ f.body, dead := g.dead || past } :: rest), none)
      else
        (put s1 rest, if g.dead || past then none else some { x with frame := { f with body := g.body ++ f.body } })

/-- A frame under no receive agreement: the cipher engine has passed it, so it is entered in the duplicate cache; its packet
number is checked where that was left to the layer; then the MSDU goes up, in as many buffers as it needs (R244): without them
it is lost (R245; DESIGN CHOICE, log entry 18). -/
def State.plainRx (s : State) (a : Nat) (x : RxStage) : State :=
  let s1 := s.dupWrite a x.item
  let t := x.item.frame.tid.toNat
  let pn := x.item.frame.pn.toNat
  let check := decide (x.item.frame.kind = .qos) && x.item.frame.prot && x.unchecked
  if check && decide (pn ≤ s1.lastPn a t) then ((s1.bump MLK_CNT_REPLAY).raise MLK_EVT_REPLAY).release x.item.chain ownMlk
  else
    let s2 := if check then s1.mrSet a (rxr t + 16) 6 pn else s1
    match s2.reassemble a x.item with
    | (s3, some y) =>
      if y.frame.body = x.item.frame.body then s3.passUp { x with item := y }
      else match s3.refit ownMlk y.chain y.frame.body with
        | (s4, true) => s4.passUp { x with item := y }
        | (s4, false) => s4.release y.chain ownMlk
    | (s3, none) => s3.release x.item.chain ownMlk

/-- A frame with which the station leaves ends its association once it has gone up (R128, R145, R183). -/
def State.leaves (s : State) (x : RxStage) : State := if x.item.frame.kind = .leave then s.ctxFree x.aid else s

/-- REORDER_RX: the next frame that the cipher engine has passed. -/
def State.reorderRx (s : State) : State :=
  match s.mlkq with
  | [] => s
  | x :: rest =>
    let s1 := { s with mlkq := rest }
    let a := x.aid
    let f := x.item.frame
    if !s1.flag MLK_CTL_EN then
      if s1.memberCount a ≤ 1 then (s1.plainRx a x).leaves x else (s1.bump MLK_CNT_NOLINK).release x.item.chain ownMlk
    else if s1.underBa a f then
      let t := f.tid.toNat
      match s1.settleOf a t with
      | some g =>
        if g.expiry ≤ x.item.tick.getD s1.absTick then
          let gs := s1.mlkx.settling.map (fun h => if h.aid = a ∧ h.tid = t then { h with late := h.late ++ [x] } else h)
          { s1 with mlkx := { s1.mlkx with settling := gs } }
        else s1.reorder a t x
      | none => s1.reorder a t x
    else (s1.plainRx a x).leaves x

/-! ### Association (R22, R99, R128, R145, R150) -/

/-- ASSOCIATION_REQUEST on a radio in access-point role: the station's address, the links that standard multi-link setup
adds, the traffic identifiers that its TID-to-link mapping gives each, its limits and flags, its non-simultaneous links, its EMLSR
padding delay (R150), and the vendor element it carries (empty for none). A station that is already associated keeps its AID and its
members are set up anew. -/
def State.assocRequest (s : State) (r : Fin 3) (mac link tids : Nat) (others : List LinkReq)
    (flags maxMpdu maxAmpdu listen nstr emlsr : Nat) (elem : List Byte) : State :=
  if !s.rflag r 0 || (s.activeSyn r).isNone then s
  else
    -- A context that a handoff prepared takes the station's reassociation (R197).
    let known := (s.aidOfMac mac).orElse (fun _ => s.aids.find? (fun a =>
      decide (s.cxState a = 2 ∧ s.mac a = mac) && !s.cxBit a 240 1))
    let pick := known.orElse (fun _ => s.freeAid)
    match pick with
    | none => (((s.bump ACC_CNT_AID_FULL).raise ACC_EVT_AID_FULL).emit (.assocResp r mac 17 0 []))
    | some aid =>
      let g := match s.activeSyn r with
        | some k => (s.syn r k).group
        | none => 0
      let s0 := if known = none then ((s.drawn).endAllBa aid).wipeCtx aid else ((s.dropMember aid 0).dropMember aid 1).dropMember aid 2
      let s1 := (((((((s0.cxSet aid 0 2 aid).cxSet aid 2 1 1).cxSet aid 3 1 (flags % 32)).cxSet aid 4 6 mac).cxSet aid 18 2
        maxMpdu).cxSet aid 20 4 maxAmpdu).cxSet aid 26 2 listen).cxSet aid 193 1 (if others = [] then 0 else 1)
      let ls := others.filter (fun l => decide (l.lid < 3 ∧ l.lid ≠ r.val))
      let s2 := ls.foldl (fun s l => s.addMember aid l) (s1.addMember aid ⟨r, link, g, tids⟩)
      let (s3, e) := (s2.mrSet aid 21 1 nstr).answerElem r aid elem
      let s4 := { s3 with acc := { s3.acc with emlsr := SMap.set (fun _ => 0) s3.acc.emlsr aid emlsr } }
      ((((((s4.rxFlags aid).upMerge).renewBoards aid).recallUnfit aid).enterAssoc aid).cacheTouch aid).emit (.assocResp r mac 0 aid e)

/-! ### The commands of ACC_CTX_CMD and MLK_CMD -/

/-- A write of ACC_CTX_CMD: [0] READ, [1] WRITE, [2] DRIFT_LOAD, [3] FREE, [4] FLUSH. -/
def State.ctxCmd (s : State) (v : BitVec 5) : State :=
  let a := s.get ACC_CTX_SEL_AID
  let n := ([0, 1, 3, 4].filter (fun i => v.getLsbD i)).length
  let s0 := (s.put ACC_CTX_STAT_BUSY 0).putB ACC_CTX_STAT_HIT (s.acc.cache.contains a)
  let bad := decide (1 < n) || (v.getLsbD 2 && !v.getLsbD 1) || (decide (0 < n) && decide (a = 0)) ||
    (v.getLsbD 1 && (!intervalOk (s.mem (ctxData + 72) 6) || decide (s.mem (ctxData + 88) 4 % 16 ≠ 0)))
  if bad then (s0.put ACC_CTX_STAT_ERR 1).raise ACC_EVT_CTX_ERR
  else if n = 0 then s
  else
    let s1 := s0.put ACC_CTX_STAT_ERR 0
    if v.getLsbD 0 then (s1.memPut ctxData (bytesGet zeroByte s1.ctx (256 * a) 256)).cacheTouch a
    else if v.getLsbD 1 then (s1.ctxWrite a (v.getLsbD 2)).cacheTouch a
    else if v.getLsbD 3 then s1.ctxFree a
    else s1


/-- The frames of a station in a radio's transmit queues come back NOCHAN (R140). -/
def State.recall (s : State) (r : Fin 3) (a : Nat) : State :=
  (List.range 16).foldl (fun s q => s.recallQueue r q (fun f => f.aid == a)) s

/-- The member is the station-role link of an uplink braid, and the link is not associated: its SUSP is held (R131). -/
def State.upHeld (s : State) (a l : Nat) : Bool :=
  decide (s.upAid = some a ∧ l = s.get ACC_UP_CFG_RADIO) && decide (2 ≤ s.get ACC_UP_STAT_STATE)

/-- A write of MLK_CMD: [0] SUSPEND, [1] RESUME, [2] REMOVE, [3] READ. -/
def State.mlkCmd (s : State) (v : BitVec 4) : State :=
  let a := s.get MLK_CMD_SEL_AID
  let l := s.get MLK_CMD_SEL_LID
  let n := ([0, 1, 2, 3].filter (fun i => v.getLsbD i)).length
  let s0 := s.put MLK_CMD_STAT_BUSY 0
  if n = 0 then s
  else
    let acts := !v.getLsbD 3
    let bad := decide (1 < n) || decide (a = 0) ||
      (acts && (decide (3 ≤ l) || !s.member a l || decide (s.memberCount a ≤ 1)))
    if bad then (s0.put MLK_CMD_STAT_ERR 1).raise MLK_EVT_CMD_ERR
    else
      let s1 := s0.put MLK_CMD_STAT_ERR 0
      if v.getLsbD 3 then s1.memPut 0x131000 (bytesGet zeroByte s1.mlk (256 * a) 256)
      else if v.getLsbD 1 then (if s1.upHeld a l then s1 else (s1.cxPutBit a 192 (l + 3) false).rxFlags a)
      else
        let s2 := if h : l < 3 then s1.recall ⟨l, h⟩ a else s1
        (if v.getLsbD 0 then s2.cxPutBit a 192 (l + 3) true
         else (((s2.dropBoards a l).cxPutBit a 192 l false).mrSet a (6 * l) 6 0).mrSet a (18 + l) 1 0).rxFlags a

/-! ### Toward the radios (R96, R115, R129, R134, R137, R138, R251, R434, R436) -/

/-- Frames of a station and traffic identifier that are sent, or on their way, and not resolved. -/
def State.outstanding (s : State) (a t : Nat) : List TxFrame :=
  s.underway.filter (fun f => f.aid == a && f.tid == t)

/-- TXW of a traffic identifier: window start, size, ACTIVE (R133). -/
def State.txw (s : State) (a t : Nat) : Nat × Nat × Bool :=
  let w := s.mr a (224 + 4 * t) 4
  (w % 4096, w / 4096 % 2048, decide (w / 2 ^ 23 % 2 = 1))

def State.setTxwStart (s : State) (a t v : Nat) : State :=
  s.mrSet a (224 + 4 * t) 4 (s.mr a (224 + 4 * t) 4 / 4096 * 4096 + v % 4096)

/-- TX_SN entry `t` (R132). -/
def State.txSn (s : State) (a t : Nat) : Nat := s.cx a 196 14 / 2 ^ (12 * t) % 4096

def State.setTxSn (s : State) (a t v : Nat) : State :=
  let w := s.cx a 196 14
  s.cxSet a 196 14 (w - w / 2 ^ (12 * t) % 4096 * 2 ^ (12 * t) + v % 4096 * 2 ^ (12 * t))

/-- The member may take this frame now: eligible, its MPDU within the member's limit; not barred unless no other is left, or
with XR_EN clear the member of its first try while that one may (R96, R129, R138). -/
def State.mayCarry (s : State) (l : Nat) (f : TxFrame) : Bool :=
  let others := (List.range 3).filter (fun m => s.eligible f.aid m f.tid && decide (f.len ≤ s.mpduLimit f.aid [m]))
  let free := others.filter (fun m => f.bar != some m)
  others.contains l && (if s.flag MLK_CTL_XR_EN then free == [] || free.contains l
    else f.first.all (fun m => decide (m = l) || !others.contains m))

/-- The frame may enter a Frond queue under its traffic identifier's window, or that of the member's format where it is smaller
(R136, TXW); without an agreement a braid of more than one member has one unresolved frame at a time, a frame back for another try
among them (R137). A Block Ack Request is held by neither (R139). -/
def State.windowOpen (s : State) (f : TxFrame) : Bool :=
  let (ws, n, act) := s.txw f.aid f.tid
  if f.isBar then true
  else if f.tid < 8 ∧ s.cxBit f.aid 195 f.tid ∧ act then
    decide (((f.sn.getD (s.txSn f.aid f.tid)) + 4096 - ws) % 4096 < min n (baWindow f.air.phy.fmt))
  else decide (s.memberCount f.aid ≤ 1 ∨ 8 ≤ f.tid) || (decide (s.outstanding f.aid f.tid = []) &&
    (s.stq f.aid f.tid).all (fun g => g.fid == f.fid || g.sn == none || g.isBar))

/-- The first frame of a queue that this member may take: a frame barred from the member does not stop later frames of
its traffic identifier (R138). -/
def State.pickFrame (s : State) (l : Nat) : List TxFrame → Option TxFrame
  | [] => none
  | f :: t => if s.mayCarry l f then some f else if f.bar = some l then s.pickFrame l t else none

/-- A station's frame for this radio now: its queue in order, the window open, its own first frame received where its
service period is announced (R115). -/
def State.readyFrame (s : State) (r : Nat) (x : Placement) (tid : Nat) (air : AirTime) : Option TxFrame :=
  if x.ann.all (s.opened x.aid) then ((s.pickFrame r (s.stq x.aid tid)).map (fun f => { f with air := air })).filter s.windowOpen else none

/-- The key of a window's group in the books of R115. -/
def servedKey (r : Nat) (w : Window) : Nat := (if w.all then 4096 else 0) + 1024 * r + w.group

/-- The radio executes a TXQ. -/
def FrnState.inTxq (f : FrnState) : Bool :=
  match f.wait with
  | .txq _ _ _ _ _ => true
  | _ => false

/-- The window as it was generated; none where its half was not completed. -/
def State.placedAt (s : State) (r : Fin 3) (start : Nat) : Option Placed := s.acc.placed[r].find? (fun g => decide (g.start = start))

/-- The placement whose frames are handed over now, of those that were generated: the first whose TXQ has not executed, once the TXQ
before it has completed (R436); in a DL window that R436 does not lay out, its START throughout. -/
def State.placementNow (s : State) (r : Fin 3) (w : Window) (start : Nat) : Option Nat :=
  (s.placedAt r start).bind (fun g =>
    if w.kind = 5 ∧ !w.drift ∧ !w.slotStart then some start
    else if (s.fr r).inTxq then none
    else
      let first := if w.rx then start - 0x60 else start - 0x80
      g.ticks.find? (fun p => decide (s.absTick ≤ if p = start then first else p)))

/-- The order in which the stations of a placement are served: ascending AIDs, at a new placement from the AID after the one
served last in the group, within one from the AID that is being served (R115, R436). -/
def State.serveOrder (s : State) (r : Fin 3) (w : Window) (start p : Nat) : List Placement :=
  let st := (((s.placedAt r start).map (·.stations)).getD []).filter (fun x => decide (x.at_ = p) && s.inGroup r w x.aid)
  let (last, at_) := SMap.get (fun _ => (0, 0)) s.acc.served (servedKey r w)
  let next := if at_ = p then last else last + 1
  st.filter (fun x => decide (next ≤ x.aid)) ++ st.filter (fun x => decide (x.aid < next))

/-- The device sends to a station's non-simultaneous pair on one member of the pair at a time (R150). -/
def State.nstrFree (s : State) (r a : Nat) : Bool :=
  let pair := s.mr a 21 1
  let other := fun (m : Nat) => m != r && decide (pair / 2 ^ m % 2 = 1)
  decide (pair / 2 ^ r % 2 = 0) || ((List.finRange 3).all (fun m => !other m || (s.fr m).frames.all (fun f => f.aid != a)) &&
    s.ciptx.all (fun e => !other e.1 || e.2.aid != a))

/-- The frame may still cross to its radio: the link is up (R17), its station's cut has not passed (R196), its member may carry it yet
(R129), no other member of a non-simultaneous pair is in use (R150), and the uplink is not lost (R126). -/
def State.mayCross (s : State) (r : Fin 3) (q : Nat) (f : TxFrame) : Bool :=
  s.flag SYS_DIE_STAT_FRN_UP && !s.cutOff f.aid && (decide (f.aid = 0) || (s.eligible f.aid r f.tid && s.nstrFree r f.aid)) &&
    (q != 15 || decide (s.get ACC_UP_STAT_STATE = 1))

/-- A frame goes back to its queue, and with it those of its station and traffic identifier that are behind it on their way: none of
them passes it (R251, R258). -/
def State.holdBack (s : State) (f : TxFrame) : State :=
  let mine := fun (e : Fin 3 × TxFrame) => e.2.aid == f.aid && e.2.tid == f.tid && e.2.kind != .flood && e.2.kind != .sched
  let s1 := (s.ciptx.filter mine).foldl (fun (s : State) e => s.moveRef e.2.chain ownCip ownAcc)
    { s with ciptx := s.ciptx.filter (fun e => !mine e) }
  s1.setStq f.aid f.tid ((f :: (s.ciptx.filter mine).map (·.2)).foldl (fun l g => requeue g l) (s.stq f.aid f.tid))

/-- The frame crosses the Frond link: credits fall, it joins a transmit queue of the radio (R251). Where it may not, or credits
lack, it goes back to the head of its queue. -/
def State.handToFrond (s : State) (r : Fin 3) (q : Nat) (f : TxFrame) : State :=
  if creditsFor f.len ≤ s.avail r ∧ s.mayCross r q f then
    ((s.spend r (creditsFor f.len)).toQueue r q { f with first := f.first.orElse (fun _ => some r.val) }).pendShow f.aid
  else s.holdBack f

/-- The queue of Frond that a frame is for (R114). -/
def State.frondQueue (s : State) (r : Fin 3) (f : TxFrame) : Nat :=
  match f.kind with
  | .flood => 14
  | .sched => 14
  | .uplink => 15
  | _ => if s.upAid = some f.aid ∧ s.get ACC_UP_CFG_RADIO = r.val then 15 else 0

/-- A frame leaves its station's queue for a radio: the next number of the braid's shared space at its first time
(R134), then the cipher engine at its first try (R135), unless it goes unprotected (R434). -/
def State.sendFrame (s : State) (r : Fin 3) (f : TxFrame) : State :=
  let s1 := s.setStq f.aid f.tid ((s.stq f.aid f.tid).filter (fun g => g.fid != f.fid))
  let bar := f.isBar
  let (s2, f1) := match f.sn with
    | some _ => (s1, f)
    | none => if bar ∨ f.aid = 0 then (s1, f) else
      (s1.setTxSn f.aid f.tid (s1.txSn f.aid f.tid + 1), { f with sn := some (s1.txSn f.aid f.tid) })
  let f2 := { f1 with bar := none, pv1 := decide (f.aid ≠ 0 ∧ s.mgroup f.aid r = 0) && s.cxBit f.aid 3 1 }
  if bar || f2.pn.isSome || decide (s.cx f2.aid 24 2 / 2 ^ 15 = 1) || decide (f2.aid = 0) then
    s2.handToFrond r (s2.frondQueue r f2) f2
  else ({ s2.moveRef f2.chain ownAcc ownCip with ciptx := s2.ciptx ++ [(r, f2)] }).pendShow f2.aid

/-- Ticks that a frame's PPDU takes with its expected response; none of its own where it rides in another's. -/
def airSpan (a : AirTime) : Nat := if a.join then 0 else a.dur.toNat + if a.resp = 0 then 0 else a.sifs.toNat + a.resp.toNat

/-- The frame fits before END behind what the radio is to send before it (R115; DEDUCED, log entry 28). -/
def State.fitsBefore (s : State) (r : Fin 3) (q p lead end_ : Nat) (air : AirTime) : Bool :=
  let held := s.queue r q ++ (s.ciptx.filter (fun x => x.1 == r)).map (·.2)
  let from_ := match (s.fr r).ppdu with
    | some x => x.end_ + (x.air.map (fun a => a.sifs.toNat + a.resp.toNat + a.sifs.toNat)).getD 0
    | none => max p s.absTick + lead
  decide (from_ + (held.map (fun g => airSpan g.air + if g.air.join then 0 else g.air.sifs.toNat)).sum + airSpan air ≤ end_)

/-- The first frame to an EMLSR station in a window of a radio follows an MU-RTS trigger padded as the station asks (R150). -/
def State.emlsrFirst (s : State) (r start : Nat) (f : TxFrame) : State × TxFrame :=
  let d := SMap.get (fun _ => 0) s.acc.emlsr f.aid
  let k := 4 * f.aid + r
  if d = 0 ∨ SMap.get (fun _ => none) s.acc.emlsrIn k = some start then (s, { f with pad := 0 })
  else ({ s with acc := { s.acc with emlsrIn := SMap.set (fun _ => none) s.acc.emlsrIn k (some start) } }, { f with pad := d })

/-- The frame of a station that may be handed over now for the placement `p`: of its queues that of `tid` first; it fits before END
and finds credits (R115, R251). -/
def State.nextOf (s : State) (r : Fin 3) (tid : Nat) (w : Window) (end_ p : Nat) (air : AirTime) (x : Placement) : Option TxFrame :=
  ((tid :: (List.range 9).filter (· != tid)).findSome? (fun t => s.readyFrame r x t air)).filter
    (fun f => s.fitsBefore r (if s.upAid = some x.aid ∧ s.get ACC_UP_CFG_RADIO = r.val then 15 else 0) p (if w.rx then 0x34 else 0x80) end_ air &&
      decide (creditsFor f.len ≤ s.avail r))

/-- The station path of FROND_QUEUE_FILL: the first station in serving order that has a frame to hand over (R115). `air` is the
frame's transmission on this member. -/
def State.fillStation (s : State) (r : Fin 3) (tid : Nat) (w : Window) (start end_ : Nat) (air : AirTime) : State :=
  match s.placementNow r w start with
  | none => s
  | some p =>
    match ((s.serveOrder r w start p).filter (fun x => s.nstrFree r x.aid)).findSome? (s.nextOf r tid w end_ p air) with
    | some f =>
      let (s1, g) := s.emlsrFirst r start f
      ({ s1 with acc := { s1.acc with served := SMap.set (fun _ => (0, 0)) s1.acc.served (servedKey r w) (f.aid, p) } }).sendFrame r g
    | none => s

/-- The uplink path on the uplink radio, against its credits, while ASSOC: queue 15 in queue order (R127), then the uplink braid's
frames of a traffic identifier that may use the station-role link (R131). -/
def State.fillUplink (s : State) (r : Fin 3) (tid : Nat) (air : AirTime) : State :=
  let next := match s.stq 0 15 with
    | f :: _ => some f
    | [] => s.upAid.bind (fun p => (s.pickFrame r (s.stq p tid)).filter (fun f => s.windowOpen { f with air := air }))
  match next with
  | some f =>
    if s.get ACC_UP_CFG_RADIO = r.val ∧ s.get ACC_UP_STAT_STATE = 1 ∧ creditsFor f.len ≤ s.avail r ∧
        (f.aid = 0 ∨ s.nstrFree r f.aid = true) then s.sendFrame r { f with air := air }
    else s
  | none => s

/-! ### Drops under a transmit agreement (R139) -/

/-- The lowest number at or after `ws` among frames still outstanding or queued with a number. -/
def State.lowestSn (s : State) (a t ws : Nat) : Option Nat :=
  let ks := ((s.outstanding a t ++ s.stq a t).filterMap (·.sn)).map (fun n => (n + 4096 - ws) % 4096)
  match ks with
  | [] => none
  | k :: r => some ((ws + r.foldl min k) % 4096)

/-- A frame is dropped: its buffers are released, and under a transmit agreement the window moves past it and a Block Ack
Request goes to the head of its queue, first queued now (R117, R139). The frame has left its queue already; PENDING follows (R102). -/
def State.dropTx (s : State) (f : TxFrame) : State :=
  let s1 := (s.freeFrame f).pendShow f.aid
  match f.sn with
  | some n =>
    if f.tid < 8 ∧ s1.cxBit f.aid 195 f.tid then
      let (ws, _, _) := s1.txw f.aid f.tid
      let k := (n + 4096 - ws) % 4096
      let nw := match s1.lowestSn f.aid f.tid ws with
        | some m => m
        | none => if k < 2048 then (n + 1) % 4096 else ws
      let b : TxFrame := { f with fid := s1.acc.nextFid, kind := .bar nw, sn := none, pn := none, tries := 0, last := none,
                                  run := 0, bar := none, first := none, len := 32, chain := f.chain, turn := s1.turn, front := true }
      let s2 := { s1 with acc := { s1.acc with nextFid := s1.acc.nextFid + 1 } }
      ((s2.setTxwStart f.aid f.tid nw).setStq f.aid f.tid (b :: s2.stq f.aid f.tid)).bump MLK_CNT_BAR_TX
    else s1
  | none => s1

/-- The held frames of a LOST or DOWN uplink are dropped and counted: all of queue 15, and of the uplink braid those that
have no other eligible member (R126, R131, R139). -/
def State.dropHeld (s : State) : State :=
  let s1 := (s.stq 0 15).foldl (fun (s : State) f => (s.freeFrame f).bump ACC_CNT_UP_DROP) s
  let s2 := s1.setStq 0 15 []
  match s2.upAid with
  | none => s2
  | some p =>
    let r := s2.get ACC_UP_CFG_RADIO
    (List.range 9).foldl (fun (s : State) t =>
      if (List.range 3).any (fun l => decide (l ≠ r) && s.eligible p l t) then s
      else ((s.stq p t).filter (fun f => !f.isBar)).foldl (fun (s : State) f => (s.bump ACC_CNT_UP_DROP).dropTx f)
        (s.setStq p t ((s.stq p t).filter (·.isBar)))) s2

/-- UPLINK_HOLD_EXPIRY: HOLD turns in LOST have passed; frames still held are dropped and counted. -/
def State.upHoldExpiry (s : State) : State :=
  if s.get ACC_UP_STAT_STATE = 2 then
    let s1 := s.toAbsTick ((s.acc.upLost + s.get ACC_UP_CFG_HOLD) * turnTicks)
    (s1.put ACC_UP_STAT_TURNS_LOST (min 0xFFFF s1.upTurns)).dropHeld
  else s

def execUplinkHoldExpiry (s : State) : Out State := .next (s.clocked fun (s : State) => s.upHoldExpiry)

/-- UPLINK_SEARCH_EXPIRY: SEARCH turns without a beacon; the link is DOWN. -/
def State.upSearchExpiry (s : State) : State :=
  if s.get ACC_UP_STAT_STATE = 2 then
    let s1 := s.toAbsTick ((s.acc.upLost + s.get ACC_UP_CFG_SEARCH) * turnTicks)
    (((s1.put ACC_UP_STAT_TURNS_LOST (min 0xFFFF s1.upTurns)).put ACC_UP_STAT_STATE 3).raise ACC_EVT_UP_DOWN).dropHeld
  else s

def execUplinkSearchExpiry (s : State) : Out State := .next (s.clocked fun (s : State) => s.upSearchExpiry)

/-- FRAME_LIFETIME_EXPIRY: frames of a queue whose age reaches LIFE turns are dropped and counted (R117); a Block Ack Request stays
until it is sent (R139; DEDUCED, log entry 29). -/
def State.lifeExpiry (s : State) (a t : Nat) : State :=
  let life := atLeast1 (s.get ACC_RETRY_LIFE)
  let aged := fun (f : TxFrame) => !f.isBar && decide (f.turn + life ≤ s.turn)
  let old := (s.stq a t).filter aged
  let s1 := if old = [] then s else s.setStq a t ((s.stq a t).filter (fun f => !aged f))
  old.foldl (fun s f => (s.bump ACC_CNT_TX_FAIL).dropTx f) s1

def execFrameLifetimeExpiry (aid : BitVec 13) (tid : BitVec 4) (s : State) : Out State :=
  .next (s.clocked fun (s : State) => s.lifeExpiry aid.toNat tid.toNat)

/-- What the status of a return means for the run of counted failures on a member, and the bar it sets (R138). -/
def State.markTry (s : State) (r : Nat) (f : TxFrame) (counted : Bool) : TxFrame :=
  if counted then
    let run := if f.last = some r then f.run + 1 else 1
    { f with tries := f.tries + 1, last := some r, run := run,
             bar := if s.flag MLK_CTL_XR_EN ∧ atLeast1 (s.get MLK_XR_CFG_SAME) ≤ run then some r else none }
  else { f with bar := none }

/-- A station's frame comes back with its status (R117, R138, R197). A try on another member than the one that failed counts,
whatever comes of it; a frame recalled from its queue was not tried. -/
def State.stationReturn (s : State) (x : TxReturn) (f : TxFrame) : State :=
  let bar := f.isBar
  let xr := decide (f.tries ≠ 0) && decide (f.last ≠ none) && decide (f.last ≠ some x.radio.val)
  let s0 := if xr && !f.recalled && decide (f.aid ≠ 0) then
      (s.bump MLK_CNT_XRETRY).cxBump f.aid 216 4 1 else s
  match x.status with
  | .ok =>
    let s1 := if f.aid = 0 then s0 else s0.cxBump f.aid 172 4 1
    let s2 := s1.freeFrame f
    let (ws, _, act) := s2.txw f.aid f.tid
    let s3 := if f.tid < 8 ∧ f.aid ≠ 0 ∧ act ∧ f.sn = some ws then
        s2.setTxwStart f.aid f.tid ((s2.lowestSn f.aid f.tid ws).getD (ws + 1))
      else s2
    if f.aid = 0 then s3 else s3.setStq f.aid f.tid (s3.stq f.aid f.tid)
  | st =>
    let f1 := s0.markTry x.radio { f with recalled := false } (st = .noack ∨ st = .abort)
    if atLeast1 (s0.get ACC_RETRY_LIMIT) ≤ f1.tries ∨ (!bar ∧ f1.turn + atLeast1 (s0.get ACC_RETRY_LIFE) ≤ s0.turn) then
      (if bar then s0.pendShow f1.aid else (s0.bump ACC_CNT_TX_FAIL).dropTx f1)
    else s0.setStq f1.aid f1.tid (requeue f1 (s0.stq f1.aid f1.tid))

end Sys2Proof.Machine
end

