-- ==== Sys2Proof/Machine/Ethernet.lean ====
section
/-! DEFINITION. The Ethernet ports: receive with its checks and status, pause, the transmit queues, timestamps,
low-power idle, absence and the snapshot (spec/10_ethernet.md). -/

namespace Sys2Proof.Machine

/-! ### Reading a frame: tags, IP headers, checksums (R231) -/

/-- The 16-bit big-endian number at a place. -/
def be16 (b : List Byte) (i : Nat) : Nat := (b.getD i 0).toNat * 256 + (b.getD (i + 1) 0).toNat

/-- A number of `n` bytes, most significant first. -/
def beNum (b : List Byte) : Nat := leNum b.reverse

def part (b : List Byte) (i n : Nat) : List Byte := (b.drop i).take n

def isTpid (v : Nat) : Bool := decide (v = 0x8100 ∨ v = 0x88A8 ∨ v = 0x9100)

/-- VLAN tags found, at most two, and where the EtherType lies. -/
def vlanTags (b : List Byte) : Nat × Nat :=
  if isTpid (be16 b 12) then (if isTpid (be16 b 16) then (2, 20) else (1, 16)) else (0, 12)

/-- The sum of the 16-bit big-endian words of a run of bytes, the last padded with zero. -/
def sum16 : List Byte → Nat
  | [] => 0
  | [a] => a.toNat * 256
  | a :: b :: t => a.toNat * 256 + b.toNat + sum16 t

/-- Fold a sum into a one's complement sum of 16 bits. -/
def fold16 (n : Nat) : Nat := if n = 0 then 0 else (n - 1) % 65535 + 1

/-- The checksum of the bytes summed. -/
def csum16 (n : Nat) : Nat := 65535 - fold16 n

/-- What the fixed parser finds: where the IPv4 header lies and its length, and where the L4 segment lies, its length, its
checksum's place, whether it is UDP, whether over IPv6, and the sum of the pseudo-header. -/
structure NetView where
  v4 : Option (Nat × Nat) := none
  l4 : Option (Nat × Nat × Nat × Bool × Bool × Nat) := none
  deriving DecidableEq, Repr

/-- The L4 part: TCP and UDP only, long enough to hold the checksum. -/
def l4View (proto at_ len pseudo : Nat) (v6 : Bool) : Option (Nat × Nat × Nat × Bool × Bool × Nat) :=
  if proto = 17 ∧ 8 ≤ len then some (at_, len, at_ + 6, true, v6, pseudo + 17 + len)
  else if proto = 6 ∧ 20 ≤ len then some (at_, len, at_ + 16, false, v6, pseudo + 6 + len)
  else none

/-- The parser of R231; what it would not check is none. -/
def netView (b : List Byte) : NetView :=
  let o := (vlanTags b).2
  let p := o + 2
  if be16 b o = 0x0800 then
    let ihl := (b.getD p 0).toNat % 16
    let tot := be16 b (p + 2)
    if ihl < 5 ∨ b.length < p + 4 * ihl ∨ b.length < p + tot ∨ (b.getD p 0).toNat / 16 ≠ 4 then {}
    else
      let frag := be16 b (p + 6) % 2 ^ 14
      let l4 := if frag % 2 ^ 13 ≠ 0 ∨ 2 ^ 13 ≤ frag then none
        else l4View (b.getD (p + 9) 0).toNat (p + 4 * ihl) (tot - 4 * ihl) (sum16 (part b (p + 12) 8)) false
      { v4 := some (p, 4 * ihl), l4 := l4 }
  else if be16 b o = 0x86DD then
    let len := be16 b (p + 4)
    if b.length < p + 40 + len ∨ (b.getD p 0).toNat / 16 ≠ 6 then {}
    else { l4 := l4View (b.getD (p + 6) 0).toNat (p + 40) len (sum16 (part b (p + 8) 32)) true }
  else {}

/-- L3: 0 NOT_CHECKED, 1 OK, 2 BAD. -/
def l3Result (b : List Byte) (v : NetView) : Nat :=
  match v.v4 with
  | some (p, n) => if fold16 (sum16 (part b p n)) = 65535 then 1 else 2
  | none => 0

/-- L4: also 3 ZERO. -/
def l4Result (b : List Byte) (v : NetView) : Nat :=
  match v.l4 with
  | some (p, n, c, udp, v6, pseudo) =>
    if udp ∧ be16 b c = 0 then (if v6 then 2 else 3)
    else if fold16 (sum16 (part b p n) + pseudo) = 65535 then 1 else 2
  | none => 0

/-- Put bytes at a place of a frame. -/
def patch (b : List Byte) (i : Nat) (v : List Byte) : List Byte := b.take i ++ v ++ b.drop (i + v.length)

/-- CSUM_L3 (R234). -/
def insertL3 (b : List Byte) : List Byte :=
  match (netView b).v4 with
  | some (p, n) =>
    let z := patch b (p + 10) [0, 0]
    patch z (p + 10) (beBytes 2 (csum16 (sum16 (part z p n))))
  | none => b

/-- CSUM_L4; a UDP result of 0 is sent as 0xFFFF (R234). -/
def insertL4 (b : List Byte) : List Byte :=
  match (netView b).l4 with
  | some (p, n, c, udp, _, pseudo) =>
    let z := patch b c [0, 0]
    let v := csum16 (sum16 (part z p n) + pseudo)
    patch z c (beBytes 2 (if udp ∧ v = 0 then 65535 else v))
  | none => b

/-! ### Port state -/

def State.port (s : State) (p : Fin 2) : EthPort := s.eth[p]

def State.setPort (s : State) (p : Fin 2) (e : EthPort) : State := { s with eth := s.eth.set p e }

/-- MAX of R226. -/
def State.ethMax (s : State) (p : Nat) : Nat := max 64 (min 9600 (s.get (ETH_MAXLEN_MAX p)))

def State.ethThr (s : State) (p : Nat) : Nat := max 64 (min 9600 (s.get (ETH_TX_THR_THR p)))

/-- The line takes frames: link up, EN and TX_EN set (R235). -/
def State.ethLive (s : State) (p : Nat) : Bool := s.flag (ETH_STAT_LINK p) && s.flag (ETH_CTL_EN p) && s.flag (ETH_CTL_TX_EN p)

/-- Seconds and nanoseconds of a wide time in ns, little-endian as R230 lays them out. -/
def stampBytes (ns : Nat) : List Byte := leBytes 4 (ns % 1000000000) ++ leBytes 6 (ns / 1000000000)

/-- Ticks from the epoch to the tick that contains the receive stamp of what crosses a port's balls now: the wide time less
RX_NS (R35, R238). -/
def State.ethTick (s : State) (p : Nat) : Nat := (2 * (s.wideNs - s.get (ETH_PTP_DLY_RX_NS p)) - 2 * s.epochNs) / 125

/-! ### Transmit status (R235, R237, R405) -/

def txSent : Nat := 0
def txUnderrun : Nat := 1
def txLong : Nat := 2
def txLinkDown : Nat := 3
def txNoStep : Nat := 4

/-- The transmit word, 0 where a reserved bit is set (R232). -/
def txWord (w : Nat) : Nat := if w / 32 % 8 ≠ 0 ∨ w / 2 ^ 24 ≠ 0 then 0 else w

def twBit (w i : Nat) : Bool := decide (w / 2 ^ i % 2 = 1)

/-- A frame returns its status to its source: for a host frame that asked for a stamp, a status entry. A frame that never
departed has no stamp: its stamp bytes are free (log entry 4). -/
def State.ethStatus (s : State) (p : Fin 2) (f : EthTx) (code : Nat) (stamp : Option Nat) : State :=
  let s1 := match f.chain with
    | some id => s.release id (ownEth p)
    | none => s
  match f.host with
  | some seq =>
    if twBit f.txw 2 || twBit f.txw 3 then
      let (s2, secs, ns) := match stamp with
        | some t => (s1, t / 1000000000, t % 1000000000)
        | none => (s1.drawn, s1.draw % 2 ^ 48, s1.draw / 2 ^ 48)
      s2.stsWrite (leBytes 4 seq ++ [BitVec.ofNat 8 code, BitVec.ofNat 8 p.val] ++ leBytes 6 secs ++ leBytes 4 ns)
    else s1
  | none => s1

/-- A dead port drops a frame (R235). -/
def State.ethLinkDrop (s : State) (p : Fin 2) (f : EthTx) : State := (s.bump (ETH_CNT_TX_LINKDOWN p)).ethStatus p f txLinkDown none

/-- Every frame of the port's queues is dropped: with EN or TX_EN clear or the link down the port drops every frame (R235;
DEDUCED for those already queued, log entry 17). -/
def State.ethFlush (s : State) (p : Fin 2) : State :=
  let e := s.port p
  (e.timing ++ e.late ++ e.txq).foldl (fun s f => s.ethLinkDrop p f)
    (s.setPort p { e with timing := [], late := [], txq := [], idleFrom := s.ref })

/-- The port can take a frame now: a dead port takes every frame, the timing queue holds 16, and `full` says that the
release queue is full (R235). -/
def State.ethTakes (s : State) (p : Fin 2) (txw : Nat) (full : Bool) : Bool :=
  !s.ethLive p || (if twBit (txWord txw) 4 then decide ((s.port p).timing.length < 16) else !full)

/-- Bytes of a frame on the line without its FCS and padding: a protected frame has its SecTAG with SCI and its ICV as well
(R170; the standard's lengths, PRESUMED, log entry 15). -/
def EthTx.wire (f : EthTx) (n : Nat) : Nat := n + if f.sec then 32 else 0

/-- A frame, its packet owned by the port, is handed to the port (R233, R235). A 17th of the timing queue waits at its
source. -/
def State.ethOffer (s : State) (p : Fin 2) (f : EthTx) : State :=
  let f := { f with txw := txWord f.txw }
  if !s.ethLive p then s.ethLinkDrop p f
  else if s.ethMax p < max 60 (f.wire f.bytes.length) + 4 then (s.bump (ETH_CNT_TX_LONG p)).ethStatus p f txLong none
  else
    let e := s.port p
    if !twBit f.txw 4 then s.setPort p { e with txq := e.txq ++ [f] }
    else if 16 ≤ e.timing.length then s.setPort p { e with late := e.late ++ [f] }
    else s.setPort p { e with timing := e.timing ++ [f] }

/-! ### The backbone (R168, R170, R173) -/

/-- The port that the blank names as backbone: BACKBONE of DFLAGS (R285). -/
def State.backbone (s : State) : Option (Fin 2) :=
  match s.blk with
  | some b => match ((b.hdr.getD 27 0).toNat / 2) % 4 with
    | 1 => some 0
    | 2 => some 1
    | _ => none
  | none => none

/-- A frame that the device itself makes for the backbone, protected: a SYNC has TIMING set. -/
def backboneFrame (mac : BitVec 48) (etype : Nat) (sync : Bool) (body : List Byte) : EthTx :=
  { chain := none, bytes := etherBytes mac Config.backboneMac (beBytes 2 etype) body, txw := if sync then 16 else 0, sec := true,
    sync := sync }

/-- It goes to the backbone port: a SYNC to the timing queue, any other to the release queue. -/
def State.toBackbone (s : State) (mac : BitVec 48) (etype : Nat) (sync : Bool) (body : List Byte) : State :=
  match s.backbone with
  | some p => s.ethOffer p (backboneFrame mac etype sync body)
  | none => s

/-- A packet goes to the backbone: in the keeping of the cluster unit until the port takes it, which is at once, the port's from then on
(R246; DEDUCED, log entry 17). `own` is the owner that it leaves. -/
def State.toBackboneOf (s : State) (own chain : Nat) (mac : BitVec 48) (etype : Nat) (body : List Byte) : State :=
  match s.backbone with
  | some p => ((s.moveRef chain own ownClu).moveRef chain ownClu (ownEth p)).ethOffer p
      { backboneFrame mac etype false body with chain := some chain }
  | none => s.release chain own

/-! ### Receive (R226 to R231) -/

/-- Receive buffers that the port holds. -/
def State.rxHeld (s : State) (p : Fin 2) : Nat :=
  ((s.port p).ingress.map (fun k => ((s.chain? k.chain).map (·.bufs.length)).getD 0)).sum

/-- Half nanoseconds of `n` × 512 bit times at a RATE code. -/
def pauseHalf (rate n : Nat) : Nat :=
  match rate with
  | 0 => n * 1024 / 10
  | 1 => n * 1024 / 5
  | 2 => n * 2048 / 5
  | 3 => n * 1024
  | 4 => n * 10240
  | _ => n * 102400

/-- A good frame is a PAUSE frame (IEEE 802.3 Annex 31B): its pause_time. -/
def pauseTime (b : List Byte) : Option Nat :=
  if be16 b 12 = 0x8808 ∧ be16 b 14 = 1 then some (be16 b 16) else none

/-- A frame's receive status (R230). -/
def State.portStatus (s : State) (p : Fin 2) (b : List Byte) (l3 l4 : Nat) : List Byte :=
  stampBytes (s.wideNs - s.get (ETH_PTP_DLY_RX_NS p)) ++ [BitVec.ofNat 8 (l3 + 4 * l4),
    BitVec.ofNat 8 ((vlanTags b).1 + 4 * p.val)]

/-- A frame that has passed its checks joins the ingress queue; a protected one of the backbone waits there for its lane (R170; the
EtherType is IEEE 802.1AE's, PRESUMED, log entry 17). -/
def State.ethAccept (s : State) (p : Fin 2) (id len : Nat) (b : List Byte) : State :=
  let v := netView b
  let l3 := if s.flag (ETH_CTL_RX_L3 p) then l3Result b v else 0
  let l4 := if s.flag (ETH_CTL_RX_L4 p) then l4Result b v else 0
  let s1 := if l3 = 2 then s.bump (ETH_CNT_CSUM_L3 p) else s
  let s2 := if l4 = 2 then s1.bump (ETH_CNT_CSUM_L4 p) else s1
  let s3 := (s2.bump (ETH_CNT_RX_OK p)).wr64 (ETH_CNT_RX_BYTES_LO p) (s2.rd64 (ETH_CNT_RX_BYTES_LO p) + len)
  let sec := decide (s.backbone = some p) && decide (be16 b 12 = 0x88E5)
  let k : Packet := { chain := id, src := 1, port := p, sec := sec,
                      tick := if s.running then packTick (s.ethTick p) else s.stampTick, ethst := s.portStatus p b l3 l4, bytes := b }
  let e := s3.port p
  (s3.setPort p { e with ingress := e.ingress ++ [k] }).busyNow

/-- ETH_FRAME_RX: a frame with its FCS on the line; `good` is clear for a bad FCS, a code error or a loss of link. -/
def State.ethRx (s : State) (p : Fin 2) (data : List Byte) (good : Bool) : State :=
  let len := data.length
  if !(s.clockOn && s.flag (ETH_CTL_EN p) && s.flag (ETH_CTL_RX_EN p) && s.flag (ETH_STAT_LINK p)) then s
  else if len < 64 then s.bump (ETH_CNT_RUNT p)
  else
    let mx := s.ethMax p
    let b := (data.take (min len mx - 4))
    let noBuf := fun (s : State) => (s.bump (ETH_CNT_RX_NOBUF p)).raise (ETH_EVT_RX_NOBUF p)
    if atLeast1 ((s.rd (ETH_RX_QUOTA p)).toNat % 2 ^ 21) < s.rxHeld p + (b.length + 2047) / 2048 then noBuf s
    else match s.alloc (ownEth p) b.length b with
      | (s1, none) => noBuf s1
      | (s1, some id) =>
        let s2 := s1.release id (ownEth p)
        if mx < len then (s2.bump (ETH_CNT_LONG p)).raise (ETH_EVT_LONG p)
        else if !good then s2.bump (ETH_CNT_FCS p)
        else match (if s1.flag (ETH_CTL_PAUSE_RX p) then pauseTime b else none) with
          | some n =>
            let s3 := ((s2.bump (ETH_CNT_RX_OK p)).wr64 (ETH_CNT_RX_BYTES_LO p) (s2.rd64 (ETH_CNT_RX_BYTES_LO p) + len)).bump
              (ETH_CNT_PAUSE_RX p)
            s3.setPort p { s3.port p with
              pauseEnd := if n = 0 then none else some (s3.ref + pauseHalf (s3.get (ETH_STAT_RATE p)) n) }
          | none =>
            if 256 ≤ (s1.port p).ingress.length then (s2.bump (ETH_CNT_RX_QFULL p)).raise (ETH_EVT_RX_QFULL p)
            else s1.ethAccept p id len b

def execEthFrameRx (p : Fin 2) (data : List Byte) (good : Bool) (s : State) : Out State := .next (s.ethRx p data good)

/-- PAUSE_END: the pause time passes. -/
def State.pauseOver (s : State) (p : Fin 2) : State :=
  match (s.port p).pauseEnd with
  | some t =>
    let s1 := s.toRef t
    s1.setPort p { s1.port p with pauseEnd := none }
  | none => s

def execPauseEnd (p : Fin 2) (s : State) : Out State := .next (s.pauseOver p)

/-! ### Transmit (R233, R234, R236, R239) -/

/-- The frame as ONE_STEP changes it: departure stamp, correction and UDP checksum; none where a field passes its end. -/
def oneStep (b : List Byte) (txw stamp frac : Nat) : Option (List Byte) :=
  let ts := txw / 2 ^ 8 % 256
  let cf := txw / 2 ^ 16 % 256
  if b.length < ts + 10 ∨ b.length < cf + 8 then none
  else
    let b1 := patch b ts (beBytes 6 (stamp / 1000000000) ++ beBytes 4 (stamp % 1000000000))
    let b2 := patch b1 cf (beBytes 8 (beNum (part b1 cf 8) + frac))
    some (match (netView b).l4 with
      | some (_, _, c, true, false, _) => patch b2 c [0, 0]
      | _ => b2)

/-- A protected frame that has not passed its lane waits for it at the head of its queue. -/
def EthTx.unsealed (f : EthTx) : Bool := f.sec && f.pn.isNone

/-- The first such frame of a queue becomes what `g` makes of it; none takes it out. -/
def sealFirst (g : EthTx → Option EthTx) : List EthTx → List EthTx
  | [] => []
  | f :: t => if f.unsealed then (g f).toList ++ t else f :: sealFirst g t

/-- The next frame of the port for a lane: timing queue first, as the port sends them (R235, R327). -/
def EthPort.nextUnsealed (e : EthPort) : Option EthTx := (e.timing ++ e.late ++ e.txq).find? EthTx.unsealed

/-- That frame leaves its lane; where it is dropped, a frame that waits at its source takes its place in the timing queue. -/
def EthPort.sealed (e : EthPort) (g : EthTx → Option EthTx) : EthPort :=
  if e.timing.any EthTx.unsealed then
    let t := sealFirst g e.timing
    let n := 16 - t.length
    { e with timing := t ++ e.late.take n, late := e.late.drop n }
  else if e.late.any EthTx.unsealed then { e with late := sealFirst g e.late }
  else { e with txq := sealFirst g e.txq }

/-- The next frame by R235: the timing queue first. -/
def EthPort.pop (e : EthPort) : Option (EthTx × EthPort) :=
  match e.timing, e.txq with
  | f :: t, _ => some (f, { e with timing := t ++ e.late.take 1, late := e.late.drop 1 })
  | [], f :: t => some (f, { e with txq := t })
  | [], [] => none

/-- ETH_FRAME_TX: the head frame goes on the line at this time; `empty` says that its FIFO runs empty after `after` bytes
(R236), which a frame that lies whole in the FIFO does not meet. -/
def State.ethTx (s : State) (p : Fin 2) (empty : Bool) (after : Nat) : State :=
  let e := s.port p
  if !s.clockOn || !s.ethLive p || s.flag (ETH_STAT_LPI_TX p) || e.pauseEnd.any (fun t => decide (s.ref < t)) then s
  else match e.pop with
    | none => s
    | some (f, e2) =>
      if f.unsealed then s else
      let s1 := s.toRef e.readyAt
      let s2 := s1.setPort p { e2 with pauseEnd := none, idleFrom := s1.ref }
      let stamp := s2.wideNs + s2.get (ETH_PTP_DLY_TX_NS p)
      let frac := s2.spn.wideU % 2000000000 * 65536 / 2000000000
      let b0 := if twBit f.txw 0 then insertL3 f.bytes else f.bytes
      let udp4 := twBit f.txw 3 && (oneStep f.bytes f.txw stamp frac).isSome && (match (netView f.bytes).l4 with
        | some (_, _, _, true, false, _) => true
        | _ => false)
      let b1 := if twBit f.txw 1 && !udp4 then insertL4 b0 else b0
      let stepped := if twBit f.txw 3 then oneStep b1 f.txw stamp frac else none
      -- The message of a SYNC begins behind the EtherType, its payload 20 bytes further, TX_NS 12 bytes further (R171, R173).
      -- One that lacks the room for ONE_STEP's fields goes out unchanged (R239).
      let b2 := if f.sync then patch b1 46 (stampBytes stamp)
        else if twBit f.txw 3 && stepped.isNone then f.bytes else stepped.getD b1
      let b3 := b2 ++ List.replicate (60 - f.wire b2.length) 0
      let thr := s2.ethThr p
      let whole := decide (s2.ethMax p ≤ thr ∨ b3.length ≤ thr) || twBit f.txw 1
      if empty && !whole && decide (thr ≤ after ∧ after < b3.length) then
        let s3 := ((s2.emit (.ethTx p s2.wideHalf (b3.take after) f.pn true)).bump (ETH_CNT_TX_UNDERRUN p)).raise (ETH_EVT_UNDERRUN p)
        let s4 := if s3.flag (ETH_TX_THR_AUTO p) then s3.put (ETH_TX_THR_THR p) (min (2 * thr) 9600) else s3
        s4.ethStatus p f txUnderrun (some stamp)
      else
        let s3 := s2.emit (.ethTx p s2.wideHalf b3 f.pn false)
        if twBit f.txw 3 && stepped.isNone then s3.ethStatus p f txNoStep (some stamp)
        else ((s3.bump (ETH_CNT_TX_OK p)).wr64 (ETH_CNT_TX_BYTES_LO p) (s3.rd64 (ETH_CNT_TX_BYTES_LO p) + f.wire b3.length + 4)).ethStatus
          p f txSent (some stamp)

def execEthFrameTx (p : Fin 2) (empty : Bool) (after : BitVec 14) (s : State) : Out State := .next (s.ethTx p empty after.toNat)

/-! ### Low-power idle (R240) -/

def State.lpiEntry (s : State) (p : Fin 2) : State :=
  let e := s.port p
  if s.awake && s.flag (ETH_STAT_LINK p) && s.flag (ETH_CTL_EN p) && s.flag (ETH_CTL_LPI_EN p) && !s.flag (ETH_STAT_LPI_TX p) &&
      e.pop.isNone && !e.pauseEnd.any (fun t => decide (s.ref < t)) then
    let s1 := s.toRef (e.idleFrom + 2000 * atLeast1 (s.get (ETH_LPI_CFG_IDLE p)))
    (s1.put (ETH_STAT_LPI_TX p) 1).bump (ETH_CNT_LPI_TX p)
  else s

def execLpiEntry (p : Fin 2) (s : State) : Out State := .next (s.lpiEntry p)

/-- LPI_WAKE: a frame waits; it starts TW µs later. -/
def State.lpiWake (s : State) (p : Fin 2) : State :=
  if s.flag (ETH_STAT_LPI_TX p) && (s.port p).pop.isSome then
    let s1 := s.put (ETH_STAT_LPI_TX p) 0
    s1.setPort p { s1.port p with readyAt := s1.ref + 2000 * s1.get (ETH_LPI_CFG_TW p) }
  else s

def execLpiWake (p : Fin 2) (s : State) : Out State := .next (s.lpiWake p)

/-- PARTNER_LPI_CHANGE. -/
def execPartnerLpiChange (p : Fin 2) (on : Bool) (s : State) : Out State := .next (s.putB (ETH_STAT_LPI_RX p) on)

/-! ### Control, link and absence (R225, R235, R240, R241) -/

/-- ETHn_CTL changes: EN squelches or frees the transmitter, a port that no longer sends drops what it holds, and LPI
signalling ends with LPI_EN or EN. -/
def State.ethCtlWrite (s : State) (p : Fin 2) (v : Word) : State :=
  let s1 := s.wr (ETH_CTL p) (v &&& 0x7F)
  let s2 := s1.putB (ETH_STAT_SQUELCH p) (!s1.flag (ETH_CTL_EN p))
  let s3 := if s2.flag (ETH_CTL_LPI_EN p) && s2.flag (ETH_CTL_EN p) then s2 else s2.put (ETH_STAT_LPI_TX p) 0
  if s3.ethLive p then s3 else s3.ethFlush p

def execEthCtlWrite (p : Fin 2) (v : BitVec 7) (s : State) : Out State :=
  .next (s.hostAt none (ETH_CTL p) fun (s : State) => s.ethCtlWrite p (v.setWidth 32))

/-- The rates of modes 4 and 5 (R224). -/
def modeHasRate (mode rate : Nat) : Bool :=
  if mode = 4 then decide (3 ≤ rate ∧ rate ≤ 5) else if mode = 5 then decide (rate ≤ 5) else true

/-- ETHn_CFG accepts a write only with EN 0, a mode the port has and a rate the mode has (R225). -/
def State.ethCfgWrite (s : State) (p : Fin 2) (v : Word) : State :=
  let mode := v.toNat % 8
  let rate := v.toNat / 256 % 8
  let bad := s.flag (ETH_CTL_EN p) || decide (6 ≤ mode) || (decide (mode = 5) && decide (p = 1)) ||
    (!v.getLsbD 4 && !modeHasRate mode rate)
  if bad then s.raise (ETH_EVT_CFG_ERR p) else s.wr (ETH_CFG p) (v &&& 0x717)

def execEthCfgWrite (p : Fin 2) (v : Word) (s : State) : Out State :=
  .next (s.hostAt none (ETH_CFG p) fun (s : State) => s.ethCfgWrite p v)

/-- The rate that a link comes up at; `neg` is the auto-negotiated one. -/
def State.linkRate (s : State) (p neg : Nat) : Nat :=
  let mode := s.get (ETH_CFG_MODE p)
  if mode ≤ 3 then mode else if s.flag (ETH_CFG_AN_EN p) then neg else s.get (ETH_CFG_RATE p)

/-- The link comes up (R225). -/
def State.ethUp (s : State) (p : Fin 2) (neg : Nat) (rfault : Bool) : State :=
  let an := s.flag (ETH_CFG_AN_EN p) && decide (3 ≤ s.get (ETH_CFG_MODE p))
  let s1 := (((s.put (ETH_STAT_LFAULT p) 0).putB (ETH_STAT_RFAULT p) rfault).putB (ETH_STAT_AN_DONE p) an).put (ETH_STAT_RATE p)
    (s.linkRate p neg)
  if s.flag (ETH_STAT_LINK p) then s1
  else
    let s2 := (s1.put (ETH_STAT_LINK p) 1).raise (ETH_EVT_LINK_UP p)
    s2.setPort p { s2.port p with idleFrom := s2.ref }

/-- The link drops: a frame being received and a frame being sent are lost (R225). -/
def State.ethDown (s : State) (p : Fin 2) (lfault rfault receiving : Bool) : State :=
  let s1 := (s.putB (ETH_STAT_LFAULT p) lfault).putB (ETH_STAT_RFAULT p) rfault
  if s.flag (ETH_STAT_LINK p) then
    let s2 := ((s1.put (ETH_STAT_LINK p) 0).put (ETH_STAT_AN_DONE p) 0).raise (ETH_EVT_LINK_DOWN p)
    let s3 := if receiving && s2.flag (ETH_CTL_EN p) && s2.flag (ETH_CTL_RX_EN p) then s2.bump (ETH_CNT_FCS p) else s2
    (s3.put (ETH_STAT_LPI_TX p) 0).ethFlush p
  else s1

/-! ### Statistics (R242) -/

def ethBase (p : Nat) : Nat := 0x0F0000 + 0x10000 * p

/-- SNAP: every counter is copied and cleared, and the tick is latched. -/
def State.ethSnap (s : State) (p : Fin 2) : State :=
  let s1 := (List.range 18).foldl (fun s i =>
    (s.memSet (ethBase p + 0x200 + 4 * i) 4 (s.rd (ethBase p + 0x100 + 4 * i)).toNat).wr (ethBase p + 0x100 + 4 * i) 0) s
  s1.wr64 (ETH_SNAP_TICK_LO p) s.stampTick

def execSnap (p : Fin 2) (s : State) : Out State :=
  .next (s.hostAt none (ETH_SNAP_CMD p) fun (s : State) => s.ethSnap p)

end Sys2Proof.Machine
end

