-- ==== Sys2Proof/Machine/Cluster.lean ====
section
/-! DEFINITION. Clusters (spec/08_cluster.md), but for the handoff of stations: SYNC and the unit's states, takeover,
heartbeats, the directory, plans and activations. -/

namespace Sys2Proof.Machine

/-! ### Addresses, states, messages -/

/-- A packed global address (R23). -/
def packAddr (cid did aid : Nat) : Nat := aid % 8192 + 2 ^ 13 * (did % 32) + 2 ^ 18 * (cid % 65536)

def addrAid (a : Nat) : Nat := a % 8192
def addrDid (a : Nat) : Nat := a / 2 ^ 13 % 32
/-- An address with a reserved bit set is invalid (R23). -/
def addrBad (a : Nat) : Bool := decide (2 ^ 34 ≤ a)

def State.cid (s : State) : Nat := s.get SYS_ADDR_CID
def State.did (s : State) : Nat := s.get SYS_ADDR_DID

/-- States of R175. -/
def cluOff : Nat := 0
def cluJoin : Nat := 1
def cluMember : Nat := 2
def cluHoldover : Nat := 3
def cluLead : Nat := 4
def cluDeposed : Nat := 5

def State.cluSt (s : State) : Nat := s.get CLU_STAT_STATE

/-- One SYNC slot, ticks (R173). -/
def slotLen : Nat := 0x100000

/-- A 48-bit address of a LO, HI pair. -/
def State.addr48 (s : State) (lo hi : Nat) : Nat := (s.rd lo).toNat + 2 ^ 32 * ((s.rd hi).toNat % 65536)

/-- The DID to which a backbone address is bound. -/
def State.devOf (s : State) (mac : Nat) : Option Nat := SMap.get (fun _ => none) s.clu.devs mac

/-- The device record of a DID: a backbone address bound to it. -/
def State.devMac (s : State) (d : Nat) : Option Nat := (s.clu.devs.find? (fun e => e.2 == some d)).map (·.1)

/-- The address that a message goes to: the group's for ALL, the DEVICE record's for one device (R170). To which address a
message goes for a DID without a record the spec leaves open (log entry 4). -/
def State.afetteTo (s : State) (dst : Option Nat) : State × BitVec 48 :=
  match dst with
  | none => (s, BitVec.ofNat 48 (s.addr48 CLU_GROUP_LO CLU_GROUP_HI))
  | some d => match s.devMac d with
    | some m => (s, BitVec.ofNat 48 m)
    | none => (s.drawn, BitVec.ofNat 48 s.draw)

/-- The header of an Afette message sent now (R171). -/
def State.afetteHeader (s : State) (dst : Option Nat) (typ len : Nat) : List Byte :=
  leBytes 1 (1 + 16 * typ) ++ leBytes 1 s.did ++ leBytes 1 (dst.getD 128) ++ leBytes 1 0 ++ leBytes 2 s.cid ++ leBytes 2 len ++
    leBytes 4 (s.rd CLU_TERM).toNat ++ leBytes 8 (packTick s.absTick)

/-- A message is handed to the backbone port, to one DID or to all (R170); a standalone or deposed device sends none. -/
def State.sendAfette (s : State) (dst : Option Nat) (typ : Nat) (payload : List Byte) : State :=
  if s.cid = 0 ∨ s.cluSt = cluOff ∨ s.cluSt = cluDeposed then s
  else
    let (s1, mac) := s.afetteTo dst
    s1.toBackbone mac (s.get CLU_CFG_ETYPE) (typ = 0) (s.afetteHeader dst typ payload.length ++ payload)

/-- A message with a packet in its body, which leaves the owner `own` (R246). -/
def State.sendAfetteOf (s : State) (own chain : Nat) (dst : Option Nat) (typ : Nat) (payload : List Byte) : State :=
  if s.cid = 0 ∨ s.cluSt = cluOff ∨ s.cluSt = cluDeposed then s.release chain own
  else
    let (s1, mac) := s.afetteTo dst
    s1.toBackboneOf own chain mac (s.get CLU_CFG_ETYPE) (s.afetteHeader dst typ payload.length ++ payload)

/-- The captured tick of a message that reaches the backbone port now (R35, R238). -/
def State.afetteTick (s : State) : Nat :=
  match s.backbone with
  | some p => s.ethTick p
  | none => s.absTick

/-- The receive wide stamp of a message that reaches the backbone port now, ns (R238). -/
def State.afetteWide (s : State) : Nat :=
  match s.backbone with
  | some p => s.wideNs - s.get (ETH_PTP_DLY_RX_NS p)
  | none => s.wideNs

/-- R172 on a message that its lane has let through, or that came unprotected. -/
def State.afetteCheck (s : State) (h : Afette) (typ : Nat) (good : Bool) : State × Bool :=
  if s.cid = 0 ∨ s.cluSt = cluOff then (s, false)
  else if !good || decide (h.ver ≠ 1) || decide (h.typ.toNat ≠ typ) || !h.lenOk || (!h.all && decide (h.to_.toNat ≠ s.did)) then
    (s.bump CLU_CNT_BAD, false)
  else if h.cid.toNat ≠ s.cid then (s.bump CLU_CNT_FOREIGN, false)
  else (s, true)

/-- A received message, as it reaches the port, passes its lane (R330; a SYNC is urgent, R326) and R172; answers whether it is
taken. A device of no cluster, or with its cluster unit off, has no use for the lane's answer. -/
def State.afetteIn (s : State) (h : Afette) (typ : Nat) : State × Bool :=
  let s1 := s.toAbsTick (s.absTick + h.dt.toNat)
  if !s.clockOn then (s1, false)
  else if !h.prot then s1.afetteCheck h typ false
  else match s1.linkIn h.sec (decide (typ = 0) && s1.flag CIP_CTL_URG_SYNC) with
    | (s2, .passed) => s2.afetteCheck h typ true
    | (s2, .badIcv) => s2.afetteCheck h typ false
    | (s2, .dropped) => (s2, false)

def State.setHflag (s : State) (i : Nat) (b : Bool) : State :=
  { s with clu := { s.clu with hflags := withBit s.clu.hflags i b } }

/-- A reason `i` for which PLAN_FAIL is flagged begins or ends to hold. -/
def State.setPlanBad (s : State) (i : Nat) (b : Bool) : State :=
  { s with clu := { s.clu with planBad := withBit s.clu.planBad i b } }

/-- The plan could not be staged or armed: the event, and the flag of the next HB. -/
def State.planFail (s : State) (i : Nat) : State := (s.setPlanBad i true).raise CLU_EVT_PLAN_FAIL

/-! ### Enable, disable (R175) -/

/-- The first slot whose tolerance closes from now on (R174). -/
def State.nextClose (s : State) : Nat :=
  let tol := (s.rd CLU_SYNC_TOL).toNat % 2 ^ 24
  if s.running ∧ tol ≤ s.absTick then (s.absTick - tol) / slotLen + 1 else 0

/-- CLU_CTL.EN becomes 1. -/
def State.cluEnable (s : State) : State :=
  let s1 := s.put CLU_CTL_EN 1
  if s1.cid = 0 ∨ s1.cluSt ≠ cluOff then s1
  else
    let s2 := { s1 with clu := { s1.clu with slot := s1.nextClose } }
    if s2.get SYS_ROLE_ROLE = 1 then ((s2.put CLU_STAT_STATE cluLead).wr CLU_TERM 1).put CLU_STAT_MGR s2.did
    else (s2.put CLU_STAT_STATE cluJoin).put CLU_STAT_MISS 0

/-- CLU_CTL.EN is cleared: from any state the unit is OFF. -/
def State.cluDisable (s : State) : State :=
  let s1 := ((s.put CLU_CTL_EN 0).put CLU_STAT_STATE cluOff).put CLU_STAT_MISS 0
  { s1 with clu := { s1.clu with run := 0, caught := false, takeHeld := false, noDeputy := false } }

def execClusterEnable (s : State) : Out State :=
  .next (s.hostAt none CLU_CTL fun (s : State) => s.cluEnable)
def execClusterDisable (s : State) : Out State :=
  .next (s.hostAt none CLU_CTL fun (s : State) => s.cluDisable)

/-! ### The directory (R181 to R187) -/

def State.dirGet (s : State) (mac : Nat) : Option DirEntry := SMap.get (fun _ => none) s.clu.dir mac

def State.dirShow (s : State) : State := s.put CLU_DIR_STAT_USED s.clu.dir.length

/-- A device entry changes; 32 fit. DID_CONFLICT no longer holds once the device's own address is bound to no other DID. -/
def State.setDev (s : State) (mac : Nat) (d : Option Nat) : State :=
  if s.devOf mac = none ∧ 32 ≤ s.clu.devs.length then s
  else
    let s1 := { s with clu := { s.clu with devs := SMap.set (fun _ => none) s.clu.devs mac d } }
    let own := s1.devOf Config.backboneMac.toNat
    if own = none ∨ own = some s1.did then s1.setHflag 0 false else s1

/-- Apply one record to the directory in use, with what it means for the device's own contexts and DID (R184, R186,
R187). Forwarding to a handoff's target ends with the record that moves the station (R196 step 6). -/
def State.applyRec (s : State) (r : DirRec) : State :=
  let put := fun (s : State) (e : Option DirEntry) =>
    ({ s with clu := { s.clu with dir := SMap.set (fun _ => none) s.clu.dir r.mac e } }).dirShow
  match (if addrBad r.addr then 4 else r.kind) with
  | 0 =>
    if s.dirGet r.mac = none ∧ 262144 ≤ s.clu.dir.length then s
    else
      let s1 := put s (some ⟨r.addr, r.tick⟩)
      let s2 := { s1 with clu := { s1.clu with forward := s1.clu.forward.filter (fun f => f.mac != r.mac || f.src == r.addr) } }
      (match s2.aidOfMac r.mac with
       | some a => if r.addr = packAddr s.cid s.did a then s2 else (s2.ctxGone a).bump CLU_CNT_EVICT
       | none => s2)
  | 1 => put s none
  | 2 => s.setDev r.mac (some (addrDid r.addr))
  | 3 => s.setDev r.mac none
  | _ => s

/-- Apply the held updates that follow CLU_DSEQ (R184). -/
def State.drainHeld (s : State) : Nat → State
  | 0 => s
  | n + 1 =>
    let next := (s.rd CLU_DSEQ).toNat + 1
    match s.clu.held.find? (fun h => h.1 == next) with
    | some h =>
      let s1 := { s with clu := { s.clu with held := s.clu.held.filter (fun g => g.1 != next) } }
      ((s1.applyRec h.2).wr CLU_DSEQ (BitVec.ofNat 32 next)).drainHeld n
    | none => s

/-- One UPDATE record of a number (R184). -/
def State.updateRec (s : State) (n : Nat) (r : DirRec) : State :=
  let d := (s.rd CLU_DSEQ).toNat
  if n ≤ d then s
  else if n = d + 1 then ((s.applyRec r).wr CLU_DSEQ (BitVec.ofNat 32 n)).drainHeld 1024
  else if n ≤ d + 1 + 1024 ∧ s.clu.held.length < 1024 ∧ !s.clu.held.any (fun h => h.1 == n) then
    { s with clu := { s.clu with held := s.clu.held ++ [(n, r)] } }
  else s

def State.updateAll (s : State) (n : Nat) : List DirRec → State
  | [] => s
  | r :: t => (s.updateRec n r).updateAll (n + 1) t

def dirRecOf (r : DirRecord) : DirRec := ⟨r.kind.toNat, r.mac.toNat, r.addr.toNat, r.tick.toNat⟩

/-- The unit follows a manager and takes its directory messages. -/
def State.follows (s : State) (h : Afette) : Bool :=
  decide (s.cluSt = cluMember ∨ s.cluSt = cluHoldover) && decide (h.from_.toNat = s.get CLU_STAT_MGR)

/-- DIR_UPDATE_RX. -/
def State.dirUpdateRx (s : State) (h : Afette) (seq : Nat) (rs : List DirRecord) : State :=
  match s.afetteIn h 2 with
  | (s1, true) => if s1.follows h then s1.updateAll seq ((rs.take 48).map dirRecOf) else s1
  | (s1, false) => s1

/-- DIR_FULL_RX: records of a whole transfer; another SEQ abandons the one in progress (R185). -/
def State.dirFullRx (s : State) (h : Afette) (seq total index : Nat) (rs : List DirRecord) : State :=
  match s.afetteIn h 2 with
  | (s1, true) =>
    if s1.follows h then
      let f := match s1.clu.full with
        | some f => if f.seq = seq then f else ⟨seq, total, []⟩
        | none => ⟨seq, total, []⟩
      let new := ((rs.take 48).map dirRecOf).mapIdx (fun i r => (index + i, r))
      let got := f.got ++ new.filter (fun n => !f.got.any (fun g => g.1 == n.1) && decide (n.1 < total))
      if got.length < total then
        ({ s1 with clu := { s1.clu with full := some { f with got := got } } }).put CLU_DIR_STAT_FULL_RX 1
      else
        let s2 := { s1 with clu := { s1.clu with full := none, dir := [], devs := [] } }
        let s3 := got.foldl (fun s g => s.applyRec g.2) s2
        let s4 := ((s3.wr CLU_DSEQ (BitVec.ofNat 32 seq)).put CLU_DIR_STAT_FULL_RX 0).dirShow
        ({ s4 with clu := { s4.clu with held := s4.clu.held.filter (fun h => decide (seq < h.1)) } }).drainHeld 1024
    else s1
  | (s1, false) => s1

/-- The bytes of a DIR message (R182). -/
def dirBytes (kind seq total index : Nat) (rs : List DirRec) : List Byte :=
  leBytes 1 kind ++ leBytes 1 rs.length ++ leBytes 2 0 ++ leBytes 4 seq ++ leBytes 4 total ++ leBytes 4 index ++
    rs.flatMap (fun r => leBytes 1 r.kind ++ leBytes 1 0 ++ leBytes 6 r.mac ++ leBytes 8 r.addr ++ leBytes 8 r.tick)

/-- Records leave in messages of at most 48: UPDATE and FULL number them on, an empty run is one message (R182). -/
def State.sendDir (s : State) (dst : Option Nat) (kind seq total : Nat) (rs : List DirRec) : State :=
  (List.range (max 1 ((rs.length + 47) / 48))).foldl (fun (s : State) i =>
    s.sendAfette dst 2 (dirBytes kind (if kind = 0 then seq + 48 * i else seq) total (if kind = 2 then 48 * i else 0)
      ((rs.drop (48 * i)).take 48))) s

/-- A FULL transfer of the directory (R185). -/
def State.sendFull (s : State) (dst : Option Nat) : State :=
  let rs := s.clu.dir.filterMap (fun e => e.2.map (fun v => (⟨0, e.1, v.addr, v.tick⟩ : DirRec))) ++
    s.clu.devs.filterMap (fun e => e.2.map (fun d => (⟨2, e.1, packAddr s.cid d 0, 0⟩ : DirRec)))
  s.sendDir dst 2 (s.rd CLU_DSEQ).toNat rs.length rs

/-- The manager issues an UPDATE: the next number, applied, logged, sent to ALL (R183, R184). -/
def State.issue (s : State) (r : DirRec) : State :=
  let n := (s.rd CLU_DSEQ).toNat + 1
  let s1 := (s.applyRec r).wr CLU_DSEQ (BitVec.ofNat 32 n)
  let log := s1.clu.log ++ [(n, r)]
  ({ s1 with clu := { s1.clu with log := log.drop (log.length - 8192) } }).sendAfette none 2 (dirBytes 0 n 0 0 [r])

/-- One packed tick is earlier than another. -/
def tickLt (a b : Nat) : Bool := decide (unpackTick a < unpackTick b)

/-- One record of a report at the manager (R183); one with an invalid address is dropped (R23). -/
def State.reportRec (s : State) (r : DirRec) : State :=
  if addrBad r.addr then s
  else match s.dirGet r.mac, r.kind with
  | some e, 0 =>
    if tickLt r.tick e.tick ∨ (r.tick = e.tick ∧ addrDid e.addr < addrDid r.addr) then
      (s.bump CLU_CNT_DIR_STALE).issue ⟨0, r.mac, e.addr, e.tick⟩
    else s.issue r
  | none, 0 => s.issue r
  | some e, 1 =>
    if addrDid r.addr ≠ addrDid e.addr ∨ tickLt r.tick e.tick then (s.bump CLU_CNT_DIR_STALE).issue ⟨0, r.mac, e.addr, e.tick⟩
    else s.issue r
  | _, _ => s

/-- DIR_REPORT_RX: the manager turns reports into updates. -/
def State.dirReportRx (s : State) (h : Afette) (rs : List DirRecord) : State :=
  match s.afetteIn h 2 with
  | (s1, true) => if s1.cluSt = cluLead then ((rs.take 48).map dirRecOf).foldl (fun s r => s.reportRec r) s1 else s1
  | (s1, false) => s1

/-- The record of a waiting report. -/
def State.reportDir (s : State) (r : Report) : DirRec := ⟨if r.set then 0 else 1, r.mac, packAddr s.cid s.did r.aid, r.tick⟩

/-- Send REPORT records to the manager. -/
def State.sendReports (s : State) (rs : List Report) : State :=
  if rs = [] then s
  else
    let n := s.clu.reportSeq + 1
    let s1 := { s with clu := { s.clu with reportSeq := n },
                       reports := s.reports.map (fun (x : Report) => if rs.contains x then { x with sent := true } else x) }
    s1.sendDir (some (s1.get CLU_STAT_MGR)) 1 n 0 (rs.map s1.reportDir)

/-- New reports: in LEAD they become updates at once, a device that follows a manager sends them. -/
def State.cluOwn (s : State) : State :=
  if s.cluSt = cluLead then s.reports.foldl (fun s r => s.reportRec (s.reportDir r)) { s with reports := [] }
  else if s.cluSt = cluMember ∨ s.cluSt = cluHoldover then s.sendReports (s.reports.filter (fun x => !x.sent))
  else s

/-- REORDER_RX: a station that leaves with the frame is reported at once (R183). -/
def execReorderRx (s : State) : Out State := .next (s.clocked fun (s : State) => s.reorderRx.cluOwn)

/-- A report is confirmed once the directory holds its entry or a later one (R183). -/
def State.confirmed (s : State) (r : Report) : Bool :=
  match s.dirGet r.mac with
  | some e => tickLt r.tick e.tick || (r.set && decide (e.addr = packAddr s.cid s.did r.aid ∧ e.tick = r.tick))
  | none => !r.set

/-- DID_CHANGE: at a turn start the device takes the DID that its address is bound to, unless a context is in ASSOC or
HANDOFF (R187). -/
def State.didChange (s : State) : State :=
  match s.devOf Config.backboneMac.toNat with
  | some d =>
    if !s.atTurnStart ∨ d = s.did then s
    else if s.aids = [] then (s.put SYS_ADDR_DID d).setHflag 0 false
    else (s.setHflag 0 true).raiseIf (s.clu.hflags % 2 = 0) CLU_EVT_DID_CONFLICT
  | none => s

def execDidChange (s : State) : Out State := .next (s.clocked fun (s : State) => s.didChange)

/-! ### Plans (R188, R189, R190) -/

/-- The plan of a radio is staged in its inactive bank, or fails the checks of R111 (R190 steps 2 to 4). -/
def State.stage (s : State) (r : Fin 3) (id len nwin : Nat) : State :=
  let b := !s.flag (ACC_PLAN_STAT_ACT_BANK r)
  let s1 := if nwin < 1024 then s.memPut (s.bankAddr r b + 16 * nwin) (List.replicate 16 0) else s
  if s1.bankBad r b len then ({ s1 with clu := { s1.clu with staged := s1.clu.staged.set r (0, 0) } }).planFail r
  else ({ s1 with clu := { s1.clu with staged := s1.clu.staged.set r (id, len) } }).setPlanBad r false

/-- PLAN_RX: one fragment (R190). -/
def State.planRx (s : State) (h : Afette) (radio len frag nfrag id nwin : Nat) (ws : List (BitVec 128)) : State :=
  match s.afetteIn h 3 with
  | (s1, true) =>
    if hr : radio < 3 then
      let r : Fin 3 := ⟨radio, hr⟩
      if s1.cluSt = cluLead ∨ s1.cluSt = cluDeposed then s1
      else if s1.flag (ACC_PLAN_STAT_ARMED r) then s1.planFail (3 + r.val)
      else
        let p := match s1.clu.planRx[r] with
          | some p => if p.id = id then p else ⟨id, nfrag, []⟩
          | none => ⟨id, nfrag, []⟩
        let a := s1.bankAddr r (!s1.flag (ACC_PLAN_STAT_ACT_BANK r)) + 0x400 * frag
        let s2 := s1.memPut a ((ws.take 64).flatMap (fun w => leBytes 16 w.toNat))
        let got := if p.got.contains frag then p.got else frag :: p.got
        if got.length < nfrag then
          { s2 with clu := { s2.clu with planRx := s2.clu.planRx.set r (some { p with got := got }) } }
        else ({ s2 with clu := { s2.clu with planRx := s2.clu.planRx.set r none } }).stage r id (len + 1) nwin
    else s1
  | (s1, false) => s1

def execPlanRx (h : Afette) (radio : BitVec 2) (len : BitVec 8) (frag : BitVec 4) (nfrag : BitVec 5) (id : BitVec 32)
    (nwin : BitVec 11) (ws : List (BitVec 128)) (s : State) : Out State :=
  .next (s.planRx h radio.toNat len.toNat frag.toNat nfrag.toNat id.toNat nwin.toNat ws)

/-- The plan-out bank of a device and radio (R188). -/
def State.planOut (s : State) (d r : Nat) : Nat := (s.rd CLU_PLAN_BASE).toNat % 65536 * 0x10000 + (3 * d + r) * 0x4000

/-- The fragments of a plan (R189). -/
def State.planFrags (s : State) (a r len id nwin nf : Nat) : Nat → List (List Byte)
  | 0 => []
  | k + 1 =>
    let f := nf - (k + 1)
    let n := min 64 (nwin - 64 * f)
    (leBytes 1 r ++ leBytes 1 len ++ leBytes 1 f ++ leBytes 1 nf ++ leBytes 4 id ++ leBytes 2 nwin ++ leBytes 1 n ++ leBytes 1 0 ++
      s.memBytes (a + 0x400 * f) (16 * n)) :: s.planFrags a r len id nwin nf k

/-- PLAN_SEND: the manager sends a bank, or stages its own (R188). -/
def State.planSend (s : State) (d radio len : Nat) : State :=
  if hr : radio < 3 then
    let r : Fin 3 := ⟨radio, hr⟩
    if s.cluSt ≠ cluLead then s
    else if s.flag CLU_PLAN_STAT_BUSY ∨ (d ≠ s.did ∧ (s.rd CLU_PRESENT).getLsbD d = false) then s.put CLU_PLAN_STAT_ERR 1
    else
      let a := s.planOut d r
      let nwin := (s.windowsFrom a 1024).length
      let id := (s.rd CLU_PLAN_ID).toNat
      let s1 := s.put CLU_PLAN_STAT_ERR 0
      if d = s.did then
        if s1.flag (ACC_PLAN_STAT_ARMED r) then s1.planFail (3 + r.val)
        else (s1.memPut (s1.bankAddr r (!s1.flag (ACC_PLAN_STAT_ACT_BANK r))) (s1.memBytes a (16 * nwin))).stage r id (len + 1) nwin
      else
        let nf := max 1 ((nwin + 63) / 64)
        (s1.planFrags a r len id nwin nf nf).foldl (fun s b => s.sendAfette (some d) 3 b) (s1.put CLU_PLAN_STAT_BUSY 1)
  else s

def execPlanSend (d : BitVec 5) (radio : BitVec 2) (len : BitVec 8) (s : State) : Out State :=
  .next (s.hostAt none CLU_PLAN_CMD fun (s : State) => s.planSend d.toNat radio.toNat len.toNat)

/-- PLAN_SEND_DONE: the fragments have been sent. -/
def execPlanSendDone (s : State) : Out State := .next (s.clocked fun (s : State) => s.put CLU_PLAN_STAT_BUSY 0)

/-! ### Activations (R191, R192, R193) -/

/-- The same KIND, ID and TURN. -/
def sameAct (a b : Activation) : Bool := a.kind == b.kind && a.id == b.id && a.turn == b.turn

/-- The device takes an activation; an image activation is handed to the update block by the command's meaning. -/
def State.takeAct (s : State) (a : Activation) : State :=
  if s.clu.taken.any (sameAct a) ∨ s.clu.withdrawn.any (sameAct a) then s
  else if a.turn ≤ s.turn then (s.setHflag 2 true).raise CLU_EVT_ACT_FAIL
  else
    let took := fun (s : State) =>
      (({ s with clu := { s.clu with taken := a :: s.clu.taken } }).setHflag 2 false).setPlanBad 6 false
    if a.kind = 1 then
      let rs := (List.finRange 3).filter (fun r => decide (a.map / 2 ^ r.val % 2 = 1))
      if rs.all (fun r => decide (s.clu.staged[r].1 = a.id ∧ a.id ≠ 0)) then
        took (rs.foldl (fun s r => s.armBank r (!s.flag (ACC_PLAN_STAT_ACT_BANK r)) (atLeast1 s.clu.staged[r].2) a.turn) s)
      else s.planFail 6
    else if a.kind = 2 then took s
    else s

/-- The device withdraws an activation it has taken; after its turn, or the handover start, it is too late (R193). -/
def State.withdrawAct (s : State) (a : Activation) : State :=
  match s.clu.taken.find? (sameAct a) with
  | some t =>
      if t.turn ≤ s.turn ∨ (t.kind = 2 ∧ s.get UPD_STAT_TOV = 2) then (s.setHflag 2 true).raise CLU_EVT_ACT_FAIL
      else
        let s1 := { s with clu := { s.clu with taken := s.clu.taken.filter (fun x => !sameAct a x), withdrawn := t :: s.clu.withdrawn } }
        if t.kind = 1 then
          ((List.finRange 3).filter (fun r => decide (t.map / 2 ^ r.val % 2 = 1))).foldl
            (fun s r => match s.acc.arms[r] with
              | some p => if t.turn ≤ p.turn then s.cancelBank r else s
              | none => s) s1
        else s1
  | none => s

/-- The bytes of ACT (R191). -/
def actBytes (a : Activation) (withdraw : Bool) : List Byte :=
  leBytes 1 a.kind ++ leBytes 1 a.map ++ leBytes 1 (if withdraw then 1 else 0) ++ leBytes 1 0 ++ leBytes 4 a.id ++
    leBytes 5 a.turn ++ leBytes 3 0

/-- The turn has reached TURN − CLU_ACT_MIN (R191). -/
def State.actClose (s : State) (a : Activation) : Bool := decide (a.turn ≤ s.turn + atLeast1 ((s.rd CLU_ACT_MIN).toNat % 256))

/-- The activation fails: nothing is sent (R191). -/
def State.actFail (s : State) : State := (s.wr CLU_ACT_STAT 3).raise CLU_EVT_ACT_FAIL

/-- ACT_SEND: the manager's host starts an activation; it waits until all are ready. One whose turn is already too near
fails at once (R191). -/
def State.actSend (s : State) (kind map : Nat) : State :=
  let past := s.clu.act.all (fun x => decide (x.1.turn ≤ s.turn))
  if s.cluSt = cluLead ∧ (kind = 1 ∨ kind = 2) ∧ ((s.rd CLU_ACT_STAT).toNat % 4 ≠ 2 ∨ past) then
    let a : Activation := ⟨kind, map, (s.rd CLU_ACT_ID).toNat,
      (s.rd CLU_ACT_TURN_LO).toNat + 2 ^ 32 * ((s.rd CLU_ACT_TURN_HI).toNat % 256)⟩
    let s1 := { s with clu := { s.clu with act := some (a, (s.rd CLU_ACT_MASK).toNat),
                                           withdrawn := s.clu.withdrawn.filter (fun w => !sameAct w a) } }
    if s1.actClose a then s1.actFail else s1.wr CLU_ACT_STAT 1
  else s

def execActSend (kind : BitVec 2) (map : BitVec 3) (s : State) : Out State :=
  .next (s.hostAt none CLU_ACT_CMD fun (s : State) => s.actSend kind.toNat map.toNat)

/-- A device of the mask is ready: its HB, or the device's own state, shows the plan staged on every radio of the map, or
the image session ready. -/
def State.didReady (s : State) (a : Activation) (d : Nat) : Bool :=
  if a.kind = 2 then
    (if d = s.did then decide (s.get UPD_STAT_SESS = 2 ∧ (s.rd UPD_SESS_ID).toNat = a.id) else s.clu.ready.contains (d, a.id))
  else (List.finRange 3).all (fun r => decide (a.map / 2 ^ r.val % 2 = 0) ||
    decide ((if d = s.did then s.clu.staged[r].1 else s.mem (0x151000 + 32 * d + 12 + 4 * r.val) 4) = a.id))

/-- ACT_READY: every DID of the mask is ready; ACT goes to ALL and the manager takes the activation itself. Once the turn has
reached TURN − CLU_ACT_MIN it has failed instead (R191). -/
def State.actReady (s : State) : State :=
  match s.clu.act with
  | some (a, m) =>
    if (s.rd CLU_ACT_STAT).toNat % 4 ≠ 1 then s
    else if s.actClose a then s.actFail
    else if (List.range 32).all (fun d => decide (m / 2 ^ d % 2 = 0) || s.didReady a d) then
      ((s.wr CLU_ACT_STAT 2).sendAfette none 6 (actBytes a false)).takeAct a
    else s
  | none => s

/-- ACT_DEADLINE: the turn TURN − CLU_ACT_MIN is reached while the manager still waits; without turns, and while HELD
is 1, it is not (R42, R48). -/
def State.actDeadline (s : State) : State :=
  match s.clu.act with
  | some (a, _) =>
    if (s.rd CLU_ACT_STAT).toNat % 4 = 1 ∧ s.placing then
      (s.toAbsTick ((a.turn - atLeast1 ((s.rd CLU_ACT_MIN).toNat % 256)) * turnTicks)).actFail
    else s
  | none => s

def execActDeadline (s : State) : Out State := .next (s.clocked fun (s : State) => s.actDeadline)

/-- ACT_WITHDRAW_CMD: the manager's host withdraws (R191). -/
def State.actWithdraw (s : State) (kind : Nat) : State :=
  match s.clu.act with
  | some (a, _) =>
    if kind ≠ 1 ∧ kind ≠ 2 then s
    else if (s.rd CLU_ACT_STAT).toNat % 4 = 2 then
      if !s.actClose a then
        let s1 := { s with clu := { s.clu with act := none } }
        (((s1.wr CLU_ACT_STAT 0).sendAfette none 6 (actBytes a true)).withdrawAct a)
      else s.raise CLU_EVT_ACT_FAIL
    else ({ s with clu := { s.clu with act := none } }).wr CLU_ACT_STAT 0
  | none => s

/-- ACT_RX, ACT_WITHDRAW_RX: from the manager. -/
def State.actRx (s : State) (h : Afette) (a : Activation) (withdraw : Bool) : State :=
  match s.afetteIn h 6 with
  | (s1, true) =>
    if s1.follows h then
      (if withdraw then s1.withdrawAct a
       else ({ s1 with clu := { s1.clu with withdrawn := s1.clu.withdrawn.filter (fun w => !sameAct w a),
                                            heard := a :: s1.clu.heard.filter (fun w => !sameAct w a) } }).takeAct a)
    else s1
  | (s1, false) => s1

/-! ### SYNC (R173, R174, R178, R179) -/

/-- The activation that the manager's SYNC carries until its turn. -/
def State.actCarried (s : State) : Activation :=
  match s.clu.act with
  | some (a, _) => if (s.rd CLU_ACT_STAT).toNat % 4 = 2 ∧ s.turn < a.turn then a else ⟨0, 0, 0, 0⟩
  | none => ⟨0, 0, 0, 0⟩

/-- The SYNC payload now (R173). -/
def State.syncBytes (s : State) : List Byte :=
  let a := s.actCarried
  leBytes 4 (s.rd SPN_EPOCH_NS).toNat ++ leBytes 4 (s.rd SPN_EPOCH_SEC_LO).toNat ++ leBytes 2 (s.rd SPN_EPOCH_SEC_HI).toNat ++
    leBytes 1 s.spnSt ++ leBytes 1 (s.get CLU_STAT_DEPUTY + 128 * s.get CLU_STAT_DEP_NONE) ++ leBytes 4 (s.wideNs % 1000000000) ++
    leBytes 6 (s.wideNs / 1000000000) ++ leBytes 2 0 ++ leBytes 4 (s.rd CLU_DSEQ).toNat ++ leBytes 4 (s.rd CLU_PRESENT).toNat ++
    leBytes 4 a.id ++ leBytes 5 a.turn ++ leBytes 1 a.kind ++ leBytes 2 0

/-- SYNC_SEND: at the start of the next slot, in LEAD, while turns run. -/
def State.syncSend (s : State) : State :=
  if s.cluSt = cluLead ∧ s.awake = true ∧ s.running ∧ !s.flag SPN_STAT_HELD then
    let k := max s.clu.slot ((s.absTick + slotLen - 1) / slotLen)
    let s1 := s.toAbsTick (k * slotLen)
    let s2 := (s1.put CLU_STAT_DEPUTY (s1.get CLU_CFG_DEPUTY)).putB CLU_STAT_DEP_NONE
      (s1.flag CLU_CFG_DEP_NONE || s1.clu.noDeputy)
    ({ s2 with clu := { s2.clu with slot := k + 1 } }).sendAfette none 0 s2.syncBytes
  else s

def execSyncSend (s : State) : Out State := .next s.syncSend

/-- The radios fall silent as with ACC_CTL.EN 0: SYNC in word 0 of every generated half (R179). -/
def State.silence (s : State) : State :=
  (List.range 3).foldl (fun s r => if s.genHalf r = 0 then s else
    (s.progSet r (s.genBase r) wSync).progSet r (s.genBase r + s.genHalf r) wSync) s

/-- DEPOSED is entered (R179). -/
def State.depose (s : State) : State := ((s.put CLU_STAT_STATE cluDeposed).raise CLU_EVT_DEPOSED).silence

/-- Does R179 accept this SYNC in MEMBER or HOLDOVER? -/
def State.syncOk (s : State) (h : Afette) : Bool :=
  let t := (s.rd CLU_TERM).toNat
  (decide (h.term.toNat = t) && decide (h.from_.toNat = s.get CLU_STAT_MGR)) ||
    (decide (t < h.term.toNat) && !s.flag CLU_STAT_DEP_NONE && decide (h.from_.toNat = s.get CLU_STAT_DEPUTY))

/-- An activation found in a SYNC, which names no RADIO_MAP: it is the ACT's, where that was heard, else the radios whose
staged plan is the activation's; with none staged the plan lacks (R192; DEDUCED, log entry 14). -/
def State.takeSync (s : State) (a : Activation) : State :=
  match s.clu.heard.find? (sameAct a) with
  | some h => s.takeAct h
  | none =>
    let map := ((List.finRange 3).map (fun r => if s.clu.staged[r].1 = a.id then 2 ^ r.val else 0)).sum
    if a.kind = 1 ∧ map = 0 ∧ s.turn < a.turn ∧ !s.clu.withdrawn.any (sameAct a) ∧ !s.clu.taken.any (sameAct a) then s.planFail 6
    else s.takeAct { a with map := map }

/-- A SYNC is received: MISS is 0, the fields are taken, SKEW is measured, the state moves (R174, R175). -/
def State.syncTake (s : State) (h : Afette) (m : SyncMsg) (k : Nat) : State :=
  let was := s.cluSt
  let tx : Int := m.txSec.toNat * 1000000000 + m.txNs.toNat
  let skew : Int := (s.afetteWide : Int) - tx - (s.rd CLU_PATH_NS).toNat % 65536
  let big := beyond skew ((s.rd CLU_SKEW_THR).toNat % 2 ^ 24)
  let s1 := ((s.put CLU_STAT_MISS 0).wr CLU_TERM h.term).put CLU_STAT_MGR h.from_.toNat
  let s2 := ((s1.put CLU_STAT_DEPUTY m.deputy.toNat).putB CLU_STAT_DEP_NONE m.depNone).wr CLU_PRESENT m.present
  let fits := decide (-2147483648 ≤ skew ∧ skew < 2147483648)
  let s3 := (((if fits then s2.wr CLU_SKEW (word32 skew) else s2.drawn.wr CLU_SKEW (BitVec.ofNat 32 s2.draw)).setHflag 4
    big).setHflag 3 false)
  let s4 := { s3 with clu := { s3.clu with slot := k + 1, run := 0, caught := false, takeHeld := false } }
  let s5 := (s4.raiseIf big CLU_EVT_SKEW).put CLU_STAT_STATE cluMember
  let s6 := s5.raiseIf (decide (was = cluHoldover)) CLU_EVT_REJOIN
  let a : Activation := ⟨m.actKind.toNat, 0, m.actId.toNat, m.actTurn.toNat⟩
  let s7 := (s6.clu.taken.filter (fun t => decide (s6.turn < t.turn ∧ (a.kind = 0 ∨ a.id ≠ t.id)))).foldl State.withdrawAct s6
  if a.kind = 0 then s7 else s7.takeSync a

/-- The unit waits for a manager's SYNC: in JOIN, MEMBER or HOLDOVER. -/
def State.listening (s : State) : Bool := decide (s.cluSt = cluJoin ∨ s.cluSt = cluMember ∨ s.cluSt = cluHoldover)

/-- Any SYNC of the cluster ends the run of slots without one, and with it a takeover that is held back; one that comes after its
slot's tolerance has closed does so for that slot, and none has been captured in the next (R178). -/
def State.syncHeard (s : State) : State :=
  if s.listening then
    { s with clu := { s.clu with run := 0, takeHeld := false, caught := decide (s.clu.slot ≤ s.absTick / slotLen) } }
  else s

/-- SYNC_RX: the epoch and the sender are judged before the slot, so that each rejection shows (R174, R179). -/
def State.syncRx (s : State) (h : Afette) (m : SyncMsg) : State :=
  match s.afetteIn h 0 with
  | (s1, false) => s1
  | (s0, true) =>
    let s1 := s0.syncHeard
    let t := s1.afetteTick
    if s1.cluSt = cluLead then
      if (s1.rd CLU_TERM).toNat < h.term.toNat ∨ (h.term = s1.rd CLU_TERM ∧ h.from_.toNat < s1.did) then s1.depose else s1
    else if s1.cluSt = cluDeposed then s1
    else
      let k := unpackTick h.tick.toNat / slotLen
      let inTime := decide (k / 16 = s1.turn) && decide (k * slotLen ≤ t ∧ t < k * slotLen + (s1.rd CLU_SYNC_TOL).toNat % 2 ^ 24)
      if m.epochNs ≠ s1.rd SPN_EPOCH_NS ∨ m.epochSec.toNat * 1000000000 + m.epochNs.toNat ≠ s1.epochNs then
        ((s1.setHflag 3 true).raise CLU_EVT_EPOCH_MIS).bump CLU_CNT_SYNC_REJ
      else if s1.cluSt ≠ cluJoin ∧ !s1.syncOk h then s1.bump CLU_CNT_SYNC_REJ
      else if inTime then s1.syncTake h m k
      else s1

/-- Slot `k` counts as a miss (R174, R175). -/
def State.slotMissed (s : State) (k : Nat) : State :=
  let run := if s.clu.caught then 0 else s.clu.run + 1
  let s2 := ({ s with clu := { s.clu with slot := k + 1, run := run, caught := false } }).bump CLU_CNT_SYNC_MISS
  let n := min 31 (s2.get CLU_STAT_MISS + 1)
  let s3 := s2.put CLU_STAT_MISS n
  if 3 ≤ n ∧ s3.cluSt = cluMember then (s3.put CLU_STAT_STATE cluHoldover).raise CLU_EVT_HOLDOVER else s3

/-- SYNC_SLOT_MISS: a slot's tolerance closes without a received SYNC. -/
def State.syncMiss (s : State) : State :=
  if s.listening = true ∧ s.awake = true ∧ s.running ∧ !s.flag SPN_STAT_HELD then
    let tol := (s.rd CLU_SYNC_TOL).toNat % 2 ^ 24
    let k := max s.clu.slot ((s.absTick - tol + slotLen - 1) / slotLen)
    (s.toAbsTick (k * slotLen + tol)).slotMissed k
  else s

def execSyncSlotMiss (s : State) : Out State := .next s.syncMiss

/-- DEPUTY_TAKEOVER: sixteen slots without a SYNC; at the start of the next slot the deputy leads (R178). With the
spindle in FREE, ESTIMATED or STOPPED it is held; without turns, and while HELD is 1, no slot starts (R42, R48). -/
def State.takeover (s : State) : State :=
  if s.cluSt = cluHoldover ∧ s.get SYS_ROLE_ROLE = 3 ∧ !s.flag CLU_STAT_DEP_NONE ∧ s.get CLU_STAT_DEPUTY = s.did ∧
      16 ≤ s.clu.run then
    if s.spnSt = spnFree ∨ s.spnSt = spnEstimated ∨ s.spnSt = spnStopped then
      ({ s with clu := { s.clu with takeHeld := true } }).raiseIf (!s.clu.takeHeld) CLU_EVT_TAKE_HELD
    else if !s.running ∨ s.flag SPN_STAT_HELD ∨ s.awake = false then s
    else
      let k := s.absTick / slotLen + 1
      let s1 := (s.toAbsTick (k * slotLen)).put CLU_STAT_STATE cluLead
      let s2 := ((s1.wr CLU_TERM (s1.rd CLU_TERM + 1)).put CLU_STAT_MGR s1.did).put CLU_STAT_MISS 0
      let s3 := (((s2.put CLU_STAT_DEP_NONE 1).put SYS_ROLE_ROLE 1).put SYS_ROLE_TAKEN 1).wr CLU_PRESENT 0
      let s4 := ({ s3 with clu := { s3.clu with run := 0, caught := false, takeHeld := false, noDeputy := true, slot := k + 1,
                                                hbSeen := [], log := [] } }).raise CLU_EVT_TAKEOVER
      (s4.sendAfette none 0 s4.syncBytes).sendFull none
  else s

def execDeputyTakeover (s : State) : Out State := .next s.takeover

/-! ### Heartbeats (R176, R177, R187) -/

/-- The HB payload now (R176). -/
def State.hbBytes (s : State) : List Byte :=
  let sta := fun (r : Nat) => (s.aids.filter (fun a => decide (s.cxState a = 1) && s.cxBit a 10 r)).length
  leBytes 1 (s.cluSt + 8 * s.spnSt + 64 * s.get SYS_ROLE_ROLE) ++
    leBytes 1 (withBit s.clu.hflags 1 (decide (s.clu.planBad ≠ 0))) ++ leBytes 2 (8191 - s.aids.length) ++
    leBytes 4 (s.rd CLU_SKEW).toNat ++ leBytes 4 (s.rd CLU_DSEQ).toNat ++ leBytes 4 s.clu.staged[0].1 ++
    leBytes 4 s.clu.staged[1].1 ++ leBytes 4 s.clu.staged[2].1 ++ leBytes 2 (sta 0) ++ leBytes 2 (sta 1) ++ leBytes 2 (sta 2) ++
    leBytes 2 0

/-- HB_SEND: in every HB_PER-th slot, at the sender's own angle in it; unconfirmed reports go with it (R176, R183). A device
in JOIN knows no manager to send it to (DEDUCED, log entry 29). -/
def State.hbSend (s : State) : State :=
  if (s.cluSt = cluMember ∨ s.cluSt = cluHoldover) ∧ s.awake = true ∧ s.running ∧ !s.flag SPN_STAT_HELD then
    let per := atLeast1 (s.get CLU_CFG_HB_PER)
    let ofs := 0x800 * (s.did + 1)
    let from_ := max (s.clu.hbAt + 1) s.absTick
    let k0 := (from_ - ofs + slotLen - 1) / slotLen
    -- Slots are numbered 0 to 15 in each turn.
    let k := ((List.range 17).map (k0 + ·)).find? (fun k => decide (k % 16 % per = 0))
    let t := (k.getD k0) * slotLen + ofs
    let s1 := s.toAbsTick t
    let s2 := { s1 with clu := { s1.clu with hbAt := t }, reports := s1.reports.filter (fun r => !s1.confirmed r) }
    let s3 := s2.sendAfette (some (s2.get CLU_STAT_MGR)) 1 s2.hbBytes
    s3.sendReports s3.reports
  else s

/-- What the manager sends a device whose DSEQ_ACK is behind: from its log, or a FULL transfer (R184). -/
def State.resend (s : State) (d ack : Nat) : State :=
  let n := (s.rd CLU_DSEQ).toNat
  if n ≤ ack then s
  else if s.clu.log.any (fun e => e.1 == ack + 1) then
    s.sendDir (some d) 0 (ack + 1) 0 ((s.clu.log.filter (fun e => decide (ack < e.1))).map (·.2))
  else s.sendFull (some d)

/-- The HB is copied into the table, its sender is present, and what it has missed is sent again (R177, R184). -/
def State.hbTake (s : State) (d v : Nat) : State :=
  let s1 := (s.memSet (0x151000 + 32 * d) 32 v).wr CLU_PRESENT (s.rd CLU_PRESENT ||| BitVec.ofNat 32 (2 ^ d))
  let s2 := { s1 with clu := { s1.clu with hbSeen := SMap.set (fun _ => none) s1.clu.hbSeen d (some s1.absTick) } }
  s2.resend d (v / 2 ^ 64 % 2 ^ 32)

/-- HB_RX: the manager copies the HB into its table; the HB of an address bound to another DID is ignored (R187). -/
def State.hbRx (s : State) (h : Afette) (hb : BitVec 256) : State :=
  match s.afetteIn h 1 with
  | (s1, false) => s1
  | (s1, true) =>
    if s1.cluSt ≠ cluLead then s1
    else
      match s1.devOf h.srcMac.toNat with
      | some b => if b ≠ h.from_.toNat then s1.raise CLU_EVT_DUP_DID else s1.hbTake h.from_.toNat hb.toNat
      | none => s1.hbTake h.from_.toNat hb.toNat

def execHbRx (h : Afette) (hb : BitVec 256) (s : State) : Out State := .next (s.hbRx h hb)

/-- DEVICE_ABSENT: three HB periods have passed since a device's last HB (R177), while what is placed on the spindle runs. -/
def State.deviceAbsent (s : State) (d : Nat) : State :=
  match SMap.get (fun _ => none) s.clu.hbSeen d with
  | some t =>
    if s.cluSt = cluLead ∧ s.placing then
      let s1 := s.toAbsTick (t + 3 * atLeast1 (s.get CLU_CFG_HB_PER) * slotLen)
      let s2 := s1.wr CLU_PRESENT (s1.rd CLU_PRESENT &&& ~~~ BitVec.ofNat 32 (2 ^ d))
      ({ s2 with clu := { s2.clu with hbSeen := SMap.set (fun _ => none) s2.clu.hbSeen d none } }).bump CLU_CNT_HB_MISS
        |>.raise CLU_EVT_ABSENT
    else s
  | none => s

def execDeviceAbsent (d : BitVec 5) (s : State) : Out State := .next (s.clocked fun (s : State) => s.deviceAbsent d.toNat)

end Sys2Proof.Machine
end

