-- ==== Sys2Proof/Machine/Flood.lean ====
section
/-! DEFINITION. The flood layer (spec/07_flood_relay.md): malformed frames, the sorus cache, the replay window, home
devices and carry frames, the flood queues and the frame counter. -/

namespace Sys2Proof.Machine

/-- The layer runs: EN set and a group address in FLD_GROUP (R151). -/
def State.fldOn (s : State) : Bool := s.flag FLD_CTL_EN && (s.rd FLD_GROUP_LO).getLsbD 0

def State.fldOwn (s : State) : Nat := s.addr48 FLD_ADDR_LO FLD_ADDR_HI

/-- TYPE, TTL, TTL0 of a frame (R152). -/
def ffType (f : FloodFrame) : Nat := f.vt.toNat / 16
def ffTtl (f : FloodFrame) : Nat := f.ttl.toNat % 16
def ffTtl0 (f : FloodFrame) : Nat := f.ttl.toNat / 16
def ffKeyid (f : FloodFrame) : Nat := f.key.toNat % 4

/-- The Zitrity header (R152). -/
def zitHeader (vt ttl key slot : Byte) (cid : BitVec 16) (orig dst : BitVec 48) (fcnt : BitVec 32) (len : BitVec 16) : List Byte :=
  [vt, ttl, key, slot] ++ leBytes 2 cid.toNat ++ leBytes 6 orig.toNat ++ leBytes 6 dst.toNat ++ leBytes 4 fcnt.toNat ++
    leBytes 2 len.toNat

def ffHeader (f : FloodFrame) : List Byte := zitHeader f.vt f.ttl f.key f.slot f.cid f.orig f.dst f.fcnt f.len

/-- The nonce of a Zitrity header: VT, ORIG, FCNT, CID; and its authenticated data: the header with TTL 0 (R153). -/
def zitNonce (h : List Byte) : List Byte := h.take 1 ++ part h 6 6 ++ part h 18 4 ++ part h 4 2
def zitAad (h : List Byte) : List Byte := h.take 1 ++ [h.getD 1 0 &&& 0xF0] ++ h.drop 2

/-- Malformed under R151 and R154. -/
def State.floodBad (s : State) (f : FloodFrame) : Bool :=
  f.prot || decide (f.vt.toNat % 16 ≠ 1) || decide (2 < ffType f) || decide (4 ≤ f.key.toNat) ||
    decide (ffTtl0 f < ffTtl f) || decide (1024 < f.len.toNat) || decide (f.msdu.toNat ≠ f.len.toNat + 40) ||
    !s.flag (FLD_KEY_SLOT_VALID (ffKeyid f))

/-- A malformed frame is dropped and counted. -/
def State.floodBadDrop (s : State) : State := (s.bump FLD_CNT_BAD).raise FLD_EVT_BAD

/-- Another root's flood, or another cluster's UP frame (R161). -/
def State.floodForeign (s : State) (f : FloodFrame) : Bool :=
  if ffType f = 1 then decide (f.cid.toNat ≠ s.cid) else decide (f.orig.toNat ≠ s.fldOwn)

/-! ### The sorus cache (R162, R163, R164) -/

def State.sorusGet (s : State) (i : Nat) : Option Sorus := SMap.get (fun _ => none) s.fld.sorus i

/-- FLD_SORUS shows the books. -/
def State.sorusBooks (s : State) : State :=
  (s.put FLD_SORUS_FREE (4096 - s.fld.sorus.length)).put FLD_SORUS_USED s.fld.sorus.length

def State.sorusSet (s : State) (i : Nat) (v : Option Sorus) : State :=
  ({ s with fld := { s.fld with sorus := SMap.set (fun _ => none) s.fld.sorus i v } }).sorusBooks

/-- The entry of a frame's key. -/
def State.sorusFind (s : State) (f : FloodFrame) : Option (Nat × Sorus) :=
  s.fld.sorus.findSome? (fun e => match e.2 with
    | some v => if v.orig = f.orig ∧ v.fcnt = f.fcnt ∧ v.keyid = ffKeyid f then some (e.1, v) else none
    | none => none)

/-- The entry with the oldest insertion turn, the lowest index among equals. -/
def oldest : List (Nat × Option Sorus) → Option (Nat × Nat)
  | [] => none
  | (i, some v) :: t => match oldest t with
    | some (j, n) => if v.turn ≤ n then some (i, v.turn) else some (j, n)
    | none => some (i, v.turn)
  | (_, none) :: t => oldest t

/-- Insert an entry; with none free the oldest is evicted. Which free entry is taken the spec leaves open (log entry 4). -/
def State.sorusInsert (s : State) (v : Sorus) : State :=
  if s.fld.sorus.length < 4096 then
    s.drawn.sorusSet (freeFrom (s.fld.sorus.map (·.1)) 4096 (s.fld.sorus.length + 1) s.draw) (some v)
  else match oldest s.fld.sorus with
    | some (i, _) => ((s.sorusSet i (some v)).bump FLD_CNT_EVICT).raise FLD_EVT_EVICT
    | none => s

/-- SORUS_AGING: entries inserted in turn T are freed at the start of turn T + 8. -/
def State.sorusAging (s : State) : State :=
  ({ s with fld := { s.fld with sorus := s.fld.sorus.filter (fun e => match e.2 with
      | some v => decide (s.turn < v.turn + 8)
      | none => false) } }).sorusBooks

def execSorusAging (s : State) : Out State := .next (s.clocked fun (s : State) => s.sorusAging)

/-! ### Replay (R165, R166) -/

/-- The replay check of a context: the new RX_FCNT and RX_MAP, or none for a replay. -/
def replayCheck (valid : Bool) (rx map f : Nat) : Option (Nat × Nat) :=
  if !valid then some (f, 0)
  else if rx < f then
    let k := f - rx
    some (f, if k ≤ 32 then (map * 2 ^ k + 2 ^ (k - 1)) % 2 ^ 32 else 0)
  else if f < rx ∧ rx - f ≤ 32 ∧ map / 2 ^ (rx - f - 1) % 2 = 0 then some (rx, map + 2 ^ (rx - f - 1))
  else none

/-- An accepted UP frame goes to the parser. -/
def State.floodAccept (s : State) (w : FloodWait) (aid : Nat) (unknown : Bool) : State :=
  let p : Packet := { chain := w.chain, src := 3, port := w.lid, aid := aid, tid := 8, tick := packTick w.tick, lid := w.lid,
                      chainNo := w.chainNo, rssi := w.rssi, hops := ffTtl0 w.f - ffTtl w.f, ttl0 := ffTtl0 w.f,
                      unknown := unknown, ta := w.f.orig, fcnt := w.f.fcnt.toNat,
                      bytes := etherBytes w.f.dst w.f.orig (beBytes 2 (s.get FLD_CFG_ETYPE)) w.body }
  let s1 := s.bump FLD_CNT_ACCEPT
  { s1 with prsq := s1.prsq ++ [p] }

/-- An UP frame that missed the cache, at its home. -/
def State.floodUp (s : State) (w : FloodWait) : State :=
  match s.aidOfMac w.f.orig.toNat with
  | none => (s.bump FLD_CNT_UNKNOWN).floodAccept w 0 true
  | some a =>
    match replayCheck (s.cxBit a 232 0) (s.cx a 224 4) (s.cx a 228 4) w.f.fcnt.toNat with
    | some (rx, map) =>
      let s1 := ((s.cxSet a 224 4 rx).cxSet a 228 4 map).cxPutBit a 232 0 true
      let s2 := (s1.cxSet a 233 1 ((ffTtl0 w.f - ffTtl w.f) % 16 + 16 * ffTtl0 w.f)).cxSet a 234 1 (w.lid % 4)
      (s2.cxBump a 236 4 1).floodAccept w a false
    | none => ((s.bump FLD_CNT_REPLAY).raise FLD_EVT_REPLAY).release w.chain ownFld

/-! ### Home and carry (R167, R168) -/

/-- The backbone link is up. -/
def State.backboneUp (s : State) : Bool :=
  match s.backbone with
  | some p => s.flag (ETH_STAT_LINK p)
  | none => false

/-- The DID of the home of an originator; none for this device. -/
def State.floodHome (s : State) (orig : Nat) : Option Nat :=
  if s.cid = 0 ∨ s.cluSt = cluOff then none
  else
    let d := match s.dirGet orig with
      | some e => addrDid e.addr
      | none => s.get CLU_STAT_MGR
    if d = s.did then none else some d

/-- A carry frame to the home: the carry header, then the Zitrity frame as received, on the backbone (R168). -/
def State.carry (s : State) (w : FloodWait) (d : Nat) : State :=
  let drop := fun (s : State) => ((s.release w.chain ownFld).bump FLD_CNT_CARRY_DROP).raise FLD_EVT_CARRY_DROP
  if !s.flag FLD_CTL_CARRY_EN then s.release w.chain ownFld
  else if s.backboneUp then match s.devMac d with
    | none => drop s
    | some m =>
    let hdr := leBytes 1 0x80 ++ leBytes 1 s.did ++ leBytes 1 w.lid ++ [w.rssi] ++ leBytes 8 (packTick w.tick) ++ leBytes 4 0
    (s.bump FLD_CNT_CARRY_TX).toBackboneOf ownFld w.chain (BitVec.ofNat 48 m) (s.get FLD_CFG_ETYPE)
      (hdr ++ ffHeader w.f ++ w.f.raw)
  else drop s

/-- The lookup of one frame (R163, R161, R167). -/
def State.sorusLookup (s : State) (w : FloodWait) : State :=
  match s.sorusFind w.f with
  | some (i, v) =>
    ((s.sorusSet i (some { v with copies := min 15 (v.copies + 1) })).bump FLD_CNT_COPY).release w.chain ownFld
  | none =>
    let s1 := s.sorusInsert ⟨w.f.orig, w.f.fcnt, ffKeyid w.f, s.turn, w.lid, ffTtl0 w.f - ffTtl w.f, w.tick, 0⟩
    if ffType w.f ≠ 1 then (s1.bump FLD_CNT_COPY).release w.chain ownFld
    else match s1.floodHome w.f.orig.toNat with
      | none => s1.floodUp w
      | some d => s1.carry w d

/-! ### Reception -/

/-- A frame has passed R154 and the CCM check: another root's goes, the others wait for their lookup (R161, R163). -/
def State.floodPassed (s : State) (w : FloodWait) : State :=
  if s.floodForeign w.f then (s.bump FLD_CNT_FOREIGN).release w.chain ownFld
  else { s with fld := { s.fld with waiting := s.fld.waiting ++ [w] } }

/-- FLOOD_FRAME_RX: the next frame of the Frond link, if it is a flood frame: its window and its form (R151, R154, R155). -/
def State.floodFrameRx (s : State) : State :=
  match s.rxq with
  | [] => s
  | x :: t =>
    if x.frame.kind ≠ .flood then s
    else
      let s1 := { s with rxq := t }
      let drop := fun (s : State) => s.release x.chain ownAirRx
      match x.frame.flood with
      | none => drop s1
      | some f =>
        let mine := s1.fldOn && decide (f.a1.toNat = s1.addr48 FLD_GROUP_LO FLD_GROUP_HI ∧ f.etype.toNat = s1.get FLD_CFG_ETYPE)
        let inWin := match x.tick with
          | some k => (match s1.windowOf x.radio k with
            | some (w, _, _) => w.rx && decide (w.kind = 8 ∧ w.chidx = x.chan)
            | none => false)
          | none => false
        if !mine then drop s1
        else if !inWin then drop (s1.bump FLD_CNT_OUTWIN)
        else if s1.floodBad f then drop s1.floodBadDrop
        else { s1 with cipq := s1.cipq ++ [{ item := x, aid := 0 }] }

def execFloodFrameRx (s : State) : Out State := .next (s.clocked fun (s : State) => s.floodFrameRx)

/-- Some flood frame captured up to a tick has neither reached the layer nor been dropped (R163). -/
def State.floodInFlight (s : State) (t : Nat) : Bool :=
  let late := fun (x : RxItem) => decide (x.frame.kind = .flood) && decide (x.tick.getD (t + 1) ≤ t)
  s.rxq.any late || s.cipq.any (fun w => late w.item)

/-- Frames in capture order, ties by R36. -/
def floodPlace (w : FloodWait) : List FloodWait → List FloodWait
  | [] => [w]
  | h :: t => if w.tick < h.tick ∨ (w.tick = h.tick ∧ (w.lid < h.lid ∨ (w.lid = h.lid ∧ w.chainNo < h.chainNo))) then w :: h :: t
    else h :: floodPlace w t

/-- SORUS_SETTLE_END: every waiting frame whose settle wait is over is looked up, earliest captured first. The wait of the
earliest frame ends now if nothing captured before it is on its way, else at its bound of 0x800 ticks. -/
def State.sorusSettle (s : State) : State :=
  match s.fld.waiting.foldr floodPlace [] with
  | [] => s
  | w :: _ =>
    let s1 := if s.floodInFlight w.tick then s.toAbsTick (w.tick + 0x800) else s
    let past := fun (v : FloodWait) => !s1.floodInFlight v.tick || decide (v.tick + 0x800 ≤ s1.absTick)
    let go := (s1.fld.waiting.foldr floodPlace []).filter past
    let s2 := { s1 with fld := { s1.fld with waiting := s1.fld.waiting.filter (fun v => !past v) } }
    go.foldl (fun s v => s.sorusLookup v) s2

def execSorusSettleEnd (s : State) : Out State := .next (s.clocked fun (s : State) => s.sorusSettle)

/-- Where, how strongly and when a carried frame was received: as its carry header says. A bare Zitrity frame has none: its
tick is that of its arrival at the port, its radio and its level are free values (R168; DEDUCED, log entry 16). -/
def State.carriedAt (s : State) (kind lid : Nat) (rssi : Byte) (tick : Nat) : State × Nat × Byte × Nat :=
  if kind = 0x80 then (s, lid, rssi, unpackTick tick)
  else (s.drawn, s.draw % 3, BitVec.ofNat 8 (s.draw / 4), s.afetteTick)

/-- CARRY_FRAME_RX: a carry frame passes R154, the CCM check in a lane and the lookup; it waits for no settle end (R163). Byte 0
marks a carry frame or a bare Zitrity frame; without 802.1AE protection it is neither (R168). -/
def State.carryRx (s : State) (prot : Bool) (sec : LinkSec) (kind lid : Nat) (rssi : Byte) (tick : Nat) (f : FloodFrame) (body : List Byte)
    (mism : Nat) : State :=
  if !prot then s
  else match s.linkIn sec false with
  | (s, .badIcv) => s
  | (s, .dropped) => s
  | (s, .passed) =>
  if !s.fldOn then s
  else if (kind ≠ 0x80 ∧ kind % 16 ≠ 1) ∨ s.floodBad f then s.floodBadDrop
  else match s.takeLane sec.held sec.urgentHeld false mism with
    | (s0, .done) =>
      (match s0.keyFetch (s0.get (FLD_KEY_SLOT_SLOT (ffKeyid f))) suitesFlood with
       | (s1, none) => s1
       | (s1, some _) =>
         if !f.micOk then (s1.bump CIP_CNT_MIC).bump FLD_CNT_MIC
         else if s1.floodForeign f then s1.bump FLD_CNT_FOREIGN
         else match s1.alloc ownFld (f.len.toNat + 32) body with
           | (s2, some id) =>
             let (s3, l, v, t) := s2.carriedAt kind lid rssi tick
             s3.sorusLookup ⟨f, t, l, 0, v, id, body⟩
           | (s2, none) => s2)
    | (s0, _) => s0

def execCarryFrameRx (prot : Bool) (sec : LinkSec) (kind : BitVec 8) (lid : BitVec 2) (rssi : BitVec 8) (tick : BitVec 64) (f : FloodFrame)
    (payload : List Byte) (mismatches : BitVec 2) (s : State) : Out State :=
  .next (s.clocked fun (s : State) => s.carryRx prot sec kind.toNat lid.toNat rssi tick.toNat f payload mismatches.toNat)

/-! ### The flood queues (R158, R159) -/

def State.fldQueue (s : State) (r : Fin 3) : List TxFrame := s.fld.queues[r]

def fldQ (r : Fin 3) : Fld := if r = 0 then FLD_STAT_Q0 else if r = 1 then FLD_STAT_Q1 else FLD_STAT_Q2

def State.setFldQueue (s : State) (r : Fin 3) (l : List TxFrame) : State :=
  ({ s with fld := { s.fld with queues := s.fld.queues.set r l } }).put (fldQ r) (min 255 l.length)

/-- A downlink flood is offered to a radio's queue; `len` is its payload's length, `chain` a packet of owner FLD. -/
def State.floodOffer (s : State) (r : Fin 3) (chain len : Nat) (dst : BitVec 48) (air : AirTime) : State :=
  if 64 ≤ (s.fldQueue r).length then ((s.bump FLD_CNT_QFULL).raise FLD_EVT_QFULL).release chain ownFld
  else if 1024 < len then (s.bump FLD_CNT_TX_FAIL).release chain ownFld
  else
    let f : TxFrame := { fid := s.acc.nextFid, chain := chain, aid := 0, kind := .flood, tid := 8, len := len + 68, air := air,
                         turn := s.turn, dst := dst }
    ({ s with acc := { s.acc with nextFid := s.acc.nextFid + 1 } }).setFldQueue r (s.fldQueue r ++ [f])

/-- FLOOD_ENQUEUE: the actions place a flood (R158). A payload over the 1,024 bytes that LEN holds can never be sent: it is
dropped and counted as not sent (R152; DEDUCED, log entry 16). -/
def State.floodEnqueue (s : State) (r : Fin 3) (dst : BitVec 48) (air : AirTime) (payload : List Byte) : State :=
  if 64 ≤ (s.fldQueue r).length then (s.bump FLD_CNT_QFULL).raise FLD_EVT_QFULL
  else match s.alloc ownFld payload.length payload with
    | (s1, some id) => s1.floodOffer r id payload.length dst air
    | (s1, none) => s1

def execFloodEnqueue (r : Fin 3) (dst : BitVec 48) (air : AirTime) (payload : List Byte) (s : State) : Out State :=
  .next (s.clocked fun (s : State) => s.floodEnqueue r dst air payload)

def State.setFldAgain (s : State) (r : Fin 3) (l : List TxFrame) : State :=
  { s with fld := { s.fld with again := s.fld.again.set r l } }

/-- The frame is the flood layer's. -/
def TxFrame.isFlood (f : TxFrame) : Bool := f.kind == .flood || f.kind == .sched

/-- A frame not sent OK within LIFE turns of entering its queue is dropped and counted: in its queue, waiting to be sent again, on its
way through the cipher engine; one that Frond still holds comes back for it (R159). -/
def State.floodLife (s : State) (r : Fin 3) : State :=
  let life := atLeast1 (s.get ACC_RETRY_LIFE)
  let old := fun (f : TxFrame) => decide (f.turn + life ≤ s.turn)
  let lane := fun (e : Fin 3 × TxFrame) => e.1 == r && e.2.isFlood && old e.2
  let s1 := (s.setFldAgain r (s.fld.again[r].filter (fun f => !old f))).setFldQueue r ((s.fldQueue r).filter (fun f => !old f))
  let s2 := ((s.fld.again[r] ++ s.fldQueue r).filter old).foldl (fun s f => (s.bump FLD_CNT_TX_FAIL).release f.chain ownFld) s1
  let s3 := (s.ciptx.filter lane).foldl (fun (s : State) e => (s.bump FLD_CNT_TX_FAIL).release e.2.chain ownCip)
    { s2 with ciptx := s2.ciptx.filter (fun e => !lane e) }
  if s.flag SYS_DIE_STAT_FRN_UP ∧ (s.queue r 14).any old then s3.recallQueue r 14 old else s3

def execFloodLifetimeExpiry (r : Fin 3) (s : State) : Out State := .next (s.clocked fun (s : State) => s.floodLife r)

/-- The next value of FCNT may be used: its block stands in the journal, or the Thallus link is up to record it (R15, R160). -/
def State.fcntReady (s : State) : Bool :=
  s.flag SYS_DIE_STAT_THL_UP || decide (s.fld.block = some ((s.rd FLD_TX_FCNT).toNat / 0x10000))

/-- The next FCNT is used: its block is recorded in the journal before its first value; after the last value nothing more
is originated, and what FLD_TX_FCNT then reads is a free value (R160, log entry 4). -/
def State.useFcnt (s : State) : State × Nat :=
  let v := (s.rd FLD_TX_FCNT).toNat
  let s1 := { s with fld := { s.fld with block := some (v / 0x10000) } }
  if v = 0xFFFFFFFF then
    (((s1.wr FLD_TX_FCNT (BitVec.ofNat 32 s1.draw)).drawn.put FLD_STAT_FCNT_END 1).raise FLD_EVT_FCNT_END, v)
  else (s1.wr FLD_TX_FCNT (BitVec.ofNat 32 (v + 1)), v)

/-- The MPDU header of an originated flood and its LLC/SNAP header: a data frame with To DS, From DS and Protected Frame 0,
A1 the group, A2 and A3 the radio's BSSID, the link's number (R134, R151; the header's layout is IEEE 802.11's, PRESUMED, log
entry 42). -/
def State.floodMac (s : State) (r : Fin 3) (sn : Nat) : List Byte :=
  [0x08, 0, 0, 0] ++ leBytes 6 (s.addr48 FLD_GROUP_LO FLD_GROUP_HI) ++ leBytes 6 (s.bssid r) ++ leBytes 6 (s.bssid r) ++
    leBytes 2 (16 * sn) ++ [0xAA, 0xAA, 3, 0, 0, 0] ++ beBytes 2 (s.get FLD_CFG_ETYPE)

/-- A frame is built as it leaves its queue (R158): its header, its nonce, its authenticated data, and its payload encrypted once with
the MIC behind it (R153); a frame sent again keeps its FCNT and ciphertext (R159). -/
def State.floodBuild (s : State) (r : Fin 3) (f : TxFrame) (ttl0 : Nat) : State × TxFrame :=
  if f.built then (s, f)
  else
    let (s1, v) := s.useFcnt
    let (s2, sn) := s1.nextGroupSn r
    let typ := if f.kind = .sched then 2 else 0
    let z := zitHeader (BitVec.ofNat 8 (1 + 16 * typ)) (BitVec.ofNat 8 (ttl0 + 16 * ttl0)) (BitVec.ofNat 8 (s.get FLD_TX_KEY_KEYID))
      ((s.rd (FLD_SLOT r)).setWidth 8) (BitVec.ofNat 16 s.cid) (BitVec.ofNat 48 s.fldOwn) f.dst (BitVec.ofNat 32 v)
      (BitVec.ofNat 16 (f.len - 68))
    (s2, { f with fcnt := v, ttl0 := ttl0, keyid := s.get FLD_TX_KEY_KEYID, built := true, sn := some sn,
                  hdr := s.floodMac r sn ++ z, nonce := zitNonce z, aad := zitAad z,
                  ct := Config.ccm (((s.keySlot (s.get (FLD_KEY_SLOT_SLOT (s.get FLD_TX_KEY_KEYID)))).map (·.key)).getD 0) (zitNonce z) (zitAad z)
                    (s.dataOf f.chain) })

/-- The slot length of a radio, ticks (R155). -/
def State.fldSlot (s : State) (r : Nat) : Nat := ((s.rd (FLD_SLOT r)).toNat % 256 + 1) * 0x100

/-- The bank and the cycle length of turn `t` (R112). -/
def State.planIn (s : State) (r t : Nat) : List Window × Nat :=
  match s.planAt r t with
  | some p => (s.bank r p.1, p.2)
  | none => ([], 1)

/-- The payload of SCHED for a window of turn `t`: the radio's FLOOD windows of the bank that is active then (R157). -/
def State.schedBytes (s : State) (r t : Nat) : List Byte :=
  let ws := ((s.planIn r t).1.filter (fun w => w.kind == 8)).take 32
  leBytes 1 ((s.planIn r t).2 - 1) ++ leBytes 1 ws.length ++
    ws.flatMap (fun w => leBytes 4 w.start ++ leBytes 4 w.end_ ++ leBytes 1 ((if w.tx then 1 else 0) + (if w.rx then 2 else 0)) ++
      leBytes 1 ((s.rd (FLD_SLOT r)).toNat % 256))

/-- The window, of turn `t`, is the first FLOOD window with TX of its cycle on the radio (R157). -/
def State.firstFlood (s : State) (r t : Nat) (w : Window) : Bool :=
  match (s.planIn r t).1.find? (fun w => w.kind == 8 && w.tx) with
  | some v => decide (v.start = w.start)
  | none => false

/-- The frame crosses the Frond link and AVAIL falls (R251). Where the link is down or credits lack it waits, ahead of its queue, for the
next FLOOD window with TX (R159). -/
def State.floodCross (s : State) (r : Fin 3) (f : TxFrame) : State :=
  if creditsFor f.len ≤ s.avail r ∧ s.flag SYS_DIE_STAT_FRN_UP then
    ((s.moveRef f.chain ownFld ownAcc).spend r (creditsFor f.len)).toQueue r 14 f
  else s.setFldAgain r (f :: s.fld.again[r])

/-- The frame goes toward the radio: to the cipher engine if it has not been encrypted yet. -/
def State.floodSend (s : State) (r : Fin 3) (f : TxFrame) : State :=
  if f.pn.isSome then s.floodCross r f
  else { s.moveRef f.chain ownFld ownCip with ciptx := s.ciptx ++ [(r, f)] }

/-- A frame of the flood layer is on its way to the radio, or waits there for its window (R159). -/
def State.floodHeld (s : State) (r : Fin 3) : Bool :=
  s.ciptx.any (fun e => e.1 == r && e.2.isFlood) || !(s.queue r 14).isEmpty

/-- The flood path of FROND_QUEUE_FILL in a FLOOD window with TX: one originated frame for each window, which is one that has missed
its own where there is one (DEDUCED, log entry 16); SCHED goes ahead of any queued flood in the first such window of a cycle (R157,
R159). `air` is the airtime of a SCHED frame. -/
def State.floodFill (s : State) (r : Fin 3) (w : Window) (start end_ : Nat) (air : AirTime) : State :=
  if !s.fldOn ∨ s.fld.servedAt[r] = some start then s
  else
    let done := fun (s : State) => { s with fld := { s.fld with servedAt := s.fld.servedAt.set r (some start) } }
    let n := (end_ - start) / s.fldSlot r
    if n < 2 then (done s).bump FLD_CNT_NOFIT
    else
      let s0 := s.floodLife r
      if s0.floodHeld r then done s0
      else
      let ttl0 := min (atLeast1 (s0.get FLD_CFG_TTL)) (n - 1)
      let turn := start / turnTicks
      let cycle := turn / (s0.planIn r turn).2
      if s0.flag FLD_CTL_SCHED_EN ∧ s0.fcntReady ∧ s0.firstFlood r turn w ∧ s0.fld.schedAt[r] ≠ some cycle ∧ !s0.flag FLD_STAT_FCNT_END then
        let b := s0.schedBytes r turn
        if s0.avail r < creditsFor (b.length + 68) then done s0
        else match s0.alloc ownFld b.length b with
          | (s1, none) => done s1
          | (s1, some id) =>
            let f : TxFrame := { fid := s1.acc.nextFid, chain := id, aid := 0, kind := .sched, tid := 8, len := b.length + 68,
                                 air := air, turn := s1.turn, dst := BitVec.allOnes 48 }
            let s2 := { s1 with acc := { s1.acc with nextFid := s1.acc.nextFid + 1 },
                                fld := { s1.fld with schedAt := s1.fld.schedAt.set r (some cycle) } }
            let (s3, g) := s2.floodBuild r f ttl0
            (done s3).floodSend r g
      else match s0.fld.again[r], s0.fldQueue r with
        | f :: t, _ => if s0.avail r < creditsFor f.len then done s0 else (done (s0.setFldAgain r t)).floodSend r f
        | [], [] => s0
        | [], f :: t =>
          if s0.avail r < creditsFor f.len then done s0
          else if s0.flag FLD_STAT_FCNT_END ∨ !s0.fcntReady then s0
          else
            let (s1, g) := (s0.setFldQueue r t).floodBuild r f ttl0
            (done s1).floodSend r g

/-- Frames to be sent again stand in the order in which they left their queue; SCHED goes first (R159; DEDUCED, log entry 16). -/
def floodRequeue (f : TxFrame) : List TxFrame → List TxFrame
  | [] => [f]
  | g :: t => if decide (f.kind = .sched) || decide (f.fid < g.fid) then f :: g :: t else g :: floodRequeue f t

/-- An originated frame comes back with its status: sent, or to be sent again in the next FLOOD window with TX, ahead of the
queue (R159). -/
def State.floodReturn (s : State) (r : Fin 3) (status : TxStatus) (f : TxFrame) : State :=
  if status = .ok then (s.bump FLD_CNT_ORIG).release f.chain ownAcc
  else ((s.moveRef f.chain ownAcc ownFld).setFldAgain r (floodRequeue f s.fld.again[r])).floodLife r

/-! ### FLD_CMD (R160, R164, R165) -/

/-- A write of FLD_CMD: [0] FCNT_RESET, [1] TAG_RESET, [2] SORUS_FLUSH. -/
def State.fldCmd (s : State) (v : BitVec 3) : State :=
  let s1 := if v.getLsbD 0 then
      (if s.fld.keysWritten.contains (s.get (FLD_KEY_SLOT_SLOT (s.get FLD_TX_KEY_KEYID))) then
        (({ s with fld := { s.fld with keysWritten := [] } }).wr FLD_TX_FCNT 0).put FLD_STAT_FCNT_END 0
       else s.raise FLD_EVT_CMD_ERR)
    else s
  let a := (s1.rd FLD_CMD_AID).toNat % 8192
  let s2 := if v.getLsbD 1 then (if a = 0 then s1.raise FLD_EVT_CMD_ERR else s1.cxPutBit a 232 0 false) else s1
  if v.getLsbD 2 then ({ s2 with fld := { s2.fld with sorus := [] } }).sorusBooks else s2

def execFcntReset (cmd : BitVec 3) (s : State) : Out State :=
  .next (s.hostAt none FLD_CMD fun (s : State) => s.fldCmd (cmd ||| 1))
def execTagReset (cmd : BitVec 3) (s : State) : Out State :=
  .next (s.hostAt none FLD_CMD fun (s : State) => s.fldCmd (cmd ||| 2))
def execSorusFlush (cmd : BitVec 3) (s : State) : Out State :=
  .next (s.hostAt none FLD_CMD fun (s : State) => s.fldCmd (cmd ||| 4))

end Sys2Proof.Machine
end

