-- ==== Sys2Proof/Machine/Cipher.lean ====
section
/-! DEFINITION. The cipher engine (spec/15_cipher_keys.md): lanes, mismatches and urgent frames, encryption with packet
numbers, decryption with the integrity, replay and protection checks. -/

namespace Sys2Proof.Machine

/-! ### Received frames (R330, R434) -/

/-- The counter that a received station frame's packet number is checked against: none for one checked at release. A
group-addressed frame's is RX_PN of its group key's slot: R330 says so of management; DEDUCED of data, log entry 16. -/
def State.pnCounter (s : State) (a : Nat) (f : AirFrame) (e : KeySlot) : Option Nat :=
  if f.group then some e.rxPn
  else match f.kind with
  | .qos => if s.rflagBit a f.tid.toNat 3 then none else some (s.lastPn a f.tid.toNat)
  | .mgmt | .leave => some e.mgPn
  | _ => some e.rxPn

/-- The packet number that passes becomes the counter's value. -/
def State.pnTake (s : State) (a k : Nat) (f : AirFrame) (e : KeySlot) : State :=
  let pn := f.pn.toNat
  if f.group then s.setKeySlot k (some { e with rxPn := pn })
  else match f.kind with
  | .qos => if s.rflagBit a f.tid.toNat 3 then s else s.mrSet a (rxr f.tid.toNat + 16) 6 pn
  | .mgmt | .leave => s.setKeySlot k (some { e with mgPn := pn })
  | _ => s.setKeySlot k (some { e with rxPn := pn })

/-- The frame goes on to the braided-link layer. -/
def State.toMlk (s : State) (x : RxStage) : State :=
  let s1 := s.moveRef x.item.chain ownAirRx ownMlk
  { s1 with mlkq := s1.mlkq ++ [x] }

/-- A received protected frame of a station in a lane, under the pairwise key; a group-addressed one under the key of slot `gk`
(R323). -/
def State.decrypt (s : State) (x : RxStage) (gk : Nat) (micOk : Bool) (use : LaneUse) : State :=
  let a := x.aid
  let f := x.item.frame
  let k := if f.group then gk else s.cx a 24 2 % 2 ^ 14
  let ok := if f.group ∧ (f.kind = .mgmt ∨ f.kind = .leave) then suitesBip else suitesAir
  let s1 := s.moveRef x.item.chain ownAirRx ownCip
  let drop := fun (s : State) => s.release x.item.chain ownCip
  match use with
  | .gaveUp =>
    let s2 := drop s1
    if f.kind = .qos && !f.group && s2.rflagBit a f.tid.toNat 0 then s2.dropNotice a f.tid.toNat f.sn.toNat x.item.radio else s2
  | _ =>
    match s1.keyFetch k ok with
    | (s2, none) => drop s2
    | (s2, some e) =>
      if !micOk then drop (s2.bump CIP_CNT_MIC)
      else if (match s2.pnCounter a f e with
        | some n => decide (f.pn.toNat ≤ n)
        | none => false) then drop s2.cipReplay
      else ((s2.pnTake a k f e).moveRef x.item.chain ownCip ownAirRx).toMlk { x with unchecked := (s2.pnCounter a f e).isNone }

/-- A received flood frame in a lane (R153, R154). -/
def State.decryptFlood (s : State) (x : RxStage) (micOk : Bool) (use : LaneUse) : State :=
  let s1 := s.moveRef x.item.chain ownAirRx ownCip
  let drop := fun (s : State) => s.release x.item.chain ownCip
  match use, x.item.frame.flood, x.item.tick with
  | .done, some f, some t =>
    match s1.keyFetch (s.get (FLD_KEY_SLOT_SLOT (ffKeyid f))) suitesFlood with
    | (s2, none) => drop s2
    | (s2, some _) =>
      if !(micOk && f.micOk) then drop ((s2.bump CIP_CNT_MIC).bump FLD_CNT_MIC)
      else (s2.moveRef x.item.chain ownCip ownFld).floodPassed
        ⟨f, t, x.item.radio, x.item.chainNo, x.item.rssi, x.item.chain, x.item.frame.body⟩
  | _, _, _ => drop s1

/-- How a received station frame is treated by its protection and the station's NOKEY (R434). A group-addressed frame is not
affected by NOKEY: a management frame with an MME is checked in the uplink station role alone (R323), data where it is
protected. -/
inductive Treat where
  | lane
  | accept
  | noKey
  | unprot
  deriving DecidableEq, Repr

def State.treatment (s : State) (x : RxStage) : Treat :=
  let f := x.item.frame
  if x.aid = 0 then .lane
  else if f.group then
    if f.kind = .mgmt ∨ f.kind = .leave then (if f.robust ∧ s.upAid = some (s.braidAid x.aid) then .lane else .accept)
    else if f.prot then .lane else .accept
  else if s.cx x.aid 24 2 / 2 ^ 15 = 1 then (if f.prot then .noKey else .accept)
  else if f.prot then .lane
  else if f.kind = .mgmt ∨ f.kind = .leave then (if f.robust then .unprot else .accept)
  else if f.eapol then .accept else .unprot

/-- The stream of a received frame (R327): a station and its traffic identifier, 8 for the rest; the flood frames of a radio. -/
def RxStage.stream (x : RxStage) : Nat × Nat := (x.aid, if x.aid = 0 then x.item.radio.val else dupEntry x.item.frame)

/-- The frame at place `i` may leave its lane: the first of its stream, or of a stream with RFLAGS.ACTIVE set (R327). -/
def State.mayLeave (s : State) (x : RxStage) (i : Nat) : Bool :=
  (s.cipq.take i).all (fun y => decide (y.stream ≠ x.stream)) ||
    (decide (x.aid ≠ 0 ∧ x.item.frame.kind = .qos) && s.rflagBit x.aid x.item.frame.tid.toNat 0)

/-- A received frame, `i` places behind the first. -/
def State.cipherRx (s : State) (i gk : Nat) (micOk : Bool) (mism : Nat) (held urgentHeld : BitVec 4) : State :=
  match (s.cipq[i]?).filter (fun x => s.mayLeave x i) with
  | none => s
  | some x =>
    let s1 := { s with cipq := s.cipq.eraseIdx i }
    match s1.treatment x with
    | .accept => s1.toMlk x
    | .noKey => ((s1.bump CIP_CNT_NOKEY).raise CIP_EVT_NOKEY).release x.item.chain ownAirRx
    | .unprot => (s1.bump CIP_CNT_UNPROT).release x.item.chain ownAirRx
    | .lane =>
      match s1.takeLane held urgentHeld false mism with
      | (_, .waits) => s
      | (s2, u) => if x.aid = 0 then s2.decryptFlood x micOk u else s2.decrypt x gk micOk u

/-! ### Frames toward the radios (R135, R329) -/

/-- The nonce of a station's frame: the device's address and the packet number, after the priority where the suite is a CCMP
one; and its additional authentication data. Both take the braid's addresses, the context's MAC and the device's address, in
place of the link addresses (R135). Their layout is IEEE 802.11's (PRESUMED, log entry 42). -/
def airNonce (f : TxFrame) (suite pn : Nat) : List Byte :=
  let prio : Byte := if f.kind = .mgmt then 0x10 else BitVec.ofNat 8 (f.tid % 8)
  (if suite ≤ 2 then [prio] else []) ++ leBytes 6 Config.backboneMac.toNat ++ beBytes 6 pn

def State.airAad (s : State) (f : TxFrame) : List Byte :=
  let fc : List Byte := if f.kind = .mgmt then [0xD0, 0x40] else if f.tid < 8 then [0x88, 0x42] else [0x08, 0x42]
  let a3 := if f.kind = .mgmt then leBytes 6 Config.backboneMac.toNat else part (s.dataOf f.chain) 6 6
  fc ++ leBytes 6 (s.mac f.aid) ++ leBytes 6 Config.backboneMac.toNat ++ a3 ++ [0, 0] ++
    (if f.tid < 8 then [BitVec.ofNat 8 f.tid, 0] else [])

/-- The next frame toward a radio is encrypted, and crosses (R251). A dropped frame is dropped under R139; a flood frame leaves no
hole. -/
def State.cipherTx (s : State) (mism : Nat) (held urgentHeld : BitVec 4) : State :=
  match s.ciptx with
  | [] => s
  | (r, f) :: rest =>
    let fl := decide (f.kind = .flood ∨ f.kind = .sched)
    match ({ s with ciptx := rest }).takeLane held urgentHeld false mism with
    | (_, .waits) => s
    | (s1, u) =>
      let out := fun (s : State) => s.moveRef f.chain ownCip (if fl then ownFld else ownAcc)
      let drop := fun (s : State) => if fl then (out s).release f.chain ownFld else (out s).dropTx f
      if u = .gaveUp then drop s1
      else if fl then
        match s1.keyFetch (s1.get (FLD_KEY_SLOT_SLOT f.keyid)) suitesFlood with
        | (s2, some _) => (out s2).floodCross r { f with pn := some f.fcnt }
        | (s2, none) => drop s2
      else
        let k := s1.cx f.aid 24 2 % 2 ^ 14
        match s1.keyFetch k suitesAir with
        | (s2, some e) =>
          (match s2.takePn k e with
           | (s3, some pn) => (out s3).handToFrond r (s3.frondQueue r f)
               { f with pn := some pn, nonce := airNonce f e.suite pn, aad := s3.airAad f }
           | (s3, none) => drop s3)
        | (s2, none) => drop s2

/-! ### Backbone and group frames -/

/-- The next protected frame that the backbone port sends is encrypted under its secure association's slot. A frame given up,
without a key or past the last packet number is dropped, its chain released by CIP (R250, R325, R329). -/
def State.linkTx (s : State) (k mism : Nat) (held urgentHeld : BitVec 4) : State :=
  match s.backbone.bind (fun p => ((s.port p).nextUnsealed).map (fun f => (p, f))) with
  | none => s
  | some (p, f) =>
    let put := fun (s : State) (g : EthTx → Option EthTx) => s.setPort p ((s.port p).sealed g)
    let drop := fun (s : State) => match f.chain with
      | some id => ((put s fun _ => none).moveRef id (ownEth p) ownCip).release id ownCip
      | none => put s fun _ => none
    let urgent := (f.sync && s.flag CIP_CTL_URG_SYNC) || (twBit f.txw 4 && s.flag CIP_CTL_URG_TIMING)
    match s.takeLane held urgentHeld urgent mism with
    | (_, .waits) => s
    | (s1, .gaveUp) => drop s1
    | (s1, .done) =>
      match s1.keyFetch k suitesLink with
      | (s2, none) => drop s2
      | (s2, some e) =>
        match s2.takePn k e with
        | (s3, some n) => put s3 fun f => some { f with pn := some n }
        | (s3, none) => drop s3

/-- The first protected frame that waits in the backbone port's ingress. -/
def clearFirst (g : Packet → Option Packet) : List Packet → List Packet
  | [] => []
  | k :: t => if k.sec then (g k).toList ++ t else k :: clearFirst g t

/-- The frame under the SecTAG of 16 bytes with its SCI, and the ICV of 16: its addresses and the secure data (IEEE 802.1AE; the
lengths and the packet number's place PRESUMED, log entry 17). -/
def linkPlain (key : BitVec 256) (b : List Byte) : List Byte :=
  b.take 12 ++ (List.range (b.length - 44)).map (Config.linkByte key b)

/-- A received protected frame of the backbone that goes to the router, a PEER frame: its lane lets it through or drops it
(R323, R330). -/
def State.linkRx (s : State) (k : Nat) (icvOk : Bool) (mism : BitVec 2) (held urgentHeld : BitVec 4) : State :=
  match s.backbone.bind (fun p => ((s.port p).ingress.find? (·.sec)).map (fun x => (p, x))) with
  | none => s
  | some (p, x) =>
    let put := fun (s : State) (g : Packet → Option Packet) =>
      s.setPort p { s.port p with ingress := clearFirst g (s.port p).ingress }
    let key := ((s.keySlot k).map (·.key)).getD 0
    let plain := linkPlain key x.bytes
    let c : LinkSec := ⟨BitVec.ofNat 14 k, BitVec.ofNat 32 (beNum (part x.bytes 16 4)), icvOk, mism, held, urgentHeld⟩
    match s.takeLane held urgentHeld false mism.toNat with
    | (_, .waits) => s
    | _ =>
      match s.linkIn c false with
      | (s1, .passed) => put (s1.refit (ownEth p) x.chain plain).1 fun x => some { x with sec := false, bytes := plain }
      | (s1, _) => ((put s1 fun _ => none).moveRef x.chain (ownEth p) ownCip).release x.chain ownCip

/-- A group-addressed frame that the device sends takes the next packet number of its slot (R323, R329): the frames of the host's
templates and the BIP of a beacon being built. One given up or without a number has nothing in a queue to be dropped from. -/
def State.cipherGroup (s : State) (k : Nat) (ok : List Nat) (urgent : Bool) (mism : Nat) (held urgentHeld : BitVec 4) : State :=
  match s.takeLane held urgentHeld urgent mism with
  | (_, .waits) => s
  | (s1, .gaveUp) => s1
  | (s1, .done) =>
    match s1.keyFetch k ok with
    | (s2, none) => s2
    | (s2, some e) => (s2.takePn k e).1

/-- CIP_STAT shows the lanes that hold a frame and those that hold a suspended frame under an urgent one (R326). -/
def State.cipStat (s : State) (held urgentHeld : BitVec 4) : State :=
  (s.put CIP_STAT_BUSY (held ||| urgentHeld).toNat).put CIP_STAT_SUSP (held &&& urgentHeld).toNat

/-- CIPHER_FRAME. Urgent are SYNC, TIMING frames and a beacon's BIP, as CIP_CTL says (R326). -/
def State.cipherFrame (s : State) (src : CipSrc) (micOk : Bool) (mism : Nat) (held urgentHeld : BitVec 4) : State :=
  match src with
  | .rx i k => s.cipherRx i k.toNat micOk mism held urgentHeld
  | .tx => s.cipherTx mism held urgentHeld
  | .backbone rx k => if rx then s.linkRx k.toNat micOk (BitVec.ofNat 2 mism) held urgentHeld else s.linkTx k.toNat mism held urgentHeld
  | .group k data beacon =>
    s.cipherGroup k.toNat (if data then suitesAir else suitesBip) (beacon && s.flag CIP_CTL_URG_BCN) mism held urgentHeld

def execCipherFrame (src : CipSrc) (micOk : Bool) (mismatches : BitVec 2) (held urgentHeld : BitVec 4) (s : State) : Out State :=
  .next (s.clocked fun (s : State) => (s.cipStat held urgentHeld).cipherFrame src micOk mismatches.toNat held urgentHeld)

end Sys2Proof.Machine
end

