-- ==== Sys2Proof/Machine/Dmc.lean ====
section
/-! DEFINITION. The DRAM controller (spec/16_dram.md): the address mapping, training, the helpers, refresh, panic and
tracking. -/

namespace Sys2Proof.Machine

/-! ### Where an offset lies (R335, R337) -/

structure DramPlace where
  ch : Nat
  rank : Nat
  row : Nat
  /-- The bank issued. -/
  bank : Nat
  col : Nat
  deriving DecidableEq, Repr

/-- The place of DRAM offset `a` under a mapping order, with `rows` row bits and `ranks` rank bits. -/
def dramPlace (order rows ranks a : Nat) : DramPlace :=
  let u := a / 64
  let rowOf := fun (x : Nat) => x % 2 ^ rows
  match order with
  | 1 =>
    let x := u / 2 ^ 9
    ⟨u % 2, x / 2 ^ rows % 2 ^ ranks, rowOf x, u / 2 % 8, u / 2 ^ 4 % 32 * 32⟩
  | 3 =>
    let x := u / 2 ^ 8
    ⟨x / 2 ^ rows / 2 ^ ranks % 2, x / 2 ^ rows % 2 ^ ranks, rowOf x, u / 2 ^ 5 % 8, u % 32 * 32⟩
  | o =>
    let x := u / 2 ^ 9
    let bank := u / 2 ^ 6 % 8
    ⟨u % 2, x / 2 ^ rows % 2 ^ ranks, rowOf x, if o = 2 then bank ^^^ (rowOf x % 8) else bank, u / 2 % 32 * 32⟩

/-- Row bits and rank bits of a configuration (R335). -/
def rowBits (dens : Bool) : Nat := if dens then 17 else 16
def rankBits (ranks : Bool) : Nat := if ranks then 1 else 0

/-- The place of a DRAM offset under the mapping order and the configuration in use (R335, R337). -/
def State.dramAt (s : State) (a : Nat) : DramPlace :=
  dramPlace (s.get DMC_MAP_ORDER) (rowBits (s.flag DMC_STAT_DENS)) (rankBits (s.flag DMC_STAT_RANKS)) a

/-- A number for each 64-byte access of the DRAM. -/
def DramPlace.cell (d : DramPlace) : Nat := d.ch + 2 * (d.col / 32 + 32 * (d.bank + 8 * (d.row + 2 ^ 17 * d.rank)))

/-- The place that DMC_PAT_ADDR names in raw mode (R346): channel [26], rank [25], bank [24:22], row [21:5], column bits C[9:5] [4:0]
(DESIGN CHOICE, log entry 24: the spec lists the fields and gives no bits). -/
def rawPlace (a : Nat) : DramPlace := ⟨a / 2 ^ 26 % 2, a / 2 ^ 25 % 2, a / 2 ^ 5 % 2 ^ 17, a / 2 ^ 22 % 8, a % 32 * 32⟩

/-- DMC_STAT.MIB of a density and a number of ranks (R335). -/
def dramMib (dens ranks : Bool) : Nat := 2048 * (if dens then 2 else 1) * (if ranks then 2 else 1)

def dmcUntrained : Nat := 0
def dmcTraining : Nat := 1
def dmcReady : Nat := 2
def dmcSelfRefresh : Nat := 3

def State.dmcSt (s : State) : Nat := s.get DMC_STAT_STATE

/-- The four delay registers in the order of their addresses. -/
def dlyAddrs : List Nat := [DMC_DLY 0 0, DMC_DLY 0 1, DMC_DLY 1 0, DMC_DLY 1 1]

def State.setDelays (s : State) (ds : List Word) : State :=
  (dlyAddrs.zip ds).foldl (fun (s : State) (e : Nat × Word) => s.wr e.1 e.2) s

/-- The configuration found is shown, and the memory is READY. -/
def State.dmcUp (s : State) (t : TrainRec) : State :=
  (((((s.put DMC_STAT_STATE dmcReady).put DMC_STAT_RATE t.rate).putB DMC_STAT_RANKS t.ranks).putB DMC_STAT_DENS t.dens).put
    DMC_STAT_MIB (dramMib t.dens t.ranks)).setDelays t.delays

/-! ### Training and mode registers (R346) -/

/-- The bits of DMC_DLYc_l that a step sets (DEDUCED from the steps' names, log entry 24): write levelling the write delay, read DQ
calibration the read delay and its window, write DQ training the write delay and its window, tracking both delays. -/
def stepMask (step : Nat) : Word :=
  match step with
  | 2 => 0x7F00
  | 3 => 0x7F007F
  | 4 => 0x7F7F00
  | 5 => 0x7F7F
  | _ => 0

/-- The delays found on a channel on which the step has passed. -/
def State.stepDelays (s : State) (step c : Nat) (a b : Word) : State :=
  let m := stepMask step
  let put := fun (s : State) (l : Nat) (v : Word) => s.wr (DMC_DLY c l) ((s.rd (DMC_DLY c l) &&& ~~~m) ||| (v &&& m))
  put (put s 0 a) 1 b

/-- TRAINING_STEP: only the boot ROM is ever in TRAINING. -/
def State.trainStep (s : State) (step : Nat) (ch : BitVec 2) (f : TrainFound) : State :=
  if s.pwr.phase = .boot ∧ s.dmcSt ≤ dmcTraining ∧ step ≤ 5 then
    let ok := ch &&& ~~~f.fails
    let s1 := if ok.getLsbD 0 then s.stepDelays step 0 f.c0l0 f.c0l1 else s
    let s2 := if ok.getLsbD 1 then s1.stepDelays step 1 f.c1l0 f.c1l1 else s1
    let bad := (ch &&& f.fails).toNat
    (((s2.put DMC_STAT_STATE dmcTraining).put DMC_TRN_STAT_BUSY 0).putB DMC_TRN_STAT_FAIL (bad != 0)).put DMC_TRN_STAT_CHF bad
  else s

def execTrainingStep (step : BitVec 3) (ch : BitVec 2) (found : TrainFound) (s : State) : Out State :=
  .next (s.trainStep step.toNat ch found)

/-- MR_READ, in TRAINING or READY: the named channels answer. -/
def State.modeRead (s : State) (ch : BitVec 2) (d0 d1 : Nat) : State :=
  if s.dmcSt = dmcTraining ∨ s.dmcSt = dmcReady then
    let s1 := if ch.getLsbD 0 then s.put DMC_MR_DATA_CH0 d0 else s
    if ch.getLsbD 1 then s1.put DMC_MR_DATA_CH1 d1 else s1
  else s

def execMrRead (_mr : BitVec 8) (ch : BitVec 2) (_rank : Bool) (d0 d1 : BitVec 8) (s : State) : Out State :=
  .next (s.hostAt none DMC_MR_CMD fun (s : State) => s.modeRead ch d0.toNat d1.toNat)

/-- MR_WRITE, in TRAINING only. -/
def State.modeWrite (s : State) (mr op ch rank : Nat) : State :=
  if s.dmcSt = dmcTraining then s.emit (.modeReg ch rank mr op) else s

def execMrWrite (mr op : BitVec 8) (ch : BitVec 2) (rank : Bool) (s : State) : Out State :=
  .next (s.modeWrite mr.toNat op.toNat ch.toNat (if rank then 1 else 0))

/-! ### The pattern helper (R347) -/

/-- A region of the blank in use, in MiB. -/
def State.region (s : State) (k : Nat) : Option (Nat × Nat) := s.blk.bind (fun b => regionOf b.memmap k)

/-- The idle-time test runs a step on the helper (R392). -/
def State.ittOnHelper (s : State) : Bool :=
  match s.itt.step with
  | some (t, _) => t == 4
  | none => false

/-- The range lies wholly inside the ITT region; addresses are in units of 64 bytes. -/
def State.patInside (s : State) : Bool :=
  let a := (s.rd DMC_PAT_ADDR).toNat % 2 ^ 27
  let n := (s.rd DMC_PAT_LEN).toNat % 2 ^ 27
  match s.region 7 with
  | some (b, z) => decide (b * 16384 ≤ a ∧ a + n ≤ (b + z) * 16384)
  | none => false

def State.patRefuse (s : State) : State := s.put DMC_PAT_STAT_REFUSED 1

/-- DMC_PAT_CMD with WRITE or COMPARE. -/
def State.patStart (s : State) (cmp : Bool) : State :=
  let raw := decide (s.dmcSt = dmcTraining)
  if s.flag DMC_PAT_STAT_BUSY || s.ittOnHelper then s.patRefuse
  else if (s.rd DMC_PAT_LEN).toNat % 2 ^ 27 = 0 then s
  else if decide (4 < s.get DMC_PAT_CFG_KIND) || (!raw && !s.patInside) then s.patRefuse
  else
    let run : PatRun := ⟨cmp, raw, (s.rd DMC_PAT_ADDR).toNat % 2 ^ 27, (s.rd DMC_PAT_LEN).toNat % 2 ^ 27, s.get DMC_PAT_CFG_KIND,
      s.flag DMC_PAT_CFG_INVERT, if s.get DMC_PAT_CFG_KIND = 4 then atLeast1 (s.get DMC_PAT_CFG_SEED) else 0⟩
    let s1 := (({ s with dmc := { s.dmc with pat := some run } }).put DMC_PAT_STAT_REFUSED 0).put DMC_PAT_STAT_BUSY 1
    if cmp then ((s1.put DMC_PAT_STAT_MISMATCH 0).wr DMC_PAT_ERRMASK 0).wr DMC_PAT_ERRCNT 0 else s1

def execPatternWrite (s : State) : Out State :=
  .next (s.hostAt none DMC_PAT_CMD fun (s : State) => s.patStart false)
def execPatternCompare (s : State) : Out State :=
  .next (s.hostAt none DMC_PAT_CMD fun (s : State) => s.patStart true)

/-- The bytes of a run's access `i`; INVERT inverts every other one, from the second on. -/
def PatRun.bytes (p : PatRun) (i : Nat) : List Byte :=
  let b := (List.range 64).map (Config.patByte p.kind p.seed i)
  if p.inv && i % 2 == 1 then b.map (~~~ ·) else b

/-- Where a run's access `i` lies: directly named in raw mode, mapped in region mode (R346, R347). -/
def State.patPlace (s : State) (p : PatRun) (i : Nat) : DramPlace :=
  if p.raw then rawPlace ((p.base + i) % 2 ^ 27) else s.dramAt (64 * (p.base + i))

def State.dramCell (s : State) (k : Nat) : Option (List Byte) := SMap.get (fun _ => none) s.dmc.cells k

/-- The first `n` accesses of a run are written. -/
def State.patWrite (s : State) (p : PatRun) (n : Nat) : State :=
  (List.range n).foldl (fun (s : State) i =>
    { s with dmc := { s.dmc with cells := SMap.set (fun _ => none) s.dmc.cells (s.patPlace p i).cell (some (p.bytes i)) } }) s

/-- The DQ lines of a channel of 16 on which two bursts of 64 bytes differ (DEDUCED: two bytes a beat, log entry 24). -/
def lineMask (a b : List Byte) : Nat :=
  (List.range 32).foldl (fun (m : Nat) k => m ||| (leNum ((a.drop (2 * k)).take 2) ^^^ leNum ((b.drop (2 * k)).take 2))) 0

/-- The DQ lines that fail in a compare's access `i`: those on which the memory differs from the pattern, and those that the array
fails. What no write of the helper has left there is a free value. -/
def State.patLines (s : State) (p : PatRun) (faults : List (BitVec 27 × BitVec 16)) (i : Nat) : State × Nat :=
  let f := (faults.filter (fun e => e.1.toNat == i)).foldl (fun (m : Nat) e => m ||| e.2.toNat) 0
  match s.dramCell (s.patPlace p i).cell with
  | some d => (s, lineMask d (p.bytes i) ||| f)
  | none => (s.drawn, s.draw % 2 ^ 16 ||| f)

/-- The first `n` accesses of a compare: DMC_PAT_ERRMASK and DMC_PAT_ERRCNT. -/
def State.patCompare (s : State) (p : PatRun) (faults : List (BitVec 27 × BitVec 16)) (n : Nat) : State × Nat × Nat :=
  (List.range n).foldl (fun (x : State × Nat × Nat) i =>
    let (s1, l) := x.1.patLines p faults i
    (s1, x.2.1 ||| (l * 2 ^ (16 * (s1.patPlace p i).ch)), if l = 0 then x.2.2 else x.2.2 + 1)) (s, 0, 0)

/-- The helper stops after `n` accesses of its run; a mismatch is shown, and an event in region mode. -/
def State.patStop (s : State) (p : PatRun) (faults : List (BitVec 27 × BitVec 16)) (n : Nat) : State :=
  let s1 := ({ s with dmc := { s.dmc with pat := none } }).put DMC_PAT_STAT_BUSY 0
  if p.cmp then
    let (s2, mask, cnt) := s1.patCompare p faults n
    if cnt = 0 then s2
    else (((s2.put DMC_PAT_STAT_MISMATCH 1).wr DMC_PAT_ERRMASK (BitVec.ofNat 32 mask)).wr DMC_PAT_ERRCNT
      (BitVec.ofNat 32 cnt)).raiseIf (!p.raw) DMC_EVT_PAT_MISMATCH
  else s1.patWrite p n

/-- PATTERN_ABORT after `n` accesses; during a test run of the idle-time test it is refused as any host command is. -/
def State.patAbort (s : State) (faults : List (BitVec 27 × BitVec 16)) (n : Nat) : State :=
  if s.ittOnHelper then s.patRefuse
  else match s.dmc.pat with
    | some p => s.patStop p faults (min n p.len)
    | none => s

def execPatternAbort (faults : List (BitVec 27 × BitVec 16)) (n : BitVec 27) (s : State) : Out State :=
  .next (s.hostAt none DMC_PAT_CMD fun (s : State) => s.patAbort faults n.toNat)

/-- PATTERN_DONE: the run has made its `n` accesses, all of them. -/
def State.patDone (s : State) (faults : List (BitVec 27 × BitVec 16)) (n : Nat) : State :=
  match s.dmc.pat with
  | some p => if n = p.len then s.patStop p faults n else s
  | none => s

def execPatternDone (faults : List (BitVec 27 × BitVec 16)) (n : BitVec 27) (s : State) : Out State :=
  .next (s.clocked fun (s : State) => s.patDone faults n.toNat)

/-! ### Refresh, panic and tracking (R340 to R342) -/

/-- Some client is in panic and panic raises the real-time port. -/
def State.panic (s : State) : Bool := s.flag DMC_CTL_PANIC_EN && decide ((s.rd DMC_RT_STAT).toNat % 8 ≠ 0)

def State.refShow (s : State) : State := s.put DMC_REF_POSTPONED (max s.dmc.out0 s.dmc.out1)

/-- A channel's refresh is issued, per bank with PBR set (R341). -/
def State.refresh (s : State) (ch : Fin 2) : State := s.emit (.refresh ch (s.flag DMC_CTL_PBR))

/-- REFRESH_DUE, an interval after the channel's last: issued at once, postponed under panic, or forced where it would be the ninth
outstanding. -/
def State.refreshDue (s : State) (ch : Fin 2) : State :=
  let n := if ch = 0 then s.dmc.out0 else s.dmc.out1
  if s.dmcSt ≠ dmcReady then s
  else if s.panic = false then s.refresh ch
  else if 8 ≤ n then (s.refresh ch).raise DMC_EVT_REF_FORCED
  else ({ s with dmc := if ch = 0 then { s.dmc with out0 := n + 1 } else { s.dmc with out1 := n + 1 } }).refShow

def execRefreshDue (ch : Fin 2) (s : State) : Out State := .next (s.clocked fun (s : State) => s.refreshDue ch)

/-- The MR4 value that reports the DRAM above its high operating limit (log entry 24). -/
def mr4Hot : Nat := 7

/-- The refresh interval that a refresh-rate field requires, in quarters of the nominal one (LPDDR4's MR4, PRESUMED, log entry 24);
the fastest above the high operating limit. -/
def mr4Interval (f : Nat) : Nat := [16, 16, 8, 4, 2, 1, 1, 1].getD f 1

def State.mr4Poll (s : State) (f0 f1 : Nat) : State :=
  if s.dmcSt = dmcReady then
    let s1 := { s with dmc := { s.dmc with ivl0 := mr4Interval f0, ivl1 := mr4Interval f1 } }
    ((s1.put DMC_REF_MR4_CH0 f0).put DMC_REF_MR4_CH1 f1).raiseIf (f0 == mr4Hot || f1 == mr4Hot) DMC_EVT_HOT
  else s

def execMr4Poll (f0 f1 : BitVec 3) (s : State) : Out State := .next (s.clocked fun (s : State) => s.mr4Poll f0.toNat f1.toNat)

/-- A delay moves by more than 4 taps. -/
def farMove (a b : Nat) : Bool := decide (a + 4 < b ∨ b + 4 < a)

/-- One tracking run of a channel: counted, the delays re-centred. -/
def State.track (s : State) (c : Nat) (d : Delays) : State :=
  let far := farMove (s.get (DMC_DLY_RD c 0)) d.rd0.toNat || farMove (s.get (DMC_DLY_WR c 0)) d.wr0.toNat ||
    farMove (s.get (DMC_DLY_RD c 1)) d.rd1.toNat || farMove (s.get (DMC_DLY_WR c 1)) d.wr1.toNat
  let s1 := (((s.put (DMC_DLY_RD c 0) d.rd0.toNat).put (DMC_DLY_WR c 0) d.wr0.toNat).put (DMC_DLY_RD c 1) d.rd1.toNat).put
    (DMC_DLY_WR c 1) d.wr1.toNat
  (s1.bump DMC_CNT_TRK).raiseIf far DMC_EVT_TRK_SHIFT

/-- TRACKING_RUN: under panic it waits for the end of panic. -/
def State.trackDue (s : State) (ch : Fin 2) (d : Delays) : State :=
  if s.dmcSt ≠ dmcReady ∨ s.flag DMC_CTL_TRK_EN = false then s
  else if s.panic then { s with dmc := if ch = 0 then { s.dmc with trk0 := true } else { s.dmc with trk1 := true } }
  else s.track ch.val d

def execTrackingRun (ch : Fin 2) (d : Delays) (s : State) : Out State := .next (s.clocked fun (s : State) => s.trackDue ch d)

/-- A client's threshold in DMC_RT_CFG, in units of 256 bytes. -/
def State.rtThr (s : State) (i : Fin 3) : Nat :=
  if i = 0 then s.get DMC_RT_CFG_THR_ETH0 else if i = 1 then s.get DMC_RT_CFG_THR_ETH1 else s.get DMC_RT_CFG_THR_FRN

def rtBit (i : Fin 3) : Fld := ⟨DMC_RT_STAT, i.val, 1⟩

/-- PANIC_ENTRY; a client whose threshold is 0 never panics. -/
def State.panicEntry (s : State) (i : Fin 3) : State :=
  if s.rtThr i = 0 ∨ s.flag (rtBit i) = true then s else (s.put (rtBit i) 1).bump DMC_CNT_PANIC

def execPanicEntry (client : Fin 3) (s : State) : Out State := .next (s.clocked fun (s : State) => s.panicEntry client)

/-- Once no panic is left, postponed refreshes and tracking runs are carried out. -/
def State.catchUp (s : State) (d0 d1 : Delays) : State :=
  if s.panic then s
  else
    let s1 := if s.dmc.trk0 then s.track 0 d0 else s
    let s2 := if s.dmc.trk1 then s1.track 1 d1 else s1
    let s3 := (List.range s.dmc.out0).foldl (fun (s : State) _ => s.refresh 0) s2
    let s4 := (List.range s.dmc.out1).foldl (fun (s : State) _ => s.refresh 1) s3
    ({ s4 with dmc := { s4.dmc with out0 := 0, out1 := 0, trk0 := false, trk1 := false } }).refShow

/-- PANIC_END: `lat` is the longest real-time read latency met, ns. -/
def State.panicEnd (s : State) (i : Fin 3) (lat : Nat) (d0 d1 : Delays) : State :=
  if s.flag (rtBit i) then
    ((s.put (rtBit i) 0).wr DMC_RT_MAXLAT (BitVec.ofNat 32 (max ((s.rd DMC_RT_MAXLAT).toNat % 2 ^ 16) lat))).catchUp d0 d1
  else s

def execPanicEnd (client : Fin 3) (lat : BitVec 16) (d0 d1 : Delays) (s : State) : Out State :=
  .next (s.clocked fun (s : State) => s.panicEnd client lat.toNat d0 d1)

/-- The helper run of a host, refreshes and waiting runs end with self-refresh entry or a loss of power. -/
def State.selfRefresh (s : State) : State :=
  ((({ s with dmc := { cells := s.dmc.cells, ivl0 := s.dmc.ivl0, ivl1 := s.dmc.ivl1 } }).put
    DMC_PAT_STAT_BUSY 0).put DMC_STAT_STATE dmcSelfRefresh).refShow

/-- Exit from self-refresh: ZQ calibration and one tracking run per channel before READY (R343). -/
def State.selfRefreshExit (s : State) (d0 d1 : Delays) : State :=
  ((((s.emit (.zqCal 0)).emit (.zqCal 1)).track 0 d0).track 1 d1).put DMC_STAT_STATE dmcReady

end Sys2Proof.Machine
end

