-- ==== Sys2Proof/Machine/Handoff.lean ====
section
/-! DEFINITION. Station handoff between devices of a cluster (spec/08_cluster.md R195 to R199). -/

namespace Sys2Proof.Machine

/-! ### Messages -/

def handReq : Nat := 0
def handAccept : Nat := 1
def handRefuse : Nat := 2
def handCtx : Nat := 3
def handFrame : Nat := 4
def handEnd : Nat := 5
def handAbort : Nat := 6

/-- A HAND payload (R195). -/
def handBytes (kind status : Nat) (h : Handoff) (body : List Byte) : List Byte :=
  leBytes 1 kind ++ leBytes 1 status ++ leBytes 6 h.mac ++ leBytes 8 h.src ++ leBytes 8 h.dst ++ leBytes 8 (packTick h.cut) ++
    leBytes 4 h.hid ++ leBytes 2 h.tkey ++ leBytes 2 0 ++ body

/-- A HAND message to a DID; the device's own part is done without one. -/
def State.handTo (s : State) (d kind status : Nat) (h : Handoff) (body : List Byte) : State :=
  if d = s.did then s else s.sendAfette (some d) 4 (handBytes kind status h body)

def State.mgr (s : State) : Nat := s.get CLU_STAT_MGR

/-- The record of a handoff in which the device has a part. -/
def State.hand (s : State) (part hid : Nat) : Option Handoff :=
  s.clu.hands.find? (fun h => decide (h.part = part ∧ h.hid = hid))

def State.dropHand (s : State) (part hid : Nat) : State :=
  { s with clu := { s.clu with hands := s.clu.hands.filter (fun h => !decide (h.part = part ∧ h.hid = hid)) } }

def State.addHand (s : State) (h : Handoff) : State :=
  { s with clu := { s.clu with hands := s.clu.hands ++ [h] } }

def State.setHand (s : State) (h : Handoff) : State :=
  { s with clu := { s.clu with hands := s.clu.hands.map (fun g => if g.part = h.part ∧ g.hid = h.hid then h else g) } }

def handOf (m : HandMsg) (part : Nat) : Handoff :=
  { part := part, mac := m.mac.toNat, src := m.src.toNat, dst := m.dst.toNat, cut := unpackTick m.cut.toNat, hid := m.hid.toNat,
    tkey := m.tkey.toNat }

/-! ### Outcomes -/

/-- The manager shows the outcome (R198). -/
def State.handOver (s : State) (hid : Nat) (ok : Bool) : State :=
  match s.hand 0 hid with
  | none => s
  | some _ =>
    let s1 := s.dropHand 0 hid
    let busy := s1.clu.hands.any (fun h => h.part == 0)
    let s2 := ((s1.putB CLU_HAND_STAT_BUSY busy).put CLU_HAND_STAT_HID (hid % 65536))
    if ok then s2.put CLU_HAND_STAT_DONE 1 else (s2.put CLU_HAND_STAT_FAILED 1).raise CLU_EVT_HAND_FAIL

/-- A reserved or handed-over context is freed; a handoff reports nothing (R183). -/
def State.handFree (s : State) (a : Nat) : State := s.ctxGone a

/-- An ABORT or REFUSE takes effect on the parts that this device has: the manager shows the failure; the source before its
cut serves on; the target frees the AID it reserved (R198). -/
def State.handAborted (s : State) (hid : Nat) : State :=
  let s1 := s.handOver hid false
  let s2 := match s1.hand 1 hid with
    | some h =>
      if h.loaded then s1
      else
        let s3 := s1.dropHand 1 hid
        if h.aid ≠ 0 ∧ s3.cxState h.aid = 2 then (s3.cxSet h.aid 2 1 1).cxPutBit h.aid 240 1 false else s3
    | none => s1
  match s2.hand 2 hid with
  | some h =>
    let s3 := s2.dropHand 2 hid
    if s3.cxState h.aid = 2 then s3.handFree h.aid else s3
  | none => s2

/-- An ABORT goes to the manager and to whichever of source and target did not send it. -/
def State.handAbortOut (s : State) (h : Handoff) (status : Nat) : State :=
  let s1 := ([s.mgr, addrDid h.src, addrDid h.dst].eraseDups).foldl (fun s d => s.handTo d handAbort status h []) s
  s1.handAborted h.hid

/-! ### REQ and ACCEPT (R196 steps 1 to 3) -/

/-- The source captures the ACCEPT: it must still hold the station in ASSOC (R198); one that it has taken already changes nothing. -/
def State.acceptTake (s : State) (hid : Nat) (dst : Nat) : State :=
  match s.hand 1 hid with
  | none => s
  | some h0 =>
    let h := { h0 with dst := dst }
    if s.cxState h.aid = 2 ∧ s.cxBit h.aid 240 1 = true ∧ s.cx h.aid 244 4 = h.hid then s
    else if h.cut ≤ s.afetteTick then s.handAbortOut h 4
    else if s.cxState h.aid ≠ 1 ∨ s.mac h.aid ≠ h.mac then s.handAbortOut h 5
    else
      let s1 := s.setHand h
      let s2 := (((s1.cxSet h.aid 2 1 2).cxPutBit h.aid 240 1 true).cxSet h.aid 241 1 (addrDid dst)).cxSet h.aid 242 2 (addrAid dst)
      (s2.cxSet h.aid 244 4 h.hid).cxSet h.aid 248 8 (packTick h.cut)

/-- The lowest free AID. -/
def State.lowestAid (s : State) : Option Nat :=
  let u := s.aids
  if u.length < 8191 then some (freeFrom (u.map (· - 1)) 8191 (u.length + 1) 0 + 1) else none

/-- The target answers a REQ. -/
def State.reqTarget (s : State) (h : Handoff) : State :=
  let refuse := fun (s : State) (st : Nat) =>
    ((s.handTo s.mgr handRefuse st h []).handTo (addrDid h.src) handRefuse st h []).handAborted h.hid
  if s.spnSt ≠ spnLocked then refuse s 2
  else if s.clu.hands.any (fun g => g.part == 2 && g.mac == h.mac) then refuse s 3
  else
    let hint := addrAid h.dst
    match (if hint ≠ 0 ∧ s.cxState hint = 0 then some hint else s.lowestAid) with
    | none => refuse ((s.bump ACC_CNT_AID_FULL).raise ACC_EVT_AID_FULL) 1
    | some a =>
      let g : Handoff := { h with part := 2, aid := a, dst := packAddr s.cid s.did a }
      let s1 := ((((s.addHand g).wipeCtx a).cxSet a 0 2 a).cxSet a 2 1 2).cxSet a 4 6 h.mac
      let s2 := (s1.handTo s1.mgr handAccept 0 g []).handTo (addrDid h.src) handAccept 0 g []
      if addrDid h.src = s2.did then s2.acceptTake h.hid g.dst else s2

/-- The source registers a REQ, or answers that it holds no such station. -/
def State.reqSource (s : State) (h : Handoff) : State :=
  match s.aidOfMac h.mac with
  | some a => s.addHand { h with part := 1, aid := a }
  | none => s.handAbortOut h 5

/-- A REQ reaches this device. -/
def State.reqTake (s : State) (h : Handoff) : State :=
  if addrDid h.src = s.did then s.reqSource h
  else if addrDid h.dst = s.did then s.reqTarget h
  else s

/-- HAND_REQ_CMD: the manager's host asks for a handoff. The HID is the manager's to set; which value the spec leaves open
(log entry 4). -/
def State.handReqCmd (s : State) : State :=
  if s.cluSt ≠ cluLead then s
  else
    let mac := s.addr48 CLU_HAND_MAC_LO CLU_HAND_MAC_HI
    let cut := unpackTick (s.rd64 CLU_HAND_CUT_LO)
    match s.dirGet mac with
    | some e =>
      if cut < s.absTick + (s.rd CLU_HAND_LEAD).toNat % 2 ^ 24 ∨ s.clu.hands.any (fun h => h.part == 0 && h.mac == mac) then
        s.put CLU_HAND_STAT_ERR 1
      else
        let h : Handoff := { part := 0, mac := mac, src := e.addr,
                             dst := packAddr s.cid (s.get CLU_HAND_CFG_DST) (s.get CLU_HAND_CFG_AID_HINT), cut := cut,
                             hid := s.draw % 2 ^ 32, tkey := (s.rd CLU_HAND_KEY).toNat % 2 ^ 14 }
        let s1 := (s.drawn.addHand h).wr CLU_HAND_STAT (BitVec.ofNat 32 (1 + 65536 * (h.hid % 65536)))
        let s2 := (s1.handTo (addrDid h.src) handReq 0 h []).handTo (addrDid h.dst) handReq 0 h []
        if addrDid h.src = s2.did then s2.reqSource h
        else if addrDid h.dst = s2.did then s2.reqTarget h
        else s2
    | none => s.put CLU_HAND_STAT_ERR 1

/-- HAND_ABORT_CMD: ABORT for the handoff in progress, the last one begun. What STATUS it carries the spec leaves open
(log entry 4). -/
def State.handAbortCmd (s : State) : State :=
  match (s.clu.hands.filter (fun h => h.part == 0)).getLast? with
  | some h => s.drawn.handAbortOut h (s.draw % 256)
  | none => s

def execHandReqCmd (abort : Bool) (s : State) : Out State :=
  .next (s.hostAt none CLU_HAND_CMD fun (s : State) => if abort then s.handReqCmd.handAbortCmd else s.handReqCmd)

def execHandAbortCmd (s : State) : Out State :=
  .next (s.hostAt none CLU_HAND_CMD fun (s : State) => s.handAbortCmd)

/-- A HANDOFF message comes in; one with an invalid address is dropped (R23). -/
def State.handIn (s : State) (h : Afette) (m : HandMsg) : State × Bool :=
  let (s1, ok) := s.afetteIn h 4
  (s1, ok && !addrBad m.src.toNat && !addrBad m.dst.toNat)

/-- HAND_REQ_RX: a device in HOLDOVER ignores it (R175, R198). -/
def State.handReqRx (s : State) (h : Afette) (m : HandMsg) : State :=
  match s.handIn h m with
  | (s1, true) => if s1.cluSt = cluMember ∧ h.from_.toNat = s1.mgr then s1.reqTake (handOf m 1) else s1
  | (s1, false) => s1

def execHandReqRx (h : Afette) (m : HandMsg) (s : State) : Out State := .next (s.handReqRx h m)

/-- HAND_ACCEPT_RX. -/
def State.handAcceptRx (s : State) (h : Afette) (m : HandMsg) : State :=
  match s.handIn h m with
  | (s1, true) => s1.acceptTake m.hid.toNat m.dst.toNat
  | (s1, false) => s1

def execHandAcceptRx (h : Afette) (m : HandMsg) (s : State) : Out State := .next (s.handAcceptRx h m)

/-- HAND_ABORT_RX: ABORT or REFUSE. -/
def State.handAbortRx (s : State) (h : Afette) (m : HandMsg) : State :=
  match s.handIn h m with
  | (s1, true) => s1.handAborted m.hid.toNat
  | (s1, false) => s1

/-- ABORT and REFUSE act alike on every part (R198). -/
def execHandAbortRx (h : Afette) (m : HandMsg) (_refuse : Bool) (s : State) : Out State := .next (s.handAbortRx h m)

/-! ### The cut at the source (R196 steps 3, 4) -/

/-- HAND_CUT: at CUT nothing more goes to the station; its frames come back NOCHAN and its receive agreements end. -/
def State.handCut (s : State) (hid : Nat) : State :=
  match s.hand 1 hid with
  | some h =>
    if h.loaded ∨ h.aid = 0 ∨ s.cxState h.aid ≠ 2 then s
    else
      let s1 := s.toAbsTick h.cut
      let sizes := (List.range 8).map (fun t => if s1.cxBit h.aid 194 t then s1.wsize h.aid t else 0)
      let s2 := (List.finRange 3).foldl (fun s r => s.recall r h.aid) s1
      ((List.range 8).foldl (fun s t => s.endRxBa h.aid t) s2).setHand { h with loaded := true, sizes := sizes }
  | none => s

/-- The CTX body (R195). -/
def State.ctxBody (s : State) (h : Handoff) : List Byte :=
  let a := h.aid
  let pn := match s.keySlot (s.cx a 24 2 % 2 ^ 14) with
    | some e => e.txPn
    | none => 0
  bytesGet zeroByte s.ctx (256 * a) 256 ++ bytesGet zeroByte s.mlk (256 * a) 23 ++ leBytes 1 0 ++ leBytes 6 pn ++ leBytes 2 0 ++
    (List.range 8).flatMap (fun t => leBytes 2 (s.wstart a t) ++ leBytes 2 (h.sizes.getD t 0) ++ leBytes 6 (s.lastPn a t) ++
      leBytes 2 0 ++ leBytes 4 (s.mr a (224 + 4 * t) 4))

/-- The FRAME body of a queued frame (R195). -/
def frameBody (f : TxFrame) (data : List Byte) : List Byte :=
  leBytes 1 f.tid ++ leBytes 1 0 ++ leBytes 2 (match f.sn with
    | some n => n + 2 ^ 15
    | none => 0) ++ leBytes 2 data.length ++ leBytes 2 0 ++ data

/-- The Ethernet frame that carries a FRAME of `n` bytes: addresses, SecTAG with SCI, EtherType, the two headers, the body,
ICV and FCS (R170; the standard's overhead, PRESUMED, log entry 15). -/
def handFrameLen (n : Nat) : Nat := 12 + 16 + 2 + 20 + 40 + 8 + n + 16 + 4

/-- The largest frame of the backbone port. -/
def State.backboneMax (s : State) : Nat :=
  match s.backbone with
  | some p => s.ethMax p
  | none => 0

/-- One FRAME to the target, whose packet leaves the owner `own`; over the port's maximum it is dropped and counted (R198, R246). -/
def State.sendHandFrame (s : State) (h : Handoff) (f : TxFrame) (own : Nat) (data : List Byte) : State :=
  if s.backboneMax < handFrameLen data.length then (s.bump CLU_CNT_HAND_DROP).release f.chain own
  else s.sendAfetteOf own f.chain (some (addrDid h.dst)) 4 (handBytes handFrame 0 h (frameBody f data))

/-- HAND_SETTLE_END: every frame captured before CUT has been released or dropped, at most 0x800 ticks after it. -/
def State.handSettle (s : State) (hid : Nat) : State :=
  match s.hand 1 hid with
  | some h =>
    if !h.loaded then s
    else
      let a := h.aid
      let s0 := if s.inFlight a h.cut then s.toAbsTick (h.cut + 0x800) else s
      let mine := fun (e : Fin 3 × TxFrame) => e.2.aid == a
      let s1 := (s0.ciptx.filter mine).foldl (fun (s : State) e => (s.moveRef e.2.chain ownCip ownAcc).setStq a e.2.tid
          (requeue e.2 (s.stq a e.2.tid)))
        { s0 with ciptx := s0.ciptx.filter (fun e => !mine e) }
      let s2 := s1.handTo (addrDid h.dst) handCtx 0 h (s1.ctxBody h)
      let fs := ((List.range 9).flatMap (fun t => s2.stq a t)).filter (fun f => !f.isBar)
      let s3 := fs.foldl (fun s f => s.sendHandFrame h f ownAcc (s.dataOf f.chain))
        ((List.range 9).foldl (fun (s : State) t => s.setStq a t ((s.stq a t).filter (·.isBar))) s2)
      let s4 := (s3.handTo (addrDid h.dst) handEnd 0 h []).handFree a
      let g := { h with lmacs := (List.range 3).map (fun l => s.mr a (6 * l) 6) }
      ({ s4 with clu := { s4.clu with forward := s4.clu.forward ++ [g] } }).dropHand 1 hid
  | none => s

/-! ### The target (R196 steps 5, 6) -/

/-- The group of a radio whose table range holds an AID (R109), or NONE. -/
def State.groupFor (s : State) (r aid : Nat) : Nat :=
  match (List.range 1024).find? (fun g =>
      let e := s.mem (s.planBase + 0x18000 + 0x1000 * r + 4 * g) 4
      decide (e % 8192 ≤ aid ∧ aid ≤ e / 65536 % 8192 ∧ e / 65536 % 8192 ≠ 0)) with
  | some g => g
  | none => 2 ^ 15

/-- A receive agreement is created again with the carried start and size; where the pool does not hold it, none is and the
shortage is counted as in R136. -/
def State.rebuildBa (s : State) (a t ws n pn : Nat) : State :=
  let s0 := s.mrSet a (rxr t + 16) 6 pn
  if n = 0 then s0.setRflag a t 3 (decide (1 < s0.memberCount a))
  else match (if n ≤ s0.get MLK_STAT_RB_FREE then s0.poolGap n else none) with
    | none => ((s0.drawn.bump MLK_CNT_RB_FULL).raise MLK_EVT_RB_FULL).setRflag a t 3 (decide (1 < s0.memberCount a))
    | some e =>
      let s1 := (((s0.drawn.mrSet a (rxr t) 2 ws).mrSet a (rxr t + 2) 2 n).mrSet a (rxr t + 4) 4 e).mrSet a (rxr t + 8) 2 0
      let s2 := (s1.mrSet a (rxr t + 22) 2 0).mrSet a (rxr t + 10) 1 (1 + 8 + if s1.slow a t then 4 else 0)
      ((s2.cxPutBit a 194 t true).put MLK_STAT_RB_FREE (s2.get MLK_STAT_RB_FREE - n)).setBoards a t ws n

/-- The target loads the carried context (R196 step 5, R199, R329). -/
def State.ctxTake (s : State) (h : Handoff) (b : List Byte) : State :=
  let a := h.aid
  let at_ := fun o n => leNum ((b.drop o).take n)
  let s1 := { s with ctx := bytesSet zeroByte s.ctx (256 * a) (b.take 256) }
  let s2 := { s1 with mlk := bytesSet zeroByte s1.mlk (256 * a) ((b.drop 256).take 23) }
  let s3 := ((s2.cxSet a 0 2 a).cxSet a 2 1 2).cxSet a 24 2 (at_ 24 2 / 2 ^ 15 % 2 * 2 ^ 15 + h.tkey % 2 ^ 14)
  let s4 := (List.range 3).foldl (fun s l => s.cxSet a (12 + 2 * l) 2 (s.groupFor l a)) (s3.cxSet a 194 1 0)
  let s5 := (((s4.cxSet a 240 1 1).cxSet a 241 1 (addrDid h.src)).cxSet a 242 2 (addrAid h.src)).cxSet a 244 4 h.hid
  let s6 := s5.cxSet a 248 8 (packTick h.cut)
  let s7 := (List.range 8).foldl (fun s t =>
    (s.rebuildBa a t (at_ (288 + 16 * t) 2 % 4096) (at_ (290 + 16 * t) 2) (at_ (292 + 16 * t) 6)).mrSet a (224 + 4 * t) 4
      (at_ (300 + 16 * t) 4)) s6
  match s7.keySlot h.tkey with
  | some e => s7.setKeySlot h.tkey (some { e with txPn := at_ 280 6 })
  | none => s7

/-- HAND_CTX_RX. -/
def State.handCtxRx (s : State) (h : Afette) (m : HandMsg) (b : List Byte) : State :=
  match s.handIn h m with
  | (s1, true) => (match s1.hand 2 m.hid.toNat with
    | some g => s1.ctxTake g b
    | none => s1)
  | (s1, false) => s1

def execHandCtxRx (h : Afette) (m : HandMsg) (body : List Byte) (s : State) : Out State := .next (s.handCtxRx h m body)

/-- HAND_FRAME_RX: the frame joins its queue behind those already taken, with its number if it has one; `len` is its MPDU's
length on this device's links, which the limit at queuing holds for (R96). -/
def State.handFrameRx (s : State) (h : Afette) (m : HandMsg) (tid : Nat) (sn : Option Nat) (len : Nat) (air : AirTime)
    (data : List Byte) : State :=
  match s.handIn h m with
  | (s1, true) =>
    let aid := match s1.hand 2 m.hid.toNat with
      | some g => some g.aid
      | none => s1.aidOfMac m.mac.toNat
    match aid with
    | none => s1
    | some a =>
      if s1.overLimit a len then s1.bump ACC_CNT_TX_OVERSIZE
      else match s1.alloc ownAcc len data with
      | (s2, none) => s2
      | (s2, some id) =>
        let t := min tid 8
        let f : TxFrame := { fid := s2.acc.nextFid, chain := id, aid := a, kind := .data, tid := t, len := len, air := air,
                             turn := s2.turn, sn := sn }
        ({ s2 with acc := { s2.acc with nextFid := s2.acc.nextFid + 1 } }).setStq a t (s2.stq a t ++ [f])
  | (s1, false) => s1

def execHandFrameRx (h : Afette) (m : HandMsg) (tid : BitVec 4) (sn : BitVec 12) (hasSn : Bool) (len : BitVec 14) (air : AirTime)
    (data : List Byte) (s : State) : Out State :=
  .next (s.handFrameRx h m tid.toNat (if hasSn then some sn.toNat else none) len.toNat air data)

/-- The station has its new AID to learn: it has the S1G flag, and source and target have the same channel and BSSID on each of
its members (`same`: what the other device's blank says is not in this device; DEDUCED, log entry 36). An AID Switch Response goes
ahead in its queue (R197). -/
def State.aidSwitch (s : State) (a : Nat) (same : Bool) (air : AirTime) (frame : List Byte) : State :=
  if s.cxBit a 3 0 && same then
    if s.overLimit a frame.length then s.bump ACC_CNT_TX_OVERSIZE
    else match s.alloc ownAcc frame.length frame with
    | (s1, none) => s1
    | (s1, some id) =>
      let f : TxFrame := { fid := s1.acc.nextFid, chain := id, aid := a, kind := .mgmt, tid := 8, len := frame.length, air := air,
                           turn := s1.turn, front := true }
      let s2 := { s1 with acc := { s1.acc with nextFid := s1.acc.nextFid + 1 },
                          clu := { s1.clu with peers := s1.clu.peers ++ [(f.fid, a)] } }
      s2.setStq a 8 (f :: s2.stq a 8)
  else s

/-- HAND_END_RX: the context enters ASSOC and is reported with TICK = CUT. -/
def State.handEndRx (s : State) (h : Afette) (m : HandMsg) (same : Bool) (air : AirTime) (frame : List Byte) : State :=
  match s.handIn h m with
  | (s1, true) => (match s1.hand 2 m.hid.toNat with
    | some g =>
      let s2 := (((s1.cxSet g.aid 2 1 1).dropHand 2 g.hid).bump CLU_CNT_HAND_OK).cacheTouch g.aid
      let s3 := { s2 with acc := { s2.acc with assocTurn := SMap.set (fun _ => 0) s2.acc.assocTurn g.aid s2.turn } }
      let s4 := s3.report true g.aid (packTick g.cut)
      (s4.setStq g.aid 8 (s4.stq g.aid 8)).aidSwitch g.aid same air frame
    | none => s1)
  | (s1, false) => s1

/-- HAND_TIMEOUT: no END by CUT + CLU_HAND_TMO (R198). -/
def State.handTimeout (s : State) (hid : Nat) : State :=
  match s.hand 2 hid with
  | some h =>
    let s1 := s.toAbsTick (h.cut + (s.rd CLU_HAND_TMO).toNat % 2 ^ 24)
    ((s1.bump CLU_CNT_HAND_FAIL).raise CLU_EVT_HAND_FAIL).handAbortOut h 6
  | none => s

def execHandTimeout (hid : BitVec 32) (s : State) : Out State := .next (s.clocked fun (s : State) => s.handTimeout hid.toNat)

def execHandSettleEnd (hid : BitVec 32) (s : State) : Out State := .next (s.clocked fun (s : State) => s.handSettle hid.toNat)

/-- The manager sees a handoff completed when the directory holds the station at the target with TICK = CUT. -/
def State.handCheck (s : State) : State :=
  (s.clu.hands.filter (fun h => h.part == 0)).foldl (fun s h =>
    match s.dirGet h.mac with
    | some e => if e.tick = packTick h.cut ∧ addrDid e.addr = addrDid h.dst then s.handOver h.hid true else s
    | none => s) s

end Sys2Proof.Machine
end

