-- ==== Sys2Proof/Machine/Parse.lean ====
section
/-! DEFINITION. The parse graph: nodes, fields, transitions and the parser's walk (spec/09_router_pipeline.md R202 to
R206). -/

namespace Sys2Proof.Machine

/-- The stops of R205 by their STATUS codes (R206). -/
def stOk : Nat := 0
def stShort : Nat := 1
def stBadLen : Nat := 2
def stDepth : Nat := 3
def stBytes : Nat := 4
def stBadNode : Nat := 5

/-- A field of 4 bytes (R204). -/
structure PField where
  ofs : Nat
  shift : Nat
  width : Nat
  deriving DecidableEq, Repr

/-- A parse node (R203). -/
structure PNode where
  hdr : Nat
  flags : Nat
  lenBase : Nat
  scale : Nat
  lenField : PField
  tlenField : PField
  tlenAdj : Int
  lenAdd : Nat
  dflt : Nat
  key : PField
  trBase : Nat
  trCount : Nat
  /-- SRC_OFS, LEN, DST of EXT0 to EXT3. -/
  exts : List (Nat × Nat × Nat)
  deriving DecidableEq, Repr

/-- The PRS table window (R202). -/
def State.prsBase (s : State) : Nat := s.get PRS_TBL_BASE_START * 0x10000

def State.pfield (s : State) (a : Nat) : PField := ⟨s.mem a 1, s.mem (a + 1) 1, s.mem (a + 2) 1⟩

def State.pnode (s : State) (i : Nat) : PNode :=
  let a := s.prsBase + 64 * i
  { hdr := s.mem a 1, flags := s.mem (a + 1) 1, lenBase := s.mem (a + 2) 1, scale := s.mem (a + 3) 1,
    lenField := s.pfield (a + 4), tlenField := s.pfield (a + 8), tlenAdj := (BitVec.ofNat 8 (s.mem (a + 12) 1)).toInt,
    lenAdd := s.mem (a + 13) 1, dflt := s.mem (a + 14) 2, key := s.pfield (a + 16), trBase := s.mem (a + 20) 2,
    trCount := s.mem (a + 22) 1,
    exts := (List.range 4).map (fun k => (s.mem (a + 24 + 4 * k) 1, s.mem (a + 25 + 4 * k) 1, s.mem (a + 26 + 4 * k) 1)) }

def PNode.flag (n : PNode) (i : Nat) : Bool := decide (n.flags / 2 ^ i % 2 = 1)

/-- The value of a field of the header at `pos`, or the status it stops with and the bound, for a packet and a layer bound
`bnd` (R204, R205). -/
def readField (b : List Byte) (bnd pos : Nat) (f : PField) : Except (Nat × Nat) Nat :=
  if f.width = 0 then .ok 0
  else
    let i := pos + f.ofs
    if b.length ≤ i + 1 then .error (stShort, bnd)
    else if bnd ≤ i + 1 then .error (stBadLen, bnd)
    else if 256 ≤ i + 1 then .error (stBytes, bnd)
    else .ok (((b.getD i 0).toNat * 256 + (b.getD (i + 1) 0).toNat) / 2 ^ f.shift % 2 ^ f.width)

/-- The next node code for a key: the first matching transition from TR_BASE up, or none. -/
def State.transition (s : State) (k : Nat) : Nat → Nat → Option Nat
  | 0, _ => none
  | n + 1, i =>
    let a := s.prsBase + 0x4000 + 8 * i
    let m := s.mem (a + 2) 2
    if Nat.land k m = Nat.land (s.mem a 2) m then some (s.mem (a + 4) 2) else s.transition k n (i + 1)

/-- Put a run of bytes into a list from place `i`; what falls beyond its end is lost. -/
def putAt (l : List Byte) (i : Nat) (b : List Byte) : List Byte := (l.take i ++ b ++ l.drop (i + b.length)).take l.length

/-- The extracts of one header that runs from `pos` to `e` (R205). -/
def applyExts (b : List Byte) (pos e : Nat) : List (Nat × Nat × Nat) → List Byte → List Byte
  | [], k => k
  | (src, len, dst) :: t, k =>
    let bytes := (List.range len).map (fun i => if pos + src + i < e then b.getD (pos + src + i) 0 else 0)
    applyExts b pos e t (if len = 0 then k else putAt k dst bytes)

/-- What one header's checks answer, in the order written: where it ends, the new bound, and the next node code. A field
that the next node depends on is a check of the header like the others: a header it stops gives no extracts (R205;
DEDUCED, log entry 16). A stop carries its status and the bound that held. -/
def State.header (s : State) (b : List Byte) (bnd pos : Nat) (n : PNode) : Except (Nat × Nat) (Nat × Nat × Nat) := do
  if !n.flag 0 || (n.flag 1 && decide (n.scale = 0)) then throw (stBadNode, bnd)
  let l ← if n.flag 1 then do
      let v ← readField b bnd pos n.lenField
      let l := (v + n.lenAdd) * n.scale
      if l < n.lenBase then throw (stBadLen, bnd) else pure l
    else pure n.lenBase
  let e := pos + l
  if b.length < e then throw (stShort, bnd)
  if bnd < e then throw (stBadLen, bnd)
  if 256 < e then throw (stBytes, bnd)
  let bnd2 ← if n.flag 2 then do
      let v ← readField b bnd pos n.tlenField
      let t : Int := (if n.flag 3 then e else pos : Nat) + v + n.tlenAdj
      if (bnd : Int) < t ∨ t < (e : Int) then throw (stBadLen, bnd) else pure t.toNat
    else pure bnd
  let k ← readField b bnd2 pos n.key
  pure (e, bnd2, (s.transition k n.trCount n.trBase).getD n.dflt)

/-- The walk of R205; at most 17 headers are looked at. -/
def State.walk (s : State) (b : List Byte) : Nat → Nat → Nat → ParseRes → ParseRes
  | 0, bnd, _, r => { r with status := stDepth, padLen := b.length - bnd }
  | fuel + 1, bnd, pos, r =>
    let n := s.pnode r.node
    match s.header b bnd pos n with
    | .error (st, bnd1) => { r with status := st, padLen := b.length - bnd1 }
    | .ok (e, bnd2, nx) =>
      let r2 := { r with key := applyExts b pos e n.exts r.key, depth := r.depth + 1, lastHdr := n.hdr, offs := r.offs ++ [pos] }
      if nx / 2 ^ 15 % 2 = 1 then { r2 with status := stOk, padLen := b.length - bnd2 }
      else s.walk b fuel bnd2 e { r2 with node := nx % 256 }

/-- Bytes 0 to 7 of the key vector, with the bytes that extracts write (R206). -/
def ParseRes.vector (r : ParseRes) (iport aid tid : Nat) : List Byte :=
  [BitVec.ofNat 8 iport, BitVec.ofNat 8 r.status, BitVec.ofNat 8 r.depth, BitVec.ofNat 8 r.lastHdr] ++ leBytes 2 aid ++
    [BitVec.ofNat 8 tid, 0] ++ r.key.drop 8

/-- Parse a packet from its ingress code. Its key is the whole key vector. -/
def State.parse (s : State) (iport aid tid : Nat) (b : List Byte) : ParseRes :=
  let r := s.walk b 16 b.length 0 { key := List.replicate 64 0, node := iport }
  { r with key := r.vector iport aid tid }

end Sys2Proof.Machine
end

