-- ==== Sys2Proof/Machine/Tasks.lean ====
section
/-! DEFINITION. Tasks: descriptors and their books, the trace, enqueue and dispatch, thread local memory, faults and
re-dispatch, engine states and action timers (spec/12_gouge_engines.md R260 to R268, R273 to R279; R220, R221). -/

namespace Sys2Proof.Machine

/-! ### Books (R263, R223) -/

def TaskSt.isReady : TaskSt → Bool
  | .ready => true
  | _ => false

def TaskSt.isRedisp : TaskSt → Bool
  | .redisp _ => true
  | _ => false

def TaskSt.isRun : TaskSt → Bool
  | .run _ => true
  | _ => false

def State.clsLevel (s : State) (c : Nat) : Nat := s.get (TSK_CLASS_LEVEL c)

/-- TSK_STAT, TSK_RUN, TSK_READYl and TSK_EVQ show the books, and the books have just changed (R352). -/
def State.tskShow (s : State) : State :=
  let ts := s.tsk.tasks
  let n := fun (f : Task → Bool) => (ts.filter f).length
  let s1 := (s.put TSK_STAT_FREE (4096 - ts.length)).put TSK_STAT_READY (n (fun t => t.st.isReady))
  let s2 := (s1.put TSK_RUN_RUN (n (fun t => t.st.isRun))).put TSK_RUN_REDISP (n (fun t => t.st.isRedisp))
  let s3 := (List.range 8).foldl (fun s l =>
    s.wr (TSK_READY l) (BitVec.ofNat 32 ((ts.filter (fun t => t.st.isReady && decide (s.clsLevel t.cls = l))).length))) s2
  (s3.wr TSK_EVQ (BitVec.ofNat 32 s.tsk.evq.length)).busyNow

/-- ROB_STAT and ROB_REDISP show the slot books, which have just changed (R352). -/
def State.robShow (s : State) : State :=
  let u := s.prs.slots.length
  (((s.put ROB_STAT_FREE (8192 - u)).put ROB_STAT_USED u).wr ROB_REDISP
    (BitVec.ofNat 32 ((s.prs.slots.filter (fun x => decide (x.st = .redisp))).length))).busyNow

def State.setTasks (s : State) (l : List Task) : State := ({ s with tsk := { s.tsk with tasks := l } }).tskShow

def State.taskOf (s : State) (desc : Nat) : Option Task := s.tsk.tasks.find? (fun t => t.desc == desc)

def State.mapTask (s : State) (desc : Nat) (f : Task → Task) : State :=
  s.setTasks (s.tsk.tasks.map (fun t => if t.desc = desc then f t else t))

/-- A descriptor returns to FREE. -/
def State.freeTask (s : State) (desc : Nat) : State := s.setTasks (s.tsk.tasks.filter (fun t => t.desc != desc))

def State.slotOf? (s : State) (seq : Nat) : Option Slot := s.prs.slots.find? (fun x => x.seq == seq)

def State.mapSlot (s : State) (seq : Nat) (f : Slot → Slot) : State :=
  ({ s with prs := { s.prs with slots := s.prs.slots.map (fun (x : Slot) => if x.seq = seq then f x else x) } }).robShow

/-! ### The trace (R278, R279) -/

structure TraceEv where
  kind : Nat
  wher : Nat := 0
  cls : Nat
  code : Nat
  value : Nat
  deriving DecidableEq, Repr

/-- The filters of R279. -/
def State.traced (s : State) (e : TraceEv) : Bool :=
  s.flag TSK_CTL_TRC_EN && !s.flag TSK_TRC_WR_STOPPED && (s.rd TSK_TRC_CFG).getLsbD e.kind && (s.rd TSK_TRC_CLS).getLsbD e.cls

/-- One entry is written, or recording stops on a full ring. -/
def State.traceWrite (s : State) (e : TraceEv) : State :=
  let stop := fun (s : State) => (s.put TSK_TRC_WR_STOPPED 1).raise TSK_EVT_TRC_FULL
  if s.tsk.trcFull && s.flag TSK_TRC_CFG_STOP then stop s
  else
    let i := s.get TSK_TRC_WR_INDEX
    let base := (s.rd TSK_TRC_BASE).toNat % 65536 * 0x10000
    let b := leBytes 8 s.stampTick ++ [BitVec.ofNat 8 e.kind, BitVec.ofNat 8 e.wher,
      BitVec.ofNat 8 (e.cls + 32 * s.clsLevel e.cls), BitVec.ofNat 8 e.code] ++ leBytes 4 e.value
    let s1 := (if base = 0 then s else s.memPut (base + 16 * i) b).put TSK_TRC_WR_INDEX (i + 1)
    let s2 := if s.tsk.trcFull then s1.put TSK_TRC_WR_WRAPPED 1 else s1
    if i = 8191 then
      let s3 := { s2 with tsk := { s2.tsk with trcFull := true } }
      if s3.flag TSK_TRC_CFG_STOP then stop s3 else s3
    else s2

/-- The events of one fabric cycle: one entry is taken, any further is dropped and counted. Commands are taken as lying in
different cycles, and a fault's REDISP entries as one cycle after its FAULT entries (DESIGN CHOICE, log entry 18). -/
def State.trace (s : State) (evs : List TraceEv) : State :=
  match evs.filter s.traced with
  | e :: t => (s.traceWrite e).bumpBy TSK_CNT_TRC_DROP t.length
  | [] => s

/-- VALUE of a task's entries: SEQ for packet tasks, the descriptor index for others. -/
def Task.value (t : Task) : Nat := t.slot.getD t.desc

def Task.ev (t : Task) (kind wher fault : Nat) : TraceEv := ⟨kind, wher, t.cls, t.src + 8 * fault, t.value⟩

def whereOf (thread : Nat) : Nat := thread / 4 + 16 * (thread % 4)

/-! ### Enqueue (R262 to R264) -/

def srcPkt : Nat := 0
def srcEvt : Nat := 1
def srcTmr : Nat := 2
def srcHost : Nat := 3
def srcSpawn : Nat := 4

/-- The class's ONLINE engines. -/
def State.onlineOf (s : State) (c : Nat) : List Nat :=
  (List.range 16).filter (fun e => (s.rd (TSK_CLASS c)).getLsbD e && decide (s.get (GGE_STAT_STATE e) = 0))

/-- The program entry of a class for tasks without a packet (R291). -/
def State.clsEntry (s : State) (c : Nat) : Nat :=
  match s.blk with
  | some b => leNum ((b.classes.drop (8 * c + 4)).take 2) % 2 ^ 13
  | none => 0

/-- The class can be queued: it is VALID, and for a task without a packet it has an entry (R262, R291). -/
def State.clsOk (s : State) (src cls : Nat) : Bool :=
  s.flag (TSK_CLASS_VALID cls) && (decide (src = srcPkt) || decide (s.clsEntry cls ≠ 0))

/-- A source may take a descriptor: one is free and the source is below its quota. -/
def State.descFree (s : State) (src : Nat) : Bool :=
  decide (s.tsk.tasks.length < 4096) &&
    decide ((s.tsk.tasks.filter (fun t => t.src == src)).length < min 4096 (s.get (TSK_QUOTA_QUOTA src)))

/-- A wait or a refusal counts (R264); the trace entry of one without a packet names no descriptor: its value is free. -/
def State.backPressure (s : State) (src cls : Nat) (seq : Option Nat) : State :=
  let s1 := (s.bump TSK_CNT_BP).raise TSK_EVT_BP
  match seq with
  | some v => s1.trace [⟨6, 0, cls, src, v⟩]
  | none => s1.drawn.trace [⟨6, 0, cls, src, s.draw % 2 ^ 32⟩]

/-- Whether a task of the class can be queued for the source now. -/
def State.canQueue (s : State) (src cls : Nat) : Bool := s.clsOk src cls && s.descFree src

/-- A source that may not queue: NOCLASS for a class that is not VALID or has no entry; a wait is counted once. -/
def State.refused (s : State) (src cls : Nat) (seq : Option Nat) : State :=
  (if s.clsOk src cls then s else s.raise TSK_EVT_NOCLASS).backPressure src cls seq

/-- Queue a task; which free descriptor it takes the spec does not say: a free value picks (log entry 4). -/
def State.queueTask (s : State) (src cls : Nat) (a0 a1 : DWord) (slot : Option Nat) : State :=
  let used := s.tsk.tasks.map (·.desc)
  let d := freeFrom used 4096 (used.length + 1) s.draw
  let t : Task := { desc := d, order := s.tsk.nextOrder, cls := cls, src := src, arg0 := a0, arg1 := a1, slot := slot }
  let s1 := ({ s.drawn with tsk := { s.tsk with tasks := s.tsk.tasks ++ [t], nextOrder := s.tsk.nextOrder + 1 } }).tskShow
  (if s1.onlineOf cls = [] then s1.raise TSK_EVT_NOENG else s1).trace [t.ev 0 0 0]

/-- An event joins the event queue of 256 (R263, R264). -/
def State.postEvent (s : State) (cls arg0 arg1 : Nat) : State :=
  if 256 ≤ s.tsk.evq.length then (s.bump TSK_CNT_EVT_DROP).raise TSK_EVT_EVT_DROP
  else ({ s with tsk := { s.tsk with evq := s.tsk.evq ++ [(⟨cls, arg0, arg1, false⟩ : TaskEvent)] } }).tskShow

def State.timer (s : State) (n : Nat) : Timer := SMap.get (fun _ => {}) s.tsk.timers n

def State.setTimer (s : State) (n : Nat) (t : Timer) : State :=
  { s with tsk := { s.tsk with timers := SMap.set (fun _ => {}) s.tsk.timers n t } }

/-- TASK_ENQUEUE: the event at the head of the event queue, or a timer that has fired and is pending, takes a
descriptor, or waits. -/
def State.taskEnqueue (s : State) (tmr : Option Nat) : State :=
  match tmr with
  | none =>
    (match s.tsk.evq with
     | [] => s
     | e :: t =>
       if s.canQueue srcEvt e.cls then
         ({ s with tsk := { s.tsk with evq := t } }).queueTask srcEvt e.cls (BitVec.ofNat 64 e.arg0) (BitVec.ofNat 64 e.arg1) none
       else if e.waited then s
       else ({ s with tsk := { s.tsk with evq := { e with waited := true } :: t } }).refused srcEvt e.cls none)
  | some n =>
    let x := s.timer n
    (match x.fired with
     | none => s
     | some (c, a, waited) =>
       if s.canQueue srcTmr c then (s.setTimer n { x with fired := none }).queueTask srcTmr c a (BitVec.ofNat 64 n) none
       else if waited then s
       else (s.setTimer n { x with fired := some (c, a, true) }).refused srcTmr c none)

def execTaskEnqueue (timer : Option (BitVec 8)) (s : State) : Out State :=
  .next (s.clocked fun (s : State) => s.taskEnqueue (timer.map (·.toNat)))

/-- TASK_POST: the host posts a task, or is refused. -/
def State.taskPost (s : State) (cls : Nat) : State :=
  if s.canQueue srcHost cls then
    (s.put TSK_POST_STAT_REFUSED 0).queueTask srcHost cls (BitVec.ofNat 64 (s.rd64 TSK_POST_ARG0_LO))
      (BitVec.ofNat 64 (s.rd64 TSK_POST_ARG1_LO)) none
  else (((s.put TSK_POST_STAT_REFUSED 1).bump TSK_CNT_POST_REF).raise TSK_EVT_POST_REF).refused srcHost cls none

def execTaskPost (cls : BitVec 5) (s : State) : Out State :=
  .next (s.hostAt none TSK_POST_CMD fun (s : State) => s.taskPost cls.toNat)

/-- TIMER_FIRE: the delay of a timer expires at a tick boundary of the reference; a firing while one is pending merges
(R264, R273). -/
def State.timerFire (s : State) (n : Nat) : State :=
  match (s.timer n).at_ with
  | none => s
  | some t =>
    let s1 := s.toRef t
    let x := s1.timer n
    let s2 := s1.setTimer n { x with at_ := none }
    if x.fired.isSome then (s2.bump TSK_CNT_TMR_LATE).raise TSK_EVT_TMR_LATE
    else (s2.setTimer n { x with at_ := none, fired := some (x.cls, x.arg0, false) }).taskEnqueue (some n)

def execTimerFire (n : BitVec 8) (s : State) : Out State := .next (s.clocked fun (s : State) => s.timerFire n.toNat)

/-! ### What a task is given (R267, R268, R400) -/

/-- The ingress code of a packet (R200). -/
def Packet.iport (k : Packet) : Nat :=
  match k.src with
  | 0 => k.port
  | 1 => 3 + k.port
  | 2 => 5
  | 3 => k.lid
  | _ => 6

/-- The receive status of R400. -/
def Packet.status (k : Packet) : List Byte :=
  let b0 := fun (kind : Nat) => [BitVec.ofNat 8 (kind + (if k.stampOk then 0 else 8) + (if k.unknown then 16 else 0)),
    BitVec.ofNat 8 k.iport, 0, 0]
  let pad := fun (l : List Byte) => l ++ List.replicate (32 - l.length) 0
  match k.src with
  | 0 => pad (b0 1 ++ leBytes 4 k.narrow.toNat ++ [k.tag, BitVec.ofNat 8 (k.lid + 4 * k.chainNo), k.rssi, BitVec.ofNat 8 k.tid] ++
      leBytes 2 k.aid ++ leBytes 6 k.ta.toNat)
  | 1 => pad (b0 0 ++ k.ethst)
  | 2 => pad (b0 3 ++ leBytes 4 k.txword.toNat ++ leBytes 4 k.tagw.toNat ++ [BitVec.ofNat 8 k.port])
  | 3 => pad (b0 2 ++ leBytes 8 k.tick ++ [BitVec.ofNat 8 k.lid, BitVec.ofNat 8 (k.hops + 16 * k.ttl0), 0, 0] ++ leBytes 6 k.ta.toNat ++
      [0, 0] ++ leBytes 4 k.fcnt)
  | _ => pad [4, 6]

/-- The parse block: thread local memory 0x000 to 0x07F (R399). -/
def ParseRes.block (r : ParseRes) : List Byte :=
  let l := r.key ++ leBytes 2 r.padLen ++ [BitVec.ofNat 8 r.node, 0] ++ (r.offs.take 16).flatMap (fun o => leBytes 2 o)
  l ++ List.replicate (128 - l.length) 0

/-- The outputs that a rule result gives (R213, R268). -/
def resOutputs (v : Nat) : List Output :=
  let host := fun q => ({ port := 2, queue := q } : Output)
  (if resDisp v = 1 then
     (if resEport v = 2 then [host (resQueue v)]
        else [({ port := resEport v, queue := if resEport v = 3 then resQueue v % 16 else resQueue v, dst := resDst v } : Output)]) ++
       (if resCopy v then [host (resQueue v)] else [])
   else if resDisp v = 2 then [host (resQueue v)] else []) ++
  (if resMirror v then
     [if resMirPort v = 2 then host (resMirQueue v) else ({ port := resMirPort v } : Output)] else [])

/-- An output entry of 8 bytes (R268). -/
def Output.bytes (o : Output) : List Byte :=
  [BitVec.ofNat 8 (o.port + 128), BitVec.ofNat 8 o.queue] ++ leBytes 2 o.dst ++ leBytes 4 o.txw

/-- Local memory at dispatch. -/
def State.localMem (s : State) (t : Task) : List Byte :=
  let fill := fun (l : List Byte) (n : Nat) => l ++ List.replicate (n - l.length) (0 : Byte)
  match t.slot.bind s.slotOf? with
  | some x =>
    let a := x.parse.block ++ leBytes 16 x.result ++ fill ((resOutputs x.result).flatMap (·.bytes)) 32 ++ x.pkt.status
    fill (a ++ leBytes 4 x.seq ++ leBytes 2 x.len ++ [BitVec.ofNat 8 t.src, BitVec.ofNat 8 t.cls, BitVec.ofNat 8 t.attempt, 0, 0, 0] ++
      leBytes 4 (resTag x.result) ++ leBytes 8 t.arg0.toNat ++ leBytes 8 t.arg1.toNat) 512
  | none =>
    fill (List.replicate 208 (0 : Byte) ++ leBytes 4 t.desc ++ leBytes 2 0 ++
      [BitVec.ofNat 8 t.src, BitVec.ofNat 8 t.cls, BitVec.ofNat 8 t.attempt, 0, 0, 0] ++ leBytes 4 0 ++ leBytes 8 t.arg0.toNat ++
      leBytes 8 t.arg1.toNat) 512

/-! ### Dispatch (R217, R265, R266) -/

def State.thread (s : State) (i : Nat) : Option Thread := SMap.get (fun _ => none) s.tsk.threads i

/-- A thread changes, and its registers show it. -/
def State.setThread (s : State) (i : Nat) (v : Option Thread) : State :=
  let s1 := { s with tsk := { s.tsk with threads := SMap.set (fun _ => none) s.tsk.threads i v } }
  match v with
  | some x =>
    let t := (s1.taskOf x.desc)
    let w := x.pc % 2 ^ 13 + 2 ^ 16 * ((t.map (·.cls)).getD 0) + 2 ^ 24 + 2 ^ 25 * ((t.map (·.attempt)).getD 0)
    (s1.wr (GGE_THR_STAT (i / 4) (i % 4)) (BitVec.ofNat 32 w)).wr (GGE_THR_SEQ (i / 4) (i % 4))
      (BitVec.ofNat 32 ((t.map (·.value)).getD 0))
  | none => (s1.put (GGE_THR_STAT_BUSY (i / 4) (i % 4)) 0).put (GGE_THR_STAT_REDISP (i / 4) (i % 4)) 0

/-- Free threads of an engine. -/
def State.freeThreads (s : State) (e : Nat) : List Nat := ((List.range 4).map (4 * e + ·)).filter (fun i => (s.thread i).isNone)

/-- The first of a rising list after `last`, wrapping. -/
def roundRobin (last : Nat) (l : List Nat) : Option Nat :=
  match l.find? (fun e => decide (last < e)) with
  | some e => some e
  | none => l.head?

/-- The engine that a task would go to now. -/
def State.engineFor (s : State) (t : Task) : Option Nat :=
  let es := (s.onlineOf t.cls).filter (fun e => !(s.freeThreads e).isEmpty && (match t.st with
    | .redisp n => e != n
    | _ => true))
  roundRobin (SMap.get (fun _ => 15) s.tsk.lastEng t.cls) es

/-- The next task to dispatch: one in REDISP first, else the oldest dispatchable one of the highest level. -/
def State.nextTask (s : State) : Option (Task × Nat) :=
  let pick := fun (l : List Task) => l.findSome? (fun t => (s.engineFor t).map (fun e => (t, e)))
  match pick (s.tsk.tasks.filter (fun t => t.st.isRedisp)) with
  | some x => some x
  | none => (List.range 8).findSome? (fun k =>
      pick (s.tsk.tasks.filter (fun t => t.st.isReady && decide (s.clsLevel t.cls = 7 - k))))

/-- TASK_DISPATCH, in RUN: in IDLE and SLEEP the engines have no clock (R350). Which free thread of the engine starts it
the spec does not say: a free value picks (log entry 4). A program starts at PROG for a packet, and for other tasks at the class's own entry in the blank (R291). -/
def State.taskDispatch (s : State) : State :=
  if !s.flag TSK_CTL_EN ∨ s.get PWR_STAT_STATE ≠ 0 then s
  else match s.nextTask with
    | none => s
    | some (t, e) =>
      let free := s.freeThreads e
      let th := free.getD (s.draw % atLeast1 free.length) (4 * e)
      let slot := t.slot.bind s.slotOf?
      let entry := match slot with
        | some x => resProg x.result
        | none => s.clsEntry t.cls
      let x : Thread := { desc := t.desc, pc := entry, regs := Vector.replicate 16 0, loc := s.localMem t,
                          pkt := slot.map (fun x => s.dataOf x.pkt.chain) }
      let s1 := s.drawn.mapTask t.desc (fun u => { u with st := .run th })
      let s2 := { s1 with tsk := { s1.tsk with lastEng := SMap.set (fun _ => 15) s1.tsk.lastEng t.cls e } }
      (s2.setThread th (some x)).trace [t.ev 1 (whereOf th) 0]

def execTaskDispatch (s : State) : Out State := .next (s.clocked fun (s : State) => s.taskDispatch)

/-! ### Faults and re-dispatch (R220, R221, R274, R275) -/

/-- ROB lets go of a slot's packet. -/
def State.dropSlotRef (s : State) (seq : Nat) : State :=
  match s.slotOf? seq with
  | some x => if x.ref then (s.release x.pkt.chain ownRob).mapSlot seq (fun y => { y with ref := false }) else s
  | none => s

/-- A slot is retired with a hole marker: the packet's buffers return to Chuck. -/
def State.hole (s : State) (seq : Nat) : State := (s.dropSlotRef seq).mapSlot seq (fun x => { x with st := .hole, outs := [] })

def State.liveSlot (s : State) (seq : Nat) : Bool :=
  match s.slotOf? seq with
  | some x => decide (x.st = .pending ∨ x.st = .redisp)
  | none => false

/-- A task that is not tried again: its slot becomes a hole, or a task without a packet is lost. -/
def State.taskEnds (s : State) (t : Task) (wher : Nat) : State :=
  let s1 := (s.freeTask t.desc).trace [t.ev 5 wher 0]
  match t.slot with
  | some q => if s1.liveSlot q then ((s1.hole q).bump ROB_CNT_HOLE_FAULT).raise ROB_EVT_HOLE_FAULT else s1
  | none => (s1.bump TSK_CNT_LOST).raise TSK_EVT_LOST

/-- A faulted task is re-dispatched once to another engine, or ends. Answers whether it is in REDISP now. -/
def State.taskAgain (s : State) (t : Task) (e wher : Nat) : State × Bool :=
  let alive := match t.slot with
    | some q => s.liveSlot q
    | none => true
  if t.attempt = 0 ∧ alive = true ∧ (s.onlineOf t.cls).any (· != e) = true then
    let s1 := s.mapTask t.desc (fun u => { u with st := .redisp e, attempt := 1 })
    (match t.slot with
     | some q => ((s1.mapSlot q (fun x => { x with st := .redisp })).bump ROB_CNT_REDISP, true)
     | none => (s1, true))
  else (s.taskEnds t wher, false)

/-- Tasks in REDISP that no ONLINE engine other than the faulted one may run any more end (R219, R220), and classes that
wait without an ONLINE engine show NOENG (R266). Applied whenever an engine leaves ONLINE. -/
def State.engineGone (s : State) (before : State) : State :=
  let stuck := s.tsk.tasks.filter (fun t => match t.st with
    | .redisp n => !(s.onlineOf t.cls).any (· != n)
    | _ => false)
  let s1 := stuck.foldl (fun s t => s.taskEnds t 0) s
  let bad := (List.range 32).filter (fun c => (s1.onlineOf c).isEmpty && !(before.onlineOf c).isEmpty &&
    s1.tsk.tasks.any (fun t => t.cls == c && t.st.isReady))
  s1.raiseIf (!bad.isEmpty) TSK_EVT_NOENG

/-- Buffers that an attempt took under owner GGE return (R250). -/
def State.undoMade (s : State) (x : Thread) : State :=
  match x.made with
  | some id => s.release id ownGge
  | none => s

/-- A fault source of an engine (R379): the record's CODE is the fault code, its DETAIL the place (R387). -/
def State.raiseGge (s : State) (e code : Nat) : State :=
  (s.wr (GGE_EVT e) (s.rd (GGE_EVT e) ||| BitVec.ofNat 32 (2 ^ (code - 1)))).raiseSrc (125 + e) code
    (s.get (GGE_FAULT_PC e) + 0x10000 * s.get (GGE_FAULT_THREAD e))

/-- The threads of an engine that run tasks. -/
def State.busyThreads (s : State) (e : Nat) : List Nat := ((List.range 4).map (4 * e + ·)).filter (fun i => (s.thread i).isSome)

/-- One thread loses its task to a fault; answers the task. -/
def State.cutThread (s : State) (i : Nat) : State × Option Task :=
  match s.thread i with
  | some x => ((s.undoMade x).setThread i none, s.taskOf x.desc)
  | none => (s, none)

/-- Cut threads one after the other, and answer their tasks. -/
def State.cutAll (s : State) : List Nat → State × List (Task × Nat)
  | [] => (s, [])
  | i :: t =>
    match s.cutThread i with
    | (s1, some k) => (match s1.cutAll t with
      | (s2, l) => (s2, (k, i) :: l))
    | (s1, none) => s1.cutAll t

/-- Each faulted task is tried again or ends; answers those in REDISP. -/
def State.again (s : State) (e : Nat) : List (Task × Nat) → State × List TraceEv
  | [] => (s, [])
  | (t, i) :: l =>
    match s.taskAgain t e (whereOf i) with
    | (s1, r) => (match s1.again e l with
      | (s2, evs) => (s2, if r then t.ev 4 (whereOf i) 0 :: evs else evs))

/-- A fault of thread `i` with a code of R274, found at word `pc`. ECC_STORE is an engine fault: every running task of the
engine faults and the engine leaves its state (R276). -/
def State.engineFault (s : State) (i code pc : Nat) : State :=
  let e := i / 4
  let s1 := (s.wr (GGE_FAULT e) (BitVec.ofNat 32 (code + 16 * (i % 4) + 2 ^ 16 * (pc % 2 ^ 13)))).bump (GGE_CNT_FAULT e)
  let s2 := s1.raiseGge e code
  let s3 := if code = 1 then
      (if s2.flag (GGE_CTL_AUTO_RELOAD e) then s2.put (GGE_STAT_STATE e) 3
       else (s2.put (GGE_STAT_STATE e) 2).put (GGE_STAT_STORE_OK e) 0)
    else s2
  match s3.cutAll (if code = 1 then s3.busyThreads e else [i]) with
  | (s4, ts) =>
    let s5 := s4.trace (ts.map (fun x => x.1.ev 3 (whereOf x.2) code))
    (match s5.again e ts with
     | (s6, evs) => (if code = 1 then s6.engineGone s else s6).trace evs)

/-- ENGINE_FAULT: a thread that runs a task meets a fault from outside its actions. Code 0, which no fault has, is an error of a
single bit in the word that it fetches: corrected and counted (R261). -/
def State.threadFault (s : State) (i code : Nat) : State :=
  match s.thread i with
  | some x => if code = 0 then s.bump (GGE_CNT_ECC (i / 4)) else s.engineFault i code x.pc
  | none => s

def execEngineFault (e : Fin 16) (t : Fin 4) (code : BitVec 3) (s : State) : Out State :=
  .next (s.clocked fun (s : State) => s.threadFault (4 * e.val + t.val) code.toNat)

/-- A slot is retired as a HOLE, counted, and a task of it that does not run is freed (R221). -/
def State.ageSlot (s : State) (seq : Nat) : State :=
  let s2 := ((s.hole seq).bump ROB_CNT_HOLE_AGE).raise ROB_EVT_HOLE_AGE
  match s2.tsk.tasks.find? (fun t => t.slot == some seq && !t.st.isRun) with
  | some t => (s2.freeTask t.desc).trace [t.ev 5 0 0]
  | none => s2

/-- ROB_AGE_EXPIRY: a slot still PENDING or REDISP ROB_AGE µs after its classification is retired; a task that has not
started leaves its list in that cycle (R221, R266). -/
def State.robAge (s : State) (seq : Nat) : State :=
  match s.slotOf? seq with
  | some x =>
    let age := (s.rd ROB_AGE).toNat % 65536
    if x.flow.isNone || age = 0 || !s.liveSlot seq then s else (s.toRef (x.classAt + 2000 * age)).ageSlot seq
  | none => s

def execRobAgeExpiry (seq : Word) (s : State) : Out State := .next (s.clocked fun (s : State) => s.robAge seq.toNat)

/-! ### Engine states (R276) -/

/-- GGEn_CTL is written. -/
def State.ggeCtlWrite (s : State) (e : Nat) (v : Word) : State :=
  let s1 := s.wr (GGE_CTL e) (v &&& 3)
  let st := s.get (GGE_STAT_STATE e)
  let en := v.getLsbD 0
  let s2 := if st = 0 ∧ en = false then s1.put (GGE_STAT_STATE e) 1
    else if st = 1 ∧ en = true then s1.put (GGE_STAT_STATE e) 0
    else if st = 2 ∧ v.getLsbD 2 = true then s1.put (GGE_STAT_STATE e) 3
    else if st = 2 ∧ en = true ∧ s.flag (GGE_STAT_STORE_OK e) = true then s1.put (GGE_STAT_STATE e) 0
    else s1
  if st = 0 ∧ en = false then s2.engineGone s else s2

/-- ENGINE_ENABLE: GGEn_CTL is written with RELOAD clear. -/
def execEngineEnable (e : Fin 16) (en auto : Bool) (s : State) : Out State :=
  .next (s.hostAt none (GGE_CTL e) fun (s : State) => s.ggeCtlWrite e (BitVec.ofNat 32 ((if en then 1 else 0) + (if auto then 2 else 0))))

/-- RELOAD: GGEn_CTL is written with RELOAD set. -/
def execReload (e : Fin 16) (en auto : Bool) (s : State) : Out State :=
  .next (s.hostAt none (GGE_CTL e) fun (s : State) => s.ggeCtlWrite e (BitVec.ofNat 32 ((if en then 1 else 0) + (if auto then 2 else 0) + 4)))

/-- RELOAD_DONE: the reload completes, or meets a read error. -/
def State.reloadDone (s : State) (e : Nat) (ok : Bool) : State :=
  if s.get (GGE_STAT_STATE e) = 3 then
    let s1 := s.putB (GGE_STAT_STORE_OK e) ok
    if ok && s1.flag (GGE_CTL_EN e) then s1.put (GGE_STAT_STATE e) 0 else s1.put (GGE_STAT_STATE e) 2
  else s

def execReloadDone (e : Fin 16) (ok : Bool) (s : State) : Out State := .next (s.clocked fun (s : State) => s.reloadDone e ok)

/-- DRAIN_DONE: a DRAINING engine without a running task goes OFFLINE. -/
def State.drainDone (s : State) (e : Nat) : State :=
  if s.get (GGE_STAT_STATE e) = 1 ∧ s.busyThreads e = [] then s.put (GGE_STAT_STATE e) 2 else s

def execDrainDone (e : Fin 16) (s : State) : Out State := .next (s.clocked fun (s : State) => s.drainDone e)

end Sys2Proof.Machine
end

