-- ==== Sys2Proof/Machine/Router.lean ====
section
/-! DEFINITION. The router: entry, exceptions and their token buckets, classification and flows, dispositions, and the
release of a flow's head (spec/09_router_pipeline.md R200, R201, R207, R212 to R223). -/

namespace Sys2Proof.Machine

/-! ### Exceptions (R215) -/

/-- One whole packet of a token bucket's level. -/
def tokenUnit : Nat := 2000000000

/-- A bucket's level now: it refills at RATE packets/s up to BURST. -/
def State.tokenLevel (s : State) (c : Nat) : Nat :=
  let cap := atLeast1 (s.get (PRS_EXC_RATE_BURST c)) * tokenUnit
  match SMap.get (fun _ => none) s.prs.tokens c with
  | some (l, at_) => min cap (l + s.get (PRS_EXC_RATE_RATE c) * (s.ref - at_))
  | none => cap

def State.tokenSet (s : State) (c l : Nat) : State :=
  { s with prs := { s.prs with tokens := SMap.set (fun _ => none) s.prs.tokens c (some (l, s.ref)) } }

/-- The level in the steps of 1/65,536 packet in which the bucket refills: the steps completed so far (R215). -/
def State.tokenSteps (s : State) (c : Nat) : Nat := s.tokenLevel c * 65536 / tokenUnit

/-- An exception of class `c`: its host queue pair, or none when it is dropped. -/
def State.excTake (s : State) (c : Nat) : State × Option Nat :=
  let s1 := s.bump (PRS_CNT_EXC c)
  let s2 := s1.raiseIf (decide (c = 1 ∨ c = 2 ∨ c = 5)) PRS_EVT_PARSE_FAIL
  let s3 := s2.raiseIf (decide (c = 3 ∨ c = 4)) PRS_EVT_LIMIT
  if s3.flag (PRS_EXC_CFG_TO_HOST c) then
    let l := s3.tokenLevel c
    if s3.get (PRS_EXC_RATE_RATE c) ≠ 0 ∧ 65536 ≤ s3.tokenSteps c then (s3.tokenSet c (l - tokenUnit), some (s3.get (PRS_EXC_CFG_QUEUE c)))
    else (((s3.tokenSet c l).bump (PRS_CNT_EXC_DROP c)).raise PRS_EVT_EXC_DROP, none)
  else (s3, none)

/-! ### Entry (R200, R201, R205 to R207) -/

/-- The owner that a packet's reference leaves at entry (R246). -/
def Packet.owner (k : Packet) : Nat :=
  match k.src with
  | 0 => ownMlk
  | 1 => ownEth k.port
  | 2 => ownHif
  | 3 => ownFld
  | _ => ownRob

/-- A packet takes a free slot and the next sequence tag, is parsed, and looked up in the wildcard table; one that does not
parse is an exception at once. `s0`: it is in ROB's keeping, in the buffers that its bytes need. -/
def State.enterSlot (s0 : State) (k : Packet) : State :=
  let air := decide (k.iport < 3)
  let s1 := s0.bump PRS_CNT_PKT
  let r := s1.parse k.iport (if air then k.aid else 0) (if air then k.tid else 0) k.bytes
  let (s2, exc) := if r.status = stOk then (s1, none)
    else match s1.excTake r.status with
      | (s2, q) => (s2, some (r.status, q))
  let seq := (s2.rd ROB_SEQ).toNat
  let x : Slot := { seq := seq, pkt := k, len := k.bytes.length, parse := r, exc := exc,
                    wc := if r.status = stOk then s2.wcLookup r.key else none }
  ({ s2 with prs := { s2.prs with slots := s2.prs.slots ++ [x] } }.robShow).wr ROB_SEQ (BitVec.ofNat 32 (seq + 1))

/-- A packet enters. One whose bytes need more buffers than Chuck has is dropped (R244, R245; DESIGN CHOICE, log entry 18). -/
def State.enter (s : State) (k : Packet) : State :=
  match (s.moveRef k.chain k.owner ownRob).refit ownRob k.chain k.bytes with
  | (s1, true) => s1.enterSlot k
  | (s1, false) => s1.release k.chain ownRob

/-- What stands at the head of an ingress: 0 the air, 1 and 2 the Ethernet ports, else the loop queue. -/
def State.ingressOf (s : State) (q : Nat) : List Packet :=
  match q with
  | 0 => s.prsq
  | 1 => (s.port 0).ingress
  | 2 => (s.port 1).ingress
  | _ => s.prs.loopq

def State.setIngress (s : State) (q : Nat) (l : List Packet) : State :=
  match q with
  | 0 => { s with prsq := l }
  | 1 => (s.setPort 0 { s.port 0 with ingress := l }).busyNow
  | 2 => (s.setPort 1 { s.port 1 with ingress := l }).busyNow
  | _ => ({ s with prs := { s.prs with loopq := l } }).busyNow

/-- PACKET_ENTRY: the next packet of an ingress enters, is dropped with the parser off, or waits for a slot. -/
def State.packetEntry (s : State) (q : Nat) : State :=
  match (if s.serving then s.ingressOf q else []) with
  | [] => s
  | k :: t =>
    if k.sec then s
    else if !s.flag PRS_CTL_EN then ((s.setIngress q t).bump PRS_CNT_DROP).release k.chain k.owner
    else if 8192 ≤ s.prs.slots.length then
      if k.waited then s else ((s.setIngress q ({ k with waited := true } :: t)).bump ROB_CNT_STALL).raise ROB_EVT_STALL
    else (s.setIngress q t).enter k

def execPacketEntry (q : BitVec 2) (s : State) : Out State := .next (s.clocked fun (s : State) => s.packetEntry q.toNat)

/-! ### Classification (R207, R212, R213, R216) -/

/-- The key bytes that a hash profile selects, in ascending order. -/
def State.profBytes (s : State) (p : Nat) (key : List Byte) : List Byte :=
  let m := s.rd64 (PRS_HPROF_LO p)
  (List.range 64).filterMap (fun i => if m / 2 ^ i % 2 = 1 then some (key.getD i 0) else none)

/-- The flow of a packet. -/
def State.flowOf (s : State) (iport : Nat) (key : List Byte) (prof : Nat) : Nat :=
  let b := if iport < 3 then (key.drop 4).take 3 else s.profBytes prof key
  crc32c b % 2 ^ min 12 (s.get ROB_CFG_FLOW_BITS)

/-- A rule counter counts a packet of `len` bytes (R202, R212). -/
def State.ruleCount (s : State) (cnt len : Nat) : State :=
  let a := s.prsBase + 0x10000 + 16 * cnt
  (s.memSet a 8 (s.mem a 8 + 1)).memSet (a + 8) 8 (s.mem (a + 8) 8 + len)

/-- A classified slot: its flow and the time from which it ages. -/
def State.classified (s : State) (x : Slot) (prof : Nat) (f : Slot → Slot) : State :=
  let flow := s.flowOf x.pkt.iport x.parse.key prof
  let now := s.ref
  s.mapSlot x.seq (fun y => f { y with flow := some flow, classAt := now })

/-- An exception takes its place in its flow. -/
def State.excDone (s : State) (x : Slot) (c : Nat) (q : Option Nat) : State :=
  let prof := s.get (PRS_EXC_CFG_HPROF c)
  match q with
  | some q => s.classified x prof (fun y => { y with st := .done, exc := some (c, some q), outs := [{ port := 2, queue := q }] })
  | none => (s.dropSlotRef x.seq).classified x prof (fun y => { y with st := .dropped, exc := some (c, none) })

/-- A rule result is carried out, or its task is queued (R213). With no descriptor to take, or a class that may not be
queued, the classifier holds the packet and all behind it (R264). -/
def State.resDone (s : State) (x : Slot) (v : Nat) (hit : State → State) : State :=
  let cls := resTclass v
  if resProg v ≠ 0 ∧ s.canQueue srcPkt cls = false then
    if x.held then s else (s.mapSlot x.seq (fun y => { y with held := true })).refused srcPkt cls (some x.seq)
  else
    let s0 := hit s
    let s1 := if resCntEn v then s0.ruleCount (resCnt v) x.len else s0
    if resProg v ≠ 0 then
      (s1.classified x (resHprof v) (fun y => { y with result := v, held := false })).queueTask srcPkt cls 0 0 (some x.seq)
    else if resDisp v = 0 then
      ((s1.dropSlotRef x.seq).bump PRS_CNT_DROP).classified x (resHprof v) (fun y => { y with result := v, st := .dropped })
    else s1.classified x (resHprof v) (fun y => { y with result := v, st := .done, outs := resOutputs v })

/-- A slot that was retired before its classification takes its place in its flow, as the hole it is (R219, R354). -/
def State.holeClass (s : State) (x : Slot) : State :=
  let prof := match x.exc, (s.emLookup x.parse.key).orElse (fun _ => x.wc) with
    | some (c, _), _ => s.get (PRS_EXC_CFG_HPROF c)
    | none, some v => resHprof v
    | none, none => s.get (PRS_EXC_CFG_HPROF 0)
  s.classified x prof id

/-- CLASSIFY_DONE: the oldest packet that is not yet classified. -/
def State.classifyDone (s : State) : State :=
  match s.prs.slots.find? (fun x => x.flow.isNone) with
  | none => s
  | some x =>
    if x.st ≠ .pending then s.holeClass x
    else match x.exc with
    | some (c, q) => s.excDone x c q
    | none => (match s.emLookup x.parse.key, x.wc with
      | some v, _ => s.resDone x v (fun s => s.bump PRS_CNT_EM_HIT)
      | none, some v => s.resDone x v (fun s => s.bump PRS_CNT_WC_HIT)
      | none, none => (match s.excTake 0 with
        | (s1, q) => s1.excDone x 0 q))

def execClassifyDone (s : State) : Out State := .next (s.clocked fun (s : State) => s.classifyDone)

/-- HPROF_WRITE: a word of PRS_HPROFp, or ROB_CFG, which accept writes only while the parser is off (R216). -/
def State.hprofWrite (s : State) (rob : Bool) (p : Nat) (hi : Bool) (v : Word) : State :=
  if s.flag PRS_CTL_EN then s.raise PRS_EVT_TBL_ERR
  else if rob then s.wr ROB_CFG (v &&& 0xF)
  else s.wr (if hi then PRS_HPROF_HI p else PRS_HPROF_LO p) v

def execHprofWrite (rob : Bool) (p : BitVec 4) (hi : Bool) (v : Word) (s : State) : Out State :=
  .next (s.hostAt none (if rob then ROB_CFG else if hi then PRS_HPROF_HI p.toNat else PRS_HPROF_LO p.toNat)
    fun (s : State) => s.hprofWrite rob p.toNat hi v)

/-! ### Release (R214, R219, R222, R235, R268, R401, R402) -/

/-- What the surroundings of a release fix: whether each port's release queue is full (R235), and for an output to the air
the length of its MPDU and its airtime. -/
structure RelEnv where
  full : BitVec 2
  mpdu : Nat
  air : AirTime

/-- The packet's reference for an output's owner: the last output takes ROB's own, any other adds one (R214, R247). -/
def State.outRef (s : State) (x : Slot) (own : Nat) (last : Bool) : State :=
  if last then (s.moveRef x.pkt.chain ownRob own).mapSlot x.seq (fun y => { y with ref := false })
  else (s.addRef x.pkt.chain own).1

/-- An output that goes nowhere; the last one lets ROB's reference go. -/
def State.outDrop (s : State) (x : Slot) (last : Bool) : State := if last then s.dropSlotRef x.seq else s

def State.noDest (s : State) (x : Slot) (last : Bool) : State :=
  ((s.bump ROB_CNT_NODEST).raise ROB_EVT_NODEST).outDrop x last

/-- The station may be handed frames: the device serves it, or hands it out and has not yet sent END (R196, R222). -/
def State.airOk (s : State) (aid : Nat) : Bool :=
  decide (aid ≠ 0 ∧ s.cxState aid ≠ 0) && (s.serves aid || s.clu.hands.any (fun h => h.part == 1 && h.aid == aid))

/-- To the air: the station's queue, or as FRAME to the device it was handed to, or nowhere. -/
def State.outAir (s : State) (x : Slot) (o : Output) (last : Bool) (env : RelEnv) : State :=
  let aid := o.dst % 8192
  let data := s.dataOf x.pkt.chain
  if s.airOk aid then
    (s.outRef x ownAcc last).enqueue aid (min 8 (o.queue % 16)) x.pkt.chain env.mpdu .data env.air false (decide (be16 data 12 = 0x888E))
  else match s.clu.forward.find? (fun h => h.aid == aid) with
    | some h =>
      let f : TxFrame := { fid := 0, chain := x.pkt.chain, aid := aid, kind := .data, tid := min 8 (o.queue % 16), len := env.mpdu,
                           air := env.air, turn := s.turn }
      (s.outRef x ownClu last).sendHandFrame h f ownClu data
    | none => s.noDest x last

/-- To a device of the cluster through the backbone port, addressed to its backbone MAC address (R222). -/
def State.outPeer (s : State) (x : Slot) (o : Output) (last : Bool) (env : RelEnv) : Option State :=
  match s.devMac (o.dst % 32), s.backbone with
  | some m, some p =>
    if s.ethTakes p 0 (env.full.getLsbD p.val) then
      some ((s.outRef x (ownEth p) last).ethOffer p
        { chain := some x.pkt.chain, bytes := leBytes 6 m ++ (s.dataOf x.pkt.chain).drop 6, txw := 0, sec := true })
    else none
  | _, _ => some (s.noDest x last)

/-- To a host receive ring; an exception's frame begins with its parse block (R399). -/
def State.outHost (s : State) (x : Slot) (o : Output) (last : Bool) : State :=
  let body := s.dataOf x.pkt.chain
  let b := if x.exc.isSome then x.parse.block ++ body else body
  let q := o.queue % 32
  let add := fun (held : Option Nat) =>
    let s1 := s.outRef x ownHif last
    let w : HostOut := { q := q, chain := x.pkt.chain, bytes := b, seq := x.seq, tag := if x.exc.isSome then 0 else resTag x.result,
                         exc := x.exc.map (·.1), status := x.pkt.status, held := held }
    { s1 with hif := { s1.hif with wait := s1.hif.wait ++ [w] } }
  match s.hostFate q b.length with
  | .drop => s.noDesc.outDrop x last
  | .ready => add none
  | .hold => add (some s.ref)

/-- A packet joins the loop queue of 256, or is dropped (R268). -/
def State.loopOffer (s : State) (k : Packet) : State × Bool :=
  if 256 ≤ s.prs.loopq.length then ((s.bump TSK_CNT_LOOP_DROP).raise TSK_EVT_LOOP_DROP, false)
  else (({ s with prs := { s.prs with loopq := s.prs.loopq ++ [k] } }).busyNow, true)

/-- One output goes to its destination; none when the destination holds it. -/
def State.outGo (s : State) (x : Slot) (o : Output) (last : Bool) (env : RelEnv) : Option State :=
  let data := s.dataOf x.pkt.chain
  let eth := fun (p : Fin 2) =>
    if s.ethTakes p o.txw (env.full.getLsbD p.val) then
      some ((s.outRef x (ownEth p) last).ethOffer p
        { chain := some x.pkt.chain, bytes := data, txw := o.txw, host := if x.pkt.src = 2 then some x.seq else none })
    else none
  match o.port with
  | 0 => eth 0
  | 1 => eth 1
  | 2 => some (s.outHost x o last)
  | 3 => some (s.outAir x o last env)
  | 4 => s.outPeer x o last env
  | 5 =>
    let k : Packet := { chain := x.pkt.chain, src := 4, port := 0, bytes := data }
    if s.prs.loopq.length < 256 then some ((s.outRef x ownRob last).loopOffer k).1
    else some ((s.loopOffer k).1.outDrop x last)
  | _ =>
    let r : Fin 3 := if o.queue % 4 = 0 then 0 else if o.queue % 4 = 1 then 1 else 2
    some ((s.outRef x ownFld last).floodOffer r x.pkt.chain data.length (BitVec.ofNat 48 o.fdst) env.air)

/-- Every output of a slot in turn; answers those that are held. -/
def State.outAll (s : State) (x : Slot) (env : RelEnv) : List Output → List Output → State × List Output
  | [], held => (s, held)
  | o :: t, held =>
    match s.outGo x o (t.isEmpty && held.isEmpty) env with
    | some s1 => s1.outAll x env t held
    | none => s.outAll x env t (held ++ [o])

/-- Slots that have released every output and hold none at a ring become free. -/
def State.robFinish (s : State) : State :=
  let past := fun (x : Slot) => x.releasing && x.outs.isEmpty && !s.hif.wait.any (fun w => w.seq == x.seq && w.held.isSome)
  let n := (s.prs.slots.filter past).length
  ({ s with prs := { s.prs with slots := s.prs.slots.filter (fun x => !past x) } }.robShow).bumpBy ROB_CNT_REL n

/-- In a handover half its lead has passed: what a slot still holds is lost, and is counted at turn start T (R315 step 3). -/
def State.slotsOver (s : State) : Bool :=
  decide (s.get UPD_STAT_TOV = 2) && s.upd.armed.any (fun a =>
    decide (a.turn * turnTicks - max 0x40000 ((s.rd UPD_HO_LEAD).toNat % 2 ^ 24) / 2 ≤ s.absTick))

/-- SLOT_RELEASE: the head slot of a flow. -/
def State.slotRelease (s : State) (flow : Nat) (env : RelEnv) : State :=
  match if s.slotsOver then none else s.prs.slots.find? (fun x => x.flow == some flow) with
  | none => s
  | some x =>
    match x.st with
    | .pending => s
    | .redisp => s
    | .done => (match s.outAll x env x.outs [] with
      | (s1, held) => (s1.mapSlot x.seq (fun y => { y with releasing := true, outs := held })).robFinish)
    | _ =>
      let s1 := s.dropSlotRef x.seq
      { s1 with prs := { s1.prs with slots := s1.prs.slots.filter (fun y => y.seq != x.seq) } }.robShow

def execSlotRelease (flow : BitVec 12) (ethFull : BitVec 2) (mpdu : BitVec 14) (air : AirTime) (s : State) : Out State :=
  .next (s.clocked fun (s : State) => s.slotRelease flow.toNat ⟨ethFull, mpdu.toNat, air⟩)

end Sys2Proof.Machine
end

