-- ==== Sys2Proof/Machine/Gouge.lean ====
section
/-! DEFINITION. The action primitives of the Gouge engines (spec/12_gouge_engines.md R269 to R273): a command issues one
action word, whose fields it carries and whose opcode is its name's, on one thread of one engine, where the action store has that word
next for the thread. -/

namespace Sys2Proof.Machine

/-! ### Registers, local memory and the packet of a thread -/

def Thread.reg (x : Thread) (i : BitVec 4) : DWord := if i = 0 then 0 else x.regs[i.toNat]

/-- w0 ignores writes (R267). -/
def Thread.setReg (x : Thread) (i : BitVec 4) (v : DWord) : Thread :=
  if i = 0 then x else { x with regs := x.regs.set i.toNat v }

/-- Operand b: register B, or IMM sign-extended where X[0] is 1 (R269). -/
def Thread.opB (x : Thread) (w : ActWord) : DWord := if w.x.getLsbD 0 then w.imm.signExtend 64 else x.reg w.b

/-- The fault codes of R274. -/
def fltOpcode : Nat := 3
def fltAddr : Nat := 4
def fltBudget : Nat := 5
def fltStack : Nat := 6
def fltTable : Nat := 7

/-- `n` bytes of local memory; an access must end at or below 0x200 (R271). -/
def Thread.local_ (x : Thread) (a n : Nat) : Except Nat (List Byte) :=
  if a + n ≤ 512 then .ok (part x.loc a n) else .error fltAddr

def Thread.setLocal (x : Thread) (a : Nat) (b : List Byte) : Except Nat Thread :=
  if a + b.length ≤ 512 then .ok { x with loc := putAt x.loc a b } else .error fltAddr

/-- LEN at 0x0D4 follows the packet (R267). -/
def Thread.showLen (x : Thread) : Thread := { x with loc := putAt x.loc 0xD4 (leBytes 2 ((x.pkt.map (·.length)).getD 0)) }

/-- The address A + IMM, modulo 2^64 (R269). -/
def actAddr (a : DWord) (ofs : Nat) : Nat := (a.toNat + ofs) % 2 ^ 64

/-! ### Issuing one action -/

/-- What an action does: a fault code, or the state and the thread after it. The thread it is given already points at the
next word. -/
abbrev ActRes := Except Nat (State × Thread)

/-- The 8 bytes of an action word: opcode, fields, immediate (R269). -/
def actBytesOf (w : ActWord) (op : Nat) : List Byte :=
  [BitVec.ofNat 8 op, w.a ++ w.d, w.res ++ w.b, w.x] ++ leBytes 4 w.imm.toNat

/-- The word that a fetch from the action store finds; beyond LENGTH the store holds 0 (R290). -/
def State.fetchWord (s : State) (pc : Nat) : List Byte :=
  let l := (s.tsk.store.drop (8 * pc)).take 8
  l ++ List.replicate (8 - l.length) 0

/-- A word after which its thread may wait: a table, a packet byte beyond the head window, a station context (R260, R279). -/
def Thread.mayWait (x : Thread) (op : Nat) (w : ActWord) : Bool :=
  decide (0x20 ≤ op ∧ op ≤ 0x29) || decide (op = 0x33 ∨ op = 0x34) ||
    (decide (op = 0x1A ∨ op = 0x1B) && decide (256 < actAddr (x.reg w.a) (w.imm.toNat % 65536) + w.x.toNat + 1))

/-- The engine may issue from thread `i` now: every thread that stands before it in the turn, from the one after the thread that
issued last, runs no task or waits (R260). That a thread which may wait is named itself says that its data has arrived (DESIGN CHOICE,
log entry 18). -/
def State.inTurn (s : State) (i : Nat) : Bool :=
  let last := SMap.get (fun _ => 3) s.tsk.lastThr (i / 4)
  let gap := (i % 4 + 3 - last) % 4
  (List.range gap).all (fun k =>
    let j := 4 * (i / 4) + (last + 1 + k) % 4
    (s.thread j).isNone || s.tsk.waits.contains j)

/-- Thread `i` has issued a word. -/
def State.issued (s : State) (i : Nat) (waits : Bool) : State :=
  let cnt := GGE_CNT_WORDS_LO (i / 4)
  let l := s.tsk.waits.filter (· != i)
  let s1 := s.wr64 cnt (s.rd64 cnt + 1)
  { s1 with tsk := { s1.tsk with lastThr := SMap.set (fun _ => 3) s1.tsk.lastThr (i / 4) (i % 4),
                                 waits := if waits then i :: l else l } }

/-- The engine issues the next word of thread `i` (R260, R261, R269, R274), to the action `f` where that is the word of the command:
opcode `op` and the fields `w`. Nothing happens where the thread runs no task, is not in turn, or has another word next; a reserved
word, and word 0, is an OPCODE fault whatever the command names. -/
def State.fetch (s : State) (i op : Nat) (w : ActWord) (f : State → Thread → State) : State :=
  match s.thread i with
  | none => s
  | some x =>
    if !s.clockOn || !s.inTurn i then s
    else if x.pc = 0 ∨ badEnc (s.fetchWord x.pc) = true then (s.issued i false).engineFault i fltOpcode x.pc
    else if s.fetchWord x.pc = actBytesOf w op then f (s.issued i (x.mayWait op w)) x
    else s

/-- An action that is not END. A task that has executed its BUDGET of words without END faults. -/
def State.act (s : State) (i op : Nat) (w : ActWord) (f : State → Thread → ActRes) : State :=
  s.fetch i op w fun (s0 : State) (x : Thread) =>
    match f s0 { x with pc := (x.pc + 1) % 2 ^ 13, words := x.words + 1 } with
    | .error c => s0.engineFault i c x.pc
    | .ok (s1, y) =>
      let b := 16 * (((s1.taskOf y.desc).map (fun t => s1.get (TSK_CLASS_BUDGET t.cls))).getD 0)
      if b ≠ 0 ∧ b ≤ y.words then (s1.setThread i (some y)).engineFault i fltBudget y.pc else s1.setThread i (some y)

/-- Thread number of engine `e`, thread `t`. -/
def thr (e : Fin 16) (t : Fin 4) : Nat := 4 * e.val + t.val

/-- An action on registers only: D = f A b. -/
def State.alu (s : State) (e : Fin 16) (t : Fin 4) (op : Nat) (w : ActWord) (f : DWord → DWord → DWord) : State :=
  s.act (thr e t) op w (fun s x => .ok (s, x.setReg w.d (f (x.reg w.a) (x.opB w))))

/-- b[5:0], a shift count. -/
def shamt (b : DWord) : Nat := b.toNat % 64

def execAdd (e : Fin 16) (t : Fin 4) (w : ActWord) (s : State) : Out State := .next (s.alu e t 0x01 w (fun a b => a + b))
def execSub (e : Fin 16) (t : Fin 4) (w : ActWord) (s : State) : Out State := .next (s.alu e t 0x02 w (fun a b => a - b))
def execAnd (e : Fin 16) (t : Fin 4) (w : ActWord) (s : State) : Out State := .next (s.alu e t 0x03 w (fun a b => a &&& b))
def execOr (e : Fin 16) (t : Fin 4) (w : ActWord) (s : State) : Out State := .next (s.alu e t 0x04 w (fun a b => a ||| b))
def execXor (e : Fin 16) (t : Fin 4) (w : ActWord) (s : State) : Out State := .next (s.alu e t 0x05 w (fun a b => a ^^^ b))
def execShl (e : Fin 16) (t : Fin 4) (w : ActWord) (s : State) : Out State := .next (s.alu e t 0x06 w (fun a b => a <<< shamt b))
def execShr (e : Fin 16) (t : Fin 4) (w : ActWord) (s : State) : Out State := .next (s.alu e t 0x07 w (fun a b => a >>> shamt b))
def execSar (e : Fin 16) (t : Fin 4) (w : ActWord) (s : State) : Out State := .next (s.alu e t 0x08 w (fun a b => a.sshiftRight (shamt b)))

/-- LDH: the high half of D. -/
def execLdh (e : Fin 16) (t : Fin 4) (w : ActWord) (s : State) : Out State :=
  .next (s.act (thr e t) 0x09 w (fun s x => .ok (s, x.setReg w.d (w.imm ++ (x.reg w.d).setWidth 32))))

/-! ### Control -/

/-- COND of BR; none for the reserved code. -/
def brTaken (c : Nat) (a b : DWord) : Option Bool :=
  match c with
  | 0 => some true
  | 1 => some (decide (a = b))
  | 2 => some (decide (a ≠ b))
  | 3 => some (decide (a.toNat < b.toNat))
  | 4 => some (decide (b.toNat ≤ a.toNat))
  | 5 => some (decide (a.toInt < b.toInt))
  | 6 => some (decide (b.toInt ≤ a.toInt))
  | _ => none

def execBr (e : Fin 16) (t : Fin 4) (w : ActWord) (s : State) : Out State :=
  .next (s.act (thr e t) 0x10 w (fun s x =>
    if w.imm.toNat / 2 ^ 13 ≠ 0 then .error fltOpcode
    else match brTaken (w.x.toNat / 2 % 8) (x.reg w.a) (x.reg w.b) with
      | none => .error fltOpcode
      | some c => .ok (s, if c then { x with pc := w.imm.toNat } else x)))

def execCall (e : Fin 16) (t : Fin 4) (w : ActWord) (s : State) : Out State :=
  .next (s.act (thr e t) 0x11 w (fun s x =>
    if 8 ≤ x.stack.length then .error fltStack
    else .ok (s, { x with stack := x.pc :: x.stack, pc := w.imm.toNat % 2 ^ 13 })))

def execRet (e : Fin 16) (t : Fin 4) (w : ActWord) (s : State) : Out State :=
  .next (s.act (thr e t) 0x12 w (fun s x =>
    match x.stack with
    | [] => .error fltStack
    | a :: l => .ok (s, { x with stack := l, pc := a })))

def execNop (e : Fin 16) (t : Fin 4) (w : ActWord) (s : State) : Out State := .next (s.act (thr e t) 0x3E w (fun s x => .ok (s, x)))

/-! ### Local memory and the packet -/

/-- N of a load or store, 1 to 8; other codes of X are reserved. -/
def actN (w : ActWord) : Except Nat Nat := if w.x.toNat < 8 then .ok (w.x.toNat + 1) else .error fltOpcode

def execLdl (e : Fin 16) (t : Fin 4) (w : ActWord) (s : State) : Out State :=
  .next (s.act (thr e t) 0x18 w (fun s x => do
    let n ← actN w
    let b ← x.local_ (actAddr (x.reg w.a) (w.imm.toNat % 512)) n
    pure (s, x.setReg w.d (BitVec.ofNat 64 (leNum b)))))

def execStl (e : Fin 16) (t : Fin 4) (w : ActWord) (s : State) : Out State :=
  .next (s.act (thr e t) 0x19 w (fun s x => do
    let n ← actN w
    let y ← x.setLocal (actAddr (x.reg w.a) (w.imm.toNat % 512)) (leBytes n (x.reg w.b).toNat)
    pure (s, y)))

/-- The packet's bytes, where an access of `n` bytes at `a` lies within LEN (R271). -/
def Thread.packet (x : Thread) (a n : Nat) : Except Nat (List Byte) :=
  match x.pkt with
  | some b => if a + n ≤ b.length then .ok b else .error fltAddr
  | none => .error fltAddr

def execLdp (e : Fin 16) (t : Fin 4) (w : ActWord) (s : State) : Out State :=
  .next (s.act (thr e t) 0x1A w (fun s x => do
    let n ← actN w
    let a := actAddr (x.reg w.a) (w.imm.toNat % 65536)
    let b ← x.packet a n
    pure (s, x.setReg w.d (BitVec.ofNat 64 (beNum (part b a n))))))

def execStp (e : Fin 16) (t : Fin 4) (w : ActWord) (s : State) : Out State :=
  .next (s.act (thr e t) 0x1B w (fun s x => do
    let n ← actN w
    let a := actAddr (x.reg w.a) (w.imm.toNat % 65536)
    let b ← x.packet a n
    pure (s, { x with pkt := some (patch b a (beBytes n (x.reg w.b).toNat)) })))

/-- ADJ: remove bytes from the head or the tail, or add zero bytes there. -/
def Thread.adj (x : Thread) (tail : Bool) (n : Int) : Except Nat Thread :=
  match x.pkt with
  | none => .error fltAddr
  | some b =>
    let head := if tail then x.head else x.head - n
    let tl := if tail then x.tail - n else x.tail
    if (b.length : Int) < n ∨ 64 < head ∨ 64 < tl then .error fltAddr
    else
      let b2 := if tail then b.take (b.length - n.toNat) ++ List.replicate (-n).toNat 0
        else List.replicate (-n).toNat 0 ++ b.drop n.toNat
      .ok { x with pkt := some b2, head := head, tail := tl }.showLen

def execAdj (e : Fin 16) (t : Fin 4) (w : ActWord) (s : State) : Out State :=
  .next (s.act (thr e t) 0x1C w (fun s x => do
    let y ← x.adj (w.x.getLsbD 0) w.imm.toInt
    pure (s, y)))

/-! ### Tables (R271, R272) -/

def actTbl (w : ActWord) : Nat := w.x.toNat % 64

/-- Local places of key and result. -/
def keyOfs (w : ActWord) : Nat := w.imm.toNat % 512
def resOfs (w : ActWord) : Nat := w.imm.toNat / 2 ^ 16 % 512

/-- The table through which actions read the settings region, and the one for the plan templates (R285, R287, R301). -/
def State.settingsTable (s : State) : Option Nat :=
  (s.blk.bind (fun b => (mapWins b.memmap).find? (fun w => w.kind == 5 && w.table != 0))).map (·.table)

def State.planTable (s : State) : Option Nat :=
  (s.blk.bind (fun b => (mapRegs b.memmap).find? (fun w => w.kind == 9))).map (·.table)

/-- The settings region that the SETTINGS window shows, or the other one, in the magnetoresistive memory (R280, R302). -/
def State.settingsBase (s : State) (other : Bool) : Nat := 0xC00000 + (if s.upd.active != other then 0x100000 else 0)

/-- An action table of the kind the operation needs; the two above are read with TLD alone. -/
def State.actTable (s : State) (t kind : Nat) : Except Nat TblDef :=
  if s.settingsTable = some t ∨ s.planTable = some t then .error fltAddr
  else match s.tblDef t with
    | some d => if d.kind = kind then .ok d else .error fltAddr
    | none => .error fltAddr

/-- Entry A of a table that has it. -/
def State.actEntry (s : State) (t kind : Nat) (a : DWord) : Except Nat (TblDef × Nat) := do
  let d ← s.actTable t kind
  if a.toNat < d.n then pure (d, a.toNat * d.slot) else throw fltAddr

/-- What TLD reads: an entry of an indexed table, of the active settings region, or a template window (R295, R301). With the Thallus link
down the settings region cannot be read: a TABLE fault (R15, R274; DEDUCED, log entry 18). -/
def State.tldRead (s : State) (t : Nat) (a : DWord) : Except Nat (List Byte) :=
  let n := 8 * (Config.settingsEntry.toNat + 1)
  if s.settingsTable = some t then
    if !s.flag SYS_DIE_STAT_THL_UP then .error fltTable
    else if (a.toNat + 1) * n ≤ 1048576 then .ok (bytesGet zeroByte s.thal (s.settingsBase false + a.toNat * n) n) else .error fltAddr
  else if s.planTable = some t then
    match s.blk with
    | some b => if 16 * (a.toNat + 1) ≤ b.plantpl.length then .ok ((b.plantpl.drop (16 * a.toNat)).take 16) else .error fltAddr
    | none => .error fltAddr
  else do
    let (d, o) ← s.actEntry t 0 a
    pure (s.tblBytes t o d.ent)

def execTld (e : Fin 16) (t : Fin 4) (w : ActWord) (s : State) : Out State :=
  .next (s.act (thr e t) 0x20 w (fun s x => do
    let b ← s.tldRead (actTbl w) (x.reg w.a)
    let y ← x.setLocal (keyOfs w) b
    pure (s, y.setReg w.d 1)))

def execTst (e : Fin 16) (t : Fin 4) (w : ActWord) (s : State) : Out State :=
  .next (s.act (thr e t) 0x21 w (fun s x => do
    let (d, o) ← s.actEntry (actTbl w) 0 (x.reg w.a)
    let b ← x.local_ (keyOfs w) d.ent
    pure (s.tblPut (actTbl w) o b, x)))

/-- TLKP: the result on a hit. -/
def State.actFind (s : State) (w : ActWord) (x : Thread) : Except Nat (Option (List Byte)) :=
  if actTbl w < 2 then do
    let k ← x.local_ (keyOfs w) 48
    pure ((if actTbl w = 0 then s.wcLookup k else s.emLookup k).map (leBytes 16))
  else do
    let d ← s.actTable (actTbl w) 1
    let k ← x.local_ (keyOfs w) d.key
    pure ((s.hashFind (actTbl w) d k).map (fun i => s.tblBytes (actTbl w) (i * d.slot + (d.key + 7) / 8 * 8) d.ent))

def execTlkp (e : Fin 16) (t : Fin 4) (w : ActWord) (s : State) : Out State :=
  .next (s.act (thr e t) 0x22 w (fun s x => do
    match ← s.actFind w x with
    | some r => do
      let y ← x.setLocal (resOfs w) r
      pure (s, y.setReg w.d 1)
    | none => pure (s, x.setReg w.d 0)))

/-- The exact table's part of an action that failed with a code of R210: the status shows it as that of a command (R272). -/
def State.exactFail (s : State) (code : Nat) : State :=
  ((s.put PRS_TBL_STAT_ERR 1).put PRS_TBL_STAT_CODE code).raise PRS_EVT_TBL_ERR

/-- TINS: D is the code of R210: 0 done, 1 FULL; a result that breaks R211 is refused and changes nothing, with code 3
INVALID (R210 for the exact table; DEDUCED, log entry 18). -/
def State.actInsert (s : State) (w : ActWord) (x : Thread) : Except Nat (State × Nat) :=
  if actTbl w = 0 then .error fltAddr
  else if actTbl w = 1 then do
    let k ← x.local_ (keyOfs w) 48
    let r ← x.local_ (resOfs w) 16
    if resInvalid (leNum r) then pure (s.exactFail 3, 3)
    else match s.emInsert (s.emKey k) (leNum r) with
      | (s1, true) => pure (s1, 0)
      | (s1, false) => pure (s1.exactFail 1, 1)
  else do
    let d ← s.actTable (actTbl w) 1
    let k ← x.local_ (keyOfs w) d.key
    let r ← x.local_ (resOfs w) d.ent
    match s.hashFind (actTbl w) d k with
    | some i => pure (s.hashPut (actTbl w) d i k r, 0)
    | none => (match s.hashFree (actTbl w) d k with
      | some i => pure (s.hashPut (actTbl w) d i k r, 0)
      | none => pure (s, 1))

def execTins (e : Fin 16) (t : Fin 4) (w : ActWord) (s : State) : Out State :=
  .next (s.act (thr e t) 0x23 w (fun s x => do
    let (s1, c) ← s.actInsert w x
    pure (s1, x.setReg w.d (BitVec.ofNat 64 c))))

/-- TDEL: D = 0 done, 2 NOT_FOUND. -/
def State.actDelete (s : State) (w : ActWord) (x : Thread) : Except Nat (State × Nat) :=
  if actTbl w = 0 then .error fltAddr
  else if actTbl w = 1 then do
    let k ← x.local_ (keyOfs w) 48
    match s.emFind (s.emKey k) with
    | some (i, _) => pure (s.emSet i none, 0)
    | none => pure (s.exactFail 2, 2)
  else do
    let d ← s.actTable (actTbl w) 1
    let k ← x.local_ (keyOfs w) d.key
    match s.hashFind (actTbl w) d k with
    | some i => pure (s.hashDel (actTbl w) d i, 0)
    | none => pure (s, 2)

def execTdel (e : Fin 16) (t : Fin 4) (w : ActWord) (s : State) : Out State :=
  .next (s.act (thr e t) 0x24 w (fun s x => do
    let (s1, c) ← s.actDelete w x
    pure (s1, x.setReg w.d (BitVec.ofNat 64 c))))

def execCadd (e : Fin 16) (t : Fin 4) (w : ActWord) (s : State) : Out State :=
  .next (s.act (thr e t) 0x28 w (fun s x => do
    let (_, o) ← s.actEntry (actTbl w) 2 (x.reg w.a)
    let old := leNum (s.tblBytes (actTbl w) o 8)
    pure (s.tblPut (actTbl w) o (leBytes 8 (old + (x.reg w.b).toNat)), x.setReg w.d (BitVec.ofNat 64 old))))

def execCswp (e : Fin 16) (t : Fin 4) (w : ActWord) (s : State) : Out State :=
  .next (s.act (thr e t) 0x29 w (fun s x => do
    let (_, o) ← s.actEntry (actTbl w) 2 (x.reg w.a)
    let old := leNum (s.tblBytes (actTbl w) o 8)
    let s1 := if old = (x.reg w.d).toNat then s.tblPut (actTbl w) o (leBytes 8 (x.reg w.b).toNat) else s
    pure (s1, x.setReg w.d (BitVec.ofNat 64 old))))

/-! ### Packets, tasks, timers, contexts, time -/

/-- PNEW: a size outside 1 to 9,600 breaks its limit as a second packet does (R270, R271; DEDUCED, log entry 18). -/
def execPnew (e : Fin 16) (t : Fin 4) (w : ActWord) (s : State) : Out State :=
  .next (s.act (thr e t) 0x30 w (fun s x =>
    let n := w.imm.toNat % 2 ^ 14
    if x.pkt.isSome ∨ n = 0 ∨ 9600 < n then .error fltAddr
    else match s.alloc ownGge n (List.replicate n 0) with
      | (s1, some id) => .ok (s1, ({ x with pkt := some (List.replicate n 0), made := some id }.showLen).setReg w.d 1)
      | (s1, none) => .ok (s1, x.setReg w.d 0)))

def execSpawn (e : Fin 16) (t : Fin 4) (w : ActWord) (s : State) : Out State :=
  .next (s.act (thr e t) 0x31 w (fun s x =>
    let c := w.x.toNat % 32
    if s.canQueue srcSpawn c then .ok (s.queueTask srcSpawn c (x.reg w.a) (x.reg w.b) none, x.setReg w.d 1)
    else .ok (s.refused srcSpawn c none, x.setReg w.d 0)))

/-- TMR: the timer fires at the first tick boundary of the reference at or after its delay (R273). -/
def execTmr (e : Fin 16) (t : Fin 4) (w : ActWord) (s : State) : Out State :=
  .next (s.act (thr e t) 0x32 w (fun s x =>
    let n := w.imm.toNat % 256
    let a := (x.reg w.a).toNat
    let tm := s.timer n
    let v : Timer := if a = 0 then { tm with at_ := none }
      else { tm with at_ := some ((s.ref + 125 * a + 124) / 125 * 125), cls := w.x.toNat % 32, arg0 := x.reg w.b }
    .ok (s.setTimer n v, x)))

/-- AID and offset of a context access (R271). -/
def ctxPlace (x : Thread) (w : ActWord) : Except Nat (Nat × Nat) :=
  let a := (x.reg w.a).toNat
  let o := w.imm.toNat % 256
  if 1 ≤ a ∧ a ≤ 8191 ∧ o % 8 = 0 then .ok (a, o) else .error fltAddr

def execCtxr (e : Fin 16) (t : Fin 4) (w : ActWord) (s : State) : Out State :=
  .next (s.act (thr e t) 0x33 w (fun s x => do
    let (a, o) ← ctxPlace x w
    pure (s.cacheTouch a, x.setReg w.d (BitVec.ofNat 64 (s.cx a o 8)))))

/-- The bits of context byte `i` that CTXW writes: the H fields and DSTAT.WUR_MODE. -/
def ctxwMask (i : Nat) : Nat :=
  if i = 11 then 2
  else (hFields.find? (fun f => decide (f.1 ≤ i ∧ i < f.1 + f.2.1))).elim 0 (fun f => f.2.2 / 256 ^ (i - f.1) % 256)

/-- CTXW: a context that enters ASSOC does so as by a host write, a write that sets WUR_MODE clears WOKE (R123), and SLOW follows
LINKS (R144). -/
def State.ctxw (s : State) (a o : Nat) (v : DWord) : State :=
  let was := s.cxState a
  let s1 := (List.range 8).foldl (fun s i =>
    let m := ctxwMask (o + i)
    let old := s.cx a (o + i) 1
    s.cxSet a (o + i) 1 (Nat.lor (Nat.land old (255 - m)) (Nat.land (v.toNat / 256 ^ i % 256) m))) s
  let s2 := if o = 8 ∧ v.toNat / 2 ^ 25 % 2 = 1 then s1.cxPutBit a 11 4 false else s1
  let s3 := if s2.cxState a = 0 then s2 else (s2.cxSet a 0 2 a).rxFlags a
  if was ≠ 1 ∧ s3.cxState a = 1 then s3.enterAssoc a else s3

def execCtxw (e : Fin 16) (t : Fin 4) (w : ActWord) (s : State) : Out State :=
  .next (s.act (thr e t) 0x34 w (fun s x => do
    let (a, o) ← ctxPlace x w
    pure ((s.cacheTouch a).ctxw a o (x.reg w.b), x)))

/-- TIME: the tick, packed, or with WIDE the wide time; with no time held it is a free value (log entry 4). -/
def State.timeNow (s : State) (wide : Bool) : DWord :=
  if wide then
    (if s.spn.hasTime then BitVec.ofNat 64 (s.wideNs % 1000000000 + 2 ^ 32 * (s.wideNs / 1000000000 % 2 ^ 32))
     else Config.tickNoTime s.ref)
  else BitVec.ofNat 64 s.stampTick

def execTime (e : Fin 16) (t : Fin 4) (w : ActWord) (s : State) : Out State :=
  .next (s.act (thr e t) 0x35 w (fun s x => .ok (s, x.setReg w.d (s.timeNow (w.x.getLsbD 0)))))

def execTrace (e : Fin 16) (t : Fin 4) (w : ActWord) (s : State) : Out State :=
  .next (s.act (thr e t) 0x3C w (fun s x =>
    .ok (match s.taskOf x.desc with
      | some k => s.trace [⟨7, whereOf (thr e t), k.cls, k.src, (x.reg w.a).toNat % 2 ^ 32⟩]
      | none => s, x)))

/-! ### END (R271) -/

/-- A valid output entry read from local memory; an entry whose VALID is clear is none. -/
def outEntry (loc : List Byte) (k : Nat) : Except Nat (Option Output) :=
  let at_ := fun o n => leNum (part loc (0x90 + 8 * k + o) n)
  let port := at_ 0 1 % 16
  let q := at_ 1 1
  if at_ 0 1 < 128 then .ok none
  else if at_ 0 1 / 16 % 8 ≠ 0 ∨ 7 ≤ port ∨ (port = 2 ∧ 32 ≤ q) ∨ (port = 3 ∧ 9 ≤ q) ∨ (port = 6 ∧ 3 ≤ q) then .error fltAddr
  else
    let dst := at_ 2 2
    let f := dst % 512
    if port = 6 ∧ 512 < f + 6 then .error fltAddr
    else .ok (some { port := port, queue := q, dst := dst, txw := if port ≤ 1 then at_ 4 4 else 0,
                     fdst := if port = 6 then leNum (part loc f 6) else 0 })

def outEntries (loc : List Byte) : Except Nat (List Output) := do
  let a ← outEntry loc 0
  let b ← outEntry loc 1
  let c ← outEntry loc 2
  let d ← outEntry loc 3
  pure (a.toList ++ b.toList ++ c.toList ++ d.toList)

/-- A packet task completes: packet and outputs take effect together. Where no buffer is free for a longer packet, the
packet is dropped (the spec gives no other outcome; DESIGN CHOICE, log entry 18). -/
def State.endPacket (s : State) (q : Nat) (b : List Byte) (outs : List Output) : State :=
  match s.slotOf? q with
  | some x =>
    if s.liveSlot q then
      match s.refit ownRob x.pkt.chain b with
      | (s1, ok) =>
        let o := if ok then outs else []
        s1.mapSlot q (fun y => { y with st := if o = [] then .dropped else .done, outs := o })
    else s.bump ROB_CNT_LATE
  | none => s.bump ROB_CNT_LATE

/-- A packet made by PNEW goes to the loop queue. -/
def State.endMade (s : State) (id : Nat) (b : List Byte) : State :=
  match s.refit ownGge id b with
  | (s1, false) => s1.release id ownGge
  | (s1, true) => (match s1.loopOffer { chain := id, src := 4, port := 0, bytes := b } with
    | (s2, true) => s2.moveRef id ownGge ownRob
    | (s2, false) => s2.release id ownGge)

/-- END on thread `i`. -/
def State.endThread (s : State) (i : Nat) (x : Thread) (outs : List Output) : State :=
  match s.taskOf x.desc with
  | none => s.setThread i none
  | some t =>
    let s1 := ((s.setThread i none).bump (GGE_CNT_TASK (i / 4))).bump TSK_CNT_TASK
    let s2 := (s1.freeTask t.desc).trace [t.ev 2 (whereOf i) 0]
    match t.slot, x.made with
    | some q, _ => s2.endPacket q (x.pkt.getD []) outs
    | none, some id => s2.endMade id (x.pkt.getD [])
    | none, none => s2

/-- END: with DROP every output is made invalid first. -/
def State.opEnd (s : State) (i : Nat) (w : ActWord) : State :=
  s.fetch i 0x3F w fun (s0 : State) (x : Thread) =>
    if w.x.getLsbD 0 then s0.endThread i x []
    else match outEntries x.loc with
      | .error c => s0.engineFault i c x.pc
      | .ok outs => s0.endThread i x outs

def execEndTask (e : Fin 16) (t : Fin 4) (w : ActWord) (s : State) : Out State := .next (s.opEnd (thr e t) w)

end Sys2Proof.Machine
end

