-- ==== Sys2Proof/Machine/Load.lean ====
section
/-! DEFINITION. Taking a blank into use: the loading order of R298, the settings region of R302 (spec/13_blank_image.md). -/

namespace Sys2Proof.Machine

/-! ### Image slots (R280, R304) -/

def slotBase (b : Bool) : Nat := if b then 0x600000 else 0

def Journal.slot (j : Journal) (b : Bool) : ImgSlot := if b then j.slotB else j.slotA

def Journal.setSlot (j : Journal) (b : Bool) (v : ImgSlot) : Journal := if b then { j with slotB := v } else { j with slotA := v }

/-- The slot in a state, A first. -/
def Journal.find (j : Journal) (v : ImgSlot) : Option Bool :=
  if j.slotA = v then some false else if j.slotB = v then some true else none

def State.slotBytes (s : State) (b : Bool) (ofs n : Nat) : List Byte := bytesGet zeroByte s.thal (slotBase b + ofs) n

/-- The image that a slot holds: TOTAL bytes by its header, at least the header itself. -/
def State.slotImage (s : State) (b : Bool) : List Byte :=
  s.slotBytes b 0 (max 64 (min 6291456 (leNum (s.slotBytes b 8 4))))

/-! ### The settings region (R299, R302) -/

def regionAt (i : Bool) : Nat := if i then 0xD00000 else 0xC00000

def State.regHead (s : State) (i : Bool) (ofs n : Nat) : Nat := leGet zeroByte s.thal (regionAt i + ofs) n

/-- A region is valid: MAGIC, HCRC and SFMT. -/
def State.regValid (s : State) (i : Bool) : Bool :=
  decide (s.regHead i 0 4 = 0x53574744) && decide (s.regHead i 4 1 ≠ 0) &&
    decide (s.regHead i 12 4 = crc32c (bytesGet zeroByte s.thal (regionAt i) 12))

/-- Step 1: the valid region of a format, the one with the higher GEN, region 0 at equal GEN. -/
def State.regMatch (s : State) (f : Nat) : Option Bool :=
  let ok := fun (i : Bool) => s.regValid i && decide (s.regHead i 4 1 = f)
  if ok false && ok true then some (decide (s.regHead false 8 4 < s.regHead true 8 4))
  else if ok false then some false else if ok true then some true else none

/-- The free region: not the active region of the last confirmed image; region 0 where there is no such region. -/
def State.freeRegion (s : State) : Bool :=
  match s.jrn.find .confirmed with
  | some b =>
    match s.regMatch (leNum (s.slotBytes b 25 1)) with
    | some r => !r
    | none => false
  | none => false

/-- The free region is claimed for a format: the listed header fields are written, the reserved bytes stay. -/
def State.claimRegion (s : State) (f : Nat) : State × Bool :=
  let r := s.freeRegion
  let gens := [false, true].filter (fun i => s.regValid i)
  let g := if gens = [] then 1 else ((gens.map (fun i => s.regHead i 8 4)).foldl max 0 + 1) % 2 ^ 32
  let t1 := leSet zeroByte (leSet zeroByte (leSet zeroByte s.thal (regionAt r) 4 0x53574744) (regionAt r + 4) 1 f)
    (regionAt r + 8) 4 g
  let t2 := leSet zeroByte t1 (regionAt r + 12) 4 (crc32c (bytesGet zeroByte t1 (regionAt r) 12))
  ({ s with thal := leSet zeroByte t2 (regionAt r + 16) 4 0 }, r)

/-- R302: select or claim the active region. -/
def State.selectSettings (s : State) (f : Nat) : State :=
  let (s1, r) := match s.regMatch f with
    | some r => (s, r)
    | none => s.claimRegion f
  { s1 with upd := { s1.upd with active := r, freeOther := s1.freeRegion == !r } }

/-! ### The steps of R298 -/

/-- BASE of the window of a kind; 0 without one. -/
def winStart (b : Blank) (k : Nat) : Nat := (((mapWins b.memmap).find? (fun w => w.kind == k)).map (·.base)).getD 0

/-- BASE of a region, MiB; 0 without one. -/
def regStart (b : Blank) (k : Nat) : Nat := ((regionOf b.memmap k).map (·.1)).getD 0

/-- Step 1: mapping order, regions, Chuck's free lists; regions are zeroed at a boot that is no turnover. -/
def State.loadMap (s : State) (b : Blank) (tov : Bool) : State :=
  let cnt := num b.memmap 8 4
  let s1 := (s.put DMC_MAP_ORDER (num b.memmap 0 1 % 4)).put DMC_MAP_SET 1
  let s2 := (s1.wr MLK_REGION (BitVec.ofNat 32 (regStart b 2))).wr CLU_DIR_BASE (BitVec.ofNat 32 (regStart b 4))
  let s3 := (s2.wr CHK_DRAM_CNT (BitVec.ofNat 32 cnt)).wr CHK_FREE_DRAM (BitVec.ofNat 32 (cnt - (s.usedIdx false).length))
  let s4 := s3.put CHK_STAT_READY 1
  let s5 := { s4 with jrn := { s4.jrn with train := s4.jrn.train.map (fun t => { t with order := num b.memmap 0 1 % 4 }) } }
  if tov then s5
  else { s5 with ctx := [], mlk := [], mlkx := {}, prs := { s5.prs with em := [] }, clu := { s5.clu with dir := [], devs := [] },
                 tsk := { s5.tsk with tables := [] } }

/-- Step 2: the PARSE section, with the windows of step 1 (R288). -/
def State.loadParse (s : State) (b : Blank) : State :=
  let base := winStart b 0
  let s1 := ((((s.wr PRS_TBL_BASE (BitVec.ofNat 32 base)).wr ACC_WIN_BASE (BitVec.ofNat 32 (winStart b 1))).wr TSK_TRC_BASE
    (BitVec.ofNat 32 (winStart b 2))).wr CLU_PLAN_BASE (BitVec.ofNat 32 (winStart b 3)))
  let s2 := s1.memPut (base * 0x10000) (b.parse.take 0xC000)
  let s3 := (List.range 16).foldl (fun (s : State) p => s.wr64 (PRS_HPROF_LO p) (num b.parse (0xC000 + 8 * p) 8)) s2
  (s3.wr64 PRS_EM_MASK_LO (num b.parse 0xC080 8 % 2 ^ 48)).put ROB_CFG_FLOW_BITS (num b.parse 0xC088 1 % 16)

/-- Step 4: programs go into PROGCOPY and every action store, which is then reloaded (R276, R290); classes are shown. -/
def State.loadPrograms (s : State) (b : Blank) : State :=
  let s0 := { s with tsk := { s.tsk with store := b.programs } }
  let s1 := (List.range 32).foldl (fun (s : State) c => s.wr (TSK_CLASS c) (BitVec.ofNat 32 (num b.classes (8 * c) 4))) s0
  (List.range 16).foldl (fun (s : State) e => s.put (GGE_STAT_STATE e) 3) s1

/-- An address lies in a radio's program memory. -/
def inProg (r a : Nat) : Bool := decide (progAddr r 0 ≤ a ∧ a < progAddr r 0 + 0x8000)

/-- HALT into every operation but those that `keep` names: the generated region is left as it is (R294). -/
def State.haltProg (s : State) (r : Nat) (keep : Nat → Bool) : State :=
  { s with bar := s.bar.filter (fun c => !(inProg r c.1) || keep ((c.1 - progAddr r 0) / 8)) }

def State.putRec (s : State) (x : SeqRec) : State := s.memPut (progAddr x.radio x.first) x.ops.flatten

def radioRecs (b : Blank) (r : Nat) : List SeqRec := (recsOr b.seqprog).filter (fun x => x.radio == r)

/-- The first words of each half of the generated region, as R113 leaves a half that is not ready (R294). -/
def State.loadHalves (s : State) (b : Blank) (r : Nat) : State :=
  let p := radioRec b.radio r
  let half := num p 8 2 % 4096
  let main := num p 2 2 % 4096
  if half = 0 then s
  else [0, half].foldl (fun (s : State) o =>
    (s.memSet (progAddr r (num p 6 2 % 4096 + o)) 8 wSync).memSet (progAddr r (num p 6 2 % 4096 + o + 1)) 8 (wJump main)) s

/-- Step 5 for one radio; while its pair coasts under the blank `old`, the coast program and SEQ_COAST stay. -/
def State.loadRadio (s : State) (b : Blank) (old : Option Blank) (r : Fin 3) : State :=
  let p := radioRec b.radio r.val
  let s1 := ((s.put (FRN_CTL_AUTO_RST r) (num p 0 1 / 8 % 2)).put (FRN_SEQ_ENTRY_MAIN r) (num p 2 2 % 4096)).put
    (ACC_GEN_CFG_BASE r) (num p 6 2 % 4096)
  let s2 := s1.put (ACC_GEN_CFG_HALF r) (num p 8 2 % 4096)
  let g := genRegion p
  let mine := fun (a : Nat) => decide (g.1 ≤ a ∧ a < g.1 + g.2)
  match old with
  | none =>
    (((radioRecs b r).foldl State.putRec (s2.haltProg r mine)).loadHalves b r).put (FRN_SEQ_ENTRY_COAST r)
      (num p 4 2 % 4096)
  | some o =>
    let s3 := s2.haltProg r (fun a => mine a || (radioRecs o r).any (fun x => x.coast && x.holds a))
    let s4 := (((radioRecs b r).filter (fun x => !x.coast)).foldl State.putRec s3).loadHalves b r
    { s4 with upd := { s4.upd with coastLoad := r :: s4.upd.coastLoad } }

/-- COAST records and SEQ_COAST, at the turn start at which coasting ends. -/
def State.loadCoast (s : State) (r : Fin 3) : State :=
  match s.blk with
  | some b =>
    if s.upd.coastLoad.contains r && decide (s.seqSt r ≠ 2) then
      let p := radioRec b.radio r.val
      let g := genRegion p
      let s1 := s.haltProg r (fun a => decide (g.1 ≤ a ∧ a < g.1 + g.2) || (radioRecs b r).any (fun x => !x.coast && x.holds a))
      let s2 := ((radioRecs b r).filter (·.coast)).foldl State.putRec s1
      { s2.put (FRN_SEQ_ENTRY_COAST r) (num p 4 2 % 4096) with
        upd := { s2.upd with coastLoad := s2.upd.coastLoad.filter (· != r) } }
    else s
  | none => s

/-- COAST_END; the pair that is left halted by its coast limit takes its COAST records there too. -/
def execCoastEnd (r : Fin 3) (ecc : Ecc) (s : State) : Out State := .next ((s.coastEnd r ecc).loadCoast r)

/-- ACC_UP_CFG.RADIO: the radio with STA, 3 when there is none (R292). -/
def staRadio (b : Blank) : Nat :=
  (((List.range 3).find? (fun r => decide (num (radioRec b.radio r) 0 1 / 2 % 2 = 1)))).getD 3

/-- Step 6: starting plans, armed for the turn one above the spindle's (R295). -/
def State.startPlans (s : State) (b : Blank) : State :=
  ((planTpls b.plantpl).getD []).foldl (fun (s : State) t =>
    (List.finRange 3).foldl (fun (s : State) (r : Fin 3) =>
      if t.initial / 2 ^ r.val % 2 = 1 then
        (s.memPut (s.bankAddr r false) t.wins.flatten).armBank r false (t.len + 1) (s.turn + 1)
      else s) s) s

/-- Step 7: address, role, spindle mode; the backbone port is read from the blank (R282, R25). -/
def State.loadIdentity (s : State) (b : Blank) : State :=
  let set := decide (num b.hdr 24 1 / 4 % 2 = 1)
  let s1 := (s.put SYS_ADDR_CID (num b.hdr 28 2)).put SYS_ADDR_DID (num b.hdr 30 1 % 32)
  let s2 := (s1.put SYS_ROLE_ROLE (if set then num b.hdr 24 1 % 4 else s.get SYS_STRAP_ROLE)).putB SYS_ROLE_SRC set
  s2.put SPN_CTL_MODE (num b.hdr 27 1 % 2)

/-- R298 whole. `tov`: at a turnover, from the blank `old`, whose coast program runs on the pairs that coast. -/
def State.loadBlank (s : State) (b : Blank) (old : Option Blank) : State :=
  let tov := old.isSome
  let s1 := ({ s with blk := some b }).loadMap b tov
  let s2 := (s1.loadParse b).loadPrograms b
  let s3 := (List.finRange 3).foldl (fun (s : State) (r : Fin 3) => s.loadRadio b (if s.seqSt r = 2 then old else none) r) s2
  let s4 := (s3.put ACC_UP_CFG_RADIO (staRadio b)).upMerge
  let s5 := (if tov then s4 else s4.startPlans b).selectSettings (num b.hdr 25 1)
  let s6 := s5.loadIdentity b
  let s7 := ((s6.wr UPD_RUN_ID (BitVec.ofNat 32 (num b.hdr 12 4))).wr UPD_RUN_VER (BitVec.ofNat 32 (num b.hdr 16 4))).put
    UPD_STAT_UP 1
  { s7.put HIF_STAT_PHASE 3 with upd := { s7.upd with runAt := s7.ref } }

end Sys2Proof.Machine
end

