-- ==== Sys2Proof/Machine/Hif.lean ====
section
/-! DEFINITION. The host's queues: receive delivery and exhaustion, the transmit rings, ring configuration, host-memory
errors, link loss, Function Level Reset and the heartbeat (spec/20_host_interface.md R398 to R408). -/

namespace Sys2Proof.Machine

/-! ### Receive delivery (R399, R401, R402) -/

/-- A run of bytes cut into buffers of `n` bytes. -/
def chunks (n : Nat) : Nat → List Byte → List (List Byte)
  | 0, _ => []
  | k + 1, b => b.take n :: chunks n k (b.drop n)

/-- Bytes 8 to 63 of the descriptor that completes buffer `i` of `k`. -/
def rxDescBytes (w : HostOut) (i k : Nat) (c : List Byte) : List Byte :=
  let fl := 1 + (if i = 0 then 2 else 0) + (if i + 1 = k then 4 else 0) + (if w.exc.isSome then 16 else 0)
  leBytes 2 c.length ++ [BitVec.ofNat 8 fl, BitVec.ofNat 8 (w.exc.getD 0)] ++ leBytes 4 w.seq ++ leBytes 4 w.tag ++
    leBytes 2 (if i = 0 then w.bytes.length else 0) ++ List.replicate 10 0 ++ w.status

/-- The packet's data are written first, then the descriptors that complete it (R397). -/
def State.rxWrites (s : State) (w : HostOut) (addrs : List (BitVec 64)) (k head : Nat) : State :=
  let cs := (chunks (s.bufSize w.q) k w.bytes).zipIdx
  let s1 := cs.foldl (fun s c => s.emit (.hostWrite (addrs.getD c.2 0).toNat c.1)) s
  cs.foldl (fun s c => s.emit (.hostWrite (s.rd64 (HIF_Q_RX_BASE_LO w.q) + 64 * ((head + c.2) % s.rxSize w.q) + 8)
    (rxDescBytes w c.2 k c.1))) s1

/-- HOST_RX_DELIVERY: the first output of a queue pair that has its descriptors is written; `addrs` are the buffer addresses
of the descriptors from HEAD on, as they stand in host memory. -/
def State.rxDeliver (s : State) (q : Nat) (addrs : List (BitVec 64)) : State :=
  match s.hif.wait.find? (fun w => w.q == q && w.held.isNone) with
  | none => s
  | some w =>
    let k := s.needs q w.bytes.length
    let head := s.rxHead q
    let s1 := { s with hif := { s.hif with wait := s.hif.wait.erase w } }
    let s2 := (s1.rxWrites w addrs k head).wr (HIF_Q_RX_HEAD q) (BitVec.ofNat 32 ((head + k) % s.rxSize q))
    (s2.release w.chain ownHif).complete q false

def execHostRxDelivery (q : Fin 32) (addrs : List (BitVec 64)) (s : State) : Out State :=
  .next (s.clocked fun (s : State) => s.rxDeliver q addrs)

/-- Outputs that wait for a ring are dropped as under HOLD 0, and the flows they held go on. -/
def State.dropWaiting (s : State) (p : HostOut → Bool) : State :=
  let gone := s.hif.wait.filter p
  let s1 := { s with hif := { s.hif with wait := s.hif.wait.filter (fun w => !p w) } }
  (gone.foldl (fun s w => s.noDesc.release w.chain ownHif) s1).robFinish

/-- RX_HOLD_TIMEOUT: the first held output of a queue pair has waited HOLD µs. -/
def State.rxHoldTmo (s : State) (q : Nat) : State :=
  match s.hif.wait.find? (fun w => w.q == q && w.held.isSome) with
  | none => s
  | some w =>
    let s1 := s.toRef (w.held.getD 0 + 2000 * atLeast1 ((s.rd (HIF_Q_HOLD q)).toNat % 65536))
    let s2 := { s1 with hif := { s1.hif with wait := s1.hif.wait.erase w } }
    (((s2.bump HIF_CNT_RX_HOLD_TMO).raise HIF_EVT_RX_HOLD_TMO).release w.chain ownHif).robFinish

def execRxHoldTimeout (q : Fin 32) (s : State) : Out State := .next (s.clocked fun (s : State) => s.rxHoldTmo q)

/-- RX_TAIL_WRITE: posted descriptors go to the outputs held for them first. -/
def State.rxTail (s : State) (q : Nat) (v : Nat) : State :=
  ((s.wr (HIF_Q_RX_TAIL q) (BitVec.ofNat 32 (v % 2 ^ 15))).serveHeld q).robFinish

def execRxTailWrite (q : Fin 32) (v : BitVec 15) (s : State) : Out State :=
  .next (s.hostAt none (HIF_Q_RX_TAIL q) fun (s : State) => s.rxTail q v.toNat)

/-- TX_TAIL_WRITE. -/
def State.txTail (s : State) (q : Nat) (v : Nat) : State := (s.wr (HIF_Q_TX_TAIL q) (BitVec.ofNat 32 (v % 2 ^ 15))).busyNow

def execTxTailWrite (q : Fin 32) (v : BitVec 15) (s : State) : Out State :=
  .next (s.hostAt none (HIF_Q_TX_TAIL q) fun (s : State) => s.txTail q v.toNat)

/-! ### Ring configuration (R398) -/

/-- A receive ring is disabled: HEAD comes to equal TAIL, and what waits for the ring is dropped. -/
def State.rxOff (s : State) (q : Nat) : State :=
  ((s.put (HIF_Q_CFG_RX_EN q) 0).wr (HIF_Q_RX_HEAD q) (s.rd (HIF_Q_RX_TAIL q))).dropWaiting (fun w => w.q == q)

def State.txOff (s : State) (q : Nat) : State :=
  (({ s with hif := { s.hif with stalled := s.hif.stalled.filter (· != q) } }).put (HIF_Q_CFG_TX_EN q) 0).wr (HIF_Q_TX_HEAD q)
    (s.rd (HIF_Q_TX_TAIL q))

/-- QUEUE_CFG_WRITE: sizes change only while their ring's EN is 0, EN takes a 1 only while SERVING, and a ring that is
disabled gives its descriptors back. -/
def State.queueCfg (s : State) (q : Nat) (v : Word) : State :=
  let old := s.rd (HIF_Q_CFG q)
  let rx := old.getLsbD 0
  let tx := old.getLsbD 1
  let serving := decide (s.get HIF_STAT_PHASE = 3)
  let keep := (if rx then 0x0007F0F0#32 else 0#32) ||| (if tx then 0x00000F00#32 else 0#32) |||
    (if rx || serving then 0#32 else 1#32) ||| (if tx || serving then 0#32 else 2#32)
  let w := ((v &&& ~~~keep) ||| (old &&& keep)) &&& 0xFFF7FFF7
  let s1 := s.wr (HIF_Q_CFG q) w
  let s2 := if rx && !w.getLsbD 0 then s1.rxOff q else s1
  if tx && !w.getLsbD 1 then s2.txOff q else s2

def execQueueCfgWrite (q : Fin 32) (v : Word) (s : State) : Out State :=
  .next (s.hostAt none (HIF_Q_CFG q) fun (s : State) => s.queueCfg q v)

/-! ### Transmit (R403, R404) -/

/-- The chain at the head of a ring: up to and including its EOP, at most 16 descriptors; none while it is not complete. -/
def txChain : Nat → List TxDesc → Option (List TxDesc)
  | 0, _ => some []
  | _ + 1, [] => none
  | n + 1, d :: t => if d.flags.getLsbD 1 then some [d] else (txChain n t).map (d :: ·)

def txLen (c : List TxDesc) : Nat := (c.map (fun d => d.len.toNat)).sum

/-- The chain is malformed (R404). -/
def txBad (c : List TxDesc) : Bool :=
  (match c with
   | [] => true
   | d :: t => !d.flags.getLsbD 0 || t.any (fun e => e.flags.getLsbD 0)) ||
  !((c.getLast?).map (fun d => d.flags.getLsbD 1)).getD false ||
  decide (txLen c = 0 ∨ 9600 < txLen c) || c.any (fun d => d.res || decide (16 ≤ d.flags.toNat))

/-- The frame's bytes. -/
def txData (c : List TxDesc) : List Byte :=
  c.flatMap (fun d => d.data.take d.len.toNat ++ List.replicate (d.len.toNat - d.data.length) 0)

/-- Descriptors from TX_HEAD on are completed with their flags and DONE, and ERR where the frame failed; SEQ goes to the
first. -/
def State.txBack (s : State) (q : Nat) (flags : List Byte) (err : Bool) (seq : Option Nat) : State :=
  let head := s.txHead q
  let n := s.txSize q
  let at_ := fun i => s.rd64 (HIF_Q_TX_BASE_LO q) + 32 * ((head + i) % n)
  let s1 := match seq with
    | some v => s.emit (.hostWrite (at_ 0 + 16) (leBytes 4 v))
    | none => s
  let s2 := flags.zipIdx.foldl (fun s f => s.emit (.hostWrite (at_ f.2 + 10) [f.1 ||| 4 ||| (if err then 8 else 0)])) s1
  (s2.wr (HIF_Q_TX_HEAD q) (BitVec.ofNat 32 ((head + flags.length) % n))).busyNow.complete q true

/-- The transmit ring that is read next: round robin over the enabled ones that hold descriptors. -/
def State.txTurn (s : State) : Option Nat :=
  roundRobin s.hif.lastTx ((List.range 32).filter (fun q => s.flag (HIF_Q_CFG_TX_EN q) && decide (s.txd q ≠ 0)))

/-- TX_RING_READ: `descs` are the descriptors of the ring that is next, from its TX_HEAD on, with their buffers. The device
waits while Chuck grants no buffers, the parser takes no packets, or the chain is not complete; one that waits for a slot counts
once (R201). -/
def State.txRing (s : State) (descs : List TxDesc) : State :=
  match (if s.serving then s.txTurn else none) with
  | none => s
  | some q =>
    match txChain 16 (descs.take (s.txd q)) with
    | none => s
    | some c =>
      let s0 := { s with hif := { s.hif with lastTx := q, stalled := s.hif.stalled.filter (· != q) } }
      if txBad c then ((s0.bump HIF_CNT_TX_BAD).raise HIF_EVT_TX_BAD).txBack q (c.map (·.flags)) true none
      else if s.flag PRS_CTL_EN && decide (8192 ≤ s.prs.slots.length) then
        if s.hif.stalled.contains q then s
        else (({ s with hif := { s.hif with stalled := q :: s.hif.stalled } }).bump ROB_CNT_STALL).raise ROB_EVT_STALL
      else match s0.alloc ownHif (txLen c) (txData c) with
        | (s1, none) => { s1 with hif := s.hif }
        | (s1, some id) =>
          let d := c.headD ⟨0, 0, false, 0, 0, []⟩
          let k : Packet := { chain := id, src := 2, port := q, txword := d.txword, tagw := d.tag, bytes := txData c }
          if s1.flag PRS_CTL_EN then
            (s1.enter k).txBack q (c.map (·.flags)) false (some (s1.rd ROB_SEQ).toNat)
          else (((s1.bump PRS_CNT_DROP).release id ownHif).drawn).txBack q (c.map (·.flags)) false (some (s1.draw % 2 ^ 32))

def execTxRingRead (descs : List TxDesc) (s : State) : Out State := .next (s.clocked fun (s : State) => s.txRing descs)

/-! ### Errors, resets and the heartbeat (R407, R408) -/

/-- DMA_ERROR. -/
def State.dmaError (s : State) (q : Nat) (what : DmaRead) : State :=
  let s1 := (s.bump HIF_CNT_DMA_ERR).raise HIF_EVT_DMA_ERR
  match what with
  | .txData fl => s1.txBack q fl true none
  | .rxDesc => (s1.rxOff q).put (HIF_Q_STAT_RX_QERR q) 1
  | .txDesc => (s1.txOff q).put (HIF_Q_STAT_TX_QERR q) 1

def execDmaError (q : Fin 32) (what : DmaRead) (s : State) : Out State := .next (s.clocked fun (s : State) => s.dmaError q what)

/-- Every ring and the status ring are disabled, and outputs that wait for a ring are dropped. -/
def State.ringsOff (s : State) : State :=
  let s1 := (List.range 32).foldl (fun s q => (s.rxOff q).txOff q) s
  ((s1.put HIF_STS_CFG_EN 0).wr HIF_STS_HEAD (s1.rd HIF_STS_TAIL)).dropWaiting (fun _ => true)

/-- PCIE_LINK_LOSS. -/
def State.pcieDown (s : State) : State :=
  if s.flag HIF_STAT_LINK then
    ((((s.ringsOff.put HIF_STAT_LINK 0).put HIF_STAT_GEN 0).put HIF_STAT_X2 0).put HIF_STAT_PTM 0).raise HIF_EVT_LINK_DOWN
  else s

def execPcieLinkLoss (s : State) : Out State := .next s.pcieDown

/-- PCIE_LINK_UP. -/
def execPcieLinkUp (gen : BitVec 3) (x2 : Bool) (s : State) : Out State :=
  .next (((s.put HIF_STAT_LINK 1).put HIF_STAT_GEN gen.toNat).putB HIF_STAT_X2 x2)

/-- Every register whose address satisfies `p` returns to its reset value. -/
def State.resetRegs (s : State) (p : Nat → Bool) : State := { s with regs := s.regs.filter (fun e => !p e.1) }

/-- FLR: the HIF registers but the counters and HIF_HB_CFG return to their reset values; HIF_STAT goes on showing the phase and
the link, which FLR does not change (DEDUCED, log entry 17). -/
def State.flr (s : State) : State :=
  let s1 := s.ringsOff
  let keep := fun a => decide (a = HIF_STAT ∨ a = HIF_HB_CFG ∨ (HIF_CNT_RX_NODESC ≤ a ∧ a ≤ HIF_CNT_STS_DROP))
  let s2 := s1.resetRegs (fun a => decide (0x060000 ≤ a ∧ a < 0x070000) && !keep a)
  ((s2.put HIF_STAT_HOST_LOST 0).put HIF_STAT_PTM 0).raise HIF_EVT_FLR

def execFlr (s : State) : Out State := .next s.flr

/-- HEARTBEAT_WRITE. -/
def State.heartbeat (s : State) : State := ({ s with hif := { s.hif with hbAt := s.ref } }).put HIF_STAT_HOST_LOST 0

def execHeartbeatWrite (s : State) : Out State :=
  .next (s.hostAt none HIF_HB fun (s : State) => s.heartbeat)

/-- HEARTBEAT_TIMEOUT: TMO ms without a heartbeat; outputs held for the host are dropped as under HOLD 0. -/
def State.heartbeatTmo (s : State) : State :=
  let tmo := s.get HIF_HB_CFG_TMO
  if tmo = 0 ∨ s.flag HIF_STAT_HOST_LOST = true then s
  else
    let s1 := s.toRef (s.hif.hbAt + 2000000 * tmo)
    ((s1.put HIF_STAT_HOST_LOST 1).raise HIF_EVT_HB_LOST).dropWaiting (fun w => w.held.isSome)

def execHeartbeatTimeout (s : State) : Out State := .next (s.clocked fun (s : State) => s.heartbeatTmo)

end Sys2Proof.Machine
end

