-- ==== Sys2Proof/Machine/Rtc.lean ====
section
/-! DEFINITION. The real-time clock and its backup domain (spec/18_rtc.md). The registers show the shadows; the live
counters stand in `State.rtc`. -/

namespace Sys2Proof.Machine

/-! ### The calendar (R370, R375 to R377) -/

/-- The number that two BCD digits spell. -/
def bcd (v : Nat) : Nat := v / 16 * 10 + v % 16

/-- One more, in BCD; 99 goes to 00. -/
def bcdInc (v : Nat) : Nat := if v % 16 < 9 then v + 1 else if v / 16 < 9 then (v / 16 + 1) * 16 else 0

/-- Both digits are digits, and the number lies in the range. -/
def bcdIn (v lo hi : Nat) : Bool := decide (v % 16 ≤ 9 ∧ v / 16 ≤ 9 ∧ lo ≤ bcd v ∧ bcd v ≤ hi)

/-- Every field lies in the range of R370. -/
def Calendar.ok (c : Calendar) : Bool :=
  bcdIn c.sec 0 59 && bcdIn c.min 0 59 && bcdIn c.hour 0 23 && bcdIn c.wday 1 7 && bcdIn c.date 1 31 &&
    bcdIn c.month 1 12 && bcdIn c.century 0 99 && bcdIn c.year 0 99

/-- The leap rule of the mode (R375, R376). -/
def Calendar.leap (c : Calendar) (compat : Bool) : Bool :=
  let y := bcd c.century * 100 + bcd c.year
  if compat then decide (bcd c.year % 4 = 0) else decide (y % 4 = 0 ∧ (y % 100 ≠ 0 ∨ y % 400 = 0))

/-- last_day of R377, in BCD. -/
def Calendar.lastDay (c : Calendar) (compat : Bool) : Nat :=
  if bcd c.month = 2 then (if c.leap compat then 0x29 else 0x28)
  else if [4, 6, 9, 11].contains (bcd c.month) then 0x30 else 0x31

/-- The advance of R377. -/
def Calendar.nextDay (c : Calendar) (compat : Bool) : Calendar :=
  let c1 := { c with hour := 0, wday := c.wday % 7 + 1 }
  if c.date = c.lastDay compat ∨ c.date = 0x31 then
    if c.month = 0x12 then
      { c1 with date := 1, month := 1, year := bcdInc c.year,
                century := if c.year = 0x99 ∧ !compat then bcdInc c.century else c.century }
    else { c1 with date := 1, month := bcdInc c.month }
  else { c1 with date := bcdInc c.date }

/-- A carry of the prescaler: one second, with every carry that follows from it. -/
def Calendar.tick (c : Calendar) (compat : Bool) : Calendar :=
  if c.sec ≠ 0x59 then { c with sec := bcdInc c.sec }
  else if c.min ≠ 0x59 then { c with sec := 0, min := bcdInc c.min }
  else if c.hour ≠ 0x23 then { c with sec := 0, min := 0, hour := bcdInc c.hour }
  else ({ c with sec := 0, min := 0 }).nextDay compat

/-! ### Shadows -/

/-- RTC_SEC to RTC_SUBSEC take the live values. -/
def State.rtcFollow (s : State) : State :=
  let c := s.rtc.cal
  let w := fun (s : State) (a v : Nat) => s.wr a (BitVec.ofNat 32 v)
  let s1 := w (w (w (w s RTC_SEC c.sec) RTC_MIN c.min) RTC_HOUR c.hour) RTC_WDAY c.wday
  let s2 := w (w (w (w s1 RTC_DATE c.date) RTC_MONTH c.month) RTC_CENTURY c.century) RTC_YEAR c.year
  w s2 RTC_SUBSEC s.rtc.pre

/-- The registers of the clock: the raw count and the states always, the shadows outside a freeze (R371). -/
def State.rtcShow (s : State) : State :=
  let s1 := (s.wr64 RTC_RAW_LO s.rtc.raw).putB RTC_STAT_FROZEN s.rtc.frozenAt.isSome
  let s2 := (s1.putB RTC_STAT_HELD s.rtc.held.isSome).putB RTC_STAT_SHIFT_BUSY (decide (s.rtc.withhold ≠ 0))
  if s.rtc.frozenAt.isSome then s2 else s2.rtcFollow

/-- A freeze ends. -/
def State.rtcUnfreeze (s : State) : State := ({ s with rtc := { s.rtc with frozenAt := none } }).rtcShow

/-- RTC_SEC_READ: outside a freeze the read starts one; it returns the shadow. -/
def State.rtcSecRead (s : State) : State :=
  let s1 := if s.rtc.frozenAt.isSome then s else ({ s with rtc := { s.rtc with frozenAt := some s.ref } }).rtcShow
  { s1 with hostRd := s1.rd RTC_SEC }

def execRtcSecRead (s : State) : Out State :=
  .next (s.hostGet none RTC_SEC fun (s : State) => s.rtcSecRead)

/-- RTC_YEAR_READ: the shadow, and the freeze ends. -/
def State.rtcYearRead (s : State) : State := ({ s with hostRd := s.rd RTC_YEAR }).rtcUnfreeze

def execRtcYearRead (s : State) : Out State :=
  .next (s.hostGet none RTC_YEAR fun (s : State) => s.rtcYearRead)

/-- Two seconds of the reference, in half nanoseconds. -/
def twoSec : Nat := 4000000000

/-- FREEZE_TIMEOUT: 2 s after the read that began the freeze. -/
def State.freezeTmo (s : State) : State :=
  match s.rtc.frozenAt with
  | some t => ((s.toRef (t + twoSec)).rtcUnfreeze).raise RTC_EVT_FRZ_TMO
  | none => s

def execFreezeTimeout (s : State) : Out State := .next s.freezeTmo

/-- A write of a register of the RTC, whichever it is, ends a freeze (R371); a reserved offset is none (R10). -/
def State.rtcWrote (s : State) (a : Nat) : State :=
  if 0x50000 ≤ a ∧ a < 0x60000 ∧ (regRow a).isSome then s.rtcUnfreeze else s

/-! ### Setting (R372, R373) -/

def State.compat (s : State) : Bool := s.flag RTC_STAT_MODE

/-- A write lands on one field of the held copy: the registers from RTC_SEC to RTC_YEAR in offset order. -/
def Calendar.write (c : Calendar) (i : Fin 8) (v : Nat) : Calendar :=
  match i with
  | 0 => { c with sec := v % 128 }
  | 1 => { c with min := v % 128 }
  | 2 => { c with hour := v % 64 }
  | 3 => { c with wday := v % 8 }
  | 4 => { c with date := v % 64 }
  | 5 => { c with month := v % 32 }
  | 6 => { c with century := v % 256 }
  | 7 => { c with year := v % 256 }

/-- CALENDAR_WRITE: the first write copies the live calendar. RTC_CENTURY ignores writes in compatibility mode (R376). -/
def State.calendarWrite (s : State) (i : Fin 8) (v : Nat) : State :=
  if i = 6 ∧ s.compat then s.rtcUnfreeze
  else
    let c := s.rtc.held.getD s.rtc.cal
    let at_ := if s.rtc.held.isSome then s.rtc.heldAt else s.ref
    ({ s with rtc := { s.rtc with held := some (c.write i v), heldAt := at_ } }).rtcUnfreeze

def execCalendarWrite (i : Fin 8) (v : Word) (s : State) : Out State :=
  .next (s.hostAt none (RTC_SEC + 4 * i.val) fun (s : State) => s.calendarWrite i v.toNat)

/-- A write of RTC_SET_CMD: [0] SET, [1] DISCARD, [4] MODE, [5] MODE_WR. With nothing held a SET commits nothing. -/
def State.setCmd (s : State) (v : BitVec 6) : State :=
  let s0 := s.rtcUnfreeze
  let s1 := if v.getLsbD 0 then
      match s0.rtc.held with
      | some c =>
        if c.ok then
          { s0 with rtc := { s0.rtc with
              held := none, pendAt := s0.rtc.heldAt, pend := some (c, if v.getLsbD 5 then some (v.getLsbD 4) else none) } }
        else s0.raise RTC_EVT_SET_REF
      | none => s0
    else s0
  (if v.getLsbD 1 then { s1 with rtc := { s1.rtc with held := none } } else s1).rtcShow

def execSet (cmd : BitVec 6) (s : State) : Out State :=
  .next (s.hostAt none RTC_SET_CMD fun (s : State) => s.setCmd (cmd ||| 1))
def execDiscard (cmd : BitVec 6) (s : State) : Out State :=
  .next (s.hostAt none RTC_SET_CMD fun (s : State) => s.setCmd (cmd ||| 2))

/-- HOLD_TIMEOUT: 2 s after the first write of the held copy, or of one whose SET has met no edge yet. -/
def State.holdTmo (s : State) : State :=
  if s.rtc.pend.isSome then
    let s1 := s.toRef (s.rtc.pendAt + twoSec)
    (({ s1 with rtc := { s1.rtc with pend := none } }).rtcShow).raise RTC_EVT_HOLD_TMO
  else if s.rtc.held.isSome then
    let s1 := s.toRef (s.rtc.heldAt + twoSec)
    (({ s1 with rtc := { s1.rtc with held := none } }).rtcShow).raise RTC_EVT_HOLD_TMO
  else s

def execHoldTimeout (s : State) : Out State := .next s.holdTmo

/-- SHIFT: a write of RTC_SHIFT (R374). -/
def State.rtcShift (s : State) (n : BitVec 16) : State :=
  let s0 := s.rtcUnfreeze
  if n = 0 ∨ n = 0x8000 ∨ s.rtc.withhold ≠ 0 then s0.raise RTC_EVT_SHIFT_REF
  else if n.toInt < 0 then ({ s0 with rtc := { s0.rtc with withhold := n.toInt.natAbs } }).rtcShow
  else ({ s0 with rtc := { s0.rtc with shift := s0.rtc.shift + n.toNat } }).rtcShow

def execShift (n : BitVec 16) (s : State) : Out State :=
  .next (s.hostAt none RTC_SHIFT fun (s : State) => s.rtcShift n)

/-! ### Edges of the crystal (R369, R374) -/

/-- The prescaler advances by `n`, with a second for each wrap. -/
def RtcState.advance (r : RtcState) (compat : Bool) (n : Nat) : RtcState :=
  let t := r.pre + n
  { r with pre := t % 32768, cal := (List.range (t / 32768)).foldl (fun (c : Calendar) _ => c.tick compat) r.cal }

/-- A SET is committed: the whole copy, the prescaler at 0, the mode when the SET writes it. A change from compatibility
to native sets CENTURY 0x20; in compatibility mode there is no century. What a shift still had to do is dropped. -/
def State.rtcCommit (s : State) (c : Calendar) (mode : Option Bool) : State :=
  let m := mode.getD s.compat
  let c1 := if m then { c with century := 0 } else if s.compat then { c with century := 0x20 } else c
  ({ s with rtc := { s.rtc with cal := c1, pre := 0, pend := none, withhold := 0, shift := 0 } }).putB RTC_STAT_MODE m

/-- RTC_EDGE. -/
def State.rtcEdge (s : State) : State :=
  let s0 := ({ s with rtc := { s.rtc with raw := (s.rtc.raw + 1) % 2 ^ 48 } }).put RTC_STAT_OSC_RUN 1
  let s1 := match s0.rtc.pend with
    | some (c, m) => s0.rtcCommit c m
    | none =>
      if s0.rtc.withhold ≠ 0 then { s0 with rtc := { s0.rtc with withhold := s0.rtc.withhold - 1 } }
      else { s0 with rtc := { (s0.rtc.advance s0.compat (1 + s0.rtc.shift)) with shift := 0 } }
  s1.rtcShow

def execRtcEdge (s : State) : Out State := .next s.rtcEdge

/-- OSC_STOP: no edge for 8 nominal periods (R367). -/
def State.oscStop (s : State) : State :=
  if s.flag RTC_STAT_OSC_RUN then
    ((s.put RTC_STAT_OSC_RUN 0).put RTC_FLAG_OSF 1).raiseIf (s.flag PWR_RAIL_AON) RTC_EVT_OSC_FAIL
  else s

def execOscStop (s : State) : Out State := .next s.oscStop

/-! ### The domain's supply (R365, R366, R368) -/

/-- VBAT_SWITCH: VDD_AON leaves its good range, and with it the device is unpowered (R364). -/
def State.vbatSwitch (s : State) : State :=
  let s1 := (s.absence.put RTC_STAT_SRC 0).wr PWR_RAIL 0
  { s1 with pwr := { s1.pwr with phase := .unpowered } }

def execVbatSwitch (s : State) : Out State := .next s.vbatSwitch

/-- The first-power-up state of R366, with DIP and OSF. -/
def State.rtcFirstPower (s : State) : State :=
  let s1 := { s with rtc := { s.rtc with cal := {}, pre := 0, raw := 0, pend := none, shift := 0, withhold := 0, dip := false } }
  (((s1.put RTC_STAT_MODE 0).put RTC_FLAG_DIP 1).put RTC_FLAG_OSF 1).rtcShow

/-- AON_QUALIFIED: VDD_AON has been good for 2 ms. -/
def State.aonQualified (s : State) : State :=
  let s1 := (s.put PWR_RAIL_AON 1).put RTC_STAT_SRC 1
  if s.rtc.dip then s1.rtcFirstPower else s1

def execAonQualified (s : State) : Out State := .next s.aonQualified

def execDipLatch (s : State) : Out State := .next { s with rtc := { s.rtc with dip := true } }

/-- VBAT_COMPARE: `low` says that VBAT is below 2.0 V. -/
def State.vbatCompare (s : State) (low : Bool) : State :=
  if s.flag RTC_STAT_SRC then
    (s.putB RTC_STAT_VBAT_LOW low).raiseIf (low && !s.flag RTC_STAT_VBAT_LOW) RTC_EVT_VBAT_LOW
  else s

def execVbatCompare (low : Bool) (s : State) : Out State := .next (s.vbatCompare low)

/-- A write of RTC_FLAG: OSF stays while the crystal is found stopped (R367). -/
def State.rtcFlagWrite (s : State) (v : Word) : State :=
  let s1 := if v.getLsbD 0 ∧ s.flag RTC_STAT_OSC_RUN then s.put RTC_FLAG_OSF 0 else s
  (if v.getLsbD 1 then s1.put RTC_FLAG_DIP 0 else s1).rtcUnfreeze

/-- What a reset of the RTC's command and status registers leaves (R361, R378): the backup domain is kept. -/
def State.rtcReset (s : State) : State :=
  let keep := [(RTC_FLAG, s.rd RTC_FLAG)]
  let mode := s.get RTC_STAT_MODE
  let src := s.get RTC_STAT_SRC
  let run := s.get RTC_STAT_OSC_RUN
  let s1 := { s with regs := s.regs.filter (fun e => !decide (0x50000 ≤ e.1 ∧ e.1 < 0x60000)),
                     rtc := { s.rtc with held := none, frozenAt := none, pend := none, shift := 0, withhold := 0 } }
  let s2 := keep.foldl (fun (s : State) e => s.wr e.1 e.2) s1
  (((s2.put RTC_STAT_MODE mode).put RTC_STAT_SRC src).put RTC_STAT_OSC_RUN run).rtcShow

end Sys2Proof.Machine
end

