-- ==== Sys2Proof/Machine/Reset.lean ====
section
/-! DEFINITION. What the resets reach (spec/17_power_reset.md R361, R364): the dies that return to their reset state and
what lies outside them. -/

namespace Sys2Proof.Machine

/-- The registers of the Thallus die: PWR, RTC and KEY (R361). -/
def thallusReg (a : Nat) : Bool :=
  decide (0x010000 ≤ a ∧ a < 0x020000) || decide (0x050000 ≤ a ∧ a < 0x060000) || decide (0x080000 ≤ a ∧ a < 0x090000)

/-- The registers and memories of the Frond die (R74). -/
def frondReg (a : Nat) : Bool := decide (0x200000 ≤ a ∧ a < 0x380000)

/-- The persistent log of FLT (R389), which lies in the journal. -/
def plogAt : Nat := 0x021800

def inPlog (a : Nat) : Bool := decide (plogAt ≤ a ∧ a < plogAt + 512)

/-- The core and Frond dies return to their reset state; kept are the registers `keep` names, what the Thallus die holds,
and what is no part of the device. The effective role is the strapped one again (R25). -/
def State.dieReset (s : State) (keep : Nat → Bool) : State :=
  let z : State :=
  { pending := s.pending, regs := s.regs.filter (fun e => keep e.1), ref := s.ref, freeCtr := s.freeCtr,
    hostRd := s.hostRd, out := s.out, bar := s.bar.filter (fun c => inPlog c.1), key := s.key, jrn := s.jrn, thal := s.thal, rtc := s.rtc,
    fld := { block := s.fld.block, keysWritten := s.fld.keysWritten }, flt := { logTot := s.flt.logTot },
    pwr := { railAt := s.pwr.railAt, bootAt := s.pwr.bootAt } }
  z.put SYS_ROLE_ROLE (z.get SYS_STRAP_ROLE)

/-- SYS_SUPPLY.LOW follows DECL and MEAS_LOW. -/
def State.supplyShow (s : State) : State :=
  s.putB SYS_SUPPLY_LOW (decide (s.get SYS_SUPPLY_DECL ≠ 0) || s.flag SYS_SUPPLY_MEAS_LOW)

/-- A reset without a loss of power changes nothing of what the supply monitor of `w` finds (R419; DEDUCED, log entry 30). -/
def State.supplyAs (s w : State) : State := (s.put SYS_SUPPLY_MEAS_LOW (w.get SYS_SUPPLY_MEAS_LOW)).supplyShow

/-- The command and status registers of PWR, KEY and RTC are reset; PWR_RAIL goes on showing the rails. -/
def State.thallusReset (s : State) : State :=
  let rail := s.rd PWR_RAIL
  let s1 := s.resetRegs (fun a => decide (0x010000 ≤ a ∧ a < 0x020000) || decide (0x080000 ≤ a ∧ a < 0x090000))
  ({ s1 with key := { s1.key with cmd := none, data := 0 } }.wr PWR_RAIL rail).rtcReset

/-- The PWR_LAST.BOOT codes. -/
def bootPor : Nat := 0
def bootResetN : Nat := 1
def bootFault : Nat := 2
def bootHost : Nat := 3
def bootWakeOff : Nat := 4
def bootWakeDeep : Nat := 5
def bootRailFail : Nat := 6
def bootTurnover : Nat := 7

/-- A pin, fault or host reset (R361); the straps keep their values unless the caller samples them. -/
def State.fullReset (s : State) (cause : Nat) : State :=
  (((s.absence.dieReset (fun a => thallusReg a || decide (a = SYS_STRAP))).supplyAs s).thallusReset).put PWR_LAST_BOOT cause

/-- The core and Frond dies are reset; the registers of the Thallus die keep their values, and every transition ends. -/
def State.railReset (s : State) (cause : Nat) : State :=
  ((s.absence.dieReset (fun a => thallusReg a || decide (a = SYS_STRAP))).wr PWR_STAT 0).put PWR_LAST_BOOT cause

end Sys2Proof.Machine
end

