-- ==== Sys2Proof/Machine/Update.lean ====
section
/-! DEFINITION. Staging sessions, owner locks, verification, the full boot, confirmation (spec/14_update_turnover.md R304 to
R314, R321, R322). -/

namespace Sys2Proof.Machine

/-! ### Result codes (R309) -/

def resOk : Nat := 0
def resDup : Nat := 1
def resGap : Nat := 2
def resRange : Nat := 3
def resBusy : Nat := 4
def resNotOwner : Nat := 5
def resNoSess : Nat := 6
def resMoving : Nat := 7
def resLowSupply : Nat := 8
def resLocked : Nat := 9
def resTrial : Nat := 10
def resCluster : Nat := 11
def resNotLocked : Nat := 12
def resLate : Nat := 13

/-- UPD_STAT.SRC of a host interface. -/
def srcOf (i : Iface) : Nat := if i = .pcie then 1 else 2
def srcBackbone : Nat := 3

/-! ### Slots -/

/-- The staging slot: the one that is not CONFIRMED, A when neither is. -/
def Journal.staging (j : Journal) : Bool := decide (j.slotA = .confirmed)

/-- UPD shows what the journal holds. -/
def State.updShow (s : State) : State :=
  let j := s.jrn
  let s1 := ((s.putB UPD_STAT_TRIAL (j.find .trial).isSome).putB UPD_STAT_PENDING (j.find .pending).isSome).putB UPD_STAT_LOCKED
    (j.locks != 0)
  ((s1.wr UPD_VER_FLOOR (BitVec.ofNat 32 j.verFloor)).wr UPD_LOCK (j.locks.setWidth 32)).wr UPD_TOKEN_CTR
    (BitVec.ofNat 32 j.tokenCtr)

/-- A slot's state is recorded in the journal, which the Thallus link reaches (R15). -/
def State.setSlot (s : State) (b : Bool) (v : ImgSlot) : State :=
  if s.flag SYS_DIE_STAT_THL_UP then ({ s with jrn := s.jrn.setSlot b v }).updShow else s

/-- SYS_MOTION.STATE is other than STATIONARY (R30). -/
def State.moving (s : State) : Bool := decide (s.get SYS_MOTION_STATE ≠ 1)

/-- UPD_STAT as read: MOVING and LOW show the conditions of R310. -/
def State.updStat (s : State) : Word :=
  ((s.putB UPD_STAT_MOVING s.moving).putB UPD_STAT_LOW (s.flag SYS_SUPPLY_LOW)).rd UPD_STAT

/-- UPD_CONFIRM_LEFT as read: seconds left, rounded up; 0 when no slot is TRIAL (R321). -/
def State.confirmLeft (s : State) : Word :=
  let end_ := s.upd.runAt + 2000000000 * atLeast1 ((s.rd UPD_CONFIRM_TMO).toNat % 2 ^ 16)
  if (s.jrn.find .trial).isSome then BitVec.ofNat 32 ((end_ - s.ref + 1999999999) / 2000000000) else 0

/-! ### Refusal (R310) -/

/-- The condition of R310 that holds, first in its order; `lock` is the bit of UPD_LOCK that covers the step. -/
def State.updBar (s : State) (lock : Nat) : Option Nat :=
  if s.moving then some resMoving
  else if s.flag SYS_SUPPLY_LOW then some resLowSupply
  else if s.jrn.locks.getLsbD lock then some resLocked
  else none

/-- A refusal under R310 is counted. -/
def State.updRefuse (s : State) : State := (s.bump UPD_CNT_REFUSED).raise UPD_EVT_REFUSED

/-- A step under R310: refused, or carried on. While the Thallus link is down the step cannot be recorded, and the answer is BUSY (R15;
DEDUCED, log entry 30). -/
def State.barred (s : State) (lock : Nat) (f : State → State × Nat) : State × Nat :=
  match s.updBar lock with
  | some c => (s.updRefuse, c)
  | none => if s.flag SYS_DIE_STAT_THL_UP then f s else (s, resBusy)

/-- A host command's result. -/
def showResult (x : State × Nat) : State := x.1.wr UPD_RESULT (BitVec.ofNat 32 x.2)

/-! ### Sessions (R305 to R308) -/

def sessIdle : Nat := 0
def sessOpen : Nat := 1
def sessReady : Nat := 2

def State.sess (s : State) : Nat := s.get UPD_STAT_SESS

/-- Another source owns the session. -/
def State.foreign (s : State) (src : Nat) : Bool := decide (s.sess ≠ sessIdle) && decide (s.get UPD_STAT_SRC ≠ src)

/-- An armed turnover is withdrawn; the reclaim time runs anew. -/
def State.disarm (s : State) : State :=
  match s.upd.armed with
  | some a =>
    if a.fallback ∨ s.get UPD_STAT_TOV = 2 then s
    else ({ s with upd := { s.upd with armed := none, sessAt := s.ref } }).put UPD_STAT_TOV 0
  | none => s

/-- A session opens with a source, an identifier and a size. -/
def State.sessStart (s : State) (src id total : Nat) : State :=
  let s1 := (s.disarm.setSlot s.jrn.staging .none).put UPD_STAT_SESS sessOpen
  let s2 := ((s1.put UPD_STAT_SRC src).wr UPD_SESS_ID (BitVec.ofNat 32 id)).wr UPD_SESS_NEXT 0
  { s2 with upd := { s2.upd with total := total, sessAt := s2.ref } }

/-- An OPEN by a source: ownership, R310, then RANGE and TRIAL. -/
def State.openBy (s : State) (src id total : Nat) : State × Nat :=
  if s.foreign src then (s, resNotOwner)
  else if s.get UPD_STAT_TOV = 2 then (s, resLate)
  else s.barred 0 (fun s =>
    if total < 256 ∨ 6291456 < total then (s, resRange)
    else if (s.jrn.find .trial).isSome then (s, resTrial)
    else (s.sessStart src id total, resOk))

/-- The identifier one above the last one issued, skipping 0. -/
def State.nextSess (s : State) : Nat := if (s.upd.lastSess + 1) % 2 ^ 32 = 0 then 1 else (s.upd.lastSess + 1) % 2 ^ 32

/-- OPEN. -/
def State.hostOpen (s : State) (i : Iface) : State :=
  let id := s.nextSess
  match s.openBy (srcOf i) id ((s.rd UPD_SESS_TOTAL).toNat % 2 ^ 23) with
  | (s1, 0) => showResult ({ s1 with upd := { s1.upd with lastSess := id } }, resOk)
  | x => showResult x

def execOpenSession (i : Iface) (s : State) : Out State :=
  .next (s.hostAt (some i) UPD_SESS_CMD fun (s : State) => s.hostOpen i)

/-- The session ends and an armed turnover goes with it. -/
def State.sessEnd (s : State) : State :=
  (((s.disarm.put UPD_STAT_SESS sessIdle).put UPD_STAT_SRC 0).wr UPD_SESS_ID 0).wr UPD_SESS_NEXT 0

/-- A block for the staging slot. -/
def State.blockBy (s : State) (src ofs : Nat) (data : List Byte) : State × Nat :=
  let next := (s.rd UPD_SESS_NEXT).toNat
  let n := data.length
  if s.sess = sessIdle then (s, resNoSess)
  else if s.foreign src then (s, resNotOwner)
  else s.barred 0 (fun s =>
    if s.flag UPD_STAT_BUSY then (s, resBusy)
    else if ofs < next then (s, resDup)
    else if next < ofs then (s, resGap)
    else if s.upd.total < ofs + n then (s, resRange)
    else if n = 0 then (s, resOk)
    else
      let s1 := { s with thal := bytesSet zeroByte s.thal (slotBase s.jrn.staging + ofs) data, upd := { s.upd with sessAt := s.ref } }
      let s2 := (s1.wr UPD_SESS_NEXT (BitVec.ofNat 32 (ofs + n))).put UPD_STAT_BUSY 1
      (if ofs + n = s.upd.total then s2.put UPD_STAT_SESS sessReady else s2, resOk))

/-- BLOCK_WRITE: LEN bytes of UPD_BUF at UPD_BLK_OFS. -/
def State.hostBlock (s : State) (i : Iface) (len : Nat) : State :=
  if len < 1 ∨ 4096 < len then showResult (s, resRange)
  else showResult (s.blockBy (srcOf i) ((s.rd UPD_BLK_OFS).toNat % 2 ^ 23) (s.memBytes 0x071000 len))

def execBlockWrite (i : Iface) (len : BitVec 13) (s : State) : Out State :=
  .next (s.hostAt (some i) UPD_BLK_CMD fun (s : State) => s.hostBlock i len.toNat)

/-- BLOCK_WRITE_DONE: the block is in the magnetoresistive memory, which the Thallus link reaches (R15). -/
def State.blockDone (s : State) : State := if s.flag SYS_DIE_STAT_THL_UP then s.put UPD_STAT_BUSY 0 else s

def execBlockWriteDone (s : State) : Out State := .next (s.clocked fun (s : State) => s.blockDone)

/-- ABORT: either host interface may end a BACKBONE session; as a reclamation, without the event (R308). -/
def State.hostAbort (s : State) (i : Iface) : State :=
  if s.sess = sessIdle then showResult (s, resNoSess)
  else if s.get UPD_STAT_SRC ≠ srcOf i ∧ s.get UPD_STAT_SRC ≠ srcBackbone then showResult (s, resNotOwner)
  else if s.get UPD_STAT_TOV = 2 then showResult (s, resLate)
  else showResult (s.sessEnd.bump UPD_CNT_RECLAIM, resOk)

def execAbortSession (i : Iface) (s : State) : Out State :=
  .next (s.hostAt (some i) UPD_SESS_CMD fun (s : State) => s.hostAbort i)

/-- COMMIT: the staging slot is PENDING. -/
def State.hostCommit (s : State) (i : Iface) : State :=
  if s.foreign (srcOf i) then showResult (s, resNotOwner)
  else if s.sess ≠ sessReady then showResult (s, resNoSess)
  else if s.get UPD_STAT_TOV = 2 then showResult (s, resLate)
  else showResult (s.barred 1 (fun s => (s.sessEnd.setSlot s.jrn.staging .pending, resOk)))

def execCommit (i : Iface) (s : State) : Out State :=
  .next (s.hostAt (some i) UPD_SESS_CMD fun (s : State) => s.hostCommit i)

/-- SESSION_RECLAIM: UPD_SESS_TMO seconds without a block, or READY and neither committed nor armed. -/
def State.sessReclaim (s : State) : State :=
  let end_ := s.upd.sessAt + 2000000000 * atLeast1 ((s.rd UPD_SESS_TMO).toNat % 2 ^ 16)
  if s.sess = sessOpen ∨ (s.sess = sessReady ∧ s.upd.armed = none) then
    (((s.toRef end_).sessEnd).bump UPD_CNT_RECLAIM).raise UPD_EVT_RECLAIMED
  else s

def execSessionReclaim (s : State) : Out State := .next (s.clocked fun (s : State) => s.sessReclaim)

/-! ### IMG over the backbone (R194, R305, R309) -/

def imgBytes (sess ofs : Nat) (last : Bool) (total : Nat) : List Byte :=
  leBytes 4 sess ++ leBytes 4 ofs ++ leBytes 2 0 ++ leBytes 1 (if last then 1 else 0) ++ leBytes 1 0 ++ leBytes 4 total

/-- The acknowledgement of a block. -/
def State.imgAck (s : State) (sess code : Nat) : State :=
  if code = resOk ∨ code = resDup then
    s.sendAfette (some (s.get CLU_STAT_MGR)) 5 (imgBytes sess (s.rd UPD_SESS_NEXT).toNat false s.upd.total)
  else s.sendAfette (some (s.get CLU_STAT_MGR)) 5 (imgBytes sess 0xFFFFFFFF false code)

/-- IMG_RX: a block from the current manager opens a session, or goes to the open one. -/
def State.imgRx (s : State) (h : Afette) (sess ofs total : Nat) (data : List Byte) : State :=
  match s.afetteIn h 5 with
  | (s1, true) =>
    if s1.follows h then
      let same := decide (s1.sess ≠ sessIdle) && decide ((s1.rd UPD_SESS_ID).toNat = sess)
      let d := data.take 1024
      let (s2, c) := if same then s1.blockBy srcBackbone ofs d
        else if ofs = 0 then
          match s1.openBy srcBackbone sess total with
          | (s2, 0) => s2.blockBy srcBackbone 0 d
          | x => x
        else (s1, if s1.foreign srcBackbone then resNotOwner else resNoSess)
      s2.imgAck sess c
    else s1
  | (s1, false) => s1

def execImgRx (h : Afette) (session offset total : BitVec 32) (_last : Bool) (data : List Byte) (s : State) : Out State :=
  .next (s.imgRx h session.toNat offset.toNat total.toNat data)

/-- IMG_ACK_RX: the manager keeps a worker's acknowledgement, and counts it ready on OFFSET = TOTAL with LAST. -/
def State.imgAckRx (s : State) (h : Afette) (sess ofs total : Nat) (last : Bool) : State :=
  match s.afetteIn h 5 with
  | (s1, true) =>
    if s1.cluSt = cluLead then
      let d := h.from_.toNat
      let s2 := { s1 with upd := { s1.upd with acks := SMap.set (fun _ => none) s1.upd.acks d (some (sess, ofs, last)) } }
      if last ∧ ofs = total then
        { s2 with clu := { s2.clu with ready := (d, sess) :: s2.clu.ready.filter (· != (d, sess)) } }
      else s2
    else s1
  | (s1, false) => s1

def execImgAckRx (h : Afette) (session offset total : BitVec 32) (last : Bool) (s : State) : Out State :=
  .next (s.imgAckRx h session.toNat offset.toNat total.toNat last)

/-- HB_SEND: a worker whose session is READY repeats its acknowledgement with each HB (R309). -/
def State.hbAndImg (s : State) : State :=
  let s1 := s.hbSend
  if s1.clu.hbAt ≠ s.clu.hbAt ∧ s1.sess = sessReady then
    s1.sendAfette (some (s1.get CLU_STAT_MGR)) 5 (imgBytes (s1.rd UPD_SESS_ID).toNat s1.upd.total true s1.upd.total)
  else s1

def execHbSend (s : State) : Out State := .next s.hbAndImg

/-! ### Owner keys and tokens (R311, R313, R334) -/

/-- The public key of an owner slot: X then Y; none where the slot is no owner slot or the point is not on the curve. -/
def State.ownerKey (s : State) (k : Nat) : Option (List Byte) :=
  match s.keySlot k, s.keySlot (k + 1), s.keySlot (k + 2) with
  | some a, some b, some c =>
    let key := leBytes 32 a.key.toNat ++ leBytes 32 b.key.toNat ++ leBytes 32 c.key.toNat
    if a.suite = 11 ∧ b.suite = 12 ∧ c.suite = 12 ∧ k ≤ 0x3FD ∧ Config.p384Point key = true then some key else none
  | _, _, _ => none

def tokFormat (t : List Byte) : Bool :=
  decide (num t 0 4 = 0x54574744) && decide (num t 4 1 = 1 ∨ num t 4 1 = 2) && decide (num t 5 1 < 4) &&
    decide (num t 6 2 < 2 ^ 14) && zeros t 20 12

/-- The result of a token's checks, in their order. -/
def State.tokCheck (s : State) (t : List Byte) : Nat :=
  if !tokFormat t then 2
  else match s.ownerKey (num t 6 2) with
    | none => 3
    | some k =>
      if !Config.ecdsaP384 k (t.take 32) (t.drop 32) then 4
      else if num t 8 8 ≠ s.rd64 UPD_UID_LO then 5
      else if num t 16 4 ≤ s.jrn.tokenCtr then 6
      else 1

/-- SUBMIT; ignored while BUSY. -/
def State.tokSubmit (s : State) : State :=
  if s.flag UPD_TOKEN_STAT_BUSY then s
  else ({ s with upd := { s.upd with token := some (s.memBytes 0x072000 128) } }).put UPD_TOKEN_STAT_BUSY 1

def execSubmit (s : State) : Out State :=
  .next (s.hostAt none UPD_TOKEN_CMD fun (s : State) => s.tokSubmit)

/-- TOKEN_CHECK_DONE: a good token sets or clears the locks it names and moves the counter, in the journal, which the Thallus link
reaches (R15). -/
def State.tokDone (s : State) : State :=
  match if s.flag SYS_DIE_STAT_THL_UP then s.upd.token else none with
  | none => s
  | some t =>
    let c := s.tokCheck t
    let s1 := (({ s with upd := { s.upd with token := none } }).put UPD_TOKEN_STAT_BUSY 0).put UPD_TOKEN_STAT_RESULT c
    if c = 1 then
      let l := BitVec.ofNat 2 (num t 5 1)
      let locks := if num t 4 1 = 1 then s.jrn.locks ||| l else s.jrn.locks &&& ~~~ l
      ({ s1 with jrn := { s1.jrn with locks := locks, tokenCtr := num t 16 4 } }).updShow
    else s1.raise UPD_EVT_TOKEN_BAD

def execTokenCheckDone (s : State) : Out State := .next (s.clocked fun (s : State) => s.tokDone)

/-! ### Verification and choice at boot (R297, R312, R313) -/

def bootNone : Nat := 0
def bootTaken : Nat := 1
def bootSig : Nat := 2
def bootKey : Nat := 3
def bootRollback : Nat := 4
def bootCheck : Nat := 5
def bootInTrial : Nat := 6
def bootExpired : Nat := 7
def bootReverted : Nat := 8

/-- R313: what fails, none where the blank of a slot verifies. A signature block that would lie beyond the slot names no
key. -/
def State.verify (s : State) (b : Bool) : Option Nat :=
  let sig := leNum (s.slotBytes b 36 4)
  if 6291456 < sig + 112 then some bootKey
  else match s.ownerKey (leNum (s.slotBytes b sig 2) % 2 ^ 14) with
    | none => some bootKey
    | some k =>
      if !Config.ecdsaP384 k (s.slotBytes b 0 sig) (s.slotBytes b (sig + 16) 96) then some bootSig
      else if leNum (s.slotBytes b 16 4) < s.jrn.verFloor then some bootRollback
      else none

/-- What a slot's blank fails: RESULT, R297 code and section index; none where it may be booted. -/
def State.slotFault (s : State) (b : Bool) (old : Option Blank) (env : BootEnv) : Option (Nat × Nat × Nat) :=
  match s.verify b with
  | some r => some (r, 0, 0xFF)
  | none =>
    (checkBlank (s.slotImage b)
      { rev := s.get SYS_ID_REV_STEP * 16 + s.get SYS_ID_REV_META, mib := s.get DMC_STAT_MIB, bi := s.get (ACC_BCN_CFG_BI 0),
        old := old, loadErr := env.loadErr.getLsbD (if b then 1 else 0) }).map (fun c => (bootCheck, c.1, c.2))

/-- A failure found by the boot ROM: fault source 6, with CODE and DETAIL of R387. -/
def State.bootFault6 (s : State) (b : Bool) (f : Nat × Nat × Nat) : State :=
  s.raiseSrc 6 (f.2.1 + 256 * f.2.2) (f.1 + 16 * (if b then 1 else 0))

/-- UPD_BOOT and the slot in use. -/
def State.bootShow (s : State) (slot : Bool) (result check : Nat) : State :=
  (((s.putB UPD_BOOT_SLOT slot).put UPD_BOOT_RESULT result).put UPD_BOOT_CHECK check).putB UPD_STAT_RUN_SLOT slot

/-- No blank is booted: the boot ROM waits for the host in the strapped role (R25, R27). -/
def State.bootWait (s : State) (result check : Nat) : State :=
  let s1 := ((s.put UPD_BOOT_RESULT result).put UPD_BOOT_CHECK check).put HIF_STAT_PHASE 1
  let s2 := (s1.put SYS_ROLE_ROLE (s1.get SYS_STRAP_ROLE)).put SYS_ROLE_SRC 0
  { s2 with upd := { s2.upd with waiting := true } }

/-- After any boot the flood counter starts at the block above the recorded one; past the last block it has ended (R160). -/
def State.floodBoot (s : State) : State :=
  match s.fld.block with
  | none => s.wr FLD_TX_FCNT 0
  | some b =>
    if b + 1 < 2 ^ 16 then s.wr FLD_TX_FCNT (BitVec.ofNat 32 ((b + 1) * 2 ^ 16))
    else ((s.wr FLD_TX_FCNT (BitVec.ofNat 32 s.draw)).drawn).put FLD_STAT_FCNT_END 1

/-- A slot's blank is taken into use; `old`: at a turnover, the blank handed over from. -/
def State.bootTake (s : State) (b : Bool) (old : Option Blank) (result check : Nat) : State :=
  let s1 := ((s.loadBlank (blankOf (s.slotImage b)) old).bootShow b result check).floodBoot
  { s1.updShow with pwr := { s1.pwr with phase := .run }, upd := { s1.upd with waiting := false } }

/-- Boot the CONFIRMED slot; a device that has never confirmed a blank takes a verified slot A, then B, as TRIAL. Where the
CONFIRMED slot fails, the other is NONE and holds no blank to try, and the one failure is recorded (R27; DEDUCED, log entry 23).
`result` and `check` say what came before. -/
def State.bootConfirmed (s : State) (env : BootEnv) (old : Option Blank) (result check : Nat) : State :=
  match s.jrn.find .confirmed with
  | some b =>
    (match s.slotFault b none env with
     | none => s.bootTake b old result check
     | some f => (s.bootFault6 b f).bootWait (if result = 0 then f.1 else result) (if result = 0 then f.2.1 else check))
  | none =>
    match s.slotFault false none env with
    | none => (s.setSlot false .trial).bootTake false old (if result = 0 then bootTaken else result) check
    | some f =>
      let s1 := s.bootFault6 false f
      match s1.slotFault true none env with
      | none => (s1.setSlot true .trial).bootTake true old (if result = 0 then bootTaken else result) check
      | some g => (s1.bootFault6 true g).bootWait (if result = 0 then f.1 else result) (if result = 0 then f.2.1 else check)

/-- The choice of R312. `old`: at a turnover boot, the blank handed over from; only a new blank must fit it (R317). The
journal's reason for a fallback is reported once. -/
def State.choose (s0 : State) (env : BootEnv) (old : Option Blank) : State :=
  let s := { s0 with jrn := { s0.jrn with why := 0 } }
  match s.jrn.find .trial with
  | some b => (s.setSlot b .none).bootConfirmed env old bootInTrial 0
  | none =>
    match s.jrn.find .pending with
    | some b =>
      (match s.slotFault b old env with
       | none => (s.setSlot b .trial).bootTake b old bootTaken 0
       | some f => ((s.setSlot b .none).bootFault6 b f).raise UPD_EVT_VERIFY_FAIL |>.bootConfirmed env old f.1 f.2.1)
    | none => s.bootConfirmed env old s0.jrn.why 0

/-! ### FULL_BOOT -/

/-- Persistent slots are loaded from their backing; volatile slots stay (R331). -/
def State.loadKeys (s : State) (bad : List (BitVec 10)) : State :=
  let isBad := fun (k : Nat) => bad.any (fun b => b.toNat == k)
  let held := s.key.backing.filter (fun (e : Nat × Option KeySlot) => !isBad e.1)
  let s1 := { s with key := { s.key with slots := held ++ s.key.slots.filter (fun (e : Nat × Option KeySlot) => decide (0x400 ≤ e.1)) } }
  (s1.put KEY_STAT_READY 1).raiseIf (!bad.isEmpty) KEY_EVT_LOAD_ERR

/-- The first rate at or below the starting rate that trains (R336). -/
def trainRate (start : Nat) (fails : BitVec 5) : Option Nat :=
  (List.range 5).find? (fun r => decide (start ≤ r) && !fails.getLsbD r)

/-- Training at a full boot. -/
def State.train (s : State) (env : BootEnv) : State :=
  match trainRate ((s.jrn.train.map (·.rate)).getD 0) env.fails with
  | some r =>
    let t : TrainRec := ⟨r, env.dens, env.ranks, [env.dly0, env.dly1, env.dly2, env.dly3], (s.jrn.train.map (·.order)).getD 0⟩
    ({ s with jrn := { s.jrn with train := some t } }).dmcUp t
  | none => ((s.put DMC_STAT_STATE dmcUntrained).put DMC_STAT_MIB 0).raise DMC_EVT_TRN_FAIL

/-- The rails come up, where they are not up already (R349): only a rail failure and a loss of power cycle them (R361). -/
def State.railsUp (s : State) : State :=
  if s.rd PWR_RAIL &&& 0x1F = 0x1F then s else
  ((s.wr PWR_RAIL (s.rd PWR_RAIL ||| 0x1F)).emit (.rails true false)).emit (.rails true true)

/-- BOOTIF[1]: no boot source, the boot ROM waits for a staged blank (R26). -/
def State.noSource (s : State) : Bool := decide (2 ≤ s.get SYS_STRAP_BOOTIF)

/-- FULL_BOOT: keys, training, journal, choice. A boot ROM that waits boots again once a slot is PENDING. Without a boot source it
looks at nothing else: a TRIAL slot stays as it is until then (R26; DEDUCED, log entry 23). -/
def State.fullBoot (s : State) (env : BootEnv) : State :=
  if s.pwr.phase ≠ .boot ∨ s.upd.ho.isSome = true ∨ (s.upd.waiting = true ∧ s.jrn.find .pending = none) then s
  else
    let s1 := if s.upd.waiting then s else ((s.railsUp.loadKeys env.badKeys).train env).updShow
    let s2 := { s1 with pwr := { s1.pwr with bootAt := s1.ref } }
    if s2.noSource ∧ s2.jrn.find .pending = none then s2.bootWait 0 0 else s2.choose env none

def execFullBoot (env : BootEnv) (s : State) : Out State := .next (s.fullBoot env)

/-! ### Arming a turnover (R314) -/

def State.hoLead (s : State) : Nat := max 0x40000 ((s.rd UPD_HO_LEAD).toNat % 2 ^ 24)

/-- The tick of the handover start of a turnover at turn `t`. -/
def State.hoAt (s : State) (t : Nat) : Nat := t * turnTicks - s.hoLead

/-- Why a turnover of session `id` may not proceed, beside R310: the session, the spindle. -/
def State.turnBar (s : State) (id : Option Nat) : Option Nat :=
  if s.sess ≠ sessReady ∨ (id.isSome ∧ id ≠ some (s.rd UPD_SESS_ID).toNat) then some resNoSess
  else if s.spnSt ≠ spnLocked then some resNotLocked
  else none

/-- Arm the READY session's blank for turn `t`. -/
def State.armTurn (s : State) (t : Nat) (id : Option Nat) (cluster : Bool) : State × Nat :=
  s.barred 1 (fun s =>
    match s.turnBar id with
    | some c => (s, c)
    | none =>
      if s.hoAt t ≤ s.absTick ∨ s.get UPD_STAT_TOV = 2 ∨ s.running = false then (s, resLate)
      else (({ s with upd := { s.upd with armed := some ⟨t, cluster, false⟩ } }).put UPD_STAT_TOV 1, resOk))

/-- TURNOVER. -/
def State.hostTurnover (s : State) (i : Iface) : State :=
  let t := (s.rd UPD_TURN_LO).toNat + 2 ^ 32 * ((s.rd UPD_TURN_HI).toNat % 256)
  if s.flag CLU_CTL_EN ∧ s.get SYS_ADDR_CID ≠ 0 then showResult (s, resCluster)
  else if s.foreign (srcOf i) then showResult (s, resNotOwner)
  else showResult (s.armTurn t none false)

def execTurnover (i : Iface) (s : State) : Out State :=
  .next (s.hostAt (some i) UPD_SESS_CMD fun (s : State) => s.hostTurnover i)

/-- The update block's part of the image activations that the cluster unit has just withdrawn, or taken (R192, R193). -/
def State.imageHook (before : List Activation) (s : State) : State :=
  let gone := before.filter (fun a => a.kind == 2 && !s.clu.taken.contains a)
  let new := s.clu.taken.filter (fun a => a.kind == 2 && !before.contains a)
  let s1 := gone.foldl (fun (s : State) a =>
    if s.upd.armed.any (fun t => t.cluster && t.turn == a.turn) then s.disarm else s) s
  new.foldl (fun (s : State) a =>
    match s.armTurn a.turn (some a.id) true with
    | (s2, c) => if c = resLate then s2.setHflag 2 true else s2) s1

/-! ### Confirmation and fallback (R321, R322) -/

/-- CONFIRM. -/
def State.confirm (s : State) : State :=
  match if s.flag SYS_DIE_STAT_THL_UP then s.jrn.find .trial else none with
  | some b =>
    let ver := (s.rd UPD_RUN_VER).toNat
    let s1 := ({ s with jrn := { s.jrn with verFloor := max s.jrn.verFloor ver } }).setSlot b .confirmed
    ({ s1.setSlot (!b) .none with upd := { s1.upd with freeOther := true } }).raise UPD_EVT_CONFIRMED
  | none => s

def execConfirm (s : State) : Out State :=
  .next (s.hostAt none UPD_CMD fun (s : State) => s.confirm)

/-- A fallback: a turnover at the current turn + 2, or a device reset. -/
def State.fallBack (s : State) (why : Nat) : State :=
  match s.jrn.find .trial with
  | some b =>
    let s1 := (if s.flag SYS_DIE_STAT_THL_UP then { s with jrn := { s.jrn with why := why } } else s).setSlot b .none
    if (s.spnSt = spnLocked ∨ s.spnSt = spnHoldover) ∧ s.upd.byTurnover = true ∧ s.running = true then
      ((({ s1 with upd := { s1.upd with armed := some ⟨s.turn + 2, false, true⟩ } }).put UPD_STAT_TOV 1).bump
        UPD_CNT_FALLBACK).raise UPD_EVT_FALLBACK
    else ((s1.fullReset bootHost).bump UPD_CNT_FALLBACK).raise UPD_EVT_FALLBACK
  | none => s

def execRevert (s : State) : Out State :=
  .next (s.hostAt none UPD_CMD fun (s : State) => s.fallBack bootReverted)

/-- CONFIRM_EXPIRY. -/
def State.confirmExpiry (s : State) : State :=
  if (s.jrn.find .trial).isSome ∧ s.get UPD_STAT_UP = 1 then
    (s.toRef (s.upd.runAt + 2000000000 * atLeast1 ((s.rd UPD_CONFIRM_TMO).toNat % 2 ^ 16))).fallBack bootExpired
  else s

def execConfirmExpiry (s : State) : Out State := .next (s.clocked fun (s : State) => s.confirmExpiry)

end Sys2Proof.Machine
end

