-- ==== Sys2Proof/Machine/ClusterExec.lean ====
section
/-! DEFINITION. Commands whose effect reaches the cluster unit and a second block: contexts whose changes a manager enters in
its own directory at once (spec/08_cluster.md R183), and activations of KIND IMAGE (R192, R193), which the update block arms. -/

namespace Sys2Proof.Machine

/-! ### Associations and contexts -/

def execAssociationRequest (r : Fin 3) (mac link : BitVec 48) (tids : BitVec 8) (others : List SetupLink) (flags : BitVec 5) (maxMpdu : BitVec 16)
    (maxAmpdu : BitVec 32) (listen : BitVec 16) (nstr : BitVec 3) (emlsr : BitVec 16) (elem : List Byte) (s : State) : Out State :=
  .next (s.clocked fun (s : State) => (s.assocRequest r mac.toNat link.toNat tids.toNat
    (others.map (fun (l : SetupLink) => (⟨l.lid.toNat, l.mac.toNat, l.group.toNat, l.tids.toNat⟩ : LinkReq)))
    flags.toNat maxMpdu.toNat maxAmpdu.toNat listen.toNat nstr.toNat emlsr.toNat elem).cluOwn)

def execCtxRead (cmd : BitVec 5) (s : State) : Out State :=
  .next (s.hostAt none ACC_CTX_CMD fun (s : State) => (s.ctxCmd (cmd ||| 1)).cluOwn)
def execCtxWrite (cmd : BitVec 5) (s : State) : Out State :=
  .next (s.hostAt none ACC_CTX_CMD fun (s : State) => (s.ctxCmd (cmd ||| 2)).cluOwn)
def execCtxFree (cmd : BitVec 5) (s : State) : Out State :=
  .next (s.hostAt none ACC_CTX_CMD fun (s : State) => (s.ctxCmd (cmd ||| 8)).cluOwn)
def execCtxFlush (cmd : BitVec 5) (s : State) : Out State :=
  .next (s.hostAt none ACC_CTX_CMD fun (s : State) => (s.ctxCmd (cmd ||| 16)).cluOwn)

def execHandEndRx (h : Afette) (m : HandMsg) (same : Bool) (air : AirTime) (switchFrame : List Byte) (s : State) : Out State :=
  .next (s.handEndRx h m same air switchFrame).cluOwn.handCheck

/-! ### SYNC and the directory -/

def execSyncRx (h : Afette) (m : SyncMsg) (s : State) : Out State := .next ((s.syncRx h m).imageHook s.clu.taken)

def execDirReportRx (h : Afette) (records : List DirRecord) (s : State) : Out State :=
  .next (s.dirReportRx h records).cluOwn.handCheck

def execDirUpdateRx (h : Afette) (seq : BitVec 32) (records : List DirRecord) (s : State) : Out State :=
  .next (s.dirUpdateRx h seq.toNat records).handCheck

def execDirFullRx (h : Afette) (seq total index : BitVec 32) (records : List DirRecord) (s : State) : Out State :=
  .next (s.dirFullRx h seq.toNat total.toNat index.toNat records).handCheck

/-! ### Activations -/

def execActReady (s : State) : Out State := .next (s.clocked fun (s : State) => s.actReady.imageHook s.clu.taken)

def execActWithdrawCmd (kind : BitVec 2) (_map : BitVec 3) (s : State) : Out State :=
  .next (s.hostAt none CLU_ACT_CMD fun (s : State) => (s.actWithdraw kind.toNat).imageHook s.clu.taken)

def actOf (kind map : BitVec 8) (id : BitVec 32) (turn : BitVec 40) : Activation := ⟨kind.toNat, map.toNat, id.toNat, turn.toNat⟩

def execActRx (h : Afette) (kind map : BitVec 8) (id : BitVec 32) (turn : BitVec 40) (s : State) : Out State :=
  .next ((s.actRx h (actOf kind map id turn) false).imageHook s.clu.taken)

def execActWithdrawRx (h : Afette) (kind map : BitVec 8) (id : BitVec 32) (turn : BitVec 40) (s : State) : Out State :=
  .next ((s.actRx h (actOf kind map id turn) true).imageHook s.clu.taken)

end Sys2Proof.Machine
end

