-- ==== Sys2Proof/Machine/FrondExec.lean ====
section
/-! DEFINITION. What crosses the Frond link: the statuses of transmitted frames, and the commands of the radios, of the
access scheduler and of the braided links whose effect reaches them (spec/03_frond_radios.md R79, R81 to R83,
spec/05_scheduled_access.md R116, R117, spec/11_buffers_credits_order.md R251 to R254). -/

namespace Sys2Proof.Machine

/-! ### Statuses -/

/-- A frame whose packet is still in a buffer. -/
def State.frameLives (s : State) (f : TxFrame) : Bool := f.isBar || (s.chain? f.chain).isSome

/-- One status reaches the core die. A frame's credits come back (R252), and it goes to its kind's owner; the status OK of an AID
Switch Response frees the station's old AID (R197). A frame whose packet the spill dropped is not tried again (R257).
A template's status is kept (R79). -/
def State.deliverReturn (s : State) (x : TxReturn) : State :=
  match x.unit with
  | .solicit _ _ => s
  | .sound _ => s
  | .tpl _ => { s with acc := { s.acc with tplRet := s.acc.tplRet.set x.radio (some x) } }
  | .frame f =>
    let s1 := s.repay x.radio (creditsFor f.len)
    let s2 := match f.kind with
      | .flood => if s.frameLives f then s1.floodReturn x.radio x.status f else s1
      | .sched => if s.frameLives f then s1.floodReturn x.radio x.status f else s1
      | _ => if s.frameLives f then s1.stationReturn x f else s1.dropTx f
    if x.status = .ok then { s2 with clu := { s2.clu with peers := s2.clu.peers.filter (fun p => p.1 != f.fid) } } else s2

/-- The statuses that wait, while the Frond link is up; once the handover area is sealed they wait for its return (R254). -/
def State.deliverReturns (s : State) : State :=
  if s.flag SYS_DIE_STAT_FRN_UP && s.upd.area.isNone then s.retq.foldl State.deliverReturn { s with retq := [] } else s

/-! ### FRNn_CTL -/

def execFrnEnable (r : Fin 3) (run auto : Bool) (s : State) : Out State :=
  .next (s.hostAt none (FRN_CTL r) fun (s : State) => (s.frnCtlWrite r (ctlWord true run auto)).deliverReturns)

def execFrnDisable (r : Fin 3) (run auto : Bool) (s : State) : Out State :=
  .next (s.hostAt none (FRN_CTL r) fun (s : State) => (s.frnCtlWrite r (ctlWord false run auto)).deliverReturns)

def execFrnRunSet (r : Fin 3) (en auto : Bool) (s : State) : Out State :=
  .next (s.hostAt none (FRN_CTL r) fun (s : State) => (s.frnCtlWrite r (ctlWord en true auto)).deliverReturns)

def execFrnRunClear (r : Fin 3) (en auto : Bool) (s : State) : Out State :=
  .next (s.hostAt none (FRN_CTL r) fun (s : State) => (s.frnCtlWrite r (ctlWord en false auto)).deliverReturns)

/-! ### Operations and events of the air that return frames -/

def execTxq (r : Fin 3) (startDl end_ : BitVec 24) (chains queue : BitVec 4) (ecc : Ecc) (s : State) : Out State :=
  .next (s.opWait r (.txq startDl.toNat end_.toNat chains.toNat queue.toNat)
    (fun s => s.opTxq r startDl.toNat end_.toNat chains.toNat queue.toNat ecc)).deliverReturns

/-- TXTPL: a beacon whose build is not finished goes out with its old content, and is counted (R122). -/
def execTxtpl (r : Fin 3) (tpl : BitVec 8) (deadline : BitVec 24) (chains : BitVec 4) (dur : BitVec 24) (ecc : Ecc) (s : State) :
    Out State :=
  .next (s.opWait r (.txtpl tpl.toNat deadline.toNat chains.toNat)
    (fun s => (s.timStale r tpl.toNat).opTxtpl r tpl.toNat deadline.toNat chains.toNat dur.toNat ecc)).deliverReturns

def execSynthCalDone (r : Fin 3) (k ok : Bool) (ecc : Ecc) (s : State) : Out State := .next (s.calDone r k ok ecc).deliverReturns

def execLockLoss (r : Fin 3) (ecc : Ecc) (s : State) : Out State := .next (s.lockLoss r ecc).deliverReturns

def execPpduReceived (r : Fin 3) (p : RxPpdu) (s : State) : Out State := .next (s.ppduRx r p).deliverReturns

def execPpduTxEnd (r : Fin 3) (ecc : Ecc) (s : State) : Out State := .next (s.ppduTxEnd r ecc).deliverReturns

def execResponseReceived (r : Fin 3) (lost : List Nat) (ecc : Ecc) (s : State) : Out State :=
  .next (s.responseRx r lost ecc).deliverReturns

def execResponseTimeout (r : Fin 3) (ecc : Ecc) (s : State) : Out State := .next (s.responseTmo r ecc).deliverReturns

def execSeqMismatch (r : Fin 3) (s : State) : Out State := .next (s.seqMismatch r).deliverReturns

/-- UPLINK_MISS: at LOST the frames that wait in Frond for the upstream AP come back (R126). -/
def execUplinkMiss (s : State) : Out State := .next (s.clocked fun (s : State) => s.upMiss.deliverReturns)

/-! ### EVENT (R75, R116) -/

/-- EVT_CLASS of the blank in use: the class of sequencer EVENT tasks, or none. -/
def State.evtClass (s : State) : Option Nat :=
  match s.blk with
  | some b =>
    let v := (b.classes.getD 256 0).toNat
    if v / 128 = 1 then none else some (v % 32)
  | none => none

/-- The codes posted to the access scheduler become tasks (R116). -/
def State.postSeqEvents (s : State) : State :=
  s.seqEvs.foldl (fun (s : State) e =>
    match s.evtClass with
    | some c => s.postEvent c e.2.1 e.2.2
    | none => s.bump TSK_CNT_EVT_DROP) { s with seqEvs := [] }

def execEvent (r : Fin 3) (code : BitVec 8) (ecc : Ecc) (s : State) : Out State :=
  .next (s.opNow r (.event code.toNat) ecc (fun s => s.opEvent r code.toNat)).postSeqEvents

/-! ### Station frames (R101, R104, R196, R197) -/

/-- The next frame comes from a station that has been handed out: captured at or after the cut, or with its context gone
while its frames are still being forwarded (R196, R197). -/
def State.handedOut (s : State) : Option RxItem :=
  match s.rxq with
  | x :: _ =>
    if x.frame.kind = .flood then none
    else match s.rxAid x.radio x.frame with
      | some a =>
        let cut := decide (s.cxState a = 2) && s.cxBit a 240 1 &&
          (match x.tick with
           | some t => decide (unpackTick (s.cx a 248 8) ≤ t)
           | none => decide (unpackTick (s.cx a 248 8) ≤ s.absTick))
        if cut then some x else none
      | none => if s.clu.forward.any (fun h => (h.mac :: h.lmacs).contains x.frame.ta.toNat) then some x else none
  | [] => none

def State.frameIn (s : State) : State :=
  match s.handedOut with
  | some x => (({ s with rxq := s.rxq.drop 1 }).release x.chain ownAirRx).bump CLU_CNT_HAND_DROP
  | none => s.stationFrameRx

def execStationFrameRx (s : State) : Out State := .next (s.clocked fun (s : State) => s.frameIn)

def execContextFetchDone (aid : BitVec 13) (s : State) : Out State := .next (s.clocked fun (s : State) => s.fetchDone aid.toNat)

/-- HAND_CUT: the frames that Frond held for the station come back (R196 step 3). -/
def execHandCut (hid : BitVec 32) (s : State) : Out State := .next (s.clocked fun (s : State) => (s.handCut hid.toNat).deliverReturns)

/-! ### MLK_CMD (R133, R140) -/

def execSuspend (cmd : BitVec 4) (s : State) : Out State :=
  .next (s.hostAt none MLK_CMD fun (s : State) => (s.mlkCmd (cmd ||| 1)).deliverReturns)
def execResume (cmd : BitVec 4) (s : State) : Out State :=
  .next (s.hostAt none MLK_CMD fun (s : State) => (s.mlkCmd (cmd ||| 2)).deliverReturns)
def execRemove (cmd : BitVec 4) (s : State) : Out State :=
  .next (s.hostAt none MLK_CMD fun (s : State) => (s.mlkCmd (cmd ||| 4)).deliverReturns)
def execBraidRead (cmd : BitVec 4) (s : State) : Out State :=
  .next (s.hostAt none MLK_CMD fun (s : State) => (s.mlkCmd (cmd ||| 8)).deliverReturns)

/-! ### FROND_QUEUE_FILL (R115, R127, R159, R251) -/

/-- The window that runs, or that begins within 0x80 ticks (R436), decides which path is served: KIND 8 is FLOOD, KIND 7
UPLINK, any other with TX a station window. -/
def State.queueFill (s : State) (r : Fin 3) (tid : Nat) (air : AirTime) : State :=
  if !s.flag SYS_DIE_STAT_FRN_UP ∨ !s.placing then s
  else match (s.windowOf r (s.absTick + 0x80)).orElse (fun _ => s.windowOf r s.absTick) with
    | some (w, a, b) =>
      if w.kind = 8 then (if w.tx then s.floodFill r w a b air else s)
      else if w.kind = 7 then s.fillUplink r tid air
      else if !w.tx then s
      else s.fillStation r tid w a b air
    | none => s

def execFrondQueueFill (r : Fin 3) (tid : BitVec 4) (air : AirTime) (s : State) : Out State :=
  .next (s.clocked fun (s : State) => (s.queueFill r tid.toNat air).deliverReturns)

/-! ### FROND_LINK_RETURN (R82, R253) -/

/-- R253 for one radio: the last `lost` of the frames went down with the link and are counted; every frame of the radio
returns ABORT, those that Frond holds before the marker, the lost ones at it. The coast buffer follows in capture order. -/
def State.linkReturn (s : State) (r : Fin 3) (lost : Nat) : State :=
  let f := s.fr r
  let n := min lost f.frames.length
  let s1 := s.setFr r { f with queues := Vector.replicate 16 [], coast := [], coastBytes := 0,
                               ppdu := f.ppdu.map (fun (p : TxPpdu) => { p with units := p.units.filter (fun u => u.frame?.isNone) }) }
  let s2 := f.frames.foldl (fun s g => s.frnReturn r (.frame g) .abort none) s1
  let s3 := if n = 0 then s2 else (s2.bumpBy CHK_CNT_CRED_LOST n).raise CHK_EVT_CRED_LOST
  s3.airInAll f.coast

/-- FROND_LINK_RETURN: the link is up again; `lost` counts for each radio the frames that were in flight toward Frond. -/
def State.frondReturn (s : State) (l0 l1 l2 : Nat) : State :=
  if s.flag SYS_DIE_STAT_FRN_UP then s
  else ((((s.put SYS_DIE_STAT_FRN_UP 1).linkReturn 0 l0).linkReturn 1 l1).linkReturn 2 l2).deliverReturns

def execFrondLinkReturn (lost0 lost1 lost2 : BitVec 14) (s : State) : Out State :=
  .next (s.frondReturn lost0.toNat lost1.toNat lost2.toNat)

end Sys2Proof.Machine
end

