-- ==== Sys2Proof/Machine/Faults.lean ====
section
/-! DEFINITION. The fault collector (spec/19_faults_test.md R379 to R390): classification, records, reactions, ERR_N. -/

namespace Sys2Proof.Machine

/-! ### The policy of a source (R296) -/

structure FltPol where
  n : Nat
  win : Nat
  quiet : Nat
  minor : Nat
  major : Nat
  tclass : Nat
  deriving DecidableEq, Repr

/-- The policy of a source without an entry. -/
def polDefault : FltPol := ⟨1, 1000, 0, 0, 1, 0⟩

def State.policy (s : State) (src : Nat) : FltPol :=
  let f : List Byte := match s.blk with
    | some b => b.faultpol
    | none => []
  match (entries 16 f.length f).find? (fun e => num e 0 1 == src) with
  | some e => ⟨num e 2 1, num e 4 2, num e 6 2, num e 8 1 % 32, num e 9 1 % 32, num e 10 1 % 32⟩
  | none => polDefault

def reactIrq : Nat := 0
def reactTask : Nat := 1
def reactErrn : Nat := 2
def reactIsolate : Nat := 3
def reactReset : Nat := 4

def reacts (m i : Nat) : Bool := decide (m / 2 ^ i % 2 = 1)

/-! ### Sources -/

def State.fltSrc (s : State) (k : Nat) : FltSource := SMap.get (fun _ => {}) s.flt.srcs k

def State.setSrc (s : State) (k : Nat) (x : FltSource) : State :=
  { s with flt := { s.flt with srcs := SMap.set (fun _ => {}) s.flt.srcs k x } }

/-- FLT_SRC_STAT of the selected source. -/
def State.srcStat (s : State) : Word :=
  let k := (s.rd FLT_SRC_SEL).toNat % 256
  let x := s.fltSrc k
  let live : Bool := match x.winEnd with
    | some w => decide (s.ref < w)
    | none => false
  if 191 < k then 0 else BitVec.ofNat 32 (x.state + 2 ^ 8 * (if live then min 255 x.count else 0) + 2 ^ 16 * x.recovered)

/-- FLT_SRC_POL of the selected source. -/
def State.srcPol (s : State) : Word :=
  let k := (s.rd FLT_SRC_SEL).toNat % 256
  let p := s.policy k
  if 191 < k then 0 else BitVec.ofNat 32 (p.n + 2 ^ 8 * p.minor + 2 ^ 16 * p.major + 2 ^ 24 * p.tclass)

/-! ### The fault vector and ERR_N (R383, R386) -/

def State.fltVector (s : State) : Bool := (List.range 6).any (fun k => s.rd (FLT_PEND k) &&& s.rd (FLT_MASK k) != 0)

/-- The vector is raised when a first bit of FLT_PENDk AND FLT_MASKk becomes set. -/
def State.vectorAfter (s : State) (before : Bool) : State :=
  if s.fltVector && !before then s.emit (.msix (s.get HIF_VEC_FLT)) else s

def State.fltIrq (s : State) (src : Nat) : State :=
  let a := FLT_PEND (src / 32)
  (s.wr a (s.rd a ||| BitVec.ofNat 32 (2 ^ (src % 32)))).vectorAfter s.fltVector

/-- The device holds ERR_N low. -/
def State.errnLow (s : State) : Bool :=
  s.flag FLT_ERRN_CTL_FORCE || (match s.flt.errn with
    | some t => decide (t ≤ s.ref)
    | none => false)

def State.errnAfter (s : State) (before : Bool) : State := if s.errnLow = before then s else s.emit (.errN s.errnLow s.ref)

/-- A pulse is asked for: merged into the present one, and never sooner than 10 µs after the last. -/
def State.errnPulse (s : State) : State :=
  match s.flt.errn with
  | some _ => s
  | none =>
    let t := max s.ref s.flt.errnNext
    let s1 := { s with flt := { s.flt with errn := some t } }
    if s.flag FLT_ERRN_CTL_FORCE then s1 else s1.emit (.errN true t)

/-- A write of FLT_ERRN_CTL. -/
def State.errnCtl (s : State) (pulse force mask : Bool) : State :=
  let s1 := ((s.putB FLT_ERRN_CTL_FORCE force).putB FLT_ERRN_CTL_MASK mask).errnAfter s.errnLow
  if pulse then s1.errnPulse else s1

def execPulse (force mask : Bool) (s : State) : Out State :=
  .next (s.hostAt none FLT_ERRN_CTL fun (s : State) => s.errnCtl true force mask)

/-- ERRN_PULSE_END: `ns` beyond the least width of 10 µs, at most 2,000. -/
def State.errnEnd (s : State) (ns : Nat) : State :=
  match s.flt.errn with
  | none => s
  | some t =>
    let s1 := s.toRef (t + 20000 + 2 * min 2000 ns)
    let s2 := { s1 with flt := { s1.flt with errn := none, errnNext := s1.ref + 20000 } }
    if s2.flag FLT_ERRN_CTL_FORCE then s2 else s2.emit (.errN false s2.ref)

def execErrnPulseEnd (ns : BitVec 11) (s : State) : Out State := .next (s.clocked fun (s : State) => s.errnEnd ns.toNat)

/-! ### Isolation (R384) -/

/-- The register and bit whose clearing is a source's safe state; none where its block has none. -/
def isoBit (src : Nat) : Option (Nat × Nat) :=
  if 19 ≤ src ∧ src < 52 then some (FRN_CTL ((src - 19) / 11), 1)
  else if 52 ≤ src ∧ src < 63 then some (ACC_CTL, 0)
  else if 68 ≤ src ∧ src < 75 then some (FLD_CTL, 0)
  else if 75 ≤ src ∧ src < 88 then some (CLU_CTL, 0)
  else if 97 ≤ src ∧ src < 111 then some (ETH_CTL ((src - 97) / 7), 0)
  else if 125 ≤ src ∧ src < 141 then some (GGE_CTL (src - 125), 0)
  else if 149 ≤ src ∧ src < 153 then some (CIP_CTL, src - 149)
  else if 184 ≤ src ∧ src < 191 then some (ITT_CFG, src - 184)
  else none

/-- Write one bit of a block's register, with what a write of it does. -/
def State.isoWrite (s : State) (src a bit : Nat) (v : Bool) : State :=
  let w := if v then s.rd a ||| BitVec.ofNat 32 (2 ^ bit) else s.rd a &&& ~~~ BitVec.ofNat 32 (2 ^ bit)
  if src < 30 then (s.frnCtlWrite 0 w).deliverReturns
  else if src < 41 then (s.frnCtlWrite 1 w).deliverReturns
  else if src < 52 then (s.frnCtlWrite 2 w).deliverReturns
  else if a = ACC_CTL then s.accCtlWrite v (s.get ACC_CTL_LINK_EN)
  else if a = CLU_CTL then (if v then s.cluEnable else s.cluDisable)
  else if a = ETH_CTL 0 then s.ethCtlWrite 0 w
  else if a = ETH_CTL 1 then s.ethCtlWrite 1 w
  else if 125 ≤ src ∧ src < 141 then s.ggeCtlWrite (src - 125) w
  else s.wr a w

/-- ISOLATE: the bit is cleared, and remembered when it was set. -/
def State.isolate (s : State) (src : Nat) : State :=
  match isoBit src with
  | none => s
  | some (a, b) =>
    if (s.rd a).getLsbD b then (s.setSrc src { s.fltSrc src with iso := some a }).isoWrite src a b false else s

/-- The source returns to CLEAR: recovery is counted, and its isolation undone unless the host has written the register. -/
def State.fltClear (s : State) (src : Nat) : State :=
  let x := s.fltSrc src
  let s1 := (s.setSrc src { recovered := min 0xFFFF (x.recovered + 1), last := x.last }).bump FLT_CNT_RECOVER
  match x.iso, isoBit src with
  | some _, some (a, b) => s1.isoWrite src a b true
  | _, _ => s1

/-! ### Records (R387 to R389) -/

def recAt (pos : Nat) : Nat := 0x021000 + 32 * (pos % 64)

def State.ringWr (s : State) : Nat := s.get FLT_RING_WR
def State.ringRd (s : State) : Nat := s.get FLT_RING_RD

/-- Records in the ring when RD reads `rd`. -/
def State.recsHeld (s : State) (rd : Nat) : Nat := (s.ringWr + 128 - rd % 128) % 128

/-- The record of an index is in the ring. -/
def State.recLive (s : State) (pos : Nat) : Bool := decide ((pos + 128 - s.ringRd % 128) % 128 < s.recsHeld s.ringRd)

/-- A new record of one event. -/
def recBytes (e : FltEvent) (state react seq : Nat) (cont second : Bool) : List Byte :=
  let fl := state % 4 + (if cont then 8 else 0) + (if second then 16 else 0) + (if e.est then 32 else 0) +
    (if e.src = 6 then 64 else 0)
  leBytes 8 e.tick ++ leBytes 8 e.tick ++ leBytes 1 e.src ++ leBytes 1 fl ++ leBytes 1 react ++ [0] ++ leBytes 2 1 ++
    leBytes 2 e.code ++ leBytes 4 e.detail ++ leBytes 4 seq

/-- A record with one more event merged into it. -/
def recMerge (r : List Byte) (e : FltEvent) (state react : Nat) : List Byte :=
  r.take 8 ++ leBytes 8 e.tick ++ (r.drop 16).take 1 ++ leBytes 1 (num r 17 1 / 4 * 4 % 256 ||| (4 + state % 4)) ++
    leBytes 1 (num r 18 1 ||| react) ++ (r.drop 19).take 1 ++ leBytes 2 (min 0xFFFF (num r 20 2 + 1)) ++ r.drop 22

/-- The ring is full: the record is not written. -/
def State.recLost (s : State) : State := (s.bump FLT_CNT_OVERFLOW).put FLT_FLAG_OVERFLOW 1

/-- A new record at WR; answers its index, none where the ring is full. -/
def State.recNew (s : State) (e : FltEvent) (state react : Nat) (cont second : Bool) : State × Option Nat :=
  if 64 ≤ s.recsHeld s.ringRd then (s, none)
  else
    let p := s.ringWr
    let s1 := { s with flt := { s.flt with seq := s.flt.seq + 1 } }
    (((s1.memPut (recAt p) (recBytes e state react (s.flt.seq + 1) cont second)).put FLT_RING_WR ((p + 1) % 128)), some p)

/-- A record joins the persistent log, which keeps the newest 16. -/
def State.plogAppend (s : State) (r : List Byte) : State :=
  let n := s.flt.logTot
  let s1 := { s with flt := { s.flt with logTot := n + 1 } }
  if n < 16 then s1.memPut (plogAt + 32 * n) r else s1.memPut plogAt ((s.memBytes (plogAt + 32) 480) ++ r)

/-- The place of the log's entry with a serial number; none once it has been removed. -/
def State.plogPlace (s : State) (k : Nat) : Option Nat :=
  let lo := s.flt.logTot - min 16 s.flt.logTot
  if lo ≤ k ∧ k < s.flt.logTot then some (plogAt + 32 * (k - lo)) else none

/-- The record of an episode is written or updated (R388); answers its bytes as they then stand. -/
def State.fltRecord (s : State) (e : FltEvent) (was state react : Nat) : State × List Byte :=
  let x := s.fltSrc e.src
  let live : Option Nat := x.pos.filter s.recLive
  let s1 := if was = 0 then s else s.bump FLT_CNT_MERGED
  match (if was = 0 then none else live) with
  | some p =>
    let r := recMerge (s1.memBytes (recAt p) 32) e state react
    (s1.memPut (recAt p) r, r)
  | none =>
    let cont := decide (was ≠ 0)
    let (s2, p) := s1.recNew e state react cont false
    let s3 := s2.setSrc e.src { s2.fltSrc e.src with pos := p, logged := none }
    match p with
    | some q => (s3, s3.memBytes (recAt q) 32)
    | none => (s3.drawn.recLost, recBytes e state react (s3.draw % 2 ^ 32) cont false)

/-- A BOOT record stands in the log as well; a merged one is rewritten there. -/
def State.bootLog (s : State) (src : Nat) (r : List Byte) : State :=
  match (s.fltSrc src).logged.bind s.plogPlace with
  | some a => s.memPut a r
  | none => (s.setSrc src { s.fltSrc src with logged := some s.flt.logTot }).plogAppend r

/-! ### Classification and reactions (R381, R383, R385, R390) -/

/-- A second error: recorded with SECOND, counted, and no reaction but IRQ. -/
def State.secondError (s : State) (e : FltEvent) : State :=
  let s1 := (s.bump FLT_CNT_SECOND).put FLT_FLAG_SECOND 1
  ((s1.recNew e (s.fltSrc e.src).state 1 false true).1).fltIrq e.src

/-- A RESET inside the guard after a fault boot is replaced (R385). -/
def State.guarded (s : State) (e : FltEvent) (react : Nat) : Nat × Bool :=
  if reacts react reactReset && decide (s.get PWR_LAST_BOOT = bootFault) &&
      decide (2 * e.cycle < s.pwr.bootAt + 2000000000 * ((s.rd FLT_RST_GUARD).toNat % 2 ^ 16)) then
    (react % 16 ||| 13, true)
  else (react, false)

/-- The reactions in their order; what they raise is a second error. -/
def State.react (s : State) (e : FltEvent) (p : FltPol) (m : Nat) (r : List Byte) : State :=
  let s0 := { s with flt := { s.flt with reacting := true } }
  let s1 := if reacts m reactIsolate then s0.isolate e.src else s0
  let s2 := if reacts m reactTask then s1.postEvent p.tclass e.src e.tick else s1
  let s3 := if reacts m reactIrq then s2.fltIrq e.src else s2
  let s4 := if reacts m reactErrn && !s3.flag FLT_ERRN_CTL_MASK then s3.errnPulse else s3
  let s5 := { s4 with flt := { s4.flt with reacting := false } }
  if reacts m reactReset then (if e.src = 6 then s5 else s5.plogAppend r).fullReset bootFault else s5

/-- The event is counted in its window and classed; then recorded, then reacted to. -/
def State.classifyEvent (s : State) (e : FltEvent) : State :=
  let p := s.policy e.src
  let t := 2 * e.cycle
  let x0 := s.fltSrc e.src
  let s0 := if x0.state ≠ 0 ∧ p.quiet ≠ 0 ∧ x0.last + 2000000 * p.quiet < t then s.fltClear e.src else s
  let x := s0.fltSrc e.src
  let fresh : Bool := match x.winEnd with
    | some w => decide (w ≤ t)
    | none => true
  let cnt := if fresh then 1 else x.count + 1
  let was := x.state
  let now := if was = 2 ∨ p.n ≤ cnt then 2 else 1
  let asked := if was = 2 then 0 else if now = 2 then p.major else p.minor
  let (m, sup) := s0.guarded e asked
  let s1 := if sup then s0.put FLT_FLAG_RST_SUPPRESSED 1 else s0
  let s2 := (s1.bump FLT_CNT_EVENTS).setSrc e.src
    { x with state := now, count := cnt, last := t,
             winEnd := if fresh then some (t + 2000000 * p.win) else x.winEnd }
  let (s3, r) := s2.fltRecord e was now m
  (if e.src = 6 then s3.bootLog e.src r else s3).react e p m r

/-- FAULT_EVENT: the first event that waits is handled. -/
def State.faultEvent (s : State) : State :=
  match s.flt.queue with
  | [] => s
  | e :: q =>
    let s0 := { s with flt := { s.flt with queue := q } }
    if !s.flag FLT_CTL_EN then s0 else if e.second then s0.secondError e else s0.classifyEvent e

def execFaultEvent (s : State) : Out State := .next (s.clocked fun (s : State) => s.faultEvent)

/-- Some event of the source that is due by reference time `t` has still to be classified. -/
def State.fltDue (s : State) (src t : Nat) : Bool := s.flt.queue.any (fun e => e.src == src && decide (2 * e.cycle ≤ t))

/-- FAULT_WINDOW_EXPIRY. -/
def State.windowEnd (s : State) (src : Nat) : State :=
  let x := s.fltSrc src
  match x.winEnd with
  | some w => if s.fltDue src (w - 1) then s else (s.toRef w).setSrc src { x with count := 0, winEnd := none }
  | none => s

def execFaultWindowExpiry (src : BitVec 8) (s : State) : Out State := .next (s.clocked fun (s : State) => s.windowEnd src.toNat)

/-- QUIET_EXPIRY: an event in the very cycle keeps the source where it is. -/
def State.quietEnd (s : State) (src : Nat) : State :=
  let x := s.fltSrc src
  let p := s.policy src
  let t := x.last + 2000000 * p.quiet
  if x.state = 0 ∨ p.quiet = 0 ∨ s.fltDue src t = true then s else (s.toRef t).fltClear src

def execQuietExpiry (src : BitVec 8) (s : State) : Out State := .next (s.clocked fun (s : State) => s.quietEnd src.toNat)

/-- CLEAR: FLT_SRC_CMD with CLEAR, for the source that FLT_SRC_SEL selects. -/
def State.srcClear (s : State) : State :=
  let k := (s.rd FLT_SRC_SEL).toNat % 256
  if 191 < k ∨ (s.fltSrc k).state = 0 then s else s.fltClear k

def execClear (s : State) : Out State :=
  .next (s.hostAt none FLT_SRC_CMD fun (s : State) => s.srcClear)

/-- RING_RD_WRITE: a write that would make the ring hold more is ignored. -/
def State.ringRdWrite (s : State) (rd : Nat) : State :=
  if s.recsHeld s.ringRd < s.recsHeld rd then s else s.put FLT_RING_RD (rd % 128)

def execRingRdWrite (rd : BitVec 7) (s : State) : Out State :=
  .next (s.hostAt none FLT_RING fun (s : State) => s.ringRdWrite rd.toNat)

end Sys2Proof.Machine
end

