-- ==== Sys2Proof/Machine/Itt.lean ====
section
/-! DEFINITION. The idle-time test (spec/19_faults_test.md R391 to R393). -/

namespace Sys2Proof.Machine

/-- The most ticks that a step of a test takes (R392). -/
def ittMax (t : Nat) : Nat := [0x40, 0x40, 0x40, 0x20, 0x100, 0x200].getD t 0

/-- The steps of a round. -/
def ittSteps (t : Nat) : Nat := [256, 1024, 736, 4, 16, 12, 1].getD t 0

def ittMarchEng : Nat := 0
def ittCipKat : Nat := 3
def ittDramPat : Nat := 4
def ittRfLoop : Nat := 5
def ittRtcFreq : Nat := 6

/-- A test runs in a round: its bit of ITT_CFG, and for DRAM_PAT an ITT region. -/
def State.ittOn (s : State) (t : Nat) : Bool :=
  (s.rd ITT_CFG).getLsbD t && (decide (t ≠ ittDramPat) || (s.region 7).isSome)

/-- The first enabled test from `t` on; none at the end of the round. -/
def State.ittNext (s : State) (t : Nat) : Option Nat := (List.range 7).find? (fun i => decide (t ≤ i) && s.ittOn i)

/-- The round stands at a test's first block; the measurement of RTC_FREQ, which takes no angle, begins at once. -/
def State.ittAt (s : State) (t : Option Nat) : State :=
  match t with
  | some i =>
    let s1 := (s.put ITT_POS_TEST i).put ITT_POS_BLK 0
    if i = ittRtcFreq then (({ s1 with itt := { s1.itt with step := some (6, s1.ref) } }).put ITT_STAT_TEST 6).put ITT_STAT_RUNNING 1
    else s1
  | none =>
    ((({ s with itt := { s.itt with going := false } }).put ITT_POS_TEST 0).put ITT_POS_BLK 0).bumpF ITT_STAT_ROUNDS

/-- A step has completed: the next block, the next test, or the end of the round. -/
def State.ittAdvance (s : State) (t : Nat) : State :=
  let b := s.get ITT_POS_BLK + 1
  if b < ittSteps t then s.put ITT_POS_BLK b else s.ittAt (s.ittNext (t + 1))

/-- ITT_ROUND_START: ITT_PERIOD turns after the last start, or when that round ends, whichever is later. -/
def State.ittRound (s : State) : State :=
  let due : Bool := match s.itt.round with
    | some t => decide (t + atLeast1 ((s.rd ITT_PERIOD).toNat % 2 ^ 16) ≤ s.turn)
    | none => true
  if s.flag ITT_CTL_EN && !s.itt.going && due && s.running then
    match s.ittNext 0 with
    | some t => ({ s with itt := { s.itt with round := some s.turn, going := true, starved := false } }).ittAt (some t)
    | none => s
  else s

def execIttRoundStart (s : State) : Out State := .next s.ittRound

/-- ITT_BUDGET, at most 1% of a turn. -/
def State.ittBudget (s : State) : Nat := min 0x28F5C ((s.rd ITT_BUDGET).toNat % 2 ^ 24)

/-- No step starts while HELD, outside RUN and IDLE, or after a turnover's handover start (R391). -/
def State.ittMay (s : State) : Bool :=
  s.flag ITT_CTL_EN && s.itt.going && s.itt.step.isNone && s.running && !s.flag SPN_STAT_HELD &&
    decide (s.get PWR_STAT_STATE ≤ 1) && decide (s.pwr.phase = .run) && decide (s.get UPD_STAT_TOV < 2)

/-- What the step needs beside an IDLE window: for CIP_KAT another enabled lane, for DRAM_PAT the helper. -/
def State.ittSpare (s : State) (t : Nat) : Bool :=
  if t = ittCipKat then (List.range 4).any (fun l => l != s.get ITT_POS_BLK && (s.rd CIP_CTL).getLsbD l)
  else if t = ittDramPat then s.dmc.pat.isNone else true

/-- ITT_STEP_START in an IDLE window of radio `r`: a step that does not fit, or lacks a lane, waits and is counted. -/
def State.ittStart (s : State) (r : Fin 3) : State :=
  let t := s.get ITT_POS_TEST
  match s.windowOf r s.absTick with
  | some (w, _, end_) =>
    if w.kind ≠ 9 ∨ s.ittMay = false ∨ ittRtcFreq ≤ t then s
    else if s.ittOn t = false then s.ittAt (s.ittNext (t + 1))
    else if t = ittRfLoop ∧ s.get ITT_POS_BLK / 4 ≠ r.val then s
    else if s.absTick + ittMax t ≤ end_ ∧ (s.rd ITT_USED).toNat + ittMax t ≤ s.ittBudget ∧ s.ittSpare t = true then
      let s1 := (({ s with itt := { s.itt with step := some (t, s.absTick) } }).put ITT_STAT_TEST t).put ITT_STAT_RUNNING 1
      if t = ittDramPat then s1.put DMC_PAT_STAT_BUSY 1 else s1
    else s.bump ITT_CNT_WAIT
  | none => s

def execIttStepStart (r : Fin 3) (s : State) : Out State := .next (s.ittStart r)

/-- A step of a test ends: counted, and a failure raised with the block index as its detail (R387, R392). -/
def State.ittEnd (s : State) (t : Nat) (fail : Bool) : State :=
  let blk := s.get ITT_POS_BLK
  let s1 := ((({ s with itt := { s.itt with step := none } }).put ITT_STAT_RUNNING 0).put ITT_STAT_TEST 0).bump ITT_CNT_STEP
  let s2 := if fail then (s1.bump ITT_CNT_FAIL).raiseD ⟨ITT_EVT, t, 1⟩ blk else s1
  s2.ittAdvance t

/-- A step of DRAM_PAT has written its 64 KiB of the ITT region, from a seed that the spec does not give: what the helper had left
there is gone. -/
def State.ittWrote (s : State) : State :=
  match s.region 7 with
  | some (b, _) =>
    let hit := fun (k : Nat) => (List.range 1024).any (fun i => (s.dramAt (b * 2 ^ 20 + 65536 * s.get ITT_POS_BLK + 64 * i)).cell == k)
    { s with dmc := { s.dmc with cells := s.dmc.cells.filter (fun e => !hit e.1) } }
  | none => s

/-- ITT_STEP_DONE, `ticks` after the start and at most the test's maximum. -/
def State.ittDone (s : State) (fail : Bool) (ticks : Nat) : State :=
  match s.itt.step with
  | some (t, at_) =>
    if ittRtcFreq ≤ t then s
    else
      let d := max 1 (min (ittMax t) ticks)
      let s1 := s.toAbsTick (at_ + d)
      let s2 := s1.wr ITT_USED (BitVec.ofNat 32 ((s1.rd ITT_USED).toNat + d))
      let s3 := if t = ittDramPat then
          ((s2.ittWrote.put DMC_PAT_STAT_BUSY 0).putB DMC_PAT_STAT_MISMATCH fail).raiseIf fail DMC_EVT_PAT_MISMATCH
        else s2
      s3.ittEnd t fail
  | none => s

def execIttStepDone (fail : Bool) (ticks : BitVec 10) (s : State) : Out State := .next (s.ittDone fail ticks.toNat)

/-- STARVED, once in a round. -/
def State.ittStarved (s : State) : State :=
  match s.itt.round with
  | some t =>
    if s.flag ITT_CTL_EN && s.itt.going && !s.itt.starved then
      let s1 := s.toAbsTick ((t + atLeast1 ((s.rd ITT_ROUND_MAX).toNat % 2 ^ 16)) * turnTicks)
      ({ s1 with itt := { s1.itt with starved := true } }).raise ITT_EVT_STARVED
    else s
  | none => s

def execStarved (s : State) : Out State := .next s.ittStarved

/-- The RTC's error against 879,609.3 edges in 2^30 reference cycles, in ppb; the spec states no rounding, so of the two
neighbours of a quotient that is not whole one is taken freely (log entry 25). -/
def rtcPpb (edges free : Nat) : Int :=
  let n : Int := ((edges : Int) * 10 - 8796093) * 1000000000
  if n % 8796093 = 0 then n / 8796093 else n / 8796093 + (free % 2 : Nat)

/-- RTC_FREQ_DONE: 2^30 cycles after the measurement began. -/
def State.rtcFreqDone (s : State) (edges : Nat) : State :=
  match s.itt.step with
  | some (t, at_) =>
    if t = ittRtcFreq then
      let p := rtcPpb edges s.draw
      let s1 := (s.drawn.toRef (at_ + 2 ^ 30 * 50)).wr ITT_RTC_PPB (word32 p)
      s1.ittEnd t (decide ((((s.rd ITT_RTC_LIM).toNat % 2 ^ 16) * 1000 : Int) < p.natAbs))
    else s
  | none => s

def execRtcFreqDone (edges : BitVec 24) (s : State) : Out State := .next (s.rtcFreqDone edges.toNat)

end Sys2Proof.Machine
end

