-- ==== Sys2Proof/Machine/Turnover.lean ====
section
/-! DEFINITION. Turnovers: the handover start, the reset of the core die at turn start T, and the turnover boot
(spec/14_update_turnover.md R315 to R320). What the handover area holds is the structure `Handover`. -/

namespace Sys2Proof.Machine

/-! ### Handover start (R315) -/

/-- The turnover is cancelled at its handover start; the session stays READY. -/
def State.cancelTurn (s : State) : State :=
  (({ s with upd := { s.upd with armed := none, sessAt := s.ref } }).put UPD_STAT_TOV 0).raise UPD_EVT_CANCELLED

/-- Every ONLINE engine drains; classes that wait have no ONLINE engine any more (R266). -/
def State.drainAll (s : State) : State :=
  ((List.range 16).foldl (fun (s : State) e => if s.get (GGE_STAT_STATE e) = 0 then s.put (GGE_STAT_STATE e) 1 else s) s).engineGone s

/-- Steps 1 to 3 begin; coasting is named for turn T. -/
def State.handoverGo (s : State) (a : TurnArm) : State :=
  let s1 := if a.fallback then s else s.setSlot s.jrn.staging .pending
  let s2 := (s1.put UPD_STAT_TOV 2).drainAll
  { s2 with frn := s2.frn.map (fun f => { f with coastAt := some a.turn }) }

/-! ### What does not outlast the old blank (R315 steps 3, 4, 7; R318) -/

/-- A timer that is armed, or whose firing waits. -/
def Timer.live (x : Timer) : Bool := x.at_.isSome || x.fired.isSome

/-- A task that step 4 discards: READY, without a packet. -/
def Task.spare (t : Task) : Bool := t.slot.isNone && t.st.isReady

/-- Step 3 ends: every slot still used becomes a hole and is passed, and a task of it that has not started is freed. -/
def State.slotsEnd (s : State) : State :=
  let seqs := s.prs.slots.map (·.seq)
  let s1 := seqs.foldl State.dropSlotRef s
  let s2 := s1.setTasks (s1.tsk.tasks.filter (fun t => t.slot.all (fun q => !seqs.contains q) || t.st.isRun))
  ({ s2 with prs := { s2.prs with slots := [] } }.robShow).bumpBy UPD_CNT_HO_DROP seqs.length

/-- Step 4: tasks without a packet that are still READY, waiting events and armed timers are discarded, each counted. -/
def State.tasksEnd (s : State) : State :=
  let n := (s.tsk.tasks.filter Task.spare).length + s.tsk.evq.length + (s.tsk.timers.filter (fun e => e.2.live)).length
  (({ s with tsk := { s.tsk with tasks := s.tsk.tasks.filter (fun t => !t.spare), evq := [], timers := [] } }).tskShow).bumpBy
    UPD_CNT_HO_DROP n

/-- What is left without a packet's place in the area, and is lost with the core die: packets of the loop queue, tasks that still run,
frames of the port queues. -/
def State.lostAtReset (s : State) : Nat :=
  s.prs.loopq.length + s.prs.slots.length + (s.tsk.tasks.filter (fun t => t.slot.isNone)).length + s.tsk.evq.length +
    (s.tsk.timers.filter (fun e => e.2.live)).length +
    (s.eth.toList.map (fun e => e.ingress.length + e.txq.length + e.timing.length + e.late.length)).sum

/-- Owners that hold nothing over a turnover: the ports, ROB and the engines. -/
def passes (o : Nat) : Bool := decide (o ≠ ownEth 0 ∧ o ≠ ownEth 1 ∧ o ≠ ownRob ∧ o ≠ ownGge)

/-- References of owners that pass nothing on are released; a chain without references is freed. -/
def State.releaseLost (s : State) : State :=
  let gone := s.chk.chains.filter (fun c => (c.owners.filter passes).isEmpty)
  let kept := (s.chk.chains.filter (fun c => !(c.owners.filter passes).isEmpty)).map
    (fun (c : Chain) => { c with owners := c.owners.filter passes })
  ({ s with chk := { s.chk with chains := kept } }).freeBuf (gone.flatMap (fun (c : Chain) => c.bufs))

/-! ### Spilling (R257) -/

/-- On-die handles of a chain get free DRAM buffers, one after the other. -/
def State.spillBufs (s : State) (used : List Nat) : List Nat → State × List Nat × List Nat
  | [] => (s, [], used)
  | h :: t =>
    if hTier h = 1 then
      let i := freeFrom used (atLeast1 (s.rd CHK_DRAM_CNT).toNat) (used.length + 1) s.draw
      let s1 := ((s.wr CHK_FREE_DRAM (s.rd CHK_FREE_DRAM - 1)).wr CHK_FREE_ODIE (s.rd CHK_FREE_ODIE + 1)).drawn
      let (s2, l, u) := s1.spillBufs (i :: used) t
      (s2, mkHandle false i :: l, u)
    else
      let (s2, l, u) := s.spillBufs used t
      (s2, h :: l, u)

/-- One chain: spilled, or dropped whole. -/
def State.spillChain (s : State) (c : Chain) : State :=
  let n := (c.bufs.filter (fun h => hTier h == 1)).length
  if n = 0 then s
  else if (s.rd CHK_FREE_DRAM).toNat < n then ((s.dropChain c.id).bump CHK_CNT_SPILL_DROP).raise CHK_EVT_SPILL_DROP
  else
    let (s1, l, _) := s.spillBufs (s.usedIdx false) c.bufs
    { s1 with chk := { s1.chk with chains := setChain s1.chk.chains { c with bufs := l } } }

def State.spill (s : State) : State := s.chk.chains.foldl State.spillChain s

def State.chainLives (s : State) (id : Nat) : Bool := (s.chain? id).isSome

/-- Frames of a radio whose packet was dropped leave Frond and return ABORT, so that their credits come back (R251, R254). -/
def State.purgeFrond (s : State) (r : Fin 3) : State :=
  let f := s.fr r
  let dead := f.queues.toList.flatten.filter (fun g => !s.frameLives g)
  let s1 := s.setFr r { f with queues := f.queues.map (fun q => q.filter s.frameLives) }
  dead.foldl (fun (s : State) g => s.frnReturn r (.frame g) .abort none) s1

/-- RXR.HELD counts the held frames of an active reorder buffer anew; without one the hole timer stops. -/
def State.recountHeld (s : State) (a t : Nat) : State :=
  let n := ((List.range (s.wsize a t)).filter (fun k =>
    (s.poolGet (s.entryIdx a t (s.wstart a t + k))).any (fun e => e.held.isSome))).length
  let s1 := s.mrSet a (rxr t + 8) 2 n
  if n = 0 then s1.setRflag a t 1 false else s1

/-- The active reorder buffers: station and traffic identifier. -/
def State.activeBufs (s : State) : List (Nat × Nat) :=
  ((s.ctx.filter (fun e => e.1 % 256 == 194)).map (fun e => e.1 / 256)).flatMap
    (fun a => ((List.range 8).filter (fun t => s.cxBit a 194 t)).map (fun t => (a, t)))

/-- Nothing names a packet that the spill dropped. -/
def State.purge (s : State) : State :=
  let live := s.chainLives
  let item := fun (x : RxItem) => live x.chain
  let stage := fun (x : RxStage) => live x.item.chain
  let acc := { s.acc with queues := s.acc.queues.map (fun (e : Nat × List TxFrame) => (e.1, e.2.filter s.frameLives)),
                          fetching := s.acc.fetching.filter (fun (e : Nat × RxItem) => item e.2) }
  let held := fun (e : Nat × Option PoolEntry) => match e.2 with
    | some p => (match p.held with
      | some x => stage x
      | none => true)
    | none => true
  let mlkx := { s.mlkx with pool := s.mlkx.pool.filter held,
                            settling := s.mlkx.settling.map (fun (x : Settle) => { x with late := x.late.filter stage }) }
  let fld := { s.fld with queues := s.fld.queues.map (fun q => q.filter s.frameLives),
                          again := s.fld.again.map (fun q => q.filter s.frameLives),
                          waiting := s.fld.waiting.filter (fun (w : FloodWait) => live w.chain) }
  let s1 := { s with acc := acc, mlkx := mlkx, fld := fld, rxq := s.rxq.filter item, cipq := s.cipq.filter stage,
                     mlkq := s.mlkq.filter stage, prsq := s.prsq.filter (fun k => live k.chain),
                     ciptx := s.ciptx.filter (fun e => s.frameLives e.2),
                     hif := { s.hif with wait := s.hif.wait.filter (fun w => live w.chain) } }
  let s2 := if s1.mlkx.pool.length = s.mlkx.pool.length then s1 else s1.activeBufs.foldl (fun s b => s.recountHeld b.1 b.2) s1
  (((s2.purgeFrond 0).purgeFrond 1).purgeFrond 2).deliverReturns

/-! ### The handover area (R254, R256, R316) -/

/-- Registers of the core-die blocks but UPD. -/
def coreReg (a : Nat) : Bool :=
  decide (a < 0x160000) && !thallusReg a && decide (a < 0x070000 ∨ 0x080000 ≤ a)

/-- What the register image says: the RW bits of every register of the core-die blocks; one that is not listed has its reset
value. -/
def State.regImage (s : State) : List (Nat × Word) :=
  (s.regs.filter (fun e => coreReg e.1)).filterMap (fun (e : Nat × Word) =>
    (regRow e.1).bind (fun r => if r.rw = 0 then none else some (e.1, (e.2 &&& r.rw) ||| (r.reset &&& ~~~r.rw))))

/-- What the device alone moves and the area records, or what shows memories that carry over (R318). -/
def shownAddrs : List Nat :=
  [CLU_STAT, CLU_TERM, CLU_DSEQ, MLK_STAT, PRS_EM_STAT, ACC_UP_STAT, ACC_UP_TSF_LO, ACC_UP_TSF_HI, HIF_STS_HEAD] ++
    (List.range 3).map ACC_PLAN_STAT ++ (List.range 32).map HIF_Q_RX_HEAD ++ (List.range 32).map HIF_Q_TX_HEAD

/-- What the cluster unit takes over: the state record, the directory, and its place among the SYNC slots. -/
def CluState.sealed (c : CluState) : CluState :=
  { slot := c.slot, run := c.run, caught := c.caught, hbAt := c.hbAt, dir := c.dir, devs := c.devs, staged := c.staged,
    noDeputy := c.noDeputy, taken := c.taken, withdrawn := c.withdrawn, heard := c.heard, peers := c.peers }

/-- Station contexts and queues as they stand; what was being built or fetched is begun again. -/
def AccState.sealed (a : AccState) : AccState :=
  { a with cache := [], building := [], genTurn := Vector.replicate 3 none }

def FldState.sealed (f : FldState) : FldState :=
  { f with sorus := [] }

/-- The area as it is sealed. -/
def State.sealArea (s : State) (b : Blank) (a : TurnArm) : Handover :=
  { slot := s.jrn.find .pending, session := (s.rd UPD_SESS_ID).toNat, turn := a.turn, regs := s.regImage,
    shown := shownAddrs.map (fun x => (x, s.rd x)), acc := s.memBytes ((s.rd ACC_WIN_BASE).toNat * 0x10000) 0x20000,
    freq := s.rate, spnStat := s.rd SPN_STAT, wideU := s.spn.wideU, refAt := s.ref, old := b,
    oldSlot := s.flag UPD_STAT_RUN_SLOT, drops := (s.rd UPD_CNT_HO_DROP).toNat,
    chk := { s.chk with chains := s.chk.chains.map (fun (c : Chain) => { c with owners := c.owners.map (fun _ => ownHandover) }) },
    owners := s.chk.chains.map (fun c => (c.id, c.owners)), accS := s.acc.sealed, mlkx := s.mlkx, fld := s.fld.sealed,
    clu := s.clu.sealed, wc := s.prs.wc, em := s.prs.em, tables := s.tsk.tables,
    flight := ⟨s.rxq, s.cipq, s.mlkq, s.prsq, s.ciptx, s.reports, s.hif.wait⟩ }

/-! ### Steps 3 to 6 (R315) -/

/-- Half of the handover lead has passed: step 3 ends, step 4 discards, and step 5 begins. The spill runs until the area is
sealed. -/
def State.hoHalf (s : State) : State := (s.slotsEnd.tasksEnd.put CHK_STAT_SPILL 1).spill.purge

/-- Step 6, with the end of the spill: the area is written and sealed, and the DRAM enters self-refresh. -/
def State.hoSeal (s : State) (b : Blank) (a : TurnArm) : State :=
  let s1 := ((s.bumpBy UPD_CNT_HO_DROP s.lostAtReset).releaseLost.spill.purge.put CHK_STAT_SPILL 0).selfRefresh
  { s1 with upd := { s1.upd with area := some (s1.sealArea b a) } }

/-- The steps that have not yet run, in their order. -/
def State.hoSteps (s : State) (b : Blank) (a : TurnArm) : State :=
  if s.upd.area.isSome then s
  else (if s.flag CHK_STAT_SPILL then s else s.hoHalf).hoSeal b a

/-- HANDOVER_START: the conditions of R310 and R314 are tested again; a fallback is never refused. Without the Thallus link the slot
cannot be made PENDING, and the turnover is cancelled (R15). -/
def State.hoBegin (s : State) (a : TurnArm) : State :=
  if a.turn * turnTicks ≤ s.absTick then s.cancelTurn
  else if a.fallback then s.handoverGo a
  else match s.updBar 1 with
    | some _ => s.updRefuse.cancelTurn
    | none => if (s.turnBar none).isSome || !s.flag SYS_DIE_STAT_THL_UP then s.cancelTurn else s.handoverGo a

/-- HANDOVER_START runs the steps that are due next: at the handover start the turnover is cancelled or begins; named again, half the
lead has passed; named a third time, the tick before turn T has come (DESIGN CHOICE, log entry 30: when steps 4 to 6 run between the two
the spec does not say). -/
def State.handoverStart (s : State) : State :=
  match s.upd.armed, s.blk with
  | some a, some b =>
    if s.get UPD_STAT_TOV = 1 ∧ s.placing = true then (s.toAbsTick (s.hoAt a.turn)).hoBegin a
    else if s.get UPD_STAT_TOV = 2 ∧ s.running = true ∧ s.upd.area = none then
      (if s.flag CHK_STAT_SPILL then (s.toAbsTick (a.turn * turnTicks - 1)).hoSeal b a
       else (s.toAbsTick (a.turn * turnTicks - s.hoLead / 2)).hoHalf)
    else s
  | _, _ => s

def execHandoverStart (s : State) : Out State := .next s.handoverStart

/-! ### TURNOVER_CORE_RESET (R315 step 7) -/

/-- Registers that the reset of the core die does not touch: those of the other dies, and the straps. -/
def outlives (a : Nat) : Bool := thallusReg a || frondReg a || decide (a = SYS_STRAP)

/-- The core die resets; Frond and the Thallus die run on, DRAM is under self-refresh, the ports squelch. The Frond counter goes
on from where it is, on the reference (R81), PCIe stays trained (R320), and every power transition ends (R359). -/
def State.coreReset (s : State) (b : Blank) (h : Handover) : State :=
  let s1 := s.emit (.released 1)
  let z := s1.dieReset outlives
  let s2 := { z with bar := s1.bar.filter (fun c => inPlog c.1 || frondReg c.1), ctx := s1.ctx, mlk := s1.mlk, frn := s1.frn,
                     retq := s1.retq, blk := some b, upd := { ho := some h },
                     dmc := { cells := s1.dmc.cells, ivl0 := s1.dmc.ivl0, ivl1 := s1.dmc.ivl1 },
                     spn := { turnRef := s1.spn.turnRef, frond := { s1.spn.frond with free := some (s1.frnClk, s1.ref) },
                              frondWas := s1.spn.frondWas } }
  let s3 := [HIF_STAT_LINK, HIF_STAT_GEN, HIF_STAT_X2].foldl (fun (s : State) f => s.put f (s1.get f)) s2
  ((((s3.put SYS_DIE_STAT_FRN_UP 0).supplyAs s1).put DMC_STAT_STATE dmcSelfRefresh).put PWR_LAST_BOOT bootTurnover).wr PWR_STAT 0

/-- TURNOVER_CORE_RESET: at turn start T, the earlier steps run, the running pairs enter the coast program, then the core die
resets. `e`: what their first fetches find. -/
def State.turnoverReset (s : State) (e : Fin 3 → Ecc) : State :=
  match s.upd.armed, s.blk with
  | some a, some b =>
    if s.get UPD_STAT_TOV = 2 ∧ s.atTurnStart = true ∧ s.turn = a.turn then
      let s1 := s.hoSteps b a
      let s2 := ((s1.coastStart 0 (e 0)).coastStart 1 (e 1)).coastStart 2 (e 2)
      match s1.upd.area with
      | some h => s2.coreReset b { h with wideU := s2.spn.wideU, refAt := s2.ref }
      | none => s2
    else s
  | _, _ => s

def execTurnoverCoreReset (e0 e1 e2 : Ecc) (s : State) : Out State :=
  .next (s.turnoverReset (fun r => if r = 0 then e0 else if r = 1 then e1 else e2))

/-! ### The turnover boot (R317, R318) -/

/-- One register of the image is written: its RW bits. -/
def State.wrRw (s : State) (a : Nat) (v : Word) : State :=
  let m := ((regRow a).map (·.rw)).getD 0
  s.wr a ((s.rd a &&& ~~~m) ||| (v &&& m))

/-- The register image is written. SPN_CTL keeps the mode that the blank has loaded; a port's EN takes effect, and so does a
trigger's, once its times have been written (DEDUCED, log entry 30). -/
def State.writeImage (s : State) (l : List (Nat × Word)) : State :=
  let s1 := l.foldl (fun (s : State) (e : Nat × Word) =>
    if blankLoads e.1 then s
    else if (List.range 4).any (fun n => decide (e.1 = SPN_TTO_CTL n)) then s
    else if e.1 = SPN_CTL then (s.wr SPN_CTL e.2).put SPN_CTL_MODE (s.get SPN_CTL_MODE)
    else if e.1 = ETH_CTL 0 then s.ethCtlWrite 0 e.2
    else if e.1 = ETH_CTL 1 then s.ethCtlWrite 1 e.2
    else s.wrRw e.1 e.2) s
  (List.finRange 4).foldl (fun (s : State) (n : Fin 4) => match l.find? (fun e => e.1 == SPN_TTO_CTL n) with
    | some e => s.trigCtlWrite n e.2
    | none => s) s1

/-- An action table's TABLES entry in a blank. -/
def tableEntry (b : Blank) (t : Nat) : Option (List Byte) := (entries 16 64 b.tables).find? (fun e => num e 0 1 == t)

/-- A table keeps its contents only under an identical entry. -/
def keepTables (old new : Blank) (l : List Host.Cell) : List Host.Cell :=
  l.filter (fun c => decide (tableEntry old (c.1 / 2 ^ 34) = tableEntry new (c.1 / 2 ^ 34)))

/-- A waiting output whose hold began `d` later. -/
def HostOut.later (d : Nat) (w : HostOut) : HostOut :=
  { w with held := w.held.map (fun t => t + d), recorded := true }

/-- What DRAM and the handover area hold comes back before the blank is loaded: buffers, so that Chuck's free lists are
right, and the memories that carry over whole. A waiting output has the part of its hold time that it had not used (R256). -/
def State.restoreDram (s : State) (h : Handover) : State :=
  { s with chk := { h.chk with chains := h.chk.chains.map (fun (c : Chain) =>
                      { c with owners := ((h.owners.find? (fun e => e.1 == c.id)).map (·.2)).getD c.owners }) },
           acc := h.accS, mlkx := h.mlkx, fld := h.fld, clu := h.clu, prs := { s.prs with wc := h.wc, em := h.em },
           tsk := { s.tsk with tables := h.tables }, rxq := h.flight.rxq, cipq := h.flight.cipq, mlkq := h.flight.mlkq,
           prsq := h.flight.prsq, ciptx := h.flight.ciptx, reports := h.flight.reports,
           hif := { s.hif with wait := h.flight.wait.map (HostOut.later (s.ref - h.refAt)), hbAt := s.ref } }

/-- The cluster unit resumes; one sealed in DEPOSED is OFF and follows CLU_CTL.EN. Slots that closed in between are misses. -/
def State.cluResume (s : State) : State :=
  let s1 := if s.cluSt = cluDeposed then
      let off := (s.put CLU_STAT_STATE cluOff).put CLU_STAT_MISS 0
      if off.flag CLU_CTL_EN then off.cluEnable else off
    else s
  let tol := (s1.rd CLU_SYNC_TOL).toNat % 2 ^ 24
  let closed := (s1.absTick - tol) / slotLen + 1 - s1.clu.slot
  let s2 := if s1.listening = true ∧ tol ≤ s1.absTick then
      (List.range closed).foldl (fun (s : State) _ => s.slotMissed s.clu.slot) s1
    else s1
  s2.dirShow

/-- Coasting is named to end at the next turn start; a pair that its limit has halted starts there (R317, R319). -/
def State.nameEnd (s : State) (r : Fin 3) : State :=
  let f := s.fr r
  if f.coastOver then s.setFr r { f with coastFrom := none, coastOver := false, starting := s.flag (FRN_CTL_RUN r) }
  else if f.coastFrom.isSome then s.setFr r { f with coastEnd := some (s.turn + 1) }
  else s

/-- The coast buffer is handed on in capture order; the core die finds the stamps that cannot be extended (R51). -/
def State.handBack (s : State) (r : Fin 3) : State :=
  let f := s.fr r
  let bad := ((f.coast.filter (fun x => x.tick.isNone)).map (fun x => (x.narrow, x.tag))).eraseDups
  bad.foldl (fun (s : State) _ => s.stampBad) ((s.setFr r { f with coast := [], coastBytes := 0 }).airInAll f.coast)

/-- What a radio brings back over the Frond link; one that the coast limit has halted returns the frames it held, ABORT
(R83). -/
def State.bringBack (s : State) (r : Fin 3) (limited : Bool) : State :=
  if limited then
    let f := s.fr r
    let s1 := s.setFr r { f with queues := Vector.replicate 16 [] }
    (f.queues.toList.flatten.foldl (fun (s : State) g => s.frnReturn r (.frame g) .abort none) s1).handBack r
  else s.handBack r

/-- The wide clock restarts at the time of turn start T, advanced by the whole cycles of 25 ns since and corrected by the saved
SPN_FREQ; the spindle enters HOLDOVER, its bound grown from turn start T (R317). Turn T has begun. -/
def State.spnResume (s : State) (h : Handover) : State :=
  let w := h.wideU + (s.ref - h.refAt) / 50 * 50 * (1000000000 + h.freq).toNat
  let s1 := { s with spn := { s.spn with hasTime := true, wideU := w, f := h.freq, r := h.freq, lastTurn := some h.turn } }
  let s2 := s1.enterHoldover
  ({ s2 with spn := { s2.spn with holdRef := h.refAt } }).trigsAcross

/-- After the blank is in use: the register image, the ACC image, the spindle, the cluster unit, the radios. -/
def State.restore (s : State) (h : Handover) : State :=
  let s1 := (s.writeImage h.regs).memPut ((s.rd ACC_WIN_BASE).toNat * 0x10000) h.acc
  let s2 := h.shown.foldl (fun (s : State) (e : Nat × Word) => s.wr e.1 e.2) s1
  let s3 := { s2 with tsk := { s2.tsk with tables := (s2.blk.map (fun b => keepTables h.old b h.tables)).getD [] } }
  let s4 := (List.finRange 3).foldl (fun (s : State) r => s.setFldQueue r (s.fldQueue r)) s3
  let s5 := ((List.finRange 3).foldl State.swapLate (s4.supplyShow.spnResume h)).accShow
  let s6 := s5.cluResume.put SYS_DIE_STAT_FRN_UP 1
  let lim := fun r => (s6.fr r).coastOver
  let s7 := (((s6.nameEnd 0).nameEnd 1).nameEnd 2).raiseIf (lim 0 || lim 1 || lim 2) UPD_EVT_COAST_OVER
  let s8 := (((s7.bringBack 0 (lim 0)).bringBack 1 (lim 1)).bringBack 2 (lim 2)).deliverReturns
  let s9 := ((s8.put UPD_BOOT_TOV 1).bump UPD_CNT_TOV).wr UPD_CNT_HO_DROP (BitVec.ofNat 32 h.drops)
  { s9 with upd := { s9.upd with byTurnover := true, lastSess := h.session } }

/-- Frond lets go of the frames of a core die that has lost them. -/
def State.frondForget (s : State) : State :=
  { s with retq := [], frn := s.frn.map (fun (f : FrnState) =>
      { f with queues := Vector.replicate 16 [], coast := [], coastBytes := 0,
               ppdu := f.ppdu.map (fun (p : TxPpdu) => { p with units := p.units.filter (fun u => u.frame?.isNone) }) }) }

/-- TURNOVER_BOOT. `sealOk`: the header is SEALED and all seven CRCs hold; else the boot is a full one. Where no slot yields a
blank, the boot ROM waits for the host. -/
def State.turnoverBoot (s : State) (sealOk : Bool) (env : BootEnv) (d0 d1 : Delays) : State :=
  match s.upd.ho with
  | none => s
  | some h =>
    let s0 := { s with upd := {} }
    if !sealOk then ({ s0 with ctx := [], mlk := [], blk := none }).frondForget.fullBoot env
    else
      let s1 := match s0.jrn.train with
        | some t => ((s0.dmcUp t).put DMC_MAP_ORDER t.order).put DMC_MAP_SET 1
        | none => s0
      let s2 := (s1.selfRefreshExit d0 d1).updShow
      let s3 := { s2 with pwr := { s2.pwr with bootAt := s2.ref } }
      let s4 := (s3.restoreDram h).choose env (some h.old)
      if s4.pwr.phase = .run then s4.restore h
      else ((({ s3 with ctx := [], mlk := [], blk := none }).choose env (some h.old)).frondForget).put UPD_BOOT_TOV 1

/-- `damage`: the bytes that DRAM gives for the handover area where they are not those that were sealed. -/
def execTurnoverBoot (damage : Option (List Byte)) (env : BootEnv) (d0 d1 : Delays) (s : State) : Out State :=
  .next (s.turnoverBoot (damage.all areaHolds) env d0 d1)

end Sys2Proof.Machine
end

