-- ==== Sys2Proof/Machine/Power.lean ====
section
/-! DEFINITION. The power sequencer: requests, entries, wakes and exits, the resets (spec/17_power_reset.md R349 to R364),
and what R53 saves and restores of the spindle. -/

namespace Sys2Proof.Machine

/-- The TARGET codes of PWR_CMD. -/
def tgtSleep : Nat := 2
def tgtDeep : Nat := 3
def tgtOff : Nat := 4

/-- PWR_STAT.STATE. -/
def State.pwrSt (s : State) : Nat := s.get PWR_STAT_STATE

def State.inMove (s : State) : Bool := s.flag PWR_STAT_TRANS

/-! ### Refusal and the beginning of an entry (R354, R358, R360) -/

/-- R360. -/
def State.pwrBar (s : State) (t : Nat) : Bool :=
  decide (s.get UPD_STAT_TOV ≠ 0) ||
    (decide (t = tgtDeep) && (decide (s.sess ≠ sessIdle) || (s.jrn.find .trial).isSome || (s.jrn.find .pending).isSome))

def State.pwrResult (s : State) (c : Nat) : State := s.put PWR_RESULT_CODE c

def State.pwrRefuse (s : State) : State := (((s.pwrResult 2).bump PWR_CNT_REFUSED).raise PWR_EVT_REFUSED)

/-- Step 3: the pairs halt as FRNn_CTL.RUN 0 halts them, and none starts. -/
def State.haltPairs (s : State) : State :=
  (List.finRange 3).foldl (fun (s : State) r =>
    if s.seqSt r = 1 ∨ s.seqSt r = 2 then s.seqHalt r else s.setFr r { s.fr r with starting := false }) s

/-- An entry begins: steps 1 to 3. WAKE_N held low counts as a wake during the entry (R356). -/
def State.beginEntry (s : State) (t : Nat) (wakeLow : Bool) : State :=
  let s1 := ((s.put PWR_STAT_TRANS 1).put PWR_STAT_TARGET t).drainAll.haltPairs.deliverReturns
  let s2 := { s1 with pwr := { s1.pwr with wake := if wakeLow then some 1 else none, entryAt := s1.ref } }
  s2.raiseIf wakeLow PWR_EVT_WAKE_IN_ENTRY

/-- A request for SLEEP, DEEP or OFF is carried out, or refused. -/
def State.carryOut (s : State) (t : Nat) (wakeLow : Bool) : State :=
  if s.pwrBar t then s.pwrRefuse else s.beginEntry t wakeLow

/-- The state, or the target of the transition in progress. -/
def State.pwrCurrent (s : State) : Nat := if s.inMove then s.get PWR_STAT_TARGET else s.pwrSt

/-- One request waits for the transition to complete; it replaces an earlier one. -/
def State.pend (s : State) (t : Nat) : State :=
  (((s.raiseIf (s.flag PWR_STAT_PEND) PWR_EVT_REPLACED).put PWR_STAT_PEND 1).put PWR_STAT_PEND_TGT t).pwrResult 1

/-- A PWR_CMD with GO that names SLEEP, DEEP or OFF (R358). -/
def State.pwrRequest (s : State) (t : Nat) (wakeLow : Bool) : State :=
  if s.pwrCurrent = t then s.pwrResult 3
  else if s.inMove then s.pend t
  else if s.pwrBar t then s.pwrRefuse
  else (s.pwrResult 0).beginEntry t wakeLow

def execTargetSleep (wakeLow : Bool) (s : State) : Out State :=
  .next (s.hostAt none PWR_CMD fun (s : State) => s.pwrRequest tgtSleep wakeLow)
def execTargetDeep (wakeLow : Bool) (s : State) : Out State :=
  .next (s.hostAt none PWR_CMD fun (s : State) => s.pwrRequest tgtDeep wakeLow)
def execTargetOff (wakeLow : Bool) (s : State) : Out State :=
  .next (s.hostAt none PWR_CMD fun (s : State) => s.pwrRequest tgtOff wakeLow)

/-- A PWR_CMD that names IDLE or a reserved code. -/
def State.pwrInvalid (s : State) : State := s.pwrResult 4

/-! ### Wakes (R355, R356, R359) -/

/-- A wake clears a pending request. -/
def State.unpend (s : State) : State :=
  if s.flag PWR_STAT_PEND then ((s.put PWR_STAT_PEND 0).put PWR_STAT_PEND_TGT 0).raise PWR_EVT_REPLACED else s

/-- A wake by a source arrives during an entry. -/
def State.wakeInEntry (s : State) (w : Nat) : State :=
  let s1 := s.unpend.raise PWR_EVT_WAKE_IN_ENTRY
  { s1 with pwr := { s1.pwr with wake := if s1.pwr.wake = none then some w else s1.pwr.wake } }

/-- The exit from SLEEP begins. -/
def State.beginExit (s : State) (w : Nat) : State :=
  (((s.put PWR_STAT_TRANS 1).put PWR_STAT_TARGET 0).put PWR_LAST_WAKE w)

/-- A wake source ends SLEEP, or arrives during an entry. -/
def State.wake (s : State) (w : Nat) : State :=
  if s.entering then s.wakeInEntry w
  else if s.pwrSt = 2 ∧ s.inMove = false then s.unpend.beginExit w
  else s

/-- TARGET_RUN: accepted as a wake; with PWR_WAKE_CFG.HOST clear it ends nothing. -/
def State.targetRun (s : State) : State :=
  if s.pwrCurrent = 0 then s.pwrResult 3
  else if s.flag PWR_WAKE_CFG_HOST then (s.pwrResult 0).wake 2
  else s.pwrResult 0

def execTargetRun (s : State) : Out State :=
  .next (s.hostAt none PWR_CMD fun (s : State) => s.targetRun)

/-- WAKE_N: low for 50 µs. In DEEP and OFF, and after a rail failure that is not tried again, it begins the power-up. -/
def State.wakeN (s : State) : State :=
  match s.pwr.phase with
  | .deep => if s.entering then s.wakeInEntry 1 else { s.unpend.put PWR_LAST_WAKE 1 with pwr := { s.pwr with phase := .deepExit } }
  | .unpowered => s
  | .off => { (s.put PWR_LAST_WAKE 1).put PWR_LAST_BOOT bootWakeOff with pwr := { s.pwr with phase := .boot } }
  | .railFail => if s.pwr.retry then s else { s.put PWR_LAST_WAKE 1 with pwr := { s.pwr with phase := .boot } }
  | _ => s.wake 1

def execWakeN (s : State) : Out State := .next s.wakeN

/-- TIMED_WAKE: it ends SLEEP only. -/
def State.timedWake (s : State) : State :=
  if s.flag PWR_WAKE_CFG_TIMED ∧ s.running = true ∧ (s.pwrSt = 2 ∨ s.get PWR_STAT_TARGET = tgtSleep) ∧
      (s.inMove = false ∨ s.get PWR_STAT_TARGET = tgtSleep) then
    let t := (s.rd PWR_WAKE_TICK_LO).toNat + 2 ^ 32 * s.get PWR_WAKE_TICK_HI_TURN
    (s.toAbsTick (t * turnTicks + s.get PWR_WAKE_TICK_HI_ANGLE)).wake 3
  else s

def execTimedWake (s : State) : Out State := .next s.timedWake

/-- A link change on a port with EN set. -/
def State.linkWake (s : State) (p : Fin 2) : State :=
  if s.flag PWR_WAKE_CFG_ETH_LINK ∧ s.flag (ETH_CTL_EN p) ∧
      (s.inMove = false ∨ s.get PWR_STAT_TARGET = tgtSleep) then s.wake 4 else s

/-! ### IDLE (R352) -/

/-- Nothing runs and nothing waits. -/
def State.quiet (s : State) : Bool :=
  s.tsk.tasks.all (fun t => !t.st.isReady && !t.st.isRun) && s.tsk.evq.isEmpty && s.prs.slots.isEmpty && s.prs.loopq.isEmpty &&
    s.eth.toList.all (fun e => e.ingress.isEmpty) &&
    (List.range 32).all (fun q => !s.flag (HIF_Q_CFG_TX_EN q) || decide (s.txd q = 0))

/-- AUTO_IDLE_ENTRY: the device has been quiet for PWR_IDLE_HOLD µs. -/
def State.autoIdle (s : State) : State :=
  if s.flag PWR_CTL_AUTO_IDLE ∧ s.pwrSt = 0 ∧ s.inMove = false ∧ s.pwr.phase = .run ∧ s.quiet = true then
    let s1 := (s.toRef (s.pwr.busyAt + 2000 * atLeast1 ((s.rd PWR_IDLE_HOLD).toNat % 2 ^ 16))).put PWR_STAT_STATE 1
    { s1 with stir := false }
  else s

def execAutoIdleEntry (s : State) : Out State := .next s.autoIdle

/-- IDLE_EXIT: a packet or a task has come, or a host access to an engine block. -/
def State.idleExit (s : State) : State :=
  if s.pwrSt = 1 ∧ s.inMove = false ∧ (s.stir = true ∨ s.quiet = false) then (s.put PWR_STAT_TRANS 1).put PWR_STAT_TARGET 0 else s

def execIdleExit (s : State) : Out State := .next s.idleExit

/-! ### Completing an entry (R354) -/

/-- Steps 2 to 4: slots still used become holes, engines are OFFLINE, radios are in radio SLEEP, DRAM is under
self-refresh. -/
def State.rest (s : State) : State :=
  let live := (s.prs.slots.map (·.seq)).filter s.liveSlot
  let s1 := (live.foldl State.ageSlot s).robFinish
  let s2 := (List.range 16).foldl (fun (s : State) e => s.drainDone e) s1
  let s3 := (List.finRange 3).foldl (fun (s : State) r => if 2 ≤ s.frnSt r then s.opSleep r else s) s2
  s3.selfRefresh

/-- No PPDU is in progress on a pair that halts. -/
def State.pairsHalted (s : State) : Bool := (List.finRange 3).all (fun r => !(s.fr r).halting)

/-- The registers of R53. -/
def spnSaved : List Nat :=
  [SPN_CTL, SPN_EPOCH_NS, SPN_EPOCH_SEC_LO, SPN_EPOCH_SEC_HI, SPN_SRC, SPN_JUMP_THR, SPN_LOCK_CFG, SPN_SERVO, SPN_HOLD_LIMIT,
   SPN_HOLD_PPB, SPN_SWITCH_THR, SPN_PTM_MAP_LO, SPN_PTM_MAP_HI, SPN_PTM_CFG, SPN_EST_PPM]

/-- The spindle latch (R53): of SPN_PPS_CFG only EDGE is saved. -/
def State.spnLatch (s : State) : SpnSaved :=
  { wideU := s.spn.wideU, hasTime := s.spn.hasTime, turn := s.turn, angle := s.angle, raw := s.rtc.raw, f := s.spn.f,
    regs := (SPN_PPS_CFG, BitVec.ofNat 32 (s.get SPN_PPS_CFG_EDGE * 2 ^ SPN_PPS_CFG_EDGE.lo)) :: spnSaved.map (fun a => (a, s.rd a)) }

/-- Step 5: each time-trigger output is driven to the inactive level that its POL gives, and the transmitters fall silent. -/
def State.restPins (s : State) : State :=
  let s1 := (List.finRange 4).foldl (fun (s : State) n => s.emit (.ttoRest n (!s.trigActive n))) s
  [1, 2, 3].foldl (fun (s : State) w => s.emit (.released w)) (s1.emit (.errN false s1.ref))

/-- Steps 5 and 6: the core and Frond dies lose power; RF falls first. A pending request stays pending. -/
def State.unpower (s : State) : State :=
  let rail := s.rd PWR_RAIL &&& 0x20
  let pend := s.rd PWR_STAT &&& 0x780
  let s1 := [0, 4].foldl (fun (s : State) w => s.emit (.released w)) s.restPins
  let s2 := s1.dieReset (fun a => thallusReg a || decide (a = SYS_STRAP))
  (((s2.wr PWR_STAT pend).wr PWR_RAIL rail).emit (.rails true false)).emit (.rails false false)

/-- A request for OFF that was pending at the entry to DEEP begins its entry from there; one for SLEEP stays pending until a wake
replaces it, since only a wake leads out of DEEP otherwise (R355, R358; DEDUCED, log entry 32). -/
def State.deepPending (s : State) (wakeLow : Bool) : State :=
  if s.flag PWR_STAT_PEND ∧ s.get PWR_STAT_PEND_TGT = tgtOff then
    let s1 := (((s.put PWR_STAT_PEND 0).put PWR_STAT_PEND_TGT 0).put PWR_STAT_TRANS 1).put PWR_STAT_TARGET tgtOff
    let s2 := { s1 with pwr := { s1.pwr with wake := if wakeLow then some 1 else none, entryAt := s1.ref } }
    s2.raiseIf wakeLow PWR_EVT_WAKE_IN_ENTRY
  else s

/-- DEEP is reached; a wake that arrived begins the exit at once. -/
def State.enterDeep (s : State) (wakeLow : Bool) : State :=
  let s1 := s.unpower.bump PWR_CNT_DEEP
  match s.pwr.wake with
  | some w => { s1.put PWR_LAST_WAKE w with pwr := { s1.pwr with phase := .deepExit, saved := some s.spnLatch } }
  | none => ({ s1 with pwr := { s1.pwr with phase := .deep, saved := some s.spnLatch } }).deepPending wakeLow

/-- OFF is reached: what the magnetoresistive memory does not hold is lost (step 7), a pending request with it. -/
def State.enterOff (s : State) : State :=
  let s1 := (if s.pwr.phase = .deep then s else s.unpower).thallusReset
  let s2 := { s1 with key := { backing := s1.key.backing }, pwr := { s1.pwr with saved := none } }
  match s.pwr.wake with
  | some w => { (s2.put PWR_LAST_WAKE w).put PWR_LAST_BOOT bootWakeOff with pwr := { s2.pwr with phase := .boot } }
  | none => { s2 with pwr := { s2.pwr with phase := .off } }

/-- A pending request is carried out from the state reached, or refused. -/
def State.servePending (s : State) (wakeLow : Bool) : State :=
  if s.flag PWR_STAT_PEND then
    ((s.put PWR_STAT_PEND 0).put PWR_STAT_PEND_TGT 0).carryOut (s.get PWR_STAT_PEND_TGT) wakeLow
  else s

/-- SLEEP is reached. -/
def State.enterSleep (s : State) (wakeLow : Bool) : State :=
  let s1 := (((s.put PWR_STAT_STATE 2).put PWR_STAT_TRANS 0).put PWR_STAT_TARGET 0).bump PWR_CNT_SLEEP
  let s2 := { s1 with pwr := { s1.pwr with wake := none } }
  match s.pwr.wake with
  | some w => s2.beginExit w
  | none => s2.servePending wakeLow

/-- ENTRY_COMPLETE. `wakeLow`: WAKE_N, where a pending request begins an entry of its own. -/
def State.entryDone (s : State) (wakeLow : Bool) : State :=
  if s.entering = true ∧ s.pairsHalted = true then
    let s1 := if s.pwrSt = 2 ∨ s.pwr.phase = .deep then s else s.rest
    if s.get PWR_STAT_TARGET = tgtDeep then s1.enterDeep wakeLow
    else if s.get PWR_STAT_TARGET = tgtOff then s1.enterOff
    else s1.enterSleep wakeLow
  else s

def execEntryComplete (wakeLow : Bool) (s : State) : Out State := .next (s.entryDone wakeLow)

/-! ### Completing an exit (R353, R357) -/

/-- Engines that EN enables take tasks again. -/
def State.engineBack (s : State) (e : Nat) : State :=
  if (s.get (GGE_STAT_STATE e) = 1 ∨ s.get (GGE_STAT_STATE e) = 2) ∧ s.flag (GGE_CTL_EN e) = true ∧
      s.flag (GGE_STAT_STORE_OK e) = true then s.put (GGE_STAT_STATE e) 0 else s

/-- The pairs restart at the main entry at the next turn start. -/
def State.pairBack (s : State) (r : Fin 3) : State :=
  if s.flag (FRN_CTL_EN r) ∧ s.flag (FRN_CTL_RUN r) ∧ s.seqSt r = 0 then s.setFr r { s.fr r with starting := true } else s

/-- EXIT_COMPLETE: `d0` and `d1` are what the tracking runs on exit from self-refresh find. -/
def State.exitDone (s : State) (wakeLow : Bool) (d0 d1 : Delays) : State :=
  if s.inMove = true ∧ s.get PWR_STAT_TARGET = 0 then
    let s1 := if s.pwrSt = 2 then
        (List.finRange 3).foldl State.pairBack ((List.range 16).foldl State.engineBack (s.selfRefreshExit d0 d1))
      else s
    ((s1.put PWR_STAT_STATE 0).put PWR_STAT_TRANS 0).servePending wakeLow
  else s

def execExitComplete (wakeLow : Bool) (d0 d1 : Delays) (s : State) : Out State := .next (s.exitDone wakeLow d0 d1)

/-- The wide clock's units that pass in one cycle of 32,768 Hz. -/
def rawUnits : Nat := 61035156250000

/-- The bound of R53, ticks, for `d` raw cycles. -/
def estBound (d ppm : Nat) : Nat := min 0xFFFFFF ((16 * d * ppm + 32000000 + 32767) / 32768)

/-- The spindle restarts from its latch (R53). A latch that held no time gives no estimate. -/
def State.spnRestore (s : State) (v : SpnSaved) : State :=
  let s1 := v.regs.foldl (fun (s : State) (e : Nat × Word) => s.wr e.1 e.2) s
  let s2 := { s1 with spn := { s1.spn with f := v.f, r := v.f } }
  if s2.flag SPN_CTL_EN then
    if s2.flag RTC_FLAG_OSF ∨ v.hasTime = false then s2.enterAcquire
    else
      let d := (s2.rtc.raw + 2 ^ 48 - v.raw) % 2 ^ 48
      let s3 := { s2 with spn := { s2.spn with hasTime := true, wideU := v.wideU + d * rawUnits } }
      (((s3.put SPN_STAT_STATE spnEstimated).put SPN_STAT_EST 1).wr SPN_EST_ERR
        (BitVec.ofNat 32 (estBound d (s3.get SPN_EST_PPM_PPM)))).showFreq
  else s2

/-- What the CONFIRMED slot fails at a wake from DEEP: the checks of R297 without the signature. -/
def State.checkOnly (s : State) (b : Bool) (env : BootEnv) : Option (Nat × Nat × Nat) :=
  (checkBlank (s.slotImage b)
    { rev := s.get SYS_ID_REV_STEP * 16 + s.get SYS_ID_REV_META, mib := s.get DMC_STAT_MIB, bi := s.get (ACC_BCN_CFG_BI 0),
      old := none, loadErr := env.loadErr.getLsbD (if b then 1 else 0) }).map (fun c => (bootCheck, c.1, c.2))

/-- DEEP_EXIT. -/
def State.deepExit (s : State) (env : BootEnv) : State :=
  if s.pwr.phase = .deepExit then
    let v := s.pwr.saved
    let s1 := ((s.railsUp.train env).updShow).put PWR_LAST_BOOT bootWakeDeep
    let s2 := { s1 with pwr := { s1.pwr with bootAt := s1.ref, phase := .boot, saved := none } }
    let s3 := match s2.jrn.find .confirmed with
      | some b => (match s2.checkOnly b env with
        | none => s2.bootTake b none bootNone 0
        | some f => (s2.bootFault6 b f).bootWait f.1 f.2.1)
      | none => s2.bootWait bootNone 0
    match v with
    | some x => s3.spnRestore x
    | none => s3
  else s

def execDeepExit (env : BootEnv) (s : State) : Out State := .next (s.deepExit env)

/-! ### Resets (R361 to R363) -/

/-- The straps are sampled (R24), and the device runs in the strapped role (R25). -/
def State.sampleStraps (s : State) (role bootif : BitVec 2) : State :=
  ((s.put SYS_STRAP_ROLE role.toNat).put SYS_STRAP_BOOTIF bootif.toNat).put SYS_ROLE_ROLE role.toNat

/-- POWER_ON_RESET: VDD_AON is good, and of the Thallus die only the magnetoresistive memory keeps what it held. -/
def State.powerOn (s : State) (role bootif : BitVec 2) : State :=
  let s1 := (((s.fullReset bootPor).put PWR_LAST_WAKE 0).put SYS_SUPPLY_MEAS_LOW 0).supplyShow
  let s2 := { s1 with key := { backing := s1.key.backing }, pwr := { phase := .boot, bootAt := s1.ref } }
  (s2.wr PWR_RAIL 0x20).sampleStraps role bootif

def execPowerOnReset (role bootif : BitVec 2) (s : State) : Out State := .next (s.powerOn role bootif)

/-- PIN_RESET: to the rising edge of RESET_N. -/
def execPinReset (role bootif : BitVec 2) (s : State) : Out State := .next ((s.fullReset bootResetN).sampleStraps role bootif)

/-- HOST_RESET: PWR_RST_CMD with DEVICE; any other KEY is ignored. -/
def execHostReset (key : BitVec 8) (s : State) : Out State :=
  .next (s.hostAt none PWR_RST_CMD fun (s : State) => if key = 0x5A then s.fullReset bootHost else s)

/-- A PPDU in transmission is cut; what it carries returns ABORT, and the operation ends as if it had completed. An immediate
response is cut alike. -/
def State.glitchCut (s : State) (r : Fin 3) (e : Ecc) : State :=
  match (s.fr r).ppdu with
  | some p =>
    if p.start ≤ s.frnTick ∧ p.await = none then
      (if p.loose then (s.cutTx r).ppduOver r p s.frnTick false e else (s.cutTx r).txDone r e)
    else s
  | none => if (s.fr r).rsp.any (fun x => decide (x.from_ ≤ s.frnTick ∧ s.frnTick < x.to_)) then s.emit (.airCut r s.frnTick) else s

/-- A time-trigger pulse in progress is cut and counted. -/
def State.glitchTto (s : State) (n : Fin 4) : State :=
  let t := s.trig n
  if t.pulseEnd.isSome then (s.setTrig n { t with pulseEnd := none, pin := some (!s.trigActive n) }).trigMissed n 1 else s

/-- RESET_N_GLITCH: no register, state, queue or count changes beyond the cut PPDU and the cut pulses. -/
def State.resetGlitch (s : State) (e : Fin 3 → Ecc) : State :=
  let s1 := [0, 1, 2, 3, 4].foldl (fun (s : State) w => s.emit (.released w)) s
  let s2 := (List.finRange 3).foldl (fun (s : State) r => s.glitchCut r (e r)) s1
  ((List.finRange 4).foldl State.glitchTto s2).deliverReturns

def execResetNGlitch (e0 e1 e2 : Ecc) (s : State) : Out State :=
  .next (s.resetGlitch (fun r => if r = 0 then e0 else if r = 1 then e1 else e2))

/-- One second and 100 ms of the reference. -/
def oneSec : Nat := 2000000000
def retryWait : Nat := 200000000

/-- RAIL_FAILURE: both enables fall, a rail-failure reset; a first failure is tried again when RAIL_RETRY is set. -/
def State.railFailure (s : State) : State :=
  match s.pwr.phase with
  | .deep => s
  | .off => s
  | .railFail => s
  | .unpowered => s
  | _ =>
    let again := s.flag PWR_CTL_RAIL_RETRY && !(s.pwr.railAt.any (fun t => decide (s.ref < t + oneSec)))
    let rail := s.rd PWR_RAIL &&& 0x20
    let s1 := (((s.railReset bootRailFail).wr PWR_RAIL rail).emit (.rails true false)).emit (.rails false false)
    let s2 := { s1 with pwr := { s1.pwr with phase := .railFail, railAt := some s1.ref, retry := again } }
    (s2.bump PWR_CNT_RAIL_FAIL).raise PWR_EVT_RAIL_FAIL

def execRailFailure (s : State) : Out State := .next s.railFailure

/-- RAIL_RETRY: power-up is tried once more 100 ms after the failure. -/
def State.railRetry (s : State) : State :=
  if s.pwr.phase = .railFail ∧ s.pwr.retry = true then
    let s1 := s.toRef (s.pwr.railAt.getD s.ref + retryWait)
    { s1 with pwr := { s1.pwr with phase := .boot, retry := false } }
  else s

def execRailRetry (s : State) : Out State := .next s.railRetry

end Sys2Proof.Machine
end

