-- ==== Sys2Proof/Machine/Links.lean ====
section
/-! DEFINITION. Turn starts over the whole device, the turn strobe, the die links, the supply monitor, and the Ethernet link
events that may wake the device (spec/01_architecture.md R15 to R19, spec/02_spindle_time.md R31, R48,
spec/21_pins_electrical.md R419, spec/10_ethernet.md R225). -/

namespace Sys2Proof.Machine

/-- Every radio's part of a turn start. -/
def State.frnTurns (s : State) (t : Fin 3 → BitVec 12) (e : Fin 3 → Ecc) : State :=
  (List.finRange 3).foldl (fun (s : State) r => s.frnTurn r (t r) (e r)) s

/-- The next turn start of a Frond counter that has no strobes to follow (R81). -/
def State.frnTurnAlone (s : State) : State :=
  let s1 := s.toFrnTick ((s.frnTick / turnTicks + 1) * turnTicks)
  { s1 with spn := { s1.spn with turnRef := s1.ref } }

/-- TURN_START: temperatures and fetch results are each radio's at the turn start. While the core die has no turns, Frond that
runs on alone reaches its own. -/
def State.turnStart (s : State) (t : Fin 3 → BitVec 12) (e : Fin 3 → Ecc) : State :=
  match s.spnTurnStart with
  | (s1, false) =>
    if s1.spn.frond.free.isSome && !(s1.flag SPN_CTL_EN && s1.spn.hasTime) then s1.frnTurnAlone.frnTurns t e else s1
  | (s1, true) => ((s1.wr ITT_USED 0).frnTurns t e).upTurnShow.accShow

def execTurnStart (t0 t1 t2 : BitVec 12) (e0 e1 e2 : Ecc) (s : State) : Out State :=
  .next (s.turnStart (fun r => if r = 0 then t0 else if r = 1 then t1 else t2) (fun r => if r = 0 then e0 else if r = 1 then e1 else e2))

/-- TURN_STROBE: the two paths are compared (R19). TURN_START has Frond re-aligned by a strobe that agrees; where they disagree
Frond has not been re-aligned and keeps counting as it did, and the strobe source is raised. While the core die sends none,
there is nothing to compare. -/
def State.turnStrobe (s : State) (agree : Bool) : State :=
  if agree || s.spn.frond.free.isSome then s else ({ s with spn := { s.spn with frond := s.spn.frondWas } }).raiseSrc 3 3 0

def execTurnStrobe (agree : Bool) (s : State) : Out State := .next (s.turnStrobe agree)

/-! ### Die links (R16) -/

def linkUpF (l : Fin 3) : Fld := { SYS_DIE_STAT_FRN_UP with lo := l.val }
def linkErrF (l : Fin 3) : Fld := { SYS_DIE_STAT_FRN_ERR with lo := 8 + l.val }
def linkRetryF (l : Fin 3) : Fld := { SYS_LINK_RETRY_FRN with lo := 8 * l.val }

/-- FLIT_CRC_FAIL: a failed flit is sent again; the failure of the fourth retry declares the link down. -/
def State.flitFail (s : State) (l : Fin 3) (new : Bool) : State :=
  if s.flag (linkUpF l) then
    let n := if new then 1 else s.linkFails[l] + 1
    let s1 := { s with linkFails := s.linkFails.set l n }
    if n ≤ 4 then s1.bumpF (linkRetryF l)
    else
      let s2 := { s1 with linkFails := s1.linkFails.set l 0 }
      ((s2.put (linkUpF l) 0).put (linkErrF l) 1).raiseSrc l.val l.val 0
  else s

def execFlitCrcFail (link : Fin 3) (newFlit : Bool) (s : State) : Out State := .next (s.flitFail link newFlit)

/-! ### Supply (R30, R419) -/

def execSupplyMonitorChange (low : Bool) (s : State) : Out State := .next (s.putB SYS_SUPPLY_MEAS_LOW low).supplyShow

/-! ### Ethernet links -/

def execLinkUp (p : Fin 2) (rate : BitVec 3) (rfault : Bool) (s : State) : Out State :=
  .next ((s.ethUp p rate.toNat rfault).linkWake p)

def execLinkDown (p : Fin 2) (lfault rfault receiving : Bool) (s : State) : Out State :=
  .next ((s.ethDown p lfault rfault receiving).linkWake p)

end Sys2Proof.Machine
end

