-- ==== Sys2Proof/Machine/HostBus.lean ====
section
/-! DEFINITION. The host's accesses to BAR0 over PCIe and over the Host Serial Port: the access types, the R9 pairs, the
memories and table windows behind BAR0, what a write of each register does, and the serial frames (spec/01_architecture.md
R8 to R14, R28, R29, spec/13_blank_image.md R286, R289, R299 to R303, spec/16_dram.md R344, spec/20_host_interface.md
R409 to R412). -/

namespace Sys2Proof.Machine

/-! ### Register rows (R10, R12, R13) -/

/-- What a register holds after a write of `v`: RW bits take it, each 1 clears a W1C bit, every other bit keeps its value. -/
def RegRow.after (x : RegRow) (old v : Word) : Word := ((old &&& ~~~x.rw) ||| (v &&& x.rw)) &&& ~~~(v &&& x.w1c)

/-- A write by the access types alone; a reserved offset ignores it. -/
def State.plainWrite (s : State) (a : Nat) (v : Word) : State :=
  match regRow a with
  | some x => s.wr a (x.after (s.rd a) v)
  | none => s

/-- The index of an address in an array of registers. -/
def arrIx (base stride count a : Nat) : Option Nat :=
  if base ≤ a ∧ (a - base) % stride = 0 ∧ (a - base) / stride < count then some ((a - base) / stride) else none

/-! ### What writes do beyond the access types, block by block -/

/-- Delays from a free value: what a command's surroundings would say where a bare write carries no word of it (log entry 4). -/
def freeDelays (n : Nat) : Delays := ⟨BitVec.ofNat 7 n, BitVec.ofNat 7 (n / 128), BitVec.ofNat 7 (n / 2 ^ 14), BitVec.ofNat 7 (n / 2 ^ 21)⟩

def State.storeSys (s : State) (a : Nat) (v : Word) : State :=
  if a = SYS_SUPPLY then (s.plainWrite a v).supplyShow else s.plainWrite a v

/-- PWR_CMD acts with GO; PWR_RST_CMD with DEVICE and its key. -/
def State.storePwr (s : State) (a : Nat) (v : Word) : State :=
  if a = PWR_CMD then
    if v.getLsbD 8 then
      let low := decide (s.draw % 2 = 1)
      match v.toNat % 8 with
      | 0 => s.targetRun
      | 2 => s.drawn.pwrRequest tgtSleep low
      | 3 => s.drawn.pwrRequest tgtDeep low
      | 4 => s.drawn.pwrRequest tgtOff low
      | _ => s.pwrInvalid
    else s
  else if a = PWR_RST_CMD then
    if v.getLsbD 0 ∧ v.toNat / 256 % 256 = 0x5A then s.fullReset bootHost else s
  else s.plainWrite a v

def State.storeFlt (s : State) (a : Nat) (v : Word) : State :=
  if a = FLT_RING then s.ringRdWrite (v.toNat / 256 % 128)
  else if a = FLT_SRC_CMD then (if v.getLsbD 0 then s.srcClear else s)
  else if a = FLT_ERRN_CTL then s.errnCtl (v.getLsbD 0) (v.getLsbD 1) (v.getLsbD 2)
  else if (arrIx (FLT_MASK 0) 4 6 a).isSome then (s.plainWrite a v).vectorAfter s.fltVector
  else s.plainWrite a v

def State.storeSpn (s : State) (a : Nat) (v : Word) : State :=
  if a = SPN_CTL then s.spnCtlWrite v
  else if a = SPN_EPOCH_NS ∨ a = SPN_EPOCH_SEC_LO then s.epochHold a v
  else if a = SPN_EPOCH_SEC_HI then s.epochCommit v
  else if a = SPN_PPS_LABEL_HI then s.ppsLabel v
  -- LOAD before ACCEPT (DEDUCED, log entry 12).
  else if a = SPN_STEP_CMD then
    let s1 := if v.getLsbD 1 then s.stepLoad else s
    if v.getLsbD 0 then s1.stepAccept else s1
  else if a = SPN_SRC then (s.plainWrite a v).ptmShow
  else match arrIx (SPN_TTO_CTL 0) 0x20 4 a with
    | some n => if h : n < 4 then s.trigCtlWrite ⟨n, h⟩ v else s
    | none => s.plainWrite a v

/-- The registers of the calendar in the order of their offsets (R371). -/
def calIx (a : Nat) : Option Nat := arrIx RTC_SEC 4 8 a

/-- A write to any RTC register ends a freeze (R371). -/
def State.storeRtc (s : State) (a : Nat) (v : Word) : State :=
  if a = RTC_FLAG then s.rtcFlagWrite v
  else if a = RTC_SET_CMD then s.setCmd (v.setWidth 6)
  else if a = RTC_SHIFT then s.rtcShift (v.setWidth 16)
  else match calIx a with
    | some i => if h : i < 8 then s.calendarWrite ⟨i, h⟩ v.toNat else s
    | none => s.plainWrite a v

/-- The queue pair of an address of its registers. -/
def queueOf (a : Nat) : Nat := (a - 0x61000) / 0x40

/-- The status ring's LOG2 and BASE accept writes only with EN 0, EN takes a 1 only while SERVING, and clearing it brings
HEAD to TAIL, as R398 says of the rings. -/
def State.stsCfg (s : State) (v : Word) : State :=
  let en := s.flag HIF_STS_CFG_EN
  let log2 := if en then s.get HIF_STS_CFG_LOG2 else v.toNat % 16
  let on := v.getLsbD 4 && (en || decide (s.get HIF_STAT_PHASE = 3))
  let s1 := (s.put HIF_STS_CFG_LOG2 log2).putB HIF_STS_CFG_EN on
  if en && !on then s1.wr HIF_STS_HEAD (s1.rd HIF_STS_TAIL) else s1

/-- Registers of the queue pairs: a ring's BASE accepts writes only while its EN is 0. -/
def State.storeQueue (s : State) (a : Nat) (v : Word) : State :=
  let q := queueOf a
  if a = HIF_Q_CFG q then s.queueCfg q v
  else if a = HIF_Q_RX_TAIL q then s.rxTail q v.toNat
  else if a = HIF_Q_TX_TAIL q then s.txTail q v.toNat
  else if (a = HIF_Q_RX_BASE_LO q ∨ a = HIF_Q_RX_BASE_HI q) ∧ s.flag (HIF_Q_CFG_RX_EN q) = true then s
  else if (a = HIF_Q_TX_BASE_LO q ∨ a = HIF_Q_TX_BASE_HI q) ∧ s.flag (HIF_Q_CFG_TX_EN q) = true then s
  else s.plainWrite a v

/-- The heartbeat is watched from the write that makes TMO other than 0 (log entry 27). -/
def State.storeHif (s : State) (a : Nat) (v : Word) : State :=
  if a = HIF_HB then s.heartbeat
  else if a = HIF_HB_CFG then
    let s1 := s.plainWrite a v
    if s.get HIF_HB_CFG_TMO = 0 then { s1 with hif := { s1.hif with hbAt := s1.ref } } else s1
  else if a = HIF_STS_CFG then s.stsCfg v
  else if (a = HIF_STS_BASE_LO ∨ a = HIF_STS_BASE_HI) ∧ s.flag HIF_STS_CFG_EN = true then s
  else if 0x61000 ≤ a ∧ a < 0x61800 then s.storeQueue a v
  else s.plainWrite a v

/-- UPD: commands of one write are taken in the order of their bits (log entry 27). -/
def State.storeUpd (s : State) (i : Iface) (a : Nat) (v : Word) : State :=
  if a = UPD_SESS_CMD then
    let s1 := if v.getLsbD 0 then s.hostOpen i else s
    let s2 := if v.getLsbD 1 then s1.hostAbort i else s1
    let s3 := if v.getLsbD 2 then s2.hostCommit i else s2
    if v.getLsbD 3 then s3.hostTurnover i else s3
  else if a = UPD_BLK_CMD then (if v.getLsbD 31 then s.hostBlock i (v.toNat % 2 ^ 13) else s)
  else if a = UPD_CMD then
    let s1 := if v.getLsbD 0 then s.confirm else s
    if v.getLsbD 1 then s1.fallBack bootReverted else s1
  else if a = UPD_TOKEN_CMD then (if v.getLsbD 0 then s.tokSubmit else s)
  else s.plainWrite a v

/-- KEY_DATA words go to the key store and read 0 (R18, R332). -/
def State.keyData (s : State) (n : Nat) (v : Word) : State :=
  { s with key := { s.key with data :=
    (s.key.data &&& ~~~(BitVec.ofNat 256 (0xFFFFFFFF * 2 ^ (32 * n)))) ||| BitVec.ofNat 256 (v.toNat * 2 ^ (32 * n)) } }

def State.storeKey (s : State) (a : Nat) (v : Word) : State :=
  if a = KEY_CMD then s.keyCmd (v.setWidth 4)
  else match arrIx (KEY_DATA 0) 4 8 a with
    | some n => s.keyData n v
    | none => s.plainWrite a v

/-- Setting TRC_EN from 0 to 1 sets the write index to 0 and clears WRAPPED and STOPPED (R279). -/
def State.storeTsk (s : State) (a : Nat) (v : Word) : State :=
  if a = TSK_CTL then
    let s1 := s.plainWrite a v
    if v.getLsbD 1 ∧ s.flag TSK_CTL_TRC_EN = false then
      { ((s1.put TSK_TRC_WR_INDEX 0).put TSK_TRC_WR_WRAPPED 0).put TSK_TRC_WR_STOPPED 0 with
        tsk := { s1.tsk with trcFull := false } }
    else s1
  else if a = TSK_POST_CMD then (if v.getLsbD 8 then s.taskPost (v.toNat % 32) else s)
  else s.plainWrite a v

def State.storeGge (s : State) (a : Nat) (v : Word) : State :=
  match arrIx (GGE_CTL 0) 0x1000 16 a with
  | some e => s.ggeCtlWrite e v
  | none => s.plainWrite a v

/-- A table command of PRS_TBL_CMD: OP 0 reads, 1 writes or inserts, 2 deletes; 3 is reserved and does nothing. -/
def State.storePrs (s : State) (a : Nat) (v : Word) : State :=
  if a = PRS_EM_MASK_LO then s.emMaskWrite false v
  else if a = PRS_EM_MASK_HI then s.emMaskWrite true v
  else if a = PRS_TBL_CMD then (if v.toNat % 4 = 3 then s else s.tblCmd (v.toNat % 4) (v.getLsbD 2) (v.toNat / 16 % 2 ^ 14))
  else match arrIx (PRS_EXC_RATE 0) 8 8 a with
    | some c => (s.tokenSet c (s.tokenLevel c)).plainWrite a v
    | none => match arrIx (PRS_HPROF_LO 0) 4 32 a with
      | some n => s.hprofWrite false (n / 2) (n % 2 == 1) v
      | none => s.plainWrite a v

def State.storeRob (s : State) (a : Nat) (v : Word) : State :=
  if a = ROB_CFG then s.hprofWrite true 0 false v else s.plainWrite a v

def State.storeEth (s : State) (p : Fin 2) (a : Nat) (v : Word) : State :=
  if a = ETH_CTL p then s.ethCtlWrite p v
  else if a = ETH_CFG p then s.ethCfgWrite p v
  else if a = ETH_SNAP_CMD p then (if v.getLsbD 0 then s.ethSnap p else s)
  else s.plainWrite a v

/-- The host never enters TRAINING: of the boot ROM's registers it has DMC_MR_CMD.READ in READY alone (R346). Clearing
PANIC_EN ends what panic had postponed (R340, R341). -/
def State.storeDmc (s : State) (a : Nat) (v : Word) : State :=
  if a = DMC_TRN_CMD ∨ (0x110040 ≤ a ∧ a < 0x110050) then s
  else if a = DMC_MR_CMD then
    if v.getLsbD 25 ∧ s.dmcSt = dmcReady then
      s.drawn.modeRead (BitVec.ofNat 2 (v.toNat / 2 ^ 16)) (s.draw % 256) (s.draw / 256 % 256)
    else s
  else if a = DMC_PAT_CMD then
    let s1 := if v.getLsbD 0 then s.patStart false else s
    let s2 := if v.getLsbD 1 then s1.patStart true else s1
    if v.getLsbD 2 then s2.drawn.patAbort (Config.freeFaults s2.freeCtr) s2.draw else s2
  else if a = DMC_CTL then
    let s1 := s.plainWrite a v
    if s.panic && !s1.panic then s1.drawn.catchUp (freeDelays s1.draw) (freeDelays (s1.draw / 2 ^ 28)) else s1
  else s.plainWrite a v

def State.storeAcc (s : State) (a : Nat) (v : Word) : State :=
  if a = ACC_CTL then s.accCtlWrite (v.getLsbD 0) (v.toNat / 2 % 8)
  else if a = ACC_PLAN_CMD then s.planCmd v
  else if a = ACC_CTX_CMD then (s.ctxCmd (v.setWidth 5)).cluOwn
  else s.plainWrite a v

def State.storeMlk (s : State) (a : Nat) (v : Word) : State :=
  if a = MLK_CMD then (s.mlkCmd (v.setWidth 4)).deliverReturns else s.plainWrite a v

def State.storeFld (s : State) (a : Nat) (v : Word) : State :=
  if a = FLD_CMD then s.fldCmd (v.setWidth 3) else s.plainWrite a v

def State.storeClu (s : State) (a : Nat) (v : Word) : State :=
  if a = CLU_CTL then
    if v.getLsbD 0 then (if s.flag CLU_CTL_EN then s else s.cluEnable) else if s.flag CLU_CTL_EN then s.cluDisable else s
  else if a = CLU_PLAN_CMD then
    (if v.getLsbD 24 then s.planSend (v.toNat % 32) (v.toNat / 256 % 4) (v.toNat / 2 ^ 16 % 256) else s)
  else if a = CLU_ACT_CMD then
    let s1 := if v.getLsbD 8 then s.actSend (v.toNat % 4) (v.toNat / 16 % 8) else s
    if v.getLsbD 9 then (s1.actWithdraw (v.toNat % 4)).imageHook s.clu.taken else s1
  else if a = CLU_HAND_CMD then
    let s1 := if v.getLsbD 0 then s.handReqCmd else s
    if v.getLsbD 1 then s1.handAbortCmd else s1
  else s.plainWrite a v

def State.storeFrn (s : State) (r : Fin 3) (a : Nat) (v : Word) : State :=
  if a = FRN_CTL r then (s.frnCtlWrite r v).deliverReturns
  else if a = FRN_CAL_CFG r then (s.plainWrite a v).frnShow r
  else if a = FRN_FEM_CFG r ∨ (FRN_FEM_PAT r 0 0 ≤ a ∧ a < FRN_FEM_PAT r 4 0) then
    (s.plainWrite a v).femAgain r
  else s.plainWrite a v

/-- A write to a register of a block. -/
def State.storeReg (s : State) (i : Iface) (a : Nat) (v : Word) : State :=
  if 0x200000 ≤ a then (if h : (a - 0x200000) / 0x80000 < 3 then s.storeFrn ⟨_, h⟩ a v else s)
  else match a / 0x10000 with
    | 0x00 => s.storeSys a v
    | 0x01 => s.storePwr a v
    | 0x02 => s.storeFlt a v
    | 0x04 => s.storeSpn a v
    | 0x05 => s.storeRtc a v
    | 0x06 => s.storeHif a v
    | 0x07 => s.storeUpd i a v
    | 0x08 => s.storeKey a v
    | 0x0A => s.storeTsk a v
    | 0x0B => s.storeGge a v
    | 0x0C => if a = CHK_BOOK_CMD then (if v.getLsbD 0 then s.booksSnap else s) else s.plainWrite a v
    | 0x0D => s.storePrs a v
    | 0x0E => s.storeRob a v
    | 0x0F => s.storeEth 0 a v
    | 0x10 => s.storeEth 1 a v
    | 0x11 => s.storeDmc a v
    | 0x12 => s.storeAcc a v
    | 0x13 => s.storeMlk a v
    | 0x14 => s.storeFld a v
    | 0x15 => s.storeClu a v
    | _ => s.plainWrite a v

/-! ### Memories of the blocks -/

/-- The memories behind a block's offsets: whether the host may write them; none for an address of registers. -/
def memKind (a : Nat) : Option Bool :=
  let o := (a - 0x200000) % 0x80000
  if 0x200000 ≤ a ∧ a < 0x380000 ∧ (0x10000 ≤ o ∧ o < 0x11000 ∨ 0x40000 ≤ o ∧ o < 0x48000 ∨ 0x60000 ≤ o ∧ o < 0x70000) then some true
  else if 0x121000 ≤ a ∧ a < 0x121100 ∨ 0x0D1000 ≤ a ∧ a < 0x0D1080 ∨ 0x071000 ≤ a ∧ a < 0x072080 then some true
  else if 0x131000 ≤ a ∧ a < 0x131100 ∨ 0x151000 ≤ a ∧ a < 0x151400 ∨ 0x021000 ≤ a ∧ a < 0x021A00 ∨
      0x0F0200 ≤ a ∧ a < 0x0F0248 ∨ 0x100200 ≤ a ∧ a < 0x100248 then some false
  else none

/-- The channel-table entry and word of an address (R57). -/
def chanWord (a : Nat) : Option (Nat × Nat × Nat) :=
  let r := (a - 0x200000) / 0x80000
  let o := (a - 0x200000) % 0x80000
  if 0x200000 ≤ a ∧ r < 3 ∧ 0x10000 ≤ o ∧ o < 0x11000 then some (r, (o - 0x10000) / 16, o / 4 % 4) else none

/-- A write to a block's memory. -/
def State.storeMem (s : State) (a : Nat) (v : Word) : State :=
  match chanWord a with
  | some (r, idx, w) => if h : r < 3 then s.channelWrite ⟨r, h⟩ idx w v else s
  | none => s.memSet a 4 v.toNat

/-! ### Table windows (R202, R286, R289, R299 to R303) -/

/-- The window of the blank in use that holds an address. -/
def State.winOf (s : State) (a : Nat) : Option MapWin :=
  s.blk.bind (fun (b : Blank) => (mapWins b.memmap).find? (fun w => decide (w.base * 0x10000 ≤ a ∧ a < w.base * 0x10000 + 2 ^ w.log2)))

/-- The bytes a window shows, from its first; beyond them it reads 0 and ignores writes. -/
def State.winSize (s : State) (w : MapWin) : Nat :=
  match w.kind with
  | 0 => 0x50000
  | 1 => 0x1B000
  | 2 => 0x20000
  | 3 => 0x180000
  | 4 => ((s.tblDef w.table).map (fun (d : TblDef) => d.size)).getD 0
  | _ => 0x100000

/-- The window shows a table that the blank places in DRAM (R289, R344). -/
def State.winDram (s : State) (w : MapWin) : Bool :=
  decide (w.kind = 4) && ((s.tblDef w.table).map (fun (d : TblDef) => d.dram)).getD false

/-- The window shows a settings region, which lies in the magnetoresistive memory, across the Thallus link (R15, R300). -/
def MapWin.thallus (w : MapWin) : Bool := decide (w.kind = 5 ∨ w.kind = 6)

def State.winRead (s : State) (w : MapWin) (a : Nat) : Word :=
  let o := a - w.base * 0x10000
  if s.winSize w ≤ o then 0
  else match w.kind with
    | 0 => if 0xC000 ≤ o ∧ o < 0x10000 then 0 else BitVec.ofNat 32 (s.mem a 4)
    | 4 => BitVec.ofNat 32 (leNum (s.tblBytes w.table o 4))
    | 5 => BitVec.ofNat 32 (leGet zeroByte s.thal (s.settingsBase false + o) 4)
    | 6 => BitVec.ofNat 32 (leGet zeroByte s.thal (s.settingsBase true + o) 4)
    | _ => BitVec.ofNat 32 (s.mem a 4)

/-- A write through a window: the parse graph is the blank's alone, a HASHED table changes only through TINS and TDEL, bytes
0 to 15 of the active region ignore writes, and the other region takes them only while it is free. -/
def State.winWrite (s : State) (w : MapWin) (a : Nat) (v : Word) : State :=
  let o := a - w.base * 0x10000
  if s.winSize w ≤ o then s
  else match w.kind with
    | 0 => if o < 0x10000 then s else s.memSet a 4 v.toNat
    | 4 => if (s.tblDef w.table).any (fun (d : TblDef) => d.kind == 1) then s else s.tblPut w.table o (leBytes 4 v.toNat)
    | 5 => if o < 16 then s else { s with thal := leSet zeroByte s.thal (s.settingsBase false + o) 4 v.toNat }
    | 6 => if s.upd.freeOther then { s with thal := leSet zeroByte s.thal (s.settingsBase true + o) 4 v.toNat } else s
    | _ => s.memSet a 4 v.toNat

/-! ### Pairs (R9) -/

/-- The low words of the register maps' R9 pairs: those the Description column marks, the KEY_INFO numbers, and the 64-bit
counters (DEDUCED, log entry 27). -/
def pairReg (a : Nat) : Bool :=
  [PWR_WAKE_TICK_LO, SPN_PTM_MAP_LO, RTC_RAW_LO, HIF_STS_BASE_LO, UPD_TURN_LO, UPD_UID_LO, KEY_INFO_TXPN_LO, KEY_INFO_RXPN_LO,
    KEY_INFO_MGPN_LO, TSK_POST_ARG0_LO, TSK_POST_ARG1_LO, CHK_BOOK_TICK_LO, ACC_PLAN_TURN_LO, ACC_UP_TSF_LO, FLD_ADDR_LO,
    FLD_GROUP_LO, CLU_GROUP_LO, CLU_ACT_TURN_LO, CLU_HAND_MAC_LO, CLU_HAND_CUT_LO].contains a ||
  (arrIx (HIF_Q_RX_BASE_LO 0) 0x40 32 a).isSome || (arrIx (HIF_Q_TX_BASE_LO 0) 0x40 32 a).isSome ||
  (arrIx (GGE_CNT_WORDS_LO 0) 0x1000 16 a).isSome || (arrIx (ETH_SNAP_TICK_LO 0) 0x10000 2 a).isSome ||
  (arrIx (ETH_CNT_RX_BYTES_LO 0) 0x10000 2 a).isSome || (arrIx (ETH_CNT_TX_BYTES_LO 0) 0x10000 2 a).isSome ||
  (arrIx 0x0F0204 0x10000 2 a).isSome || (arrIx 0x0F0228 0x10000 2 a).isSome

/-- An address in a radio's program memory, each of whose operations is a pair (R80). -/
def isProgWord (a : Nat) : Bool := decide (0x200000 ≤ a ∧ a < 0x380000 ∧ 0x40000 ≤ (a - 0x200000) % 0x80000 ∧ (a - 0x200000) % 0x80000 < 0x48000)

/-- An address in a window whose words are pairs: rule counters and COUNTER tables (R202, R289). -/
def State.winPair (s : State) (a : Nat) : Bool :=
  (s.winOf a).any (fun (w : MapWin) => decide (w.kind = 0 ∧ 0x10000 ≤ a - w.base * 0x10000 ∧ a - w.base * 0x10000 < 0x50000) ||
    decide (w.kind = 4) && (s.tblDef w.table).any (fun (d : TblDef) => d.kind == 2) && decide (a - w.base * 0x10000 < s.winSize w))

/-- The address is a pair's low word. -/
def State.isLow (s : State) (a : Nat) : Bool := pairReg a || (isProgWord a || s.winPair a) && decide (a % 8 = 0)

/-- The address is a pair's high word. -/
def State.isHigh (s : State) (a : Nat) : Bool :=
  decide (4 ≤ a) && (pairReg (a - 4) || (isProgWord a || s.winPair a) && decide (a % 8 = 4))

/-- The holding register of a pair and an interface. -/
def holdKey (i : Iface) (low : Nat) : Nat := 2 * low + (if i = .hsp then 1 else 0)

def State.setWrHold (s : State) (i : Iface) (low : Nat) (v : Option Word) : State :=
  { s with wrHold := SMap.set (fun _ => none) s.wrHold (holdKey i low) v }

/-- The latch of a pair's reads, apart from what is held for a write (DEDUCED, log entry 27). -/
def State.setRdHold (s : State) (i : Iface) (low : Nat) (v : Option Word) : State :=
  { s with rdHold := SMap.set (fun _ => none) s.rdHold (holdKey i low) v }

def State.wrHeld (s : State) (i : Iface) (low : Nat) : Option Word := SMap.get (fun _ => none) s.wrHold (holdKey i low)
def State.rdHeld (s : State) (i : Iface) (low : Nat) : Option Word := SMap.get (fun _ => none) s.rdHold (holdKey i low)

/-! ### One word read -/

/-- The current value of one word: what a register computes as it is read, the memories, the windows, and 0 for WO fields and
reserved offsets. -/
def State.wordAt (s : State) (a : Nat) : Word :=
  match s.winOf a with
  | some w => s.winRead w a
  | none =>
    if (memKind a).isSome then BitVec.ofNat 32 (s.mem a 4)
    else if a = FLT_SRC_STAT then s.srcStat
    else if a = FLT_SRC_POL then s.srcPol
    else if a = UPD_STAT then s.updStat
    else if a = UPD_CONFIRM_LEFT then s.confirmLeft
    else if a = SPN_EST_ERR then BitVec.ofNat 32 s.estErr
    else if a = ACC_STAT then s.accShow.rd ACC_STAT
    else if a = FRN_STAT 0 then s.frnStat 0
    else if a = FRN_STAT 1 then s.frnStat 1
    else if a = FRN_STAT 2 then s.frnStat 2
    else match regRow a with
      | some x => s.rd a &&& ~~~x.wo
      | none => 0

/-- RC fields are cleared by the read that returns them. -/
def State.rcClear (s : State) (a : Nat) : State :=
  match regRow a with
  | some x => if x.rc = 0 then s else s.wr a (s.rd a &&& ~~~x.rc)
  | none => s

/-- A read that does not fail: captures, freezes, pairs, RC (R9, R12, R55, R242, R371). -/
def State.loadWord (s : State) (i : Iface) (a : Nat) : State :=
  if a = SPN_NOW_NS then s.nowCapture
  else if a = SPN_TL_NS then s.tlCapture
  else if a = RTC_SEC then s.rtcSecRead
  else if a = RTC_YEAR then s.rtcYearRead
  else if s.isLow a then
    ((({ s with hostRd := s.wordAt a }).setRdHold i a (some (s.wordAt (a + 4)))).rcClear a).rcClear (a + 4)
  else if s.isHigh a then
    match s.rdHeld i (a - 4) with
    | some v => ({ s with hostRd := v }).setRdHold i (a - 4) none
    | none => ({ s with hostRd := s.wordAt a }).rcClear a
  else ({ s with hostRd := s.wordAt a }).rcClear a

/-! ### One word written -/

/-- One word takes effect. -/
def State.storeOne (s : State) (i : Iface) (a : Nat) (v : Word) : State :=
  match s.winOf a with
  | some w => s.winWrite w a v
  | none =>
    match memKind a with
    | some true => s.storeMem a v
    | some false => s
    | none => s.storeReg i a v

/-- The high word commits both words at once; with no low word held the low word keeps its value. -/
def State.pairCommit (s : State) (i : Iface) (a : Nat) (v : Word) : State :=
  let s1 := match s.wrHeld i (a - 4) with
    | some lo => (s.setWrHold i (a - 4) none).storeOne i (a - 4) lo
    | none => s
  s1.storeOne i a v

/-- A write that is made. -/
def State.storeWord (s : State) (i : Iface) (a : Nat) (v : Word) : State :=
  let s0 := (s.hostWrote a).rtcWrote a
  if s0.isLow a then s0.setWrHold i a (some v)
  else if s0.isHigh a then s0.pairCommit i a v
  else s0.storeOne i a v

/-! ### Accesses that reach BAR0 (R28, R344) -/

/-- A table in DRAM that is under self-refresh: the access is not made (R344). -/
def State.srError (s : State) : State := ((s.bump DMC_CNT_SR_ACCESS).raise DMC_EVT_SR_ACCESS).accessErr

/-- What becomes of an access to any address: `made` through `f`; the last argument says what a failed one leaves. -/
def State.busAt (s : State) (i : Iface) (a : Nat) (f g : State → State) : State :=
  match s.reach (some i) a with
  | .silent => g s
  | .counted => g s.accessErr
  | .made =>
    if inWindows a then
      match s.winOf a with
      | some w =>
        if w.thallus && !s.flag SYS_DIE_STAT_THL_UP then g s.accessErr
        else if s.winDram w && decide (s.dmcSt = dmcSelfRefresh) then g s.srError else f s
      | none => g s.accessErr
    else f s

/-- A read of 0. -/
def State.rdZero (s : State) : State := { s with hostRd := 0 }

/-- A host read of one word; the result stands in `hostRd`, and the access may end IDLE (R352). -/
def State.busRead (s : State) (i : Iface) (a : Nat) : State :=
  s.busAt i a (fun (t : State) => (t.stirred a).loadWord i a) State.rdZero

/-- A host write of one word. -/
def State.busWrite (s : State) (i : Iface) (a : Nat) (v : Word) : State :=
  s.busAt i a (fun (t : State) => t.storeWord i a v) id

/-- A host access of one word: a write where a word comes with it, else a read. -/
def State.busAccess (s : State) (i : Iface) (a : Nat) : Option Word → State
  | some v => s.busWrite i a v
  | none => s.busRead i a

/-! ### The commands -/

/-- REGISTER_WRITE. -/
def execRegisterWrite (i : Iface) (a : BitVec 26) (v : Word) (s : State) : Out State := .next (s.busWrite i a.toNat v)

/-- BAD_WIDTH_ACCESS: a read of 0 or a discarded write, recorded as an access error (R8), but where nothing is counted (R320,
R412). The Host Serial Port has no such access: it answers ALIGN (R410). -/
def State.badWidth (s : State) (a : Nat) (write : Bool) : State :=
  let s1 := if s.reach (some .pcie) a = .silent then s else s.accessErr
  if write then s1 else s1.rdZero

def execBadWidthAccess (a : BitVec 26) (write : Bool) (s : State) : Out State := .next (s.badWidth a.toNat write)

/-- UNASSIGNED_ACCESS: an access that `reach` and the windows of the blank in use do not let through. -/
def execUnassignedAccess (i : Iface) (a : BitVec 26) (v : Option Word) (s : State) : Out State := .next (s.busAccess i a.toNat v)

/-- PAIR_LOW_READ and its companions: `a` is the address of the word read or written. -/
def execPairLowRead (i : Iface) (a : BitVec 26) (s : State) : Out State := .next (s.busRead i a.toNat)
def execPairHighRead (i : Iface) (a : BitVec 26) (s : State) : Out State := .next (s.busRead i a.toNat)
def execPairLowWrite (i : Iface) (a : BitVec 26) (v : Word) (s : State) : Out State := .next (s.busWrite i a.toNat v)
def execPairHighWrite (i : Iface) (a : BitVec 26) (v : Word) (s : State) : Out State := .next (s.busWrite i a.toNat v)

/-- RC_READ. -/
def execRcRead (i : Iface) (a : BitVec 26) (s : State) : Out State := .next (s.busRead i a.toNat)

/-- The W1C bits that the device sets in the fabric cycle of the write end set (R13). -/
def State.endSet (s : State) (a : Nat) (set : Word) : State :=
  match regRow a with
  | some x => s.wr a (s.rd a ||| (set &&& x.w1c))
  | none => s

/-- W1C_WRITE: `set` names the bits that the device sets in the same fabric cycle; the event that sets such a bit is a
command of its own and stands before this one. -/
def execW1cWrite (i : Iface) (a : BitVec 26) (v set : Word) (s : State) : Out State :=
  .next (s.busAt i a.toNat (fun (t : State) => (t.storeWord i a.toNat v).endSet a.toNat (t.rd a.toNat &&& set)) id)

/-! ### The Host Serial Port (R410, R411) -/

def hspOk : Nat := 0x5A
def hspCrc : Nat := 0xE1
def hspAlign : Nat := 0xE2
def hspOpcode : Nat := 0xE3
def hspNotReady : Nat := 0xE4

/-- The port answers NOTREADY: during a turnover, and in the boot ROM where BOOTIF names PCIe (R412). -/
def State.hspBusy (s : State) : Bool :=
  s.upd.ho.isSome || decide (s.get HIF_STAT_PHASE ≠ 3) && decide (s.bootIface ≠ .hsp)

/-- The status of a frame: NOTREADY where the port answers every frame so, then the CRC, the opcode, the range. -/
def State.hspStatus (s : State) (opOk : Bool) (count ofs : Nat) (crcOk : Bool) : Nat :=
  if s.hspBusy then hspNotReady
  else if !crcOk then hspCrc
  else if !opOk then hspOpcode
  else if ofs % 4 ≠ 0 ∨ 0x4000000 < ofs + 4 * count then hspAlign
  else hspOk

/-- A frame answered with anything but OK makes no access and is counted; a CRC error is an event. -/
def State.hspFail (s : State) (st : Nat) : State :=
  ((s.bump HIF_CNT_HSP_ERR).raiseIf (decide (st = hspCrc)) HIF_EVT_HSP_CRC).emit (.hsp st [])

/-- The words of a READ, in the order of their addresses. -/
def State.hspReads (s : State) (a : Nat) : Nat → State × List Word
  | 0 => (s, [])
  | n + 1 =>
    let s1 := s.busRead .hsp a
    let (s2, ws) := s1.hspReads (a + 4) n
    (s2, s1.hostRd :: ws)

/-- The words of a WRITE, in the order of their addresses. -/
def State.hspWrites (s : State) (a : Nat) : List Word → State
  | [] => s
  | v :: t => (s.busWrite .hsp a v).hspWrites (a + 4) t

/-- HSP_READ: a READ frame cut before its CRC makes no access; one cut after OK has made them all. -/
def State.hspRead (s : State) (op : Byte) (count ofs : Nat) (crcOk : Bool) (cut : HspCut) : State :=
  if !s.powered || decide (cut = .beforeCrc) then s
  else
    let st := s.hspStatus (decide (op = 1)) count ofs crcOk
    if st = hspOk then
      let (s1, ws) := s.hspReads ofs count
      s1.emit (.hsp hspOk (if cut = .afterOk then [] else ws))
    else s.hspFail st

def execHspRead (op : Byte) (count : BitVec 8) (ofs : Word) (crcOk : Bool) (cut : HspCut) (s : State) : Out State :=
  .next (s.hspRead op (count.toNat + 1) ofs.toNat crcOk cut)

/-- HSP_WRITE: a frame cut off before its CRC writes nothing. -/
def State.hspWrite (s : State) (op : Byte) (ofs : Nat) (data : List Word) (crcOk cut : Bool) : State :=
  if !s.powered || cut then s
  else
    let st := s.hspStatus (decide (op = 2)) data.length ofs crcOk
    if st = hspOk then (s.hspWrites ofs data).emit (.hsp hspOk []) else s.hspFail st

def execHspWrite (op : Byte) (ofs : Word) (data : List Word) (crcOk cut : Bool) (s : State) : Out State :=
  .next (s.hspWrite op ofs.toNat data crcOk cut)

end Sys2Proof.Machine
end

