-- ==== Sys2Proof/Machine/Dispatch.lean ====
section
/-! DEFINITION. One arm for each command: a direct call of its meaning. -/

namespace Sys2Proof.Machine

def exec (i : Instr) (s : State) : Host.Outcome State Fault Refusal :=
  match i with
  | .registerWrite ifc a v => Sys2Proof.Machine.execRegisterWrite ifc a v s
  | .badWidthAccess a write => Sys2Proof.Machine.execBadWidthAccess a write s
  | .unassignedAccess ifc a v => Sys2Proof.Machine.execUnassignedAccess ifc a v s
  | .pairLowRead ifc a => Sys2Proof.Machine.execPairLowRead ifc a s
  | .pairHighRead ifc a => Sys2Proof.Machine.execPairHighRead ifc a s
  | .pairLowWrite ifc a v => Sys2Proof.Machine.execPairLowWrite ifc a v s
  | .pairHighWrite ifc a v => Sys2Proof.Machine.execPairHighWrite ifc a v s
  | .rcRead ifc a => Sys2Proof.Machine.execRcRead ifc a s
  | .w1cWrite ifc a v set => Sys2Proof.Machine.execW1cWrite ifc a v set s
  | .flitCrcFail link newFlit => Sys2Proof.Machine.execFlitCrcFail link newFlit s
  | .turnStrobe agree => Sys2Proof.Machine.execTurnStrobe agree s
  | .supplyMonitorChange low => Sys2Proof.Machine.execSupplyMonitorChange low s
  | .spindleEnable mode => Sys2Proof.Machine.execSpindleEnable mode s
  | .spindleDisable mode => Sys2Proof.Machine.execSpindleDisable mode s
  | .epochCommit hi => Sys2Proof.Machine.execEpochCommit hi s
  | .domainSwitchRequest => Sys2Proof.Machine.execDomainSwitchRequest s
  | .ptpSample port dom ext inOrder exchanges => Sys2Proof.Machine.execPtpSample port dom ext inOrder exchanges s
  | .ptmDialogDone completed master roundTripNs => Sys2Proof.Machine.execPtmDialogDone completed master roundTripNs s
  | .ptmDialogStart => Sys2Proof.Machine.execPtmDialogStart s
  | .ppsEdge afterNs => Sys2Proof.Machine.execPpsEdge afterNs s
  | .ppsLabelWrite hi => Sys2Proof.Machine.execPpsLabelWrite hi s
  | .turnStart t0 t1 t2 e0 e1 e2 => Sys2Proof.Machine.execTurnStart t0 t1 t2 e0 e1 e2 s
  | .lossTimeout => Sys2Proof.Machine.execLossTimeout s
  | .holdoverLimit => Sys2Proof.Machine.execHoldoverLimit s
  | .stepAccept => Sys2Proof.Machine.execStepAccept s
  | .stepLoad => Sys2Proof.Machine.execStepLoad s
  | .nowCapture => Sys2Proof.Machine.execNowCapture s
  | .turnLatchCapture => Sys2Proof.Machine.execTurnLatchCapture s
  | .triggerArm n pol gate => Sys2Proof.Machine.execTriggerArm n pol gate s
  | .triggerPulse n => Sys2Proof.Machine.execTriggerPulse n s
  | .triggerPulseEnd n => Sys2Proof.Machine.execTriggerPulseEnd n s
  | .frnEnable r run auto => Sys2Proof.Machine.execFrnEnable r run auto s
  | .frnDisable r run auto => Sys2Proof.Machine.execFrnDisable r run auto s
  | .frnRunSet r en auto => Sys2Proof.Machine.execFrnRunSet r en auto s
  | .frnRunClear r en auto => Sys2Proof.Machine.execFrnRunClear r en auto s
  | .halt r => Sys2Proof.Machine.execHalt r s
  | .sync r => Sys2Proof.Machine.execSync r s
  | .waitAt r ang ecc => Sys2Proof.Machine.execWaitAt r ang ecc s
  | .waitRel r ticks ecc => Sys2Proof.Machine.execWaitRel r ticks ecc s
  | .seqWaitEnd r ecc => Sys2Proof.Machine.execSeqWaitEnd r ecc s
  | .sleep r ecc => Sys2Proof.Machine.execSleep r ecc s
  | .wake r ready ecc => Sys2Proof.Machine.execWake r ready ecc s
  | .prep r idx recal ecc => Sys2Proof.Machine.execPrep r idx recal ecc s
  | .hop r ecc => Sys2Proof.Machine.execHop r ecc s
  | .rxwin r end_ chains profile ecc => Sys2Proof.Machine.execRxwin r end_ chains profile ecc s
  | .txq r startDl end_ chains queue ecc => Sys2Proof.Machine.execTxq r startDl end_ chains queue ecc s
  | .txtpl r tpl deadline chains dur ecc => Sys2Proof.Machine.execTxtpl r tpl deadline chains dur ecc s
  | .bgcal r kind limit temp ecc => Sys2Proof.Machine.execBgcal r kind limit temp ecc s
  | .event r code ecc => Sys2Proof.Machine.execEvent r code ecc s
  | .jump r target ecc => Sys2Proof.Machine.execJump r target ecc s
  | .jcyc r target len pos ecc => Sys2Proof.Machine.execJcyc r target len pos ecc s
  | .synthCalDone r k ok ecc => Sys2Proof.Machine.execSynthCalDone r k ok ecc s
  | .lockLoss r ecc => Sys2Proof.Machine.execLockLoss r ecc s
  | .tempDrift r temp => Sys2Proof.Machine.execTempDrift r temp s
  | .ppduReceived r p => Sys2Proof.Machine.execPpduReceived r p s
  | .ppduTxEnd r ecc => Sys2Proof.Machine.execPpduTxEnd r ecc s
  | .responseReceived r lost ecc => Sys2Proof.Machine.execResponseReceived r lost ecc s
  | .responseTimeout r ecc => Sys2Proof.Machine.execResponseTimeout r ecc s
  | .seqMismatch r => Sys2Proof.Machine.execSeqMismatch r s
  | .seqAutoRestart r ecc => Sys2Proof.Machine.execSeqAutoRestart r ecc s
  | .channelEntryWrite r idx word v => Sys2Proof.Machine.execChannelEntryWrite r idx word v s
  | .programWordCommit ifc r a hi => Sys2Proof.Machine.execProgramWordCommit ifc r a hi s
  | .coastStart r ecc => Sys2Proof.Machine.execCoastStart r ecc s
  | .coastEnd r ecc => Sys2Proof.Machine.execCoastEnd r ecc s
  | .coastLimit r => Sys2Proof.Machine.execCoastLimit r s
  | .associationRequest r mac link tids others flags maxMpdu maxAmpdu listen nstr emlsr elem => Sys2Proof.Machine.execAssociationRequest r mac link tids others flags maxMpdu maxAmpdu listen nstr emlsr elem s
  | .ctxRead cmd => Sys2Proof.Machine.execCtxRead cmd s
  | .ctxWrite cmd => Sys2Proof.Machine.execCtxWrite cmd s
  | .ctxFree cmd => Sys2Proof.Machine.execCtxFree cmd s
  | .ctxFlush cmd => Sys2Proof.Machine.execCtxFlush cmd s
  | .contextFetchDone aid => Sys2Proof.Machine.execContextFetchDone aid s
  | .stationFrameRx => Sys2Proof.Machine.execStationFrameRx s
  | .stationDormant aid => Sys2Proof.Machine.execStationDormant aid s
  | .planArm radio bank len cancel => Sys2Proof.Machine.execPlanArm radio bank len cancel s
  | .planCancel radio bank len => Sys2Proof.Machine.execPlanCancel radio bank len s
  | .planSwap r => Sys2Proof.Machine.execPlanSwap r s
  | .generateHalf r took wurDur => Sys2Proof.Machine.execGenerateHalf r took wurDur s
  | .genDeadline r => Sys2Proof.Machine.execGenDeadline r s
  | .accCtlWrite en linkEn => Sys2Proof.Machine.execAccCtlWrite en linkEn s
  | .stationEnqueue aid tid len mgmt robust eapol air data => Sys2Proof.Machine.execStationEnqueue aid tid len mgmt robust eapol air data s
  | .frondQueueFill r tid air => Sys2Proof.Machine.execFrondQueueFill r tid air s
  | .frameLifetimeExpiry aid tid => Sys2Proof.Machine.execFrameLifetimeExpiry aid tid s
  | .beaconBuild r airtime finished => Sys2Proof.Machine.execBeaconBuild r airtime finished s
  | .wokeExpiry aid => Sys2Proof.Machine.execWokeExpiry aid s
  | .uplinkBeacon tsf lead bi dt => Sys2Proof.Machine.execUplinkBeacon tsf lead bi dt s
  | .uplinkMiss => Sys2Proof.Machine.execUplinkMiss s
  | .uplinkHoldExpiry => Sys2Proof.Machine.execUplinkHoldExpiry s
  | .uplinkSearchExpiry => Sys2Proof.Machine.execUplinkSearchExpiry s
  | .uplinkAssociated ap => Sys2Proof.Machine.execUplinkAssociated ap s
  | .suspend cmd => Sys2Proof.Machine.execSuspend cmd s
  | .resume cmd => Sys2Proof.Machine.execResume cmd s
  | .remove cmd => Sys2Proof.Machine.execRemove cmd s
  | .braidRead cmd => Sys2Proof.Machine.execBraidRead cmd s
  | .addbaRequest r ta tid ssn size => Sys2Proof.Machine.execAddbaRequest r ta tid ssn size s
  | .agreementEnd r ta tid tx => Sys2Proof.Machine.execAgreementEnd r ta tid tx s
  | .reorderRx => Sys2Proof.Machine.execReorderRx s
  | .blockAckRequestRx r ta tid ssn => Sys2Proof.Machine.execBlockAckRequestRx r ta tid ssn s
  | .holeTimerExpiry aid tid => Sys2Proof.Machine.execHoleTimerExpiry aid tid s
  | .holeSettleEnd aid tid => Sys2Proof.Machine.execHoleSettleEnd aid tid s
  | .cipherDropNotice aid tid sn lid => Sys2Proof.Machine.execCipherDropNotice aid tid sn lid s
  | .floodFrameRx => Sys2Proof.Machine.execFloodFrameRx s
  | .sorusSettleEnd => Sys2Proof.Machine.execSorusSettleEnd s
  | .carryFrameRx prot sec kind lid rssi tick f payload mismatches => Sys2Proof.Machine.execCarryFrameRx prot sec kind lid rssi tick f payload mismatches s
  | .floodEnqueue r dst air payload => Sys2Proof.Machine.execFloodEnqueue r dst air payload s
  | .floodLifetimeExpiry r => Sys2Proof.Machine.execFloodLifetimeExpiry r s
  | .fcntReset cmd => Sys2Proof.Machine.execFcntReset cmd s
  | .tagReset cmd => Sys2Proof.Machine.execTagReset cmd s
  | .sorusFlush cmd => Sys2Proof.Machine.execSorusFlush cmd s
  | .sorusAging => Sys2Proof.Machine.execSorusAging s
  | .clusterEnable => Sys2Proof.Machine.execClusterEnable s
  | .clusterDisable => Sys2Proof.Machine.execClusterDisable s
  | .syncSend => Sys2Proof.Machine.execSyncSend s
  | .syncRx h m => Sys2Proof.Machine.execSyncRx h m s
  | .syncSlotMiss => Sys2Proof.Machine.execSyncSlotMiss s
  | .deputyTakeover => Sys2Proof.Machine.execDeputyTakeover s
  | .hbSend => Sys2Proof.Machine.execHbSend s
  | .hbRx h hb => Sys2Proof.Machine.execHbRx h hb s
  | .deviceAbsent d => Sys2Proof.Machine.execDeviceAbsent d s
  | .dirReportRx h records => Sys2Proof.Machine.execDirReportRx h records s
  | .dirUpdateRx h seq records => Sys2Proof.Machine.execDirUpdateRx h seq records s
  | .dirFullRx h seq total index records => Sys2Proof.Machine.execDirFullRx h seq total index records s
  | .didChange => Sys2Proof.Machine.execDidChange s
  | .planSend d radio len => Sys2Proof.Machine.execPlanSend d radio len s
  | .planRx h radio len frag nfrag id nwin ws => Sys2Proof.Machine.execPlanRx h radio len frag nfrag id nwin ws s
  | .actSend kind map => Sys2Proof.Machine.execActSend kind map s
  | .actReady => Sys2Proof.Machine.execActReady s
  | .actDeadline => Sys2Proof.Machine.execActDeadline s
  | .actWithdrawCmd kind map => Sys2Proof.Machine.execActWithdrawCmd kind map s
  | .actRx h kind map id turn => Sys2Proof.Machine.execActRx h kind map id turn s
  | .actWithdrawRx h kind map id turn => Sys2Proof.Machine.execActWithdrawRx h kind map id turn s
  | .imgRx h session offset total last data => Sys2Proof.Machine.execImgRx h session offset total last data s
  | .handReqCmd abort => Sys2Proof.Machine.execHandReqCmd abort s
  | .handAbortCmd => Sys2Proof.Machine.execHandAbortCmd s
  | .handReqRx h m => Sys2Proof.Machine.execHandReqRx h m s
  | .handAcceptRx h m => Sys2Proof.Machine.execHandAcceptRx h m s
  | .handCut hid => Sys2Proof.Machine.execHandCut hid s
  | .handSettleEnd hid => Sys2Proof.Machine.execHandSettleEnd hid s
  | .handCtxRx h m body => Sys2Proof.Machine.execHandCtxRx h m body s
  | .handFrameRx h m tid sn hasSn len air data => Sys2Proof.Machine.execHandFrameRx h m tid sn hasSn len air data s
  | .handEndRx h m same air switchFrame => Sys2Proof.Machine.execHandEndRx h m same air switchFrame s
  | .handAbortRx h m refuse => Sys2Proof.Machine.execHandAbortRx h m refuse s
  | .handTimeout hid => Sys2Proof.Machine.execHandTimeout hid s
  | .packetEntry q => Sys2Proof.Machine.execPacketEntry q s
  | .tableRead exact index => Sys2Proof.Machine.execTableRead exact index s
  | .tableWrite index => Sys2Proof.Machine.execTableWrite index s
  | .tableInsert index => Sys2Proof.Machine.execTableInsert index s
  | .tableDelete exact index => Sys2Proof.Machine.execTableDelete exact index s
  | .emMaskWrite hi v => Sys2Proof.Machine.execEmMaskWrite hi v s
  | .hprofWrite rob p hi v => Sys2Proof.Machine.execHprofWrite rob p hi v s
  | .slotRelease flow ethFull mpdu air => Sys2Proof.Machine.execSlotRelease flow ethFull mpdu air s
  | .robAgeExpiry seq => Sys2Proof.Machine.execRobAgeExpiry seq s
  | .ethFrameRx p data good => Sys2Proof.Machine.execEthFrameRx p data good s
  | .pauseEnd p => Sys2Proof.Machine.execPauseEnd p s
  | .linkUp p rate rfault => Sys2Proof.Machine.execLinkUp p rate rfault s
  | .linkDown p lfault rfault receiving => Sys2Proof.Machine.execLinkDown p lfault rfault receiving s
  | .ethCfgWrite p v => Sys2Proof.Machine.execEthCfgWrite p v s
  | .ethCtlWrite p v => Sys2Proof.Machine.execEthCtlWrite p v s
  | .ethFrameTx p empty after => Sys2Proof.Machine.execEthFrameTx p empty after s
  | .lpiEntry p => Sys2Proof.Machine.execLpiEntry p s
  | .lpiWake p => Sys2Proof.Machine.execLpiWake p s
  | .snap p => Sys2Proof.Machine.execSnap p s
  | .bufferAlloc own len => Sys2Proof.Machine.execBufferAlloc own len s
  | .bufferRelease own handle => Sys2Proof.Machine.execBufferRelease own handle s
  | .referenceAdd own handle => Sys2Proof.Machine.execReferenceAdd own handle s
  | .booksSnap => Sys2Proof.Machine.execBooksSnap s
  | .frondLinkReturn lost0 lost1 lost2 => Sys2Proof.Machine.execFrondLinkReturn lost0 lost1 lost2 s
  | .taskEnqueue timer => Sys2Proof.Machine.execTaskEnqueue timer s
  | .taskPost cls => Sys2Proof.Machine.execTaskPost cls s
  | .taskDispatch => Sys2Proof.Machine.execTaskDispatch s
  | .add e t w => Sys2Proof.Machine.execAdd e t w s
  | .sub e t w => Sys2Proof.Machine.execSub e t w s
  | .and e t w => Sys2Proof.Machine.execAnd e t w s
  | .or e t w => Sys2Proof.Machine.execOr e t w s
  | .xor e t w => Sys2Proof.Machine.execXor e t w s
  | .shl e t w => Sys2Proof.Machine.execShl e t w s
  | .shr e t w => Sys2Proof.Machine.execShr e t w s
  | .sar e t w => Sys2Proof.Machine.execSar e t w s
  | .ldh e t w => Sys2Proof.Machine.execLdh e t w s
  | .br e t w => Sys2Proof.Machine.execBr e t w s
  | .call e t w => Sys2Proof.Machine.execCall e t w s
  | .ret e t w => Sys2Proof.Machine.execRet e t w s
  | .ldl e t w => Sys2Proof.Machine.execLdl e t w s
  | .stl e t w => Sys2Proof.Machine.execStl e t w s
  | .ldp e t w => Sys2Proof.Machine.execLdp e t w s
  | .stp e t w => Sys2Proof.Machine.execStp e t w s
  | .adj e t w => Sys2Proof.Machine.execAdj e t w s
  | .tld e t w => Sys2Proof.Machine.execTld e t w s
  | .tst e t w => Sys2Proof.Machine.execTst e t w s
  | .tlkp e t w => Sys2Proof.Machine.execTlkp e t w s
  | .tins e t w => Sys2Proof.Machine.execTins e t w s
  | .tdel e t w => Sys2Proof.Machine.execTdel e t w s
  | .cadd e t w => Sys2Proof.Machine.execCadd e t w s
  | .cswp e t w => Sys2Proof.Machine.execCswp e t w s
  | .pnew e t w => Sys2Proof.Machine.execPnew e t w s
  | .spawn e t w => Sys2Proof.Machine.execSpawn e t w s
  | .tmr e t w => Sys2Proof.Machine.execTmr e t w s
  | .ctxr e t w => Sys2Proof.Machine.execCtxr e t w s
  | .ctxw e t w => Sys2Proof.Machine.execCtxw e t w s
  | .time e t w => Sys2Proof.Machine.execTime e t w s
  | .trace e t w => Sys2Proof.Machine.execTrace e t w s
  | .nop e t w => Sys2Proof.Machine.execNop e t w s
  | .endTask e t w => Sys2Proof.Machine.execEndTask e t w s
  | .engineFault e t code => Sys2Proof.Machine.execEngineFault e t code s
  | .timerFire n => Sys2Proof.Machine.execTimerFire n s
  | .engineEnable e en auto => Sys2Proof.Machine.execEngineEnable e en auto s
  | .reload e en auto => Sys2Proof.Machine.execReload e en auto s
  | .reloadDone e ok => Sys2Proof.Machine.execReloadDone e ok s
  | .drainDone e => Sys2Proof.Machine.execDrainDone e s
  | .fullBoot env => Sys2Proof.Machine.execFullBoot env s
  | .openSession ifc => Sys2Proof.Machine.execOpenSession ifc s
  | .abortSession ifc => Sys2Proof.Machine.execAbortSession ifc s
  | .commit ifc => Sys2Proof.Machine.execCommit ifc s
  | .turnover ifc => Sys2Proof.Machine.execTurnover ifc s
  | .blockWrite ifc len => Sys2Proof.Machine.execBlockWrite ifc len s
  | .sessionReclaim => Sys2Proof.Machine.execSessionReclaim s
  | .submit => Sys2Proof.Machine.execSubmit s
  | .tokenCheckDone => Sys2Proof.Machine.execTokenCheckDone s
  | .confirm => Sys2Proof.Machine.execConfirm s
  | .revert => Sys2Proof.Machine.execRevert s
  | .confirmExpiry => Sys2Proof.Machine.execConfirmExpiry s
  | .handoverStart => Sys2Proof.Machine.execHandoverStart s
  | .turnoverCoreReset e0 e1 e2 => Sys2Proof.Machine.execTurnoverCoreReset e0 e1 e2 s
  | .turnoverBoot damage env d0 d1 => Sys2Proof.Machine.execTurnoverBoot damage env d0 d1 s
  | .cipherFrame src micOk mismatches held urgentHeld => Sys2Proof.Machine.execCipherFrame src micOk mismatches held urgentHeld s
  | .install cmd => Sys2Proof.Machine.execInstall cmd s
  | .erase cmd => Sys2Proof.Machine.execErase cmd s
  | .info cmd => Sys2Proof.Machine.execInfo cmd s
  | .wipe cmd => Sys2Proof.Machine.execWipe cmd s
  | .keyCommandDone backingOk => Sys2Proof.Machine.execKeyCommandDone backingOk s
  | .trainingStep step ch found => Sys2Proof.Machine.execTrainingStep step ch found s
  | .mrRead mr ch rank d0 d1 => Sys2Proof.Machine.execMrRead mr ch rank d0 d1 s
  | .mrWrite mr op ch rank => Sys2Proof.Machine.execMrWrite mr op ch rank s
  | .patternWrite => Sys2Proof.Machine.execPatternWrite s
  | .patternCompare => Sys2Proof.Machine.execPatternCompare s
  | .patternAbort faults n => Sys2Proof.Machine.execPatternAbort faults n s
  | .patternDone faults n => Sys2Proof.Machine.execPatternDone faults n s
  | .refreshDue ch => Sys2Proof.Machine.execRefreshDue ch s
  | .mr4Poll f0 f1 => Sys2Proof.Machine.execMr4Poll f0 f1 s
  | .trackingRun ch d => Sys2Proof.Machine.execTrackingRun ch d s
  | .panicEntry client => Sys2Proof.Machine.execPanicEntry client s
  | .panicEnd client lat d0 d1 => Sys2Proof.Machine.execPanicEnd client lat d0 d1 s
  | .targetSleep wakeLow => Sys2Proof.Machine.execTargetSleep wakeLow s
  | .targetDeep wakeLow => Sys2Proof.Machine.execTargetDeep wakeLow s
  | .targetOff wakeLow => Sys2Proof.Machine.execTargetOff wakeLow s
  | .targetRun => Sys2Proof.Machine.execTargetRun s
  | .autoIdleEntry => Sys2Proof.Machine.execAutoIdleEntry s
  | .idleExit => Sys2Proof.Machine.execIdleExit s
  | .entryComplete wakeLow => Sys2Proof.Machine.execEntryComplete wakeLow s
  | .wakeN => Sys2Proof.Machine.execWakeN s
  | .timedWake => Sys2Proof.Machine.execTimedWake s
  | .deepExit env => Sys2Proof.Machine.execDeepExit env s
  | .powerOnReset role bootif => Sys2Proof.Machine.execPowerOnReset role bootif s
  | .pinReset role bootif => Sys2Proof.Machine.execPinReset role bootif s
  | .resetNGlitch e0 e1 e2 => Sys2Proof.Machine.execResetNGlitch e0 e1 e2 s
  | .hostReset key => Sys2Proof.Machine.execHostReset key s
  | .railFailure => Sys2Proof.Machine.execRailFailure s
  | .railRetry => Sys2Proof.Machine.execRailRetry s
  | .rtcEdge => Sys2Proof.Machine.execRtcEdge s
  | .oscStop => Sys2Proof.Machine.execOscStop s
  | .vbatSwitch => Sys2Proof.Machine.execVbatSwitch s
  | .aonQualified => Sys2Proof.Machine.execAonQualified s
  | .dipLatch => Sys2Proof.Machine.execDipLatch s
  | .vbatCompare low => Sys2Proof.Machine.execVbatCompare low s
  | .rtcSecRead => Sys2Proof.Machine.execRtcSecRead s
  | .rtcYearRead => Sys2Proof.Machine.execRtcYearRead s
  | .freezeTimeout => Sys2Proof.Machine.execFreezeTimeout s
  | .calendarWrite ifc v => Sys2Proof.Machine.execCalendarWrite ifc v s
  | .set cmd => Sys2Proof.Machine.execSet cmd s
  | .discard cmd => Sys2Proof.Machine.execDiscard cmd s
  | .holdTimeout => Sys2Proof.Machine.execHoldTimeout s
  | .shift n => Sys2Proof.Machine.execShift n s
  | .faultEvent => Sys2Proof.Machine.execFaultEvent s
  | .faultWindowExpiry src => Sys2Proof.Machine.execFaultWindowExpiry src s
  | .quietExpiry src => Sys2Proof.Machine.execQuietExpiry src s
  | .clear => Sys2Proof.Machine.execClear s
  | .ringRdWrite rd => Sys2Proof.Machine.execRingRdWrite rd s
  | .pulse force mask => Sys2Proof.Machine.execPulse force mask s
  | .errnPulseEnd ns => Sys2Proof.Machine.execErrnPulseEnd ns s
  | .ittStepStart r => Sys2Proof.Machine.execIttStepStart r s
  | .ittStepDone fail ticks => Sys2Proof.Machine.execIttStepDone fail ticks s
  | .ittRoundStart => Sys2Proof.Machine.execIttRoundStart s
  | .starved => Sys2Proof.Machine.execStarved s
  | .rtcFreqDone edges => Sys2Proof.Machine.execRtcFreqDone edges s
  | .hostRxDelivery q addrs => Sys2Proof.Machine.execHostRxDelivery q addrs s
  | .rxHoldTimeout q => Sys2Proof.Machine.execRxHoldTimeout q s
  | .rxTailWrite q v => Sys2Proof.Machine.execRxTailWrite q v s
  | .txTailWrite q v => Sys2Proof.Machine.execTxTailWrite q v s
  | .queueCfgWrite q v => Sys2Proof.Machine.execQueueCfgWrite q v s
  | .txRingRead descs => Sys2Proof.Machine.execTxRingRead descs s
  | .irqModerationExpiry q tx => Sys2Proof.Machine.execIrqModerationExpiry q tx s
  | .dmaError q what => Sys2Proof.Machine.execDmaError q what s
  | .pcieLinkLoss => Sys2Proof.Machine.execPcieLinkLoss s
  | .flr => Sys2Proof.Machine.execFlr s
  | .heartbeatWrite => Sys2Proof.Machine.execHeartbeatWrite s
  | .heartbeatTimeout => Sys2Proof.Machine.execHeartbeatTimeout s
  | .hspRead op count ofs crcOk cut => Sys2Proof.Machine.execHspRead op count ofs crcOk cut s
  | .hspWrite op ofs data crcOk cut => Sys2Proof.Machine.execHspWrite op ofs data crcOk cut s
  | .pcieLinkUp gen x2 => Sys2Proof.Machine.execPcieLinkUp gen x2 s
  | .partnerLpiChange p on => Sys2Proof.Machine.execPartnerLpiChange p on s
  | .classifyDone => Sys2Proof.Machine.execClassifyDone s
  | .exitComplete wakeLow d0 d1 => Sys2Proof.Machine.execExitComplete wakeLow d0 d1 s
  | .imgAckRx h session offset total last => Sys2Proof.Machine.execImgAckRx h session offset total last s
  | .blockWriteDone => Sys2Proof.Machine.execBlockWriteDone s
  | .tableCommandDone => Sys2Proof.Machine.execTableCommandDone s
  | .planSendDone => Sys2Proof.Machine.execPlanSendDone s
  | .servicePeriodEnd aid => Sys2Proof.Machine.execServicePeriodEnd aid s

end Sys2Proof.Machine
end

