-- ==== Sys2Proof/Safety.lean ====
section
/-! DEFINITION. What counts as a safe run: no step of it stops, and the sparse maps that hold registers and memories keep
their canonical form. -/

namespace Sys2Proof

/-- The canonical form of a memory: addresses strictly rising, and no byte equal to what an unlisted address reads as. -/
abbrev Memory.wf (m : List Host.Cell) : Prop := Machine.SMap.wf Machine.zeroByte m = true

/-- The registers are listed canonically: addresses strictly rising, and none at its reset value. -/
abbrev Machine.State.regsWf (s : Machine.State) : Prop := Machine.SMap.wf Machine.regReset s.regs = true

/-- Every map of a state is canonical, those that a sealed handover area holds among them. -/
def Machine.State.mapsWf (s : Machine.State) : Prop :=
  s.regsWf ∧ Memory.wf s.bar ∧ Memory.wf s.ctx ∧ Memory.wf s.mlk ∧ Memory.wf s.thal ∧ Memory.wf s.tsk.tables ∧
    ∀ h, s.upd.ho = some h ∨ s.upd.area = some h → Memory.wf h.tables

/-- `t` differs from `s` at most in registers that satisfy `p`. -/
def Machine.State.onlyRegs (s t : Machine.State) (p : Nat → Bool) : Prop :=
  (∀ a, p a = false → t.rd a = s.rd a) ∧ { t with regs := s.regs } = s

/-- The registers through which every block reports: the count of access errors and the collector's overflow count and flag. -/
def Machine.reporting (a : Nat) : Bool :=
  decide (a = Machine.HIF_CNT_ACCESS ∨ a = Machine.FLT_CNT_OVERFLOW ∨ a = Machine.FLT_FLAG)

/-- The registers of the block whose offsets begin at `base`. -/
def Machine.inBlock (base a : Nat) : Bool := decide (base ≤ a ∧ a < base + 0x10000)

/-- A step that does not stop. -/
def Machine.State.steps (s t : Machine.State) : Prop := Machine.step s = .next t

/-- The command that requests a TARGET code of PWR_CMD other than RUN. -/
def Machine.requestOf (k : Nat) (wakeLow : Bool) : Instr :=
  if k = Machine.tgtSleep then .targetSleep wakeLow else if k = Machine.tgtDeep then .targetDeep wakeLow else .targetOff wakeLow

/-- The state that an event gives its source (R381): MAJOR stays, and a count that reaches N makes MAJOR. -/
def Machine.classAfter (p : Machine.FltPol) (was cnt : Nat) : Nat := if was = 2 ∨ p.n ≤ cnt then 2 else 1

/-- The count of an event's window: 1 where the event opens one. -/
def Machine.countAfter (x : Machine.FltSource) (e : Machine.FltEvent) : Nat :=
  if x.winEnd.all (fun w => decide (w ≤ 2 * e.cycle)) then 1 else x.count + 1

/-- An address whose accesses have no effect of their own beyond the access types: no window, no memory, no pair, and no read
that captures or freezes. -/
def Machine.plainAddr (s : Machine.State) (a : Nat) : Prop :=
  s.winOf a = none ∧ Machine.memKind a = none ∧ s.isLow a = false ∧ s.isHigh a = false ∧ Machine.inWindows a = false ∧
    a ≠ Machine.SPN_NOW_NS ∧ a ≠ Machine.SPN_TL_NS ∧ a ≠ Machine.RTC_SEC ∧ a ≠ Machine.RTC_YEAR

/-- One command alone: no second of the four command bits is set beside the one of the command itself. -/
def Machine.alone (cmd own : BitVec 4) : Prop := cmd ||| own = own

/-- Thread `i`, which runs `x` and is in turn, fetches the word of opcode `op` and fields `w` from the action store; the word has no
reserved opcode or field (R260, R261, R269, R290). -/
def Machine.State.gets (s : Machine.State) (i op : Nat) (w : ActWord) (x : Machine.Thread) : Prop :=
  s.thread i = some x ∧ s.clockOn = true ∧ s.inTurn i = true ∧ x.pc ≠ 0 ∧ s.fetchWord x.pc = Machine.actBytesOf w op ∧
    Machine.badEnc (Machine.actBytesOf w op) = false

/-- The word is fetched, and the task's budget does not end with it (R274). -/
def Machine.State.issues (s : Machine.State) (i op : Nat) (w : ActWord) (x : Machine.Thread) : Prop :=
  s.gets i op w x ∧ ∃ k, s.taskOf x.desc = some k ∧
    (s.get (Machine.TSK_CLASS_BUDGET k.cls) = 0 ∨ x.words + 1 < 16 * s.get (Machine.TSK_CLASS_BUDGET k.cls))

/-- A thread that has executed one word and points at the next. -/
def Machine.Thread.next (x : Machine.Thread) : Machine.Thread := { x with pc := (x.pc + 1) % 2 ^ 13, words := x.words + 1 }

/-- An action has left `y` on thread `i`, has been counted, and has changed nothing but registers, that thread, action tables and
timers. -/
def Machine.State.acted (s t : Machine.State) (i : Nat) (y : Machine.Thread) : Prop :=
  t.thread i = some y ∧ (∀ j, j ≠ i → t.thread j = s.thread j) ∧ t.tsk.tasks = s.tsk.tasks ∧ t.tsk.evq = s.tsk.evq ∧
    t.tsk.store = s.tsk.store ∧ t.rd64 (Machine.GGE_CNT_WORDS_LO (i / 4)) = (s.rd64 (Machine.GGE_CNT_WORDS_LO (i / 4)) + 1) % 2 ^ 64 ∧
    { t with regs := s.regs, tsk := s.tsk } = s

/-- The task of thread `i` has met a fault of the code. -/
def Machine.State.faulted (t : Machine.State) (i code : Nat) : Prop :=
  t.thread i = none ∧ (t.rd (Machine.GGE_EVT (i / 4))).getLsbD (code - 1) = true

/-- The parts of a state beside the queue, the registers, the collector, the cluster unit and the counter of free values. -/
inductive Machine.Part where
  | bar | ctx | mlk | thal | jrn | blk | key | rtc | itt | dmc | eth | hif | pwr | upd | tsk | frn | fld |
  mlkx | prs | acc | chk | spn | ref | out | hostRd | rxq | cipq | mlkq | prsq | ciptx | retq | reports |
  seqEvs | linkFails | wrHold | rdHold | stir
  deriving DecidableEq, Repr

/-- Two states agree in a part. -/
def Machine.Part.same (p : Machine.Part) (s t : Machine.State) : Prop :=
  match p with
  | .bar => s.bar = t.bar
  | .ctx => s.ctx = t.ctx
  | .mlk => s.mlk = t.mlk
  | .thal => s.thal = t.thal
  | .jrn => s.jrn = t.jrn
  | .blk => s.blk = t.blk
  | .key => s.key = t.key
  | .rtc => s.rtc = t.rtc
  | .itt => s.itt = t.itt
  | .dmc => s.dmc = t.dmc
  | .eth => s.eth = t.eth
  | .hif => s.hif = t.hif
  | .pwr => s.pwr = t.pwr
  | .upd => s.upd = t.upd
  | .tsk => s.tsk = t.tsk
  | .frn => s.frn = t.frn
  | .fld => s.fld = t.fld
  | .mlkx => s.mlkx = t.mlkx
  | .prs => s.prs = t.prs
  | .acc => s.acc = t.acc
  | .chk => s.chk = t.chk
  | .spn => s.spn = t.spn
  | .ref => s.ref = t.ref
  | .out => s.out = t.out
  | .hostRd => s.hostRd = t.hostRd
  | .rxq => s.rxq = t.rxq
  | .cipq => s.cipq = t.cipq
  | .mlkq => s.mlkq = t.mlkq
  | .prsq => s.prsq = t.prsq
  | .ciptx => s.ciptx = t.ciptx
  | .retq => s.retq = t.retq
  | .reports => s.reports = t.reports
  | .seqEvs => s.seqEvs = t.seqEvs
  | .linkFails => s.linkFails = t.linkFails
  | .wrHold => s.wrHold = t.wrHold
  | .rdHold => s.rdHold = t.rdHold
  | .stir => s.stir = t.stir

/-- What a command may change: the blocks (BAR0 offset / 0x10000) whose registers it may write beside those through which every
block reports, none where the command or what follows from it may write any; and the parts. -/
structure Machine.Footprint where
  blocks : Option (List Nat)
  parts : List Machine.Part
  deriving DecidableEq, Repr

/-- The footprint of every command. -/
def Machine.footprint : Instr → Machine.Footprint
  | .registerWrite .. | .pairLowWrite .. | .pairHighWrite .. | .w1cWrite .. | .hspWrite .. => ⟨none,
      [.bar, .ctx, .mlk, .thal, .jrn, .blk, .key, .rtc, .itt, .dmc, .eth, .hif, .pwr, .upd, .tsk, .frn, .fld, .mlkx, .prs,
       .acc, .chk, .spn, .ref, .out, .rxq, .cipq, .mlkq, .prsq, .ciptx, .retq, .reports, .seqEvs, .linkFails, .wrHold,
       .rdHold, .stir]⟩
  | .badWidthAccess .. => ⟨some [],
      [.hostRd]⟩
  | .unassignedAccess .. => ⟨none,
      [.bar, .ctx, .mlk, .thal, .jrn, .blk, .key, .rtc, .itt, .dmc, .eth, .hif, .pwr, .upd, .tsk, .frn, .fld, .mlkx, .prs,
       .acc, .chk, .spn, .ref, .out, .hostRd, .rxq, .cipq, .mlkq, .prsq, .ciptx, .retq, .reports, .seqEvs, .linkFails,
       .wrHold, .rdHold, .stir]⟩
  | .pairLowRead .. | .pairHighRead .. | .rcRead .. => ⟨none,
      [.rtc, .hostRd, .rdHold, .stir]⟩
  | .flitCrcFail .. => ⟨some [0x0],
      [.linkFails]⟩
  | .turnStrobe .. => ⟨some [],
      [.spn]⟩
  | .supplyMonitorChange .. => ⟨some [0x0],
      []⟩
  | .spindleEnable .. | .spindleDisable .. => ⟨some [0x4, 0x6],
      [.spn, .stir]⟩
  | .epochCommit .. | .domainSwitchRequest | .stepLoad | .triggerArm .. => ⟨some [0x4],
      [.spn, .stir]⟩
  | .ptpSample .. | .lossTimeout => ⟨some [0x4],
      [.spn]⟩
  | .ptmDialogDone .. => ⟨some [0x4, 0x6],
      [.spn]⟩
  | .ptmDialogStart => ⟨some [0x6],
      [.spn, .ref, .out]⟩
  | .ppsEdge .. | .holdoverLimit | .triggerPulse .. => ⟨some [0x4],
      [.spn, .ref]⟩
  | .ppsLabelWrite .. => ⟨some [0x4],
      [.stir]⟩
  | .turnStart .. => ⟨some [0x3, 0x4, 0x12, 0x20, 0x28, 0x30],
      [.frn, .spn, .ref, .out, .retq]⟩
  | .stepAccept => ⟨some [],
      [.spn, .stir]⟩
  | .nowCapture | .turnLatchCapture => ⟨some [0x4],
      [.hostRd, .stir]⟩
  | .triggerPulseEnd .. | .faultWindowExpiry .. => ⟨some [],
      [.spn, .ref]⟩
  | .frnEnable .. | .frnDisable .. | .frnRunSet .. | .frnRunClear .. => ⟨some [0xC, 0x12, 0x13, 0x14, 0x20, 0x28, 0x30],
      [.ctx, .mlk, .frn, .fld, .acc, .chk, .spn, .ref, .out, .ciptx, .retq, .stir]⟩
  | .halt .. | .sync .. | .waitAt .. | .waitRel .. | .wake .. | .hop .. | .rxwin .. | .seqAutoRestart .. | .coastStart .. =>
      ⟨some [0x20, 0x28, 0x30],
      [.frn, .out, .retq]⟩
  | .seqWaitEnd .. | .sleep .. | .prep .. | .bgcal .. | .jump .. | .jcyc .. | .coastLimit .. => ⟨some [0x20, 0x28, 0x30],
      [.frn, .spn, .ref, .out, .retq]⟩
  | .txq .. | .txtpl .. | .lockLoss .. | .seqMismatch .. => ⟨some [0xC, 0x12, 0x13, 0x14, 0x20, 0x28, 0x30],
      [.ctx, .mlk, .frn, .fld, .acc, .chk, .out, .ciptx, .retq]⟩
  | .event .. => ⟨some [0xA, 0x20, 0x28, 0x30],
      [.pwr, .tsk, .frn, .spn, .ref, .out, .retq, .seqEvs]⟩
  | .synthCalDone .. | .ppduTxEnd .. | .responseReceived .. | .responseTimeout .. =>
      ⟨some [0xC, 0x12, 0x13, 0x14, 0x20, 0x28, 0x30],
      [.ctx, .mlk, .frn, .fld, .acc, .chk, .spn, .ref, .out, .ciptx, .retq]⟩
  | .tempDrift .. => ⟨some [0x20, 0x28, 0x30],
      [.frn]⟩
  | .ppduReceived .. => ⟨some [0x4, 0xC, 0x12, 0x13, 0x14, 0x20, 0x28, 0x30],
      [.ctx, .mlk, .frn, .fld, .acc, .chk, .spn, .ref, .out, .rxq, .ciptx, .retq]⟩
  | .channelEntryWrite .. => ⟨some [0x20, 0x28, 0x30],
      [.bar, .frn, .out, .stir]⟩
  | .programWordCommit .. => ⟨some [],
      [.bar, .wrHold, .stir]⟩
  | .coastEnd .. => ⟨some [0x20, 0x28, 0x30],
      [.bar, .upd, .frn, .out, .retq]⟩
  | .associationRequest .. => ⟨some [0x6, 0xC, 0xF, 0x10, 0x12, 0x13, 0x15],
      [.ctx, .mlk, .eth, .frn, .mlkx, .acc, .chk, .out, .mlkq, .prsq, .retq, .reports]⟩
  | .ctxRead .. | .ctxWrite .. | .ctxFree .. | .ctxFlush .. => ⟨some [0x6, 0xC, 0xF, 0x10, 0x12, 0x13, 0x15],
      [.bar, .ctx, .mlk, .eth, .frn, .mlkx, .acc, .chk, .out, .mlkq, .prsq, .retq, .reports, .stir]⟩
  | .contextFetchDone .. => ⟨some [0xC, 0x12, 0x13],
      [.ctx, .acc, .chk, .cipq]⟩
  | .stationFrameRx => ⟨some [0xC, 0x12, 0x13, 0x15],
      [.ctx, .acc, .chk, .rxq, .cipq, .prsq]⟩
  | .stationDormant .. => ⟨some [],
      [.ctx]⟩
  | .planArm .. | .planCancel .. => ⟨some [0x12],
      [.acc, .stir]⟩
  | .planSwap .. => ⟨some [0x12],
      [.acc]⟩
  | .generateHalf .. => ⟨some [0x12],
      [.bar, .ctx, .acc]⟩
  | .genDeadline .. => ⟨some [0x12],
      [.bar, .spn, .ref]⟩
  | .accCtlWrite .. => ⟨some [0x12],
      [.bar, .stir]⟩
  | .stationEnqueue .. => ⟨some [0xC, 0x12],
      [.ctx, .acc, .chk]⟩
  | .frondQueueFill .. => ⟨some [0xC, 0x12, 0x13, 0x14],
      [.ctx, .mlk, .frn, .fld, .acc, .chk, .ciptx, .retq]⟩
  | .frameLifetimeExpiry .. => ⟨some [0xC, 0x12, 0x13],
      [.ctx, .mlk, .acc, .chk]⟩
  | .beaconBuild .. => ⟨some [0x12],
      [.bar, .frn, .acc, .spn, .ref]⟩
  | .wokeExpiry .. => ⟨some [],
      [.ctx, .spn, .ref]⟩
  | .uplinkBeacon .. => ⟨some [0x12],
      [.ctx, .mlk, .acc, .spn, .ref]⟩
  | .uplinkMiss => ⟨some [0xC, 0x12, 0x13, 0x14],
      [.ctx, .mlk, .frn, .fld, .acc, .chk, .spn, .ref, .ciptx, .retq]⟩
  | .uplinkHoldExpiry | .uplinkSearchExpiry => ⟨some [0xC, 0x12, 0x13],
      [.ctx, .mlk, .acc, .chk, .spn, .ref]⟩
  | .uplinkAssociated .. => ⟨some [0x12],
      [.ctx, .mlk, .frn, .acc]⟩
  | .suspend .. | .resume .. | .remove .. | .braidRead .. => ⟨some [0xC, 0x12, 0x13, 0x14],
      [.bar, .ctx, .mlk, .frn, .fld, .acc, .chk, .ciptx, .retq, .stir]⟩
  | .addbaRequest .. => ⟨some [0xC, 0x13],
      [.ctx, .mlk, .frn, .mlkx, .chk, .out, .mlkq, .prsq]⟩
  | .agreementEnd .. => ⟨some [0xC, 0x13],
      [.ctx, .mlk, .frn, .mlkx, .chk, .mlkq, .prsq]⟩
  | .reorderRx => ⟨some [0x6, 0xC, 0xF, 0x10, 0x12, 0x13, 0x15],
      [.ctx, .mlk, .eth, .frn, .mlkx, .acc, .chk, .out, .mlkq, .prsq, .reports]⟩
  | .blockAckRequestRx .. => ⟨some [0xC, 0x13],
      [.mlk, .frn, .mlkx, .chk, .prsq]⟩
  | .holeTimerExpiry .. => ⟨some [],
      [.mlkx, .spn, .ref]⟩
  | .holeSettleEnd .. => ⟨some [0xC, 0x13],
      [.ctx, .mlk, .mlkx, .chk, .spn, .ref, .prsq]⟩
  | .cipherDropNotice .. => ⟨some [0xC, 0x13],
      [.mlk, .mlkx, .chk, .prsq]⟩
  | .floodFrameRx => ⟨some [0xC, 0x14],
      [.chk, .rxq, .cipq]⟩
  | .sorusSettleEnd => ⟨some [0x6, 0xC, 0xF, 0x10, 0x14],
      [.ctx, .eth, .fld, .chk, .spn, .ref, .out, .prsq]⟩
  | .carryFrameRx .. => ⟨some [0x6, 0x8, 0x9, 0xC, 0xF, 0x10, 0x14],
      [.ctx, .key, .eth, .fld, .chk, .out, .prsq]⟩
  | .floodEnqueue .. => ⟨some [0xC, 0x14],
      [.fld, .acc, .chk]⟩
  | .floodLifetimeExpiry .. => ⟨some [0xC, 0x14],
      [.frn, .fld, .chk, .ciptx, .retq]⟩
  | .fcntReset .. | .tagReset .. | .sorusFlush .. => ⟨some [0x14],
      [.ctx, .fld, .stir]⟩
  | .sorusAging => ⟨some [0x14],
      [.fld]⟩
  | .clusterEnable | .clusterDisable | .actSend .. => ⟨some [0x15],
      [.stir]⟩
  | .syncSend => ⟨some [0x6, 0xC, 0xF, 0x10, 0x15],
      [.eth, .chk, .spn, .ref, .out]⟩
  | .syncRx .. => ⟨some [0x7, 0x8, 0x9, 0x12, 0x15],
      [.bar, .key, .upd, .acc, .spn, .ref]⟩
  | .syncSlotMiss | .deviceAbsent .. | .actDeadline => ⟨some [0x15],
      [.spn, .ref]⟩
  | .deputyTakeover => ⟨some [0x0, 0x6, 0xC, 0xF, 0x10, 0x15],
      [.eth, .chk, .spn, .ref, .out]⟩
  | .hbSend => ⟨some [0x6, 0xC, 0xF, 0x10],
      [.eth, .chk, .spn, .ref, .out, .reports]⟩
  | .hbRx .. => ⟨some [0x6, 0x8, 0x9, 0xC, 0xF, 0x10, 0x15],
      [.bar, .key, .eth, .chk, .spn, .ref, .out]⟩
  | .dirReportRx .. | .handEndRx .. => ⟨some [0x6, 0x8, 0x9, 0xC, 0xF, 0x10, 0x12, 0x13, 0x15],
      [.ctx, .mlk, .key, .eth, .frn, .mlkx, .acc, .chk, .spn, .ref, .out, .mlkq, .prsq, .reports]⟩
  | .dirUpdateRx .. | .dirFullRx .. | .handAbortRx .. => ⟨some [0x8, 0x9, 0xC, 0x12, 0x13, 0x15],
      [.ctx, .mlk, .key, .frn, .mlkx, .acc, .chk, .spn, .ref, .mlkq, .prsq]⟩
  | .didChange => ⟨some [0x0, 0x15],
      []⟩
  | .planSend .. => ⟨some [0x6, 0xC, 0xF, 0x10, 0x15],
      [.bar, .eth, .chk, .out, .stir]⟩
  | .planRx .. => ⟨some [0x8, 0x9, 0x15],
      [.bar, .key, .spn, .ref]⟩
  | .actReady => ⟨some [0x6, 0x7, 0xC, 0xF, 0x10, 0x12, 0x15],
      [.eth, .upd, .acc, .chk, .out]⟩
  | .actWithdrawCmd .. => ⟨some [0x6, 0x7, 0xC, 0xF, 0x10, 0x12, 0x15],
      [.eth, .upd, .acc, .chk, .out, .stir]⟩
  | .actRx .. | .actWithdrawRx .. => ⟨some [0x7, 0x8, 0x9, 0x12, 0x15],
      [.key, .upd, .acc, .spn, .ref]⟩
  | .imgRx .. => ⟨some [0x6, 0x7, 0x8, 0x9, 0xC, 0xF, 0x10, 0x15],
      [.thal, .jrn, .key, .eth, .upd, .chk, .spn, .ref, .out]⟩
  | .handReqCmd .. | .handAbortCmd => ⟨some [0x6, 0xC, 0xF, 0x10, 0x12, 0x13, 0x15],
      [.ctx, .mlk, .eth, .frn, .mlkx, .acc, .chk, .out, .mlkq, .prsq, .stir]⟩
  | .handReqRx .. | .handAcceptRx .. => ⟨some [0x6, 0x8, 0x9, 0xC, 0xF, 0x10, 0x12, 0x13, 0x15],
      [.ctx, .mlk, .key, .eth, .frn, .mlkx, .acc, .chk, .spn, .ref, .out, .mlkq, .prsq]⟩
  | .handCut .. => ⟨some [0xC, 0x12, 0x13, 0x14],
      [.ctx, .mlk, .frn, .fld, .mlkx, .acc, .chk, .spn, .ref, .mlkq, .prsq, .ciptx, .retq]⟩
  | .handSettleEnd .. => ⟨some [0x6, 0xC, 0xF, 0x10, 0x12, 0x13, 0x15],
      [.ctx, .mlk, .eth, .frn, .mlkx, .acc, .chk, .spn, .ref, .out, .mlkq, .prsq, .ciptx]⟩
  | .handCtxRx .. => ⟨some [0x8, 0x9, 0x13, 0x15],
      [.ctx, .mlk, .key, .frn, .spn, .ref]⟩
  | .handFrameRx .. => ⟨some [0x8, 0x9, 0xC, 0x12, 0x15],
      [.ctx, .key, .acc, .chk, .spn, .ref]⟩
  | .handTimeout .. => ⟨some [0x6, 0xC, 0xF, 0x10, 0x12, 0x13, 0x15],
      [.ctx, .mlk, .eth, .frn, .mlkx, .acc, .chk, .spn, .ref, .out, .mlkq, .prsq]⟩
  | .packetEntry .. => ⟨some [0xC, 0xD, 0xE],
      [.eth, .pwr, .prs, .chk, .prsq]⟩
  | .tableRead .. | .tableWrite .. | .tableInsert .. | .tableDelete .. => ⟨some [0xD],
      [.prs, .stir]⟩
  | .emMaskWrite .. => ⟨some [0xD],
      [.stir]⟩
  | .hprofWrite .. => ⟨some [0xD, 0xE],
      [.stir]⟩
  | .slotRelease .. => ⟨some [0x6, 0xA, 0xC, 0xE, 0xF, 0x10, 0x12, 0x14, 0x15],
      [.ctx, .eth, .hif, .pwr, .fld, .prs, .acc, .chk, .out]⟩
  | .robAgeExpiry .. => ⟨some [0xA, 0xC, 0xE],
      [.bar, .pwr, .tsk, .prs, .chk, .spn, .ref]⟩
  | .ethFrameRx .. => ⟨some [0xC, 0xF, 0x10],
      [.eth, .pwr, .chk]⟩
  | .pauseEnd .. => ⟨some [],
      [.eth, .spn, .ref]⟩
  | .linkUp .. => ⟨some [0x1, 0xF, 0x10],
      [.eth, .pwr]⟩
  | .linkDown .. => ⟨some [0x1, 0x6, 0xC, 0xF, 0x10],
      [.eth, .pwr, .chk, .out]⟩
  | .ethCfgWrite .. => ⟨some [0xF, 0x10],
      [.stir]⟩
  | .ethCtlWrite .. => ⟨some [0x6, 0xC, 0xF, 0x10],
      [.eth, .chk, .out, .stir]⟩
  | .ethFrameTx .. => ⟨some [0x6, 0xC, 0xF, 0x10],
      [.eth, .chk, .spn, .ref, .out]⟩
  | .lpiEntry .. => ⟨some [0xF, 0x10],
      [.spn, .ref]⟩
  | .lpiWake .. => ⟨some [0xF, 0x10],
      [.eth]⟩
  | .snap .. => ⟨some [0xF, 0x10],
      [.bar, .stir]⟩
  | .bufferAlloc .. | .bufferRelease .. | .referenceAdd .. => ⟨some [0xC],
      [.chk]⟩
  | .booksSnap => ⟨some [0xC],
      [.stir]⟩
  | .frondLinkReturn .. => ⟨some [0x0, 0xC, 0x12, 0x13, 0x14],
      [.ctx, .mlk, .frn, .fld, .acc, .chk, .rxq, .ciptx, .retq]⟩
  | .taskEnqueue .. => ⟨some [0xA],
      [.bar, .pwr, .tsk]⟩
  | .taskPost .. => ⟨some [0xA],
      [.bar, .pwr, .tsk, .stir]⟩
  | .taskDispatch => ⟨some [0xA, 0xB],
      [.bar, .pwr, .tsk]⟩
  | .add .. | .sub .. | .and .. | .or .. | .xor .. | .shl .. | .shr .. | .sar .. | .ldh .. | .br .. | .call .. | .ret ..
    | .ldl .. | .stl .. | .ldp .. | .stp .. | .adj .. | .tld .. | .tst .. | .tlkp .. | .cadd .. | .cswp .. | .pnew ..
    | .spawn .. | .tmr .. | .time .. | .trace .. | .nop .. | .endTask .. | .engineFault .. => ⟨some [0xA, 0xB, 0xC, 0xE],
      [.bar, .pwr, .tsk, .prs, .chk]⟩
  | .tins .. | .tdel .. => ⟨some [0xA, 0xB, 0xC, 0xD, 0xE],
      [.bar, .pwr, .tsk, .prs, .chk]⟩
  | .ctxr .. => ⟨some [0xA, 0xB, 0xC, 0xE, 0x12],
      [.bar, .pwr, .tsk, .prs, .acc, .chk]⟩
  | .ctxw .. => ⟨some [0xA, 0xB, 0xC, 0xE, 0x12, 0x15],
      [.bar, .ctx, .mlk, .pwr, .tsk, .prs, .acc, .chk, .reports]⟩
  | .timerFire .. => ⟨some [0xA],
      [.bar, .pwr, .tsk, .spn, .ref]⟩
  | .engineEnable .. | .reload .. => ⟨some [0xA, 0xB, 0xC, 0xE],
      [.bar, .pwr, .tsk, .prs, .chk, .stir]⟩
  | .reloadDone .. | .drainDone .. => ⟨some [0xB],
      []⟩
  | .fullBoot .. =>
      ⟨some [0x0, 0x1, 0x4, 0x6, 0x7, 0x8, 0xA, 0xB, 0xC, 0xD, 0xE, 0x11, 0x12, 0x13, 0x14, 0x15, 0x20, 0x28, 0x30],
      [.bar, .ctx, .mlk, .thal, .jrn, .blk, .key, .pwr, .upd, .tsk, .frn, .mlkx, .prs, .acc, .out]⟩
  | .openSession .. | .commit .. | .confirm => ⟨some [0x7],
      [.jrn, .upd, .stir]⟩
  | .abortSession .. | .turnover .. | .submit => ⟨some [0x7],
      [.upd, .stir]⟩
  | .blockWrite .. => ⟨some [0x7],
      [.thal, .upd, .stir]⟩
  | .sessionReclaim => ⟨some [0x7],
      [.upd, .spn, .ref]⟩
  | .tokenCheckDone => ⟨some [0x7],
      [.jrn, .upd]⟩
  | .revert => ⟨none,
      [.bar, .ctx, .mlk, .jrn, .blk, .key, .rtc, .itt, .dmc, .eth, .hif, .pwr, .upd, .tsk, .frn, .fld, .mlkx, .prs, .acc,
       .chk, .spn, .out, .rxq, .cipq, .mlkq, .prsq, .ciptx, .retq, .reports, .seqEvs, .linkFails, .wrHold, .rdHold, .stir]⟩
  | .confirmExpiry => ⟨none,
      [.bar, .ctx, .mlk, .jrn, .blk, .key, .rtc, .itt, .dmc, .eth, .hif, .pwr, .upd, .tsk, .frn, .fld, .mlkx, .prs, .acc,
       .chk, .spn, .ref, .out, .rxq, .cipq, .mlkq, .prsq, .ciptx, .retq, .reports, .seqEvs, .linkFails, .wrHold, .rdHold,
       .stir]⟩
  | .handoverStart => ⟨some [0x7, 0xA, 0xB, 0xC, 0xE, 0x11, 0x12, 0x13, 0x14],
      [.bar, .ctx, .mlk, .jrn, .dmc, .hif, .pwr, .upd, .tsk, .frn, .fld, .mlkx, .prs, .acc, .chk, .spn, .ref, .rxq, .cipq,
       .mlkq, .prsq, .ciptx, .retq]⟩
  | .turnoverCoreReset .. | .railFailure => ⟨none,
      [.bar, .ctx, .mlk, .blk, .itt, .dmc, .eth, .hif, .pwr, .upd, .tsk, .frn, .fld, .mlkx, .prs, .acc, .chk, .spn, .out,
       .rxq, .cipq, .mlkq, .prsq, .ciptx, .retq, .reports, .seqEvs, .linkFails, .wrHold, .rdHold, .stir]⟩
  | .turnoverBoot .. => ⟨none,
      [.bar, .ctx, .mlk, .thal, .jrn, .blk, .key, .eth, .hif, .pwr, .upd, .tsk, .frn, .fld, .mlkx, .prs, .acc, .chk, .spn,
       .out, .rxq, .cipq, .mlkq, .prsq, .ciptx, .retq, .reports]⟩
  | .cipherFrame .. => ⟨some [0x8, 0x9, 0xC, 0x13, 0x14],
      [.ctx, .mlk, .key, .eth, .frn, .fld, .mlkx, .acc, .chk, .cipq, .mlkq, .prsq, .ciptx]⟩
  | .install .. | .erase .. | .info .. | .wipe .. => ⟨some [0x8],
      [.key, .stir]⟩
  | .keyCommandDone .. => ⟨some [0x8],
      [.key, .fld]⟩
  | .trainingStep .. | .panicEntry .. => ⟨some [0x11],
      []⟩
  | .mrRead .. => ⟨some [0x11],
      [.stir]⟩
  | .mrWrite .. => ⟨some [],
      [.out]⟩
  | .patternWrite | .patternCompare | .patternAbort .. => ⟨some [0x11],
      [.dmc, .stir]⟩
  | .patternDone .. | .mr4Poll .. | .trackingRun .. => ⟨some [0x11],
      [.dmc]⟩
  | .refreshDue .. | .panicEnd .. => ⟨some [0x11],
      [.dmc, .out]⟩
  | .targetSleep .. | .targetDeep .. | .targetOff .. => ⟨some [0x1, 0xA, 0xB, 0xC, 0xE, 0x12, 0x13, 0x14, 0x20, 0x28, 0x30],
      [.bar, .ctx, .mlk, .pwr, .tsk, .frn, .fld, .prs, .acc, .chk, .spn, .ref, .out, .ciptx, .retq, .stir]⟩
  | .targetRun => ⟨some [0x1],
      [.pwr, .stir]⟩
  | .autoIdleEntry => ⟨some [0x1],
      [.spn, .ref, .stir]⟩
  | .idleExit => ⟨some [0x1],
      []⟩
  | .entryComplete .. | .faultEvent => ⟨none,
      [.bar, .ctx, .mlk, .blk, .key, .rtc, .itt, .dmc, .eth, .hif, .pwr, .upd, .tsk, .frn, .fld, .mlkx, .prs, .acc, .chk,
       .spn, .ref, .out, .rxq, .cipq, .mlkq, .prsq, .ciptx, .retq, .reports, .seqEvs, .linkFails, .wrHold, .rdHold, .stir]⟩
  | .wakeN => ⟨some [0x1],
      [.pwr]⟩
  | .timedWake => ⟨some [0x1],
      [.pwr, .spn, .ref]⟩
  | .deepExit .. => ⟨none,
      [.bar, .ctx, .mlk, .thal, .jrn, .blk, .pwr, .upd, .tsk, .frn, .mlkx, .prs, .acc, .spn, .out]⟩
  | .powerOnReset .. | .pinReset .. | .hostReset .. => ⟨none,
      [.bar, .ctx, .mlk, .blk, .key, .rtc, .itt, .dmc, .eth, .hif, .pwr, .upd, .tsk, .frn, .fld, .mlkx, .prs, .acc, .chk,
       .spn, .out, .rxq, .cipq, .mlkq, .prsq, .ciptx, .retq, .reports, .seqEvs, .linkFails, .wrHold, .rdHold, .stir]⟩
  | .resetNGlitch .. => ⟨some [0x4, 0xC, 0x12, 0x13, 0x14, 0x20, 0x28, 0x30],
      [.ctx, .mlk, .frn, .fld, .acc, .chk, .spn, .out, .ciptx, .retq]⟩
  | .railRetry => ⟨some [],
      [.pwr, .spn, .ref]⟩
  | .rtcEdge => ⟨some [0x5],
      [.rtc]⟩
  | .oscStop | .vbatCompare .. => ⟨some [0x5],
      []⟩
  | .vbatSwitch => ⟨some [0x1, 0x5],
      [.pwr, .out]⟩
  | .aonQualified => ⟨some [0x1, 0x5],
      [.rtc]⟩
  | .dipLatch => ⟨some [],
      [.rtc]⟩
  | .rtcSecRead | .rtcYearRead => ⟨some [0x5],
      [.rtc, .hostRd, .stir]⟩
  | .freezeTimeout | .holdTimeout => ⟨some [0x5],
      [.rtc, .spn, .ref]⟩
  | .calendarWrite .. | .set .. | .discard .. | .shift .. => ⟨some [0x5],
      [.rtc, .stir]⟩
  | .quietExpiry .. => ⟨none,
      [.bar, .ctx, .mlk, .eth, .pwr, .tsk, .frn, .fld, .prs, .acc, .chk, .spn, .ref, .out, .ciptx, .retq]⟩
  | .clear => ⟨none,
      [.bar, .ctx, .mlk, .eth, .pwr, .tsk, .frn, .fld, .prs, .acc, .chk, .spn, .ref, .out, .ciptx, .retq, .stir]⟩
  | .ringRdWrite .. => ⟨some [0x2],
      [.stir]⟩
  | .pulse .. => ⟨some [0x2],
      [.out, .stir]⟩
  | .errnPulseEnd .. => ⟨some [],
      [.spn, .ref, .out]⟩
  | .ittStepStart .. => ⟨some [0x3, 0x11],
      [.itt]⟩
  | .ittStepDone .. => ⟨some [0x3, 0x11],
      [.itt, .dmc, .spn, .ref]⟩
  | .ittRoundStart => ⟨some [0x3],
      [.itt]⟩
  | .starved | .rtcFreqDone .. => ⟨some [0x3],
      [.itt, .spn, .ref]⟩
  | .hostRxDelivery .. => ⟨some [0x6, 0xC],
      [.hif, .chk, .out]⟩
  | .rxHoldTimeout .. | .heartbeatTimeout => ⟨some [0x6, 0xC, 0xE],
      [.hif, .pwr, .prs, .chk, .spn, .ref]⟩
  | .rxTailWrite .. => ⟨some [0x6, 0xE],
      [.hif, .pwr, .prs, .stir]⟩
  | .txTailWrite .. => ⟨some [0x6],
      [.pwr, .stir]⟩
  | .queueCfgWrite .. => ⟨some [0x6, 0xC, 0xE],
      [.hif, .pwr, .prs, .chk, .stir]⟩
  | .txRingRead .. => ⟨some [0x6, 0xC, 0xD, 0xE],
      [.hif, .pwr, .prs, .chk, .out]⟩
  | .irqModerationExpiry .. => ⟨some [],
      [.hif, .spn, .ref, .out]⟩
  | .dmaError .. => ⟨some [0x6, 0xC, 0xE],
      [.hif, .pwr, .prs, .chk, .out]⟩
  | .pcieLinkLoss => ⟨some [0x6, 0xC, 0xE],
      [.hif, .pwr, .prs, .chk]⟩
  | .flr => ⟨none,
      [.hif, .pwr, .prs, .chk]⟩
  | .heartbeatWrite => ⟨some [0x6],
      [.hif, .stir]⟩
  | .hspRead .. => ⟨none,
      [.rtc, .out, .hostRd, .rdHold, .stir]⟩
  | .pcieLinkUp .. => ⟨some [0x6],
      []⟩
  | .partnerLpiChange .. => ⟨some [0xF, 0x10],
      []⟩
  | .classifyDone => ⟨some [0xA, 0xC, 0xD, 0xE],
      [.bar, .pwr, .tsk, .prs, .chk]⟩
  | .exitComplete .. => ⟨some [0x1, 0xA, 0xB, 0xC, 0xE, 0x11, 0x12, 0x13, 0x14, 0x20, 0x28, 0x30],
      [.bar, .ctx, .mlk, .pwr, .tsk, .frn, .fld, .prs, .acc, .chk, .spn, .ref, .out, .ciptx, .retq]⟩
  | .imgAckRx .. => ⟨some [0x8, 0x9, 0x15],
      [.key, .upd, .spn, .ref]⟩
  | .blockWriteDone => ⟨some [0x7],
      []⟩
  | .tableCommandDone => ⟨some [0xD],
      [.bar, .prs]⟩
  | .planSendDone => ⟨some [0x15],
      []⟩
  | .servicePeriodEnd .. => ⟨some [],
      [.ctx, .acc, .spn, .ref]⟩

end Sys2Proof
end

