-- ==== Sys2Proof/Certificates/Slice0/Obligations.lean ====
section
/-! DEFINITION. The statements for the provers. Every statement is about the machine, over every state that meets its
hypotheses; where one says `exec c s = .next t` it says that the command completes. -/

open Sys2Proof Sys2Proof.Machine

/-! ## The state after reset and the step -/

/-- R11: right after power-on reset every register that the spec resets to a value other than 0 holds it (those of one number stand in
the first list, those of several, with how many, in the second), the part number reads, nothing else is listed in any map, the maps are
canonical, no command waits and nothing has left the device. -/
def Obligations.ResetState : Prop :=
  (∀ x ∈ ([(SYS_DIE_STAT, 0x7), (SPN_JUMP_THR, 0x320), (SPN_LOCK_CFG, 0x4100010), (SPN_SERVO, 0x5), (SPN_HOLD_LIMIT, 0x50),
     (SPN_HOLD_PPB, 0x1F4), (SPN_SWITCH_THR, 0x10), (SPN_PTM_CFG, 0x10), (SPN_EST_PPM, 0x32), (ACC_GEN_DONE, 0xF00000),
     (ACC_DRIFT_CFG, 0x31032), (ACC_DRIFT_UNC, 0xC8), (ACC_DRIFT_LAT, 0x1400640), (ACC_DRIFT_GATE, 0x100),
     (ACC_BCN_LEAD, 0x10000), (ACC_WUR_CFG, 0x4), (ACC_STA_CFG, 0x400), (ACC_RETRY, 0x807), (ACC_UP_CFG, 0x40043),
     (ACC_UP_GUARD, 0x1F4000A0), (MLK_CTL, 0x3), (MLK_STAT, 0x20000), (MLK_HOLE_FAST, 0x3E800), (MLK_HOLE_SLOW, 0x400000),
     (MLK_XR_CFG, 0x2), (FLD_CFG, 0x88B60006), (FLD_SORUS, 0x1000), (CLU_STAT, 0x80000000), (CLU_CFG, 0x800488B5),
     (CLU_SYNC_TOL, 0x10000), (CLU_SKEW_THR, 0x10), (CLU_ACT_MIN, 0x4), (CLU_HAND_LEAD, 0x40000), (CLU_HAND_TMO, 0x100000),
     (PRS_CTL, 0x6), (PRS_EM_MASK_LO, 0xFFFFFFFF), (PRS_EM_MASK_HI, 0xFFFF), (ROB_STAT, 0x2000), (ROB_CFG, 0xC),
     (ROB_AGE, 0x7D0), (CHK_FREE_ODIE, 0x800), (CHK_TIER, 0xBFF), (CHK_RSV, 0x1000), (CHK_LOW, 0x400), (CHK_BK_FREE_ODIE, 0x800),
     (CHK_BK_TASK_A, 0x1000), (CHK_BK_ROB, 0x2000), (CHK_BK_MLK, 0x20000), (CHK_BK_SORUS, 0x1000), (CHK_BK_KEY_A, 0x4000),
     (TSK_CTL, 0x1), (TSK_STAT, 0x1000), (TSK_TRC_CFG, 0xFF), (TSK_TRC_CLS, 0xFFFFFFFF), (UPD_HO_LEAD, 0x100000),
     (UPD_SESS_TMO, 0x3C), (UPD_CONFIRM_TMO, 0x258), (CIP_CTL, 0x7F), (DMC_CTL, 0x7), (DMC_SCHED, 0xA103064),
     (DMC_RT_CFG, 0x100808), (PWR_CTL, 0x2), (PWR_IDLE_HOLD, 0x32), (PWR_WAKE_CFG, 0x1), (PWR_RAIL, 0x20), (RTC_FLAG, 0x3),
     (RTC_WDAY, 0x6), (RTC_DATE, 0x1), (RTC_MONTH, 0x1), (RTC_CENTURY, 0x20), (FLT_CTL, 0x1), (FLT_RST_GUARD, 0x1E),
     (FLT_SRC_POL, 0x10001), (ITT_CFG, 0x7F), (ITT_BUDGET, 0x28F5C), (ITT_PERIOD, 0x40), (ITT_ROUND_MAX, 0x400),
     (ITT_RTC_LIM, 0x64), (HIF_VEC, 0x100), (HIF_DMA_TMO, 0x32), (HIF_STS_CFG, 0x6)] :
      List (Nat × Word)), State.reset.rd x.1 = x.2) ∧
  (∀ x ∈ ([(SPN_TTO_WIDTH, 4, 0x10), (FRN_CTL, 3, 0x4), (FRN_STAT, 3, 0xFFFF00), (FRN_COAST_LIMIT, 3, 0x30D400),
     (FRN_FEM_CFG, 3, 0x10082000), (FRN_CAL_CFG, 3, 0xA), (FRN_SYN0_STAT, 3, 0xFF), (FRN_SYN1_STAT, 3, 0xFF),
     (ACC_BCN_CFG, 3, 0x10080), (FLD_SLOT, 3, 0x3F), (PRS_EXC_CFG, 8, 0x1), (PRS_EXC_RATE, 8, 0x40002710), (ETH_CTL, 2, 0x18),
     (ETH_STAT, 2, 0x200), (ETH_MAXLEN, 2, 0x5F2), (ETH_TX_THR, 2, 0x10200), (ETH_LPI_CFG, 2, 0x110064),
     (ETH_RX_QUOTA, 2, 0x4000), (CHK_BK_CRED, 3, 0x2000), (GGE_CTL, 16, 0x3), (GGE_STAT, 16, 0x2), (FLT_MASK, 6, 0xFFFFFFFF),
     (HIF_Q_CFG, 32, 0x10880), (HIF_Q_HOLD, 32, 0x1F4), (HIF_Q_IRQ_RX, 32, 0x1), (HIF_Q_IRQ_TX, 32, 0x1)] :
      List ((Nat → Nat) × Nat × Word)), ∀ n < x.2.1, State.reset.rd (x.1 n) = x.2.2) ∧
  (State.reset.rd (TSK_QUOTA 0) = 0xC00 ∧ State.reset.rd (TSK_QUOTA 1) = 0x200 ∧ State.reset.rd (TSK_QUOTA 2) = 0x100 ∧
    State.reset.rd (TSK_QUOTA 3) = 0x080 ∧ State.reset.rd (TSK_QUOTA 4) = 0x200) ∧
  State.reset.get SYS_ID_PART = 0x3E58 ∧ State.reset.regs = [] ∧ State.reset.mapsWf ∧ State.reset.pending = [] ∧ State.reset.out = [] ∧
  State.reset.pwr.phase = .boot ∧ State.reset.ref = 0

/-- The host's rule for a block: a step takes the command at the front of the queue and carries it out with the rest of the queue; on an
empty queue a tick passes (the model's choice, log entry 1); and every command answers a next state. -/
def Obligations.StepRunsFront : Prop :=
  (∀ (c : Instr) (q : List Instr) (s : State), step { s with pending := c :: q } = exec c { s with pending := q }) ∧
  (∀ s : State, s.pending = [] → step s = .next s.idle ∧ s.idle.ref = s.ref + 125 ∧ s.idle.regs = s.regs ∧ s.idle.pending = []) ∧
  (∀ (c : Instr) (s : State), ∃ t, exec c s = .next t)

/-- An invariant every step keeps: the register map and every sparse memory, those sealed for a turnover among them, stay canonical, so
that equal contents are equal data; the reference clock never runs back; and a step takes exactly the front command from the queue. -/
def Obligations.StepKeepsForm : Prop :=
  ∀ s t : State, s.mapsWf → s.steps t → t.mapsWf ∧ s.ref ≤ t.ref ∧ t.pending = s.pending.tail

/-- The frame of every command: it changes no part of the state outside its footprint, and no register of a block outside its footprint
but those through which every block reports. -/
def Obligations.Frames : Prop :=
  ∀ (c : Instr) (s t : State), exec c s = .next t →
    (∀ p, p ∉ (footprint c).parts → p.same s t) ∧
    (∀ bs, (footprint c).blocks = some bs → ∀ a, a / 0x10000 ∉ bs → reporting a = false → t.rd a = s.rd a)

/-! ## The spindle (spec/02_spindle_time.md) -/

/-- R37, R41, R42, R45, R47, R49, R50, R55: what a host's commands to the spindle do. Enabled without a source it runs FREE from the
committed epoch, with one it acquires; disabled it is STOPPED with frequency term 0; a committed epoch is the held one; a domain
switch is made under its test or refused; ACCEPT schedules the pending offset, LOAD makes one; the captures show the clock. -/
def Obligations.SpindleControl : Prop :=
  (∀ (s : State) (mode : Bool), s.reach none SPN_CTL = .made → s.flag SPN_CTL_EN = false → isSource (s.get SPN_SRC_SRC_A) = false →
    ∃ t, exec (.spindleEnable mode) s = .next t ∧ t.flag SPN_CTL_EN = true ∧ t.flag SPN_CTL_MODE = mode ∧ t.spnSt = spnFree ∧
      t.spn.hasTime = true ∧ t.wideNs = s.epochNs) ∧
  (∀ (s : State) (mode : Bool), s.reach none SPN_CTL = .made → s.flag SPN_CTL_EN = false → isSource (s.get SPN_SRC_SRC_A) = true →
    ∃ t, exec (.spindleEnable mode) s = .next t ∧ t.flag SPN_CTL_EN = true ∧ t.flag SPN_CTL_MODE = mode ∧ t.spnSt = spnAcquire ∧
      t.spn.hasTime = false) ∧
  (∀ (s : State) (mode : Bool), s.reach none SPN_CTL = .made → s.flag SPN_CTL_EN = true →
    ∃ t, exec (.spindleDisable mode) s = .next t ∧ t.flag SPN_CTL_EN = false ∧ t.flag SPN_CTL_MODE = mode ∧ t.spnSt = spnStopped ∧
      t.spn.f = 0 ∧ t.spn.hasTime = false) ∧
  (∀ (s : State) (hi : Word), s.reach none SPN_EPOCH_SEC_HI = .made → s.flag SPN_CTL_EN = false →
    (s.spn.heldNs.getD (s.rd SPN_EPOCH_NS)).toNat < 1000000000 →
    ∃ t, exec (.epochCommit hi) s = .next t ∧ t.rd SPN_EPOCH_NS = s.spn.heldNs.getD (s.rd SPN_EPOCH_NS) ∧
      t.rd SPN_EPOCH_SEC_LO = s.spn.heldSecLo.getD (s.rd SPN_EPOCH_SEC_LO) ∧ t.rd SPN_EPOCH_SEC_HI = hi &&& 0xFFFF ∧
      t.spn.heldNs = none ∧ t.spn.heldSecLo = none) ∧
  (∀ (s : State) (hi : Word), s.reach none SPN_EPOCH_SEC_HI = .made →
    (s.flag SPN_CTL_EN = true ∨ 1000000000 ≤ (s.spn.heldNs.getD (s.rd SPN_EPOCH_NS)).toNat) →
    ∃ t, exec (.epochCommit hi) s = .next t ∧ t.epochNs = s.epochNs ∧ t.flag SPN_EVT_EPOCH_IGN = true ∧
      t.spn.heldNs = none ∧ t.spn.heldSecLo = none) ∧
  (∀ s : State, s.reach none SPN_CTL = .made → s.switchOk = true →
    ∃ t, exec .domainSwitchRequest s = .next t ∧ t.flag SPN_STAT_ACTIVE = !s.flag SPN_STAT_ACTIVE ∧
      t.flag SPN_EVT_SWITCHED = true ∧ t.spn.wideU = s.spn.wideU ∧ t.spn.run = 0) ∧
  (∀ s : State, s.reach none SPN_CTL = .made → s.switchOk = false →
    ∃ t, exec .domainSwitchRequest s = .next t ∧ t.flag SPN_EVT_SW_REFUSED = true ∧ t.spn = s.spn ∧
      t.flag SPN_STAT_ACTIVE = s.flag SPN_STAT_ACTIVE) ∧
  (∀ s : State, s.reach none SPN_STEP_CMD = .made → s.flag SPN_STAT_STEP_PEND = true →
    ∃ t, exec .stepAccept s = .next t ∧ t.spn = { s.spn with sched := some s.spn.pendOfs } ∧ t.regs = s.regs) ∧
  (∀ s : State, s.reach none SPN_STEP_CMD = .made → s.flag SPN_STAT_STEP_PEND = false →
    exec .stepAccept s = .next (s.hostWrote SPN_STEP_CMD)) ∧
  (∀ s : State, s.reach none SPN_STEP_CMD = .made →
    ∃ t, exec .stepLoad s = .next t ∧ t.spn = { s.spn with pendOfs := (s.rd SPN_STEP_PEND).toInt } ∧
      t.flag SPN_STAT_STEP_PEND = true ∧ t.rd SPN_STEP_PEND = s.rd SPN_STEP_PEND) ∧
  (∀ s : State, s.reach none SPN_NOW_NS = .made → s.spn.hasTime = true →
    ∃ t, exec .nowCapture s = .next t ∧ t.hostRd = BitVec.ofNat 32 (s.wideNs % 1000000000) ∧
      t.rd SPN_NOW_SEC_LO = BitVec.ofNat 32 (s.wideNs / 1000000000) ∧ t.rd SPN_NOW_TURN_LO = BitVec.ofNat 32 s.turn ∧
      t.rd SPN_NOW_ANGLE = BitVec.ofNat 32 s.angle ∧ t.spn = s.spn) ∧
  (∀ s : State, s.reach none SPN_TL_NS = .made →
    ∃ t, exec .turnLatchCapture s = .next t ∧ t.hostRd = BitVec.ofNat 32 (s.spn.tlWide % 1000000000) ∧
      t.rd SPN_TL_SEC_LO = BitVec.ofNat 32 (s.spn.tlWide / 1000000000) ∧ t.rd SPN_TL_TURN_LO = BitVec.ofNat 32 s.spn.tlTurn ∧
      t.rd SPN_TL_NARROW = BitVec.ofNat 32 s.spn.tlNarrow ∧ t.spn = s.spn) ∧
  (∀ (s : State) (hi : Word), s.reach none SPN_PPS_LABEL_HI = .made →
    ∃ t, exec (.ppsLabelWrite hi) s = .next t ∧ t.flag SPN_PPS_CFG_LBL_VALID = true ∧ t.rd SPN_PPS_LABEL_HI = hi &&& 0xFFFF ∧
      t.spn = s.spn)

/-- R39 to R46, R430 to R432: what a sample, a PTM dialog, a pulse of PPS_IN and their absence do. The first sample sets the clock; a
jump is refused and stays pending; a sample within the thresholds drives the servo and may lock it; silence leads to HOLDOVER, and
its bound to FREE. -/
def Obligations.SpindleSamples : Prop :=
  (∀ (s : State) (port : Fin 2) (ext : BitVec 80) (n : BitVec 8), s.awake = true → n.toNat ≤ 16 → s.flag SPN_CTL_MODE = false →
    s.get SPN_SRC_SRC_A = port.val + 1 → s.spnSt = spnAcquire → s.spn.hasTime = false →
    ∃ t, exec (.ptpSample port (BitVec.ofNat 8 (s.get SPN_SRC_DOM_A)) ext true n) s = .next t ∧ t.spn.hasTime = true ∧
      t.wideNs = ext.toNat ∧ t.spnSt = spnAcquire ∧ t.rd SPN_CNT_STEP = s.rd SPN_CNT_STEP ∧ t.spn.run = 0) ∧
  (∀ (s : State) (port : Fin 2) (ext : BitVec 80) (n : BitVec 8), s.awake = true → n.toNat ≤ 16 → s.flag SPN_CTL_MODE = false →
    s.get SPN_SRC_SRC_A = port.val + 1 → (s.spnSt = spnAcquire ∨ s.spnSt = spnLocked) → s.spn.hasTime = true →
    beyond ((ext.toNat : Int) - s.wideNs) (s.rd SPN_JUMP_THR).toNat = true →
    ∃ t, exec (.ptpSample port (BitVec.ofNat 8 (s.get SPN_SRC_DOM_A)) ext true n) s = .next t ∧ t.flag SPN_EVT_REFUSED = true ∧
      t.flag SPN_STAT_STEP_PEND = true ∧ t.spn.wideU = s.spn.wideU ∧ t.spn.f = s.spn.f ∧ t.spn.r = s.spn.r ∧
      t.rd SPN_CNT_REFUSED = BitVec.ofNat 32 (min 0xFFFFFFFF ((s.rd SPN_CNT_REFUSED).toNat + 1))) ∧
  (∀ (s : State) (port : Fin 2) (ext : BitVec 80) (n : BitVec 8) (o : Int) (dt : Nat), s.awake = true → n.toNat ≤ 16 →
    s.flag SPN_CTL_MODE = false → s.get SPN_SRC_SRC_A = port.val + 1 → s.spnSt = spnAcquire → s.spn.hasTime = true →
    o = (ext.toNat : Int) - s.wideNs → beyond o (s.rd SPN_JUMP_THR).toNat = false →
    dt = (match s.spn.domA.lastRef with | some r => s.ref - r | none => 2000000000) →
    ∃ t, exec (.ptpSample port (BitVec.ofNat 8 (s.get SPN_SRC_DOM_A)) ext true n) s = .next t ∧
      t.spn.f = clip s.slewPpb (s.spn.f + servoTerm o dt 8) ∧ t.spn.r = clip s.slewPpb (t.spn.f + servoTerm o dt 2) ∧
      t.spn.wideU = s.spn.wideU ∧ t.rd SPN_OFS_A = word32 (sat31 o) ∧
      t.spnSt = if beyond o (s.get SPN_LOCK_CFG_LOCK_THR) = false ∧ atLeast1 (s.get SPN_LOCK_CFG_LOCK_CNT) ≤ s.spn.run + 1 then
        spnLocked else spnAcquire) ∧
  (∀ (s : State) (port : Fin 2) (dom n : BitVec 8) (ext : BitVec 80) (ord : Bool), (ord = false ∨ 16 < n.toNat) →
    exec (.ptpSample port dom ext ord n) s = .next s) ∧
  (∀ s : State, s.awake = true → s.flag SPN_CTL_EN = true → s.usesSource 3 = true →
    ∃ t, exec .ptmDialogStart s = .next t ∧ t.spn.ptmBusy = true ∧ t.get HIF_STAT_PTM = 1 ∧ t.out = s.out ++ [.ptmRequest] ∧
      s.spn.ptmNext ≤ t.ref) ∧
  (∀ (s : State) (m : BitVec 64) (rt : BitVec 32), s.spn.ptmBusy = true →
    ∃ t, exec (.ptmDialogDone false m rt) s = .next t ∧ t.spn = { s.spn with ptmBusy := false } ∧ t.get HIF_STAT_PTM = 2) ∧
  (∀ (s : State) (m : BitVec 64) (rt : BitVec 32), s.awake = true → s.spn.ptmBusy = true → rt.toNat < 10000 →
    s.flag SPN_CTL_MODE = false → s.get SPN_SRC_SRC_A = 3 → s.spnSt = spnAcquire → s.spn.hasTime = false →
    ∃ t, exec (.ptmDialogDone true m rt) s = .next t ∧ t.spn.hasTime = true ∧ t.spn.ptmBusy = false ∧
      t.wideNs = ((m.toNat : Int) + (BitVec.ofNat 64 (s.rd64 SPN_PTM_MAP_LO)).toInt).toNat) ∧
  (∀ (s : State) (after : BitVec 32) (sec n : Nat), s.flag SPN_CTL_EN = true → s.usesSource 4 = true → s.spn.pps = some (sec, n) →
    s.ref + 2 * after.toNat - n < 1998000000 →
    ∃ t, exec (.ppsEdge after) s = .next t ∧ t.flag SPN_EVT_PPS_GLITCH = true ∧ t.spn.pps = s.spn.pps ∧ t.spn.f = s.spn.f) ∧
  (∀ (s : State) (after : BitVec 32) (sec n : Nat), s.flag SPN_CTL_EN = true → s.usesSource 4 = true → s.spn.pps = some (sec, n) →
    s.flag SPN_PPS_CFG_LBL_VALID = false → 1998000000 ≤ s.ref + 2 * after.toNat - n → s.ref + 2 * after.toNat - n ≤ 2002000000 →
    ∃ t, exec (.ppsEdge after) s = .next t ∧ t.flag SPN_EVT_PPS_UNLAB = true ∧
      t.spn.pps = some (sec + 1, s.ref + 2 * after.toNat)) ∧
  (∀ (s : State) (after : BitVec 32), s.flag SPN_CTL_EN = true → s.usesSource 4 = true → s.spn.pps = none →
    s.flag SPN_PPS_CFG_LBL_VALID = true →
    ∃ t, exec (.ppsEdge after) s = .next t ∧ t.flag SPN_PPS_CFG_LBL_VALID = false ∧
      t.spn.pps = some (s.labelSec, s.ref + 2 * after.toNat)) ∧
  (∀ s : State, s.running = true → s.flag SPN_STAT_HELD = false → s.spn.turnRef = s.ref → s.flag SPN_CTL_MODE = false →
    (s.spn.domA.lastTurn = none ∨ ∃ k, s.spn.domA.lastTurn = some k ∧ atLeast1 (s.get SPN_LOCK_CFG_LOSS_TMO) ≤ s.turn - k - 1) →
    (s.spnSt = spnAcquire ∨ s.spnSt = spnLocked) →
    ∃ t, exec .lossTimeout s = .next t ∧ t.spnSt = spnHoldover ∧ t.flag SPN_EVT_HOLDOVER = true ∧ t.rd SPN_EST_ERR = 0 ∧
      t.spn.run = 0 ∧ t.spn.holdRef = s.ref ∧ t.spn.f = s.spn.f) ∧
  (∀ s : State, s.spnSt = spnHoldover → 0 < s.get SPN_HOLD_PPB_PPB →
    ∃ t, exec .holdoverLimit s = .next t ∧ t.spnSt = spnFree ∧ t.flag SPN_EVT_FREE = true ∧
      t.rd SPN_EST_ERR = s.rd SPN_HOLD_LIMIT ∧ t.rd SPN_FREQ = 0 ∧
      s.spn.holdRef + ((s.rd SPN_HOLD_LIMIT).toNat * 125000000000 + (s.get SPN_HOLD_PPB_PPB - 1)) / s.get SPN_HOLD_PPB_PPB ≤ t.ref)

/-- R31, R32, R48, R51, R52: a turn start latches the turn and its instant and applies the step scheduled for it, a backward step
holding the spindle; without the spindle Frond reaches its own turn starts where it runs on alone (R81); a trigger is armed with the
times and widths sampled, drives its pulse unless it is gated, and ends it. -/
def Obligations.TurnsAndTriggers : Prop :=
  (∀ (s u : State) (t0 t1 t2 : BitVec 12) (e0 e1 e2 : Ecc), s.flag SPN_CTL_EN = true → s.spn.hasTime = true → s.spn.sched = none →
    u = s.toWideHalf (2 * (s.epochNs + s.nextTurn * turnNs)) →
    ∃ t, exec (.turnStart t0 t1 t2 e0 e1 e2) s = .next t ∧ t.spn.lastTurn = some u.turn ∧ t.spn.tlTurn = u.turn ∧
      t.spn.tlWide = u.wideNs ∧ t.spn.tlNarrow = u.turn * turnNs % 2 ^ 32 ∧ t.spn.turnRef = u.ref ∧ t.ref = u.ref ∧
      t.flag SPN_STAT_HELD = false) ∧
  (∀ (s u : State) (d : Int) (t0 t1 t2 : BitVec 12) (e0 e1 e2 : Ecc), s.flag SPN_CTL_EN = true → s.spn.hasTime = true →
    s.spn.sched = some d → u = s.toWideHalf (2 * (s.epochNs + s.nextTurn * turnNs)) →
    ∃ t, exec (.turnStart t0 t1 t2 e0 e1 e2) s = .next t ∧ t.spn.wideU = ((u.spn.wideU : Int) + d * 2000000000).toNat ∧
      t.spn.sched = none ∧ t.flag SPN_EVT_STEPPED = true ∧ t.flag SPN_STAT_STEP_PEND = false ∧ t.flag SPN_STAT_HELD = decide (d < 0) ∧
      t.rd SPN_CNT_STEP = BitVec.ofNat 32 (min 0xFFFFFFFF ((s.rd SPN_CNT_STEP).toNat + 1)) ∧
      t.rd SPN_STEP_TURN_LO = BitVec.ofNat 32 s.nextTurn) ∧
  (∀ (s : State) (t0 t1 t2 : BitVec 12) (e0 e1 e2 : Ecc), (s.flag SPN_CTL_EN = false ∨ s.spn.hasTime = false) →
    s.spn.frond.free = none → exec (.turnStart t0 t1 t2 e0 e1 e2) s = .next s) ∧
  (∀ (s u : State) (t0 t1 t2 : BitVec 12) (e0 e1 e2 : Ecc), (s.flag SPN_CTL_EN = false ∨ s.spn.hasTime = false) →
    s.spn.frond.free.isSome = true → u = s.toFrnTick ((s.frnTick / turnTicks + 1) * turnTicks) →
    ∃ t, exec (.turnStart t0 t1 t2 e0 e1 e2) s = .next t ∧ t.ref = u.ref ∧ t.spn = { u.spn with turnRef := u.ref }) ∧
  (∀ (s : State) (n : Fin 4) (pol gate : Bool) (p w : Nat), s.reach none (SPN_TTO_CTL n) = .made → s.flag (SPN_TTO_CTL_EN n) = false →
    p = max 16 (s.rd (SPN_TTO_PERIOD n)).toNat → w = atLeast1 (s.rd (SPN_TTO_WIDTH n)).toNat →
    (s.rd (SPN_TTO_PERIOD n)).toNat ≠ 0 →
    ∃ t, exec (.triggerArm n pol gate) s = .next t ∧ t.flag (SPN_TTO_CTL_EN n) = true ∧ t.flag (SPN_TTO_CTL_POL n) = pol ∧
      t.flag (SPN_TTO_CTL_GATE n) = gate ∧ (t.trig n).armed = true ∧ (t.trig n).period = p ∧
      (t.trig n).width = (if p ≤ w then p - 1 else w) ∧
      (t.trig n).pin = (if (s.trig n).pulseEnd.isSome then (s.trig n).pin else some pol)) ∧
  (∀ (s : State) (n : Fin 4) (pol gate : Bool), s.reach none (SPN_TTO_CTL n) = .made → s.flag (SPN_TTO_CTL_EN n) = false →
    (s.rd (SPN_TTO_PERIOD n)).toNat = 0 → s.spn.hasTime = true →
    2 * (((s.rd (SPN_TTO_START_SEC_LO n)).toNat + 2 ^ 32 * (s.rd (SPN_TTO_START_SEC_HI n)).toNat) * 1000000000 +
      (s.rd (SPN_TTO_START_NS n)).toNat) < s.wideHalf + 125 * 32 →
    ∃ t, exec (.triggerArm n pol gate) s = .next t ∧ t.flag (SPN_TTO_CTL_EN n) = false ∧ (t.trig n).armed = false ∧
      (t.rd (SPN_TTO_MISSED n)).toNat = min 0xFFFF ((s.rd (SPN_TTO_MISSED n)).toNat + 1)) ∧
  (∀ (s : State) (n : Fin 4), (s.trig n).armed = true → s.spn.hasTime = true → s.flag SPN_CTL_EN = true →
    (s.flag (SPN_TTO_CTL_GATE n) = false ∨ s.spnSt = spnLocked) →
    ∃ t, exec (.triggerPulse n) s = .next t ∧ (t.trig n).pin = some (s.trigActive n) ∧
      (t.trig n).pulseEnd = some (t.ref + 125 * (s.trig n).width) ∧ ((s.trig n).period = 0 → t.flag (SPN_TTO_CTL_EN n) = false) ∧
      ((s.trig n).period ≠ 0 → (t.trig n).next = (s.trig n).next + 1)) ∧
  (∀ (s : State) (n : Fin 4), (s.trig n).armed = true → s.spn.hasTime = true → s.flag SPN_CTL_EN = true →
    s.flag (SPN_TTO_CTL_GATE n) = true → s.spnSt ≠ spnLocked →
    ∃ t, exec (.triggerPulse n) s = .next t ∧ (t.trig n).pin = (s.trig n).pin ∧
      (t.rd (SPN_TTO_MISSED n)).toNat = min 0xFFFF ((s.rd (SPN_TTO_MISSED n)).toNat + 1)) ∧
  (∀ (s : State) (n : Fin 4) (e : Nat), (s.trig n).pulseEnd = some e →
    ∃ t, exec (.triggerPulseEnd n) s = .next t ∧ (t.trig n).pin = some (!s.trigActive n) ∧ (t.trig n).pulseEnd = none ∧ e ≤ t.ref ∧
      t.regs = s.regs) ∧
  (∀ (s : State) (n : Fin 4), (s.trig n).pulseEnd = none → exec (.triggerPulseEnd n) s = .next s)

/-- R47: ACCEPT schedules a step by the offset then pending in SPN_STEP_PEND, in place of one already scheduled; the offset pending is the
one LOAD or a refusal left in the register; a later refusal changes what is pending and not what is scheduled; the step is applied at
the next turn start; with SPN_STAT.STEP_PEND 0 the write has no effect. -/
def Obligations.StepScheduled : Prop :=
  (∀ s : State, s.reach none SPN_STEP_CMD = .made → s.flag SPN_STAT_STEP_PEND = true →
    ∃ t, exec .stepAccept s = .next t ∧ t.spn = { s.spn with sched := some s.spn.pendOfs } ∧ t.regs = s.regs) ∧
  (∀ s : State, s.reach none SPN_STEP_CMD = .made → s.flag SPN_STAT_STEP_PEND = false →
    ∃ t, exec .stepAccept s = .next t ∧ t.spn = s.spn ∧ t.regs = s.regs) ∧
  (∀ s : State, s.reach none SPN_STEP_CMD = .made →
    ∃ t, exec .stepLoad s = .next t ∧ t.spn.pendOfs = (t.rd SPN_STEP_PEND).toInt ∧ t.rd SPN_STEP_PEND = s.rd SPN_STEP_PEND ∧
      t.flag SPN_STAT_STEP_PEND = true ∧ t.spn.sched = s.spn.sched) ∧
  (∀ (s : State) (port : Fin 2) (ext : BitVec 80) (n : BitVec 8) (o : Int), s.awake = true → n.toNat ≤ 16 →
    s.flag SPN_CTL_MODE = false → s.get SPN_SRC_SRC_A = port.val + 1 → (s.spnSt = spnAcquire ∨ s.spnSt = spnLocked) →
    s.spn.hasTime = true → o = (ext.toNat : Int) - s.wideNs → beyond o (s.rd SPN_JUMP_THR).toNat = true →
    ∃ t, exec (.ptpSample port (BitVec.ofNat 8 (s.get SPN_SRC_DOM_A)) ext true n) s = .next t ∧ t.flag SPN_STAT_STEP_PEND = true ∧
      t.spn.pendOfs = (t.rd SPN_STEP_PEND).toInt ∧ (sat31 o = o → t.spn.pendOfs = o) ∧ t.spn.sched = s.spn.sched) ∧
  (∀ (s u : State) (d : Int) (t0 t1 t2 : BitVec 12) (e0 e1 e2 : Ecc), s.flag SPN_CTL_EN = true → s.spn.hasTime = true →
    s.spn.sched = some d → u = s.toWideHalf (2 * (s.epochNs + s.nextTurn * turnNs)) →
    ∃ t, exec (.turnStart t0 t1 t2 e0 e1 e2) s = .next t ∧ t.spn.wideU = ((u.spn.wideU : Int) + d * 2000000000).toNat ∧
      t.spn.sched = none ∧ t.flag SPN_STAT_STEP_PEND = false)

/-! ## The radios of Frond (spec/03_frond_radios.md, spec/04_air_interfaces.md) -/

/-- R9, R58 to R63, R65, R73, R80, R433: enabling, disabling, starting and halting a radio; writes of its channel table and program;
the end of a calibration, a loss of lock and a change of temperature. -/
def Obligations.RadioControl : Prop :=
  (∀ (s : State) (r : Fin 3) (run auto : Bool), s.reach none (FRN_CTL r) = .made → s.flag (FRN_CTL_EN r) = false →
    (s.rflag r 0 || s.rflag r 1) = true → s.flag (FRN_CTL_RUN r) = run → s.retq = [] →
    ∃ t, exec (.frnEnable r run auto) s = .next t ∧ t.flag (FRN_CTL_EN r) = true ∧ t.flag (FRN_CTL_AUTO_RST r) = auto ∧
      t.frnSt r = 1 ∧ (t.fr r).starting = run) ∧
  (∀ (s : State) (r : Fin 3) (run auto : Bool), s.reach none (FRN_CTL r) = .made → s.flag (FRN_CTL_EN r) = true →
    s.flag (FRN_CTL_RUN r) = run → s.retq = [] → (s.fr r).ppdu = none →
    ∃ t, exec (.frnDisable r run auto) s = .next t ∧ t.flag (FRN_CTL_EN r) = false ∧ t.frnSt r = 0 ∧ t.seqSt r = 0 ∧
      (t.fr r).syn0 = {} ∧ (t.fr r).syn1 = {} ∧ (t.fr r).queues = (s.fr r).queues) ∧
  (∀ (s : State) (r : Fin 3) (en auto : Bool), s.reach none (FRN_CTL r) = .made → s.flag (FRN_CTL_EN r) = en →
    s.flag (FRN_CTL_RUN r) = false → s.retq = [] →
    ∃ t, exec (.frnRunSet r en auto) s = .next t ∧ t.flag (FRN_CTL_RUN r) = true ∧ t.flag (FRN_CTL_EN r) = en ∧
      (t.fr r).starting = true ∧ t.seqSt r = s.seqSt r) ∧
  (∀ (s : State) (r : Fin 3) (en auto : Bool), s.reach none (FRN_CTL r) = .made → s.flag (FRN_CTL_EN r) = en →
    s.flag (FRN_CTL_RUN r) = true → s.retq = [] → (s.fr r).ppdu = none → (s.fr r).rxEnd = none →
    ∃ t, exec (.frnRunClear r en auto) s = .next t ∧ t.flag (FRN_CTL_RUN r) = false ∧ t.seqSt r = 0 ∧ (t.fr r).wait = .none ∧
      (t.fr r).starting = false) ∧
  (∀ (s : State) (r : Fin 3) (en auto : Bool) (p : TxPpdu), s.reach none (FRN_CTL r) = .made → s.flag (FRN_CTL_EN r) = en →
    s.flag (FRN_CTL_RUN r) = true → s.retq = [] → (s.fr r).ppdu = some p → p.start ≤ s.frnTick →
    ∃ t, exec (.frnRunClear r en auto) s = .next t ∧ t.flag (FRN_CTL_RUN r) = false ∧ (t.fr r).halting = true ∧
      (t.fr r).ppdu = some p ∧ t.seqSt r = s.seqSt r) ∧
  (∀ (s : State) (r : Fin 3) (idx : BitVec 8) (w : Fin 4) (v : Word), s.reach none (chanAddr r idx.toNat) = .made →
    ∃ t, exec (.channelEntryWrite r idx w v) s = .next t ∧
      t.mem (chanAddr r idx.toNat + 4 * w.val) 4 = (if w.val = 1 then v &&& 0x03FFFFFF else if w.val = 0 then v else 0).toNat ∧
      (t.chKhz r idx.toNat ≠ s.chKhz r idx.toNat ∨ t.chBw r idx.toNat ≠ s.chBw r idx.toNat ∨
        t.chGroup r idx.toNat ≠ s.chGroup r idx.toNat → ∀ k, ∀ c ∈ (t.syn r k).store, c.idx ≠ idx.toNat) ∧
      (∀ k, ∀ c ∈ (s.syn r k).store, c.idx ≠ idx.toNat → c ∈ (t.syn r k).store)) ∧
  (∀ (s : State) (i : Iface) (r : Fin 3) (a : BitVec 12) (hi : Word), s.reach (some i) (progAddr r a.toNat) = .made →
    ∃ t, exec (.programWordCommit i r a hi) s = .next t ∧
      t.progWord r a.toNat = ((SMap.get (fun _ => none) s.wrHold (2 * progAddr r a.toNat + (if i = .hsp then 1 else 0))).getD
        (BitVec.ofNat 32 (s.progWord r a.toNat))).toNat + 2 ^ 32 * hi.toNat) ∧
  (∀ (s : State) (r : Fin 3) (k : Bool) (e : Ecc), s.flag (synCalib r k) = true → (s.fr r).wait = .none → s.retq = [] →
    ∃ t, exec (.synthCalDone r k true e) s = .next t ∧ t.flag (synLocked r k) = true ∧ t.flag (synCalib r k) = false ∧
      t.get (synCh r k) = s.get (synCh r k) ∧ t.ref = (s.toFrnTick (min (s.syn r k).doneAt (s.frnTick + calTicks))).ref) ∧
  (∀ (s : State) (r : Fin 3) (k : Bool) (e : Ecc), s.flag (synCalib r k) = true → s.retq = [] → ((s.syn r k).full = false ∨
    (s.syn r k).fails = 0) →
    ∃ t, exec (.synthCalDone r k false e) s = .next t ∧ t.flag (synCalib r k) = true ∧ (t.syn r k).full = true ∧
      (t.syn r k).doneAt = t.frnTick + 0x300 ∧ (t.syn r k).fails = (if (s.syn r k).full then 1 else 0)) ∧
  (∀ (s : State) (r : Fin 3) (k : Bool) (e : Ecc), s.flag (synCalib r k) = true → s.retq = [] → (s.syn r k).full = true →
    (s.syn r k).fails ≠ 0 →
    (s.fr r).wait = .none → s.activeSyn r ≠ some k →
    ∃ t, exec (.synthCalDone r k false e) s = .next t ∧ t.flag (synFailed r k) = true ∧ t.flag (synCalib r k) = false ∧
      t.flag (FRN_EVT_CAL_FAIL r) = true) ∧
  (∀ (s : State) (r : Fin 3) (k : Bool) (e : Ecc), s.activeSyn r = some k → s.flag (synLocked r k) = true → (s.fr r).ppdu = none →
    (s.fr r).wait = .none → s.retq = [] →
    ∃ t, exec (.lockLoss r e) s = .next t ∧ t.flag (synLocked r k) = false ∧ t.flag (synCalib r k) = true ∧
      t.flag (FRN_EVT_UNLOCK r) = true ∧ (t.syn r k).full = (!s.stored r k (s.get (synCh r k))) ∧
      t.rd (FRN_CNT_UNLOCK r) = BitVec.ofNat 32 (min 0xFFFFFFFF ((s.rd (FRN_CNT_UNLOCK r)).toNat + 1))) ∧
  (∀ (s : State) (r : Fin 3) (temp : BitVec 12), ∃ t, exec (.tempDrift r temp) s = .next t ∧ (t.fr r).die = temp.toInt ∧
    ∀ k c, s.activeSyn r = some k → c ∈ (s.syn r k).store → c.idx = s.get (synCh r k) → c.stale = false →
      8 * atLeast1 (s.get (FRN_CAL_CFG_TEMP_WIN r)) < (temp.toInt - c.temp).natAbs → t.flag (FRN_EVT_TEMP_DRIFT r) = true)

/-- R60 to R67, R71 to R78: what each operation of the sequencer does when its word stands at the pair's address and the pair takes it
up, and how a wait, a mismatch and the restart after it go on. -/
def Obligations.SequencerOperations : Prop :=
  (∀ (s : State) (r : Fin 3), s.canExec r .halt = true → ∃ t, exec (.halt r) s = .next t ∧ t.seqSt r = 3 ∧ t.pc r = s.pc r) ∧
  (∀ (s : State) (r : Fin 3), s.canExec r .sync = true →
    exec (.sync r) s = .next (s.setWait r (.until_ ((s.frnTurnNo + 1) * turnTicks)))) ∧
  (∀ (s : State) (r : Fin 3) (ang : BitVec 24) (u : Nat) (e : Ecc), s.canExec r (.waitAt ang.toNat) = true →
    s.resolve ang.toNat = some u → u ≠ s.frnTick → exec (.waitAt r ang e) s = .next (s.setWait r (.until_ u))) ∧
  (∀ (s : State) (r : Fin 3) (ang : BitVec 24) (e : Ecc), s.canExec r (.waitAt ang.toNat) = true → s.resolve ang.toNat = none →
    ∃ t, exec (.waitAt r ang e) s = .next t ∧ t.pc r = (s.pc r + 1) % 4096 ∧ (t.fr r).wait = .none ∧
      (t.flag (FRN_EVT_OVERRUN r) || t.flag (FRN_EVT_SKIPPED r)) = true) ∧
  (∀ (s : State) (r : Fin 3) (n : BitVec 24) (e : Ecc), s.canExec r (.waitRel n.toNat) = true →
    exec (.waitRel r n e) s = .next (if n = 0 then s.seqDone r e else s.setWait r (.until_ (s.frnTick + n.toNat)))) ∧
  (∀ (s : State) (r : Fin 3) (u : Nat) (e : Ecc), s.frnGo = true → (s.fr r).wait = .until_ u →
    s.fetches r ((s.pc r + 1) % 4096) e = true →
    ∃ t, exec (.seqWaitEnd r e) s = .next t ∧ (t.fr r).wait = .none ∧ t.pc r = (s.pc r + 1) % 4096 ∧ t.seqSt r = s.seqSt r) ∧
  (∀ (s : State) (r : Fin 3) (u : Nat) (e : Ecc), s.frnGo = true → (s.fr r).wait = .until_ u → (s.seqSt r = 1 ∨ s.seqSt r = 2) →
    s.fetches r ((s.pc r + 1) % 4096) e = false →
    ∃ t, exec (.seqWaitEnd r e) s = .next t ∧ t.seqSt r = 3 ∧ t.flag (FRN_EVT_PROG_ERR r) = true ∧ (t.fr r).femOff = true ∧
      (t.fr r).restart = false) ∧
  (∀ (s : State) (r : Fin 3) (u : Nat) (e : Ecc), s.frnGo = true → (s.fr r).wait = .hopDone u →
    s.fetches r ((s.pc r + 1) % 4096) e = true →
    ∃ t, exec (.seqWaitEnd r e) s = .next t ∧ t.frnSt r = 3 ∧ t.flag (synActive r (s.idleSyn r)) = true ∧
      t.flag (synActive r (!s.idleSyn r)) = false ∧ t.pc r = (s.pc r + 1) % 4096) ∧
  (∀ (s : State) (r : Fin 3) (e : Ecc), s.canExec r .sleep = true → s.frnSt r ≠ 1 → s.fetches r ((s.pc r + 1) % 4096) e = true →
    ∃ t, exec (.sleep r e) s = .next t ∧ t.frnSt r = 1 ∧ t.pc r = (s.pc r + 1) % 4096 ∧
      ∀ k, t.get (synCh r k) = 0xFF ∧ t.flag (synLocked r k) = false ∧ (t.syn r k).store = (s.syn r k).store) ∧
  (∀ (s : State) (r : Fin 3) (ang : BitVec 24) (u : Nat) (e : Ecc), s.canExec r (.wake ang.toNat) = true → s.frnSt r = 1 →
    s.resolve ang.toNat = some u → s.frnTick + 0x280 ≤ u →
    exec (.wake r ang e) s = .next (s.setWait r (.wake (u - 0x280) u))) ∧
  (∀ (s : State) (r : Fin 3) (idx : BitVec 8) (recal : Bool) (e : Ecc), s.canExec r (.prep idx.toNat recal) = true →
    s.fetches r ((s.pc r + 1) % 4096) e = true → 2 ≤ s.frnSt r → s.chValid r idx.toNat = true →
    ¬(s.get (synCh r (s.idleSyn r)) = idx.toNat ∧ (s.flag (synLocked r (s.idleSyn r)) || s.flag (synCalib r (s.idleSyn r))) = true) →
    ∃ t, exec (.prep r idx recal e) s = .next t ∧ t.get (synCh r (s.idleSyn r)) = idx.toNat ∧
      t.flag (synCalib r (s.idleSyn r)) = true ∧ t.flag (synLocked r (s.idleSyn r)) = false ∧
      (t.syn r (s.idleSyn r)).full = (recal || !s.stored r (s.idleSyn r) idx.toNat) ∧ t.pc r = (s.pc r + 1) % 4096) ∧
  (∀ (s : State) (r : Fin 3) (idx : BitVec 8) (recal : Bool) (e : Ecc), s.canExec r (.prep idx.toNat recal) = true →
    s.fetches r ((s.pc r + 1) % 4096) e = true → 2 ≤ s.frnSt r → s.chValid r idx.toNat = false →
    ∃ t, exec (.prep r idx recal e) s = .next t ∧ t.flag (FRN_EVT_CH_INVALID r) = true ∧ t.get (synCh r (s.idleSyn r)) = 0xFF ∧
      t.pc r = (s.pc r + 1) % 4096) ∧
  (∀ (s : State) (r : Fin 3) (e : Ecc), s.canExec r .hop = true → 2 ≤ s.frnSt r → s.flag (synFailed r (s.idleSyn r)) = false →
    s.get (synCh r (s.idleSyn r)) ≠ 0xFF →
    exec (.hop r e) s = .next (s.setWait r (if s.flag (synLocked r (s.idleSyn r)) then .hopDone (s.frnTick + 0x20) else .hopLock))) ∧
  (∀ (s : State) (r : Fin 3) (e : Ecc), s.canExec r .hop = true → 2 ≤ s.frnSt r → s.flag (synFailed r (s.idleSyn r)) = false →
    s.get (synCh r (s.idleSyn r)) = 0xFF →
    ∃ t, exec (.hop r e) s = .next t ∧ t.flag (FRN_EVT_CH_INVALID r) = true ∧ t.frnSt r = 2 ∧ t.pc r = (s.pc r + 1) % 4096) ∧
  (∀ (s : State) (r : Fin 3) (ang : BitVec 24) (temp : BitVec 12) (u : Nat) (e : Ecc), s.canExec r (.bgcal 4 ang.toNat) = true →
    s.resolve ang.toNat = some u → s.frnTick + 0x10 < u →
    ∃ t, exec (.bgcal r 4 ang temp e) s = .next t ∧ (t.fr r).die = temp.toInt ∧ t.get (FRN_TEMP_TEMP r) = temp.toNat ∧
      t.pc r = (s.pc r + 1) % 4096) ∧
  (∀ (s : State) (r : Fin 3) (ang : BitVec 24) (temp : BitVec 12) (u : Nat) (e : Ecc), s.canExec r (.bgcal 4 ang.toNat) = true →
    s.resolve ang.toNat = some u → u ≤ s.frnTick + 0x10 →
    ∃ t, exec (.bgcal r 4 ang temp e) s = .next t ∧ (t.fr r).die = (s.fr r).die ∧ t.pc r = (s.pc r + 1) % 4096 ∧
      t.rd (FRN_CNT_BGSKIP r) = BitVec.ofNat 32 (min 0xFFFFFFFF ((s.rd (FRN_CNT_BGSKIP r)).toNat + 1))) ∧
  (∀ (s : State) (r : Fin 3) (kind : BitVec 3) (ang : BitVec 24) (temp : BitVec 12) (e : Ecc),
    s.canExec r (.bgcal kind.toNat ang.toNat) = true → 5 ≤ kind.toNat →
    ∃ t, exec (.bgcal r kind ang temp e) s = .next t ∧ t.seqSt r = 3 ∧ t.flag (FRN_EVT_PROG_ERR r) = true) ∧
  (∀ (s : State) (r : Fin 3) (code : BitVec 8) (e : Ecc), s.canExec r (.event code.toNat) = true →
    ∃ t, exec (.event r code e) s = .next t ∧ .seqEvent r code.toNat (packTick (s.countOp r).frnTick) ∈ t.out ∧ t.seqEvs = [] ∧
      t.pc r = (s.pc r + 1) % 4096) ∧
  (∀ (s : State) (r : Fin 3) (target : BitVec 12) (e : Ecc), s.canExec r (.jump target.toNat) = true →
    ∃ t, exec (.jump r target e) s = .next t ∧ t.pc r = target.toNat ∧ (t.fr r).wait = .none) ∧
  (∀ (s : State) (r : Fin 3) (target : BitVec 12) (len pos : BitVec 8) (e : Ecc),
    s.canExec r (.jcyc target.toNat len.toNat pos.toNat) = true →
    ∃ t, exec (.jcyc r target len pos e) s = .next t ∧
      t.pc r = if s.frnTurnNo % (len.toNat + 1) = pos.toNat then target.toNat else (s.pc r + 1) % 4096) ∧
  (∀ (s : State) (r : Fin 3) (ang : BitVec 24) (ch prof : BitVec 4) (u : Nat) (e : Ecc),
    s.canExec r (.rxwin ang.toNat ch.toNat prof.toNat) = true → 3 ≤ s.frnSt r → s.rxProfile r prof.toNat 4 % 2 = 1 →
    s.resolve ang.toNat = some u →
    (u ≠ s.frnTick → ∃ t, exec (.rxwin r ang ch prof e) s = .next t ∧ t.frnSt r = 4 ∧
      (t.fr r).wait = .rx (s.frnTick + 0x60) u ch.toNat prof.toNat ∧ t.pc r = s.pc r) ∧
    (u = s.frnTick → exec (.rxwin r ang ch prof e) s = .next (s.seqDone r e))) ∧
  (∀ (s : State) (r : Fin 3) (ang : BitVec 24) (ch prof : BitVec 4) (e : Ecc),
    s.canExec r (.rxwin ang.toNat ch.toNat prof.toNat) = true → s.rxProfile r prof.toNat 4 % 2 = 0 →
    ∃ t, exec (.rxwin r ang ch prof e) s = .next t ∧ t.seqSt r = 3 ∧ t.flag (FRN_EVT_PROG_ERR r) = true) ∧
  (∀ (s : State) (r : Fin 3) (dl en : BitVec 24) (ch q : BitVec 4) (e : Ecc),
    s.canExec r (.txq dl.toNat en.toNat ch.toNat q.toNat) = true → (s.mayTake r q.toNat).1 = [] →
    exec (.txq r dl en ch q e) s = .next (s.seqDone r e).deliverReturns) ∧
  (∀ (s : State) (r : Fin 3) (dl en : BitVec 24) (ch q : BitVec 4) (d u : Nat) (f : TxFrame) (l b : List TxFrame) (e : Ecc),
    s.canExec r (.txq dl.toNat en.toNat ch.toNat q.toNat) = true → s.retq = [] → (s.fr r).ppdu = none →
    s.mayTake r q.toNat = (f :: l, b) → s.resolve dl.toNat = some d → s.resolve en.toNat = some u → 3 ≤ s.frnSt r → s.txOk r = true →
    s.headSends r f = true → s.flag (FRN_STAT_ACT_LOCK r) = true → s.frnTick + s.txBudget r < d →
    ∃ t, exec (.txq r dl en ch q e) s = .next t ∧ t.frnSt r = 5 ∧ t.queue r q.toNat = (s.txGroup r f l).2 ++ b ∧
      .airTx r (s.frnTick + s.txBudget r) ch.toNat (s.pwrMax r) (unitsOf (s.txGroup r f l).1) ∈ t.out ∧
      (t.fr r).ppdu = some { start := s.frnTick + s.txBudget r
                             end_ := s.frnTick + s.txBudget r + f.air.dur.toNat
                             units := unitsOf (s.txGroup r f l).1
                             chains := ch.toNat
                             queue := q.toNat }) ∧
  (∀ (s : State) (r : Fin 3) (dl en : BitVec 24) (ch q : BitVec 4) (d u : Nat) (f : TxFrame) (l b : List TxFrame) (e : Ecc),
    s.canExec r (.txq dl.toNat en.toNat ch.toNat q.toNat) = true → s.flag SYS_DIE_STAT_FRN_UP = false → (s.fr r).ppdu = none →
    s.mayTake r q.toNat = (f :: l, b) → s.resolve dl.toNat = some d → s.resolve en.toNat = some u → 3 ≤ s.frnSt r → s.txOk r = true →
    s.headSends r f = true → d ≤ s.frnTick + s.txBudget r →
    ∃ t, exec (.txq r dl en ch q e) s = .next t ∧ t.retq = s.retq ++ [⟨r, .frame f, .late, none⟩] ∧ t.queue r q.toNat = l ++ b ∧
      t.flag (FRN_EVT_LATE r) = true ∧ t.pc r = (s.pc r + 1) % 4096) ∧
  (∀ (s : State) (r : Fin 3) (dl en : BitVec 24) (ch q : BitVec 4) (f : TxFrame) (l b : List TxFrame) (e : Ecc),
    s.canExec r (.txq dl.toNat en.toNat ch.toNat q.toNat) = true → s.flag SYS_DIE_STAT_FRN_UP = false → (s.fr r).ppdu = none →
    s.mayTake r q.toNat = (f :: l, b) → (s.txOk r = false ∨ s.headSends r f = false) →
    ∃ t, exec (.txq r dl en ch q e) s = .next t ∧ t.retq = s.retq ++ [⟨r, .frame f, .nochan, none⟩] ∧ t.queue r q.toNat = l ++ b ∧
      t.pc r = (s.pc r + 1) % 4096) ∧
  (∀ (s : State) (r : Fin 3) (tpl : BitVec 8) (dl dur : BitVec 24) (ch : BitVec 4) (u prof len : Nat) (e : Ecc),
    s.canExec r (.txtpl tpl.toNat dl.toNat ch.toNat) = true → s.retq = [] → (s.fr r).ppdu = none →
    s.mem (tplAddr r + 8 * tpl.toNat + 6) 1 % 2 = 1 → len = s.mem (tplAddr r + 8 * tpl.toNat + 2) 2 →
    s.mem (tplAddr r + 8 * tpl.toNat) 2 + len ≤ 0xF800 → prof = s.mem (tplAddr r + 8 * tpl.toNat + 4) 1 →
    s.txProfile r prof 6 % 2 = 1 → s.resolve dl.toNat = some u →
    s.phyOk r (s.tplPhy r tpl.toNat prof) (len + (s.tplTail r tpl.toNat).getD 0 + 4) = true → (s.tplPhy r tpl.toNat prof).fmt ≠ .wur →
    3 ≤ s.frnSt r → s.txOk r = true → s.flag (FRN_STAT_ACT_LOCK r) = true → s.frnTick + s.txBudget r < u →
    ∃ t, exec (.txtpl r tpl dl ch dur e) s = .next t ∧ t.frnSt r = 5 ∧
      (t.fr r).ppdu = some { start := s.frnTick + s.txBudget r
                             end_ := s.frnTick + s.txBudget r + dur.toNat
                             units := [.tpl tpl.toNat]
                             chains := ch.toNat }) ∧
  (∀ (s : State) (r : Fin 3) (tpl : BitVec 8) (dl dur : BitVec 24) (ch : BitVec 4) (e : Ecc),
    s.canExec r (.txtpl tpl.toNat dl.toNat ch.toNat) = true → s.retq = [] →
    s.mem (tplAddr r + 8 * tpl.toNat + 6) 1 % 2 = 0 → (s.fr r).ppdu = none →
    ∃ t, exec (.txtpl r tpl dl ch dur e) s = .next t ∧ t.seqSt r = 3 ∧ t.flag (FRN_EVT_PROG_ERR r) = true) ∧
  (∀ (s : State) (r : Fin 3), (s.seqSt r = 1 ∨ s.seqSt r = 2) → (s.fr r).ppdu = none → s.retq = [] →
    ∃ t, exec (.seqMismatch r) s = .next t ∧ t.seqSt r = 3 ∧ t.flag (FRN_EVT_MISMATCH r) = true ∧
      (t.fr r).restart = s.flag (FRN_CTL_AUTO_RST r) ∧ (t.fr r).femOff = true ∧ t.get (FRN_SEQ_PC_FAULT_PC r) = s.pc r ∧
      t.rd (FRN_CNT_SEQ_ERR r) = BitVec.ofNat 32 (min 0xFFFFFFFF ((s.rd (FRN_CNT_SEQ_ERR r)).toNat + 1))) ∧
  (∀ (s : State) (r : Fin 3) (e : Ecc), (s.fr r).restart = true → s.frnRuns = true → s.spn.turnRef = s.ref → s.awake = true →
    s.entering = false → (s.fr r).coastFrom = none → s.fetches r (s.get (FRN_SEQ_ENTRY_MAIN r)) e = true →
    ∃ t, exec (.seqAutoRestart r e) s = .next t ∧ t.seqSt r = 1 ∧ t.pc r = s.get (FRN_SEQ_ENTRY_MAIN r) ∧
      (t.fr r).restart = false ∧ (t.fr r).wait = .none)

/-- R76, R79, R81 to R85, R95, R253: a PPDU received goes to the core die, or to the coast buffer while the core die is away; a
transmitted one ends, awaits its response, and what it carried returns with a status and its stamp; coasting begins, ends and reaches
its limit; and the Frond link's return. -/
def Obligations.AirEventsAndCoasting : Prop :=
  (∀ (s : State) (r : Fin 3) (p : RxPpdu) (n : BitVec 32) (c u : Nat) (k : Bool) (ms : List AirFrame), s.earliest r p = some (n, c) →
    s.activeSyn r = some k → s.extendStamp n p.tag = some u → s.hears r p k u = true → s.get UPD_STAT_TOV ≠ 2 →
    s.flag SYS_DIE_STAT_FRN_UP = true → s.retq = [] → ms = p.frames.filter (fun m => !oversize p.phy.fmt m && m.fcsOk) →
    ∃ t, exec (.ppduReceived r p) s = .next t ∧
      (t.fr r).rxEnd = some (u + p.dur.toNat + (if ms = [] then 0 else p.resp.toNat)) ∧
      ∃ l, l.Sublist (ms.filter (fun m => !toBaseband m)) ∧ t.rxq.map (·.frame) = s.rxq.map (·.frame) ++ l) ∧
  (∀ (s : State) (r : Fin 3) (p : RxPpdu) (n : BitVec 32) (c u : Nat) (k : Bool) (ms : List AirFrame), s.earliest r p = some (n, c) →
    s.activeSyn r = some k → s.extendStamp n p.tag = some u → s.hears r p k u = true →
    s.seqSt r = 2 → s.flag SYS_DIE_STAT_FRN_UP = false →
    ms = p.frames.filter (fun m => !oversize p.phy.fmt m && m.fcsOk && !toBaseband m) →
    (s.fr r).coastBytes + (ms.map (fun m => m.len.toNat)).sum ≤ 262144 →
    ∃ t, exec (.ppduReceived r p) s = .next t ∧ (t.fr r).coast.map (·.frame) = (s.fr r).coast.map (·.frame) ++ ms ∧
      (t.fr r).coastBytes = (s.fr r).coastBytes + (ms.map (fun m => m.len.toNat)).sum ∧ t.rxq = s.rxq) ∧
  (∀ (s : State) (r : Fin 3) (p : TxPpdu) (e : Ecc), (s.fr r).ppdu = some p → p.await = none → p.barred = false →
    (∀ a, p.air = some a → a.resp = 0) → s.flag SYS_DIE_STAT_FRN_UP = false →
    ∃ t, exec (.ppduTxEnd r e) s = .next t ∧ ∀ x ∈ p.units, x.owes = true → ⟨r, x, .ok, some (s.txStamp r p.start p.chains)⟩ ∈ t.retq) ∧
  (∀ (s : State) (r : Fin 3) (p : TxPpdu) (e : Ecc), (s.fr r).ppdu = some p → p.barred = true → s.flag SYS_DIE_STAT_FRN_UP = false →
    ∃ t, exec (.ppduTxEnd r e) s = .next t ∧ ∀ x ∈ p.units, x.owes = true → ⟨r, x, .nochan, none⟩ ∈ t.retq) ∧
  (∀ (s : State) (r : Fin 3) (p : TxPpdu) (a : AirTime) (e : Ecc), (s.fr r).ppdu = some p → p.await = none → p.barred = false →
    p.air = some a → a.resp ≠ 0 → s.retq = [] →
    ∃ t, exec (.ppduTxEnd r e) s = .next t ∧ (t.fr r).ppdu = some { p with await := some (p.end_ + a.tmo.toNat) } ∧
      t.frnSt r = 4 ∧ t.retq = []) ∧
  (∀ (s : State) (r : Fin 3) (p : TxPpdu) (a : AirTime) (n : Nat) (lost : List Nat) (e : Ecc), (s.fr r).ppdu = some p →
    p.await = some n → p.air = some a → s.flag SYS_DIE_STAT_FRN_UP = false →
    ((s.fr r).deaf ≤ p.end_ + a.sifs.toNat →
      ∃ t, exec (.responseReceived r lost e) s = .next t ∧ ∀ (i : Nat) (x : TxUnit), (p.units.filter TxUnit.owes)[i]? = some x →
      ⟨r, x, if lost.contains i then .noack else .ok, some (s.txStamp r p.start p.chains)⟩ ∈ t.retq) ∧
    ∃ t, exec (.responseTimeout r e) s = .next t ∧ ∀ x ∈ p.units, x.owes = true →
      ⟨r, x, .noack, some (s.txStamp r p.start p.chains)⟩ ∈ t.retq) ∧
  (∀ (s : State) (r : Fin 3) (e : Ecc), (s.fr r).coastAt = some s.frnTurnNo → s.spn.turnRef = s.ref → s.seqSt r = 1 →
    s.fetches r (s.get (FRN_SEQ_ENTRY_COAST r)) e = true →
    ∃ t, exec (.coastStart r e) s = .next t ∧ t.seqSt r = 2 ∧ t.pc r = s.get (FRN_SEQ_ENTRY_COAST r) ∧
      (t.fr r).coastFrom = some s.frnTick ∧ (t.fr r).coastAt = none) ∧
  (∀ (s : State) (r : Fin 3) (e : Ecc), (s.fr r).coastEnd = some s.frnTurnNo → s.spn.turnRef = s.ref → s.seqSt r = 2 →
    s.upd.coastLoad.contains r = false → s.fetches r (s.get (FRN_SEQ_ENTRY_MAIN r)) e = true →
    ∃ t, exec (.coastEnd r e) s = .next t ∧ t.seqSt r = 1 ∧ t.pc r = s.get (FRN_SEQ_ENTRY_MAIN r) ∧
      (t.fr r).coastFrom = none ∧ (t.fr r).coastEnd = none) ∧
  (∀ (s : State) (r : Fin 3) (n : Nat), (s.fr r).coastFrom = some n →
    (s.seqSt r = 2 ∨ s.seqSt r = 3 ∧ (s.fr r).coastRan = true) → (s.fr r).coastEnd = none →
    ∃ t, exec (.coastLimit r) s = .next t ∧ t.seqSt r = 3 ∧ t.flag (FRN_EVT_COAST_LIMIT r) = true ∧ (t.fr r).femOff = true ∧
      (t.fr r).ppdu = none) ∧
  (∀ (s : State) (r : Fin 3), (s.fr r).coastEnd.isSome = true → exec (.coastLimit r) s = .next s) ∧
  (∀ (s : State) (l0 l1 l2 : BitVec 14), s.flag SYS_DIE_STAT_FRN_UP = false → s.upd.area = none →
    ∃ t, exec (.frondLinkReturn l0 l1 l2) s = .next t ∧ t.retq = [] ∧
      ∀ r : Fin 3, (t.fr r).coast = [] ∧ ∀ q, t.queue r q = []) ∧
  (∀ (s : State) (l0 l1 l2 : BitVec 14), s.flag SYS_DIE_STAT_FRN_UP = true → exec (.frondLinkReturn l0 l1 l2) s = .next s)

/-! ## Scheduled access (spec/05_scheduled_access.md) -/

/-- R21, R22, R98 to R100, R101 to R104, R108, R120, R123: a station that associates takes a free AID; the context commands read, write
and free a
context or are refused; a context dormant, woken or past its service period. The device is in no cluster here. -/
def Obligations.StationContexts : Prop :=
  (∀ (s : State) (r : Fin 3) (mac link : BitVec 48) (fl : BitVec 5) (mm : BitVec 16) (ma : BitVec 32) (li : BitVec 16) (ns : BitVec 3)
      (tids : BitVec 8) (em : BitVec 16) (k : Bool), s.clockOn = true → s.get CLU_STAT_STATE = 0 → s.rflag r 0 = true →
        s.activeSyn r = some k → s.upPeers = [] →
    s.aids.find? (fun a => decide (s.mac a = mac.toNat)) = none → s.aids.length < 8191 →
    ∃ (t : State) (aid : Nat), exec (.associationRequest r mac link tids [] fl mm ma li ns em []) s = .next t ∧ 1 ≤ aid ∧ aid ≤ 8191 ∧
      s.cxState aid = 0 ∧
      t.cxState aid = 1 ∧ t.mac aid = mac.toNat ∧ t.member aid r.val = true ∧ t.memberCount aid = 1 ∧ t.mr aid (6 * r.val) 6 = link.toNat ∧
      t.mr aid (18 + r.val) 1 = tids.toNat ∧
      t.acc.cache.head? = some aid ∧ t.out = s.out ++ [.assocResp r mac.toNat 0 aid []]) ∧
  (∀ (s : State) (r : Fin 3) (mac link : BitVec 48) (fl : BitVec 5) (mm : BitVec 16) (ma : BitVec 32) (li : BitVec 16) (ns : BitVec 3)
      (tids : BitVec 8) (em : BitVec 16) (k : Bool) (elem : List Byte) (others : List SetupLink), s.clockOn = true →
        s.get CLU_STAT_STATE = 0 → s.rflag r 0 = true → s.activeSyn r = some k →
    s.aids.find? (fun a => decide (s.mac a = mac.toNat)) = none → 8191 ≤ s.aids.length →
    ∃ (t : State) (st : Nat), exec (.associationRequest r mac link tids others fl mm ma li ns em elem) s = .next t ∧
      t.flag ACC_EVT_AID_FULL = true ∧
      t.ctx = s.ctx ∧ t.out = s.out ++ [.assocResp r mac.toNat st 0 []] ∧
      t.rd ACC_CNT_AID_FULL = BitVec.ofNat 32 (min 0xFFFFFFFF ((s.rd ACC_CNT_AID_FULL).toNat + 1))) ∧
  (∀ s : State, s.reach none ACC_CTX_CMD = .made → s.get CLU_STAT_STATE = 0 → s.get ACC_CTX_SEL_AID ≠ 0 →
    ∃ t, exec (.ctxRead 1) s = .next t ∧ t.flag ACC_CTX_STAT_ERR = false ∧ t.ctx = s.ctx ∧
      t.memBytes ctxData 256 = bytesGet zeroByte s.ctx (256 * s.get ACC_CTX_SEL_AID) 256 ∧
      t.flag ACC_CTX_STAT_HIT = s.acc.cache.contains (s.get ACC_CTX_SEL_AID) ∧ t.acc.cache.head? = some (s.get ACC_CTX_SEL_AID)) ∧
  (∀ (s : State) (a : Nat), s.reach none ACC_CTX_CMD = .made → s.get CLU_STAT_STATE = 0 → a = s.get ACC_CTX_SEL_AID → a ≠ 0 →
    intervalOk (s.mem (ctxData + 72) 6) = true → s.mem (ctxData + 88) 4 % 16 = 0 →
    ∃ t, exec (.ctxWrite 2) s = .next t ∧ t.flag ACC_CTX_STAT_ERR = false ∧ t.cxState a = s.mem (ctxData + 2) 1 ∧
      t.mac a = s.mem (ctxData + 4) 6 ∧ t.cx a 72 6 = s.mem (ctxData + 72) 6 ∧ t.cx a 32 4 = s.cx a 32 4 ∧ t.cx a 196 14 = s.cx a 196 14) ∧
  (∀ (s : State) (a : Nat), s.reach none ACC_CTX_CMD = .made → s.get CLU_STAT_STATE = 0 → a = s.get ACC_CTX_SEL_AID → a ≠ 0 →
    s.cxState a ≠ 0 →
    ∃ t, exec (.ctxFree 8) s = .next t ∧ t.flag ACC_CTX_STAT_ERR = false ∧ t.cxState a = 0 ∧ a ∉ t.acc.cache ∧
      ∀ tid < 9, t.stq a tid = []) ∧
  (∀ s : State, s.reach none ACC_CTX_CMD = .made → s.get CLU_STAT_STATE = 0 → s.get ACC_CTX_SEL_AID ≠ 0 →
    ∃ t, exec (.ctxFlush 16) s = .next t ∧ t.flag ACC_CTX_STAT_ERR = false ∧ t.ctx = s.ctx ∧ t.acc = s.acc) ∧
  (∀ (s : State) (cmd : BitVec 5), s.reach none ACC_CTX_CMD = .made → s.get CLU_STAT_STATE = 0 → s.get ACC_CTX_SEL_AID = 0 →
    ∀ c ∈ [Instr.ctxRead cmd, .ctxWrite cmd, .ctxFree cmd, .ctxFlush cmd],
      ∃ t, exec c s = .next t ∧ t.flag ACC_CTX_STAT_ERR = true ∧ t.flag ACC_EVT_CTX_ERR = true ∧ t.ctx = s.ctx ∧ t.acc = s.acc) ∧
  (∀ (s : State) (aid : BitVec 13), s.clockOn = true → s.atTurnStart = true → s.cxState aid.toNat = 1 →
    atLeast1 (s.get ACC_STA_CFG_DORMANT_TURNS) ≤ s.turn -
      max (SMap.get (fun _ => 0) s.acc.assocTurn aid.toNat) (unpackTick (s.cx aid.toNat 52 8) / turnTicks) →
    ∃ t, exec (.stationDormant aid) s = .next t ∧ t.cxBit aid.toNat 11 2 = true ∧ t.cxBit aid.toNat 11 0 = s.cxBit aid.toNat 11 0 ∧
      t.regs = s.regs ∧ t.mlk = s.mlk) ∧
  (∀ (s : State) (aid : BitVec 13), s.atTurnStart = false → exec (.stationDormant aid) s = .next s) ∧
  (∀ (s : State) (aid : BitVec 13) (a : Nat), s.clockOn = true → s.placing = true → a = aid.toNat → s.cx a 72 6 ≠ 0 → s.cxState a ≠ 0 →
    ∃ t, exec (.servicePeriodEnd aid) s = .next t ∧ t.cx a 64 8 = packTick (unpackTick (s.cx a 64 8) + s.cx a 72 6) ∧
      t.cx a 178 2 = (if SMap.get (fun _ => none) s.acc.seenIn a = some (unpackTick (s.cx a 64 8)) then s.cx a 178 2
        else min 65535 (s.cx a 178 2 + 1)) ∧ t.cxState a = s.cxState a ∧ t.regs = s.regs) ∧
  (∀ (s : State) (aid : BitVec 13), s.clockOn = true → s.placing = true → s.cxBit aid.toNat 11 4 = true → s.cx aid.toNat 88 4 ≠ 0 →
    ∃ t, exec (.wokeExpiry aid) s = .next t ∧ t.cxBit aid.toNat 11 4 = false ∧ t.cxBit aid.toNat 11 3 = s.cxBit aid.toNat 11 3 ∧
      t.regs = s.regs) ∧
  (∀ (s : State) (aid : BitVec 13), (s.cxBit aid.toNat 11 4 = false ∨ s.placing = false) → exec (.wokeExpiry aid) s = .next s) ∧
  (∀ (s : State) (aid : BitVec 13), s.placing = false → exec (.servicePeriodEnd aid) s = .next s)

/-- R109 to R114, R118, R122: a bank that passes its checks is armed for a turn of its cycle, cancelled, and swapped in at that turn's
start; the half for the next turn is written before its first word lets the pair into it; disabled access leaves SYNC. -/
def Obligations.PlansAndHalves : Prop :=
  (∀ (s : State) (r : Fin 3) (bank : Bool) (len : BitVec 8) (turn : Nat), s.reach none ACC_PLAN_CMD = .made →
    turn = (s.rd ACC_PLAN_TURN_LO).toNat + 2 ^ 32 * ((s.rd ACC_PLAN_TURN_HI).toNat % 256) →
    s.bankBad r.val bank (len.toNat + 1) = false →
    ∃ t, exec (.planArm (BitVec.ofNat 2 r.val) bank len false) s = .next t ∧ t.flag (ACC_PLAN_STAT_ARMED r) = true ∧
      (¬(s.running = true ∧ turn ≤ s.turn) → t.acc.arms[r] = some ⟨bank, len.toNat + 1, cycleFrom turn (len.toNat + 1)⟩) ∧
      (s.running = true ∧ turn ≤ s.turn → t.flag ACC_EVT_SWAP_LATE = true ∧
        t.acc.arms[r] = some ⟨bank, len.toNat + 1, cycleFrom (s.turn + 1) (len.toNat + 1)⟩)) ∧
  (∀ (s : State) (r : Fin 3) (bank : Bool) (len : BitVec 8), s.reach none ACC_PLAN_CMD = .made →
    s.bankBad r.val bank (len.toNat + 1) = true →
    ∃ t, exec (.planArm (BitVec.ofNat 2 r.val) bank len false) s = .next t ∧ t.flag ACC_EVT_PLAN_BAD = true ∧ t.acc = s.acc ∧
      t.flag (ACC_PLAN_STAT_ARMED r) = s.flag (ACC_PLAN_STAT_ARMED r)) ∧
  (∀ (s : State) (r : Fin 3) (bank : Bool) (len : BitVec 8), s.reach none ACC_PLAN_CMD = .made →
    ∀ c ∈ [Instr.planArm (BitVec.ofNat 2 r.val) bank len true, .planCancel (BitVec.ofNat 2 r.val) bank len],
      ∃ t, exec c s = .next t ∧ t.acc.arms[r] = none ∧ t.flag (ACC_PLAN_STAT_ARMED r) = false ∧
        t.flag (ACC_PLAN_STAT_RUNNING r) = s.flag (ACC_PLAN_STAT_RUNNING r) ∧
        t.flag (ACC_PLAN_STAT_ACT_BANK r) = s.flag (ACC_PLAN_STAT_ACT_BANK r)) ∧
  (∀ (s : State) (bank cancel : Bool) (len : BitVec 8), s.reach none ACC_PLAN_CMD = .made →
    ∀ c ∈ [Instr.planArm 3 bank len cancel, .planCancel 3 bank len], exec c s = .next (s.hostWrote ACC_PLAN_CMD)) ∧
  (∀ (s : State) (r : Fin 3) (a : PlanArm), s.clockOn = true → s.acc.arms[r] = some a → s.atTurnStart = true → a.turn ≤ s.turn →
    s.turn % a.len = 0 → 1 ≤ a.len → a.len ≤ 256 →
    ∃ t, exec (.planSwap r) s = .next t ∧ t.acc.arms[r] = none ∧ t.flag (ACC_PLAN_STAT_ARMED r) = false ∧
      t.flag (ACC_PLAN_STAT_ACT_BANK r) = a.bank ∧ t.flag (ACC_PLAN_STAT_RUNNING r) = true ∧ t.planLen r.val = a.len ∧
      t.plan r.val = s.bank r.val a.bank) ∧
  (∀ (s : State) (r : Fin 3), (s.acc.arms[r] = none ∨ s.atTurnStart = false) → exec (.planSwap r) s = .next s) ∧
  (∀ (s : State) (r : Fin 3) (took dur : BitVec 24) (h : Nat), s.clockOn = true → s.flag SYS_DIE_STAT_FRN_UP = true →
    s.flag ACC_CTL_EN = true → s.placing = true →
    s.serving = true → 16 ≤ s.genHalf r → s.genBase r + 2 * s.genHalf r ≤ 4096 →
    s.get CLU_STAT_STATE ≠ 5 → s.get ACC_CTL_LINK_EN / 2 ^ r.val % 2 = 1 → h = s.genBase r + (s.turn + 1) % 2 * s.genHalf r →
    s.angle + took.toNat < (s.rd ACC_GEN_DONE).toNat % 2 ^ 24 →
    ∃ t, exec (.generateHalf r took dur) s = .next t ∧ t.acc.genTurn[r] = some (s.turn + 1) ∧ t.progWord r h = wJump (h + 2)) ∧
  (∀ (s : State) (r : Fin 3) (took dur : BitVec 24), s.clockOn = true → s.flag ACC_CTL_EN = true → s.placing = true →
    s.serving = true → 16 ≤ s.genHalf r → s.genBase r + 2 * s.genHalf r ≤ 4096 →
    s.get CLU_STAT_STATE ≠ 5 → s.get ACC_CTL_LINK_EN / 2 ^ r.val % 2 = 0 →
    ∃ t, exec (.generateHalf r took dur) s = .next t ∧ t.acc = s.acc ∧ (s.flag SYS_DIE_STAT_FRN_UP = false → t = s) ∧
      (s.flag SYS_DIE_STAT_FRN_UP = true → t.progWord r (s.genBase r + (s.turn + 1) % 2 * s.genHalf r) = wSync)) ∧
  (∀ (s : State) (r : Fin 3) (took dur : BitVec 24), (s.flag ACC_CTL_EN = false ∨ s.placing = false ∨ s.serving = false ∨
      s.get CLU_STAT_STATE = 5) →
    exec (.generateHalf r took dur) s = .next s) ∧
  (∀ (s : State) (r : Fin 3), (s.get CLU_STAT_STATE = 5 ∨ s.placing = false) → exec (.genDeadline r) s = .next s) ∧
  (∀ (s : State) (r : Fin 3), s.clockOn = true → s.flag ACC_CTL_EN = true → s.placing = true → s.get CLU_STAT_STATE ≠ 5 →
    s.get ACC_CTL_LINK_EN / 2 ^ r.val % 2 = 1 →
    16 ≤ s.genHalf r → s.genBase r + 2 * s.genHalf r ≤ 4096 →
    ∃ t, exec (.genDeadline r) s = .next t ∧
      (s.acc.genTurn[r] = some (s.turn + 1) → t.regs = s.regs ∧ t.bar = s.bar) ∧
      (s.acc.genTurn[r] ≠ some (s.turn + 1) → t.flag ACC_EVT_GEN_LATE = true ∧
        (s.flag SYS_DIE_STAT_FRN_UP = true → t.progWord r (s.genBase r + (s.turn + 1) % 2 * s.genHalf r) = wSync) ∧
        t.rd ACC_CNT_GEN_LATE = BitVec.ofNat 32 (min 0xFFFFFFFF ((s.rd ACC_CNT_GEN_LATE).toNat + 1)))) ∧
  (∀ (s : State) (en : Bool) (links : BitVec 3), s.reach none ACC_CTL = .made →
    ∃ t, exec (.accCtlWrite en links) s = .next t ∧ t.flag ACC_CTL_EN = en ∧ t.get ACC_CTL_LINK_EN = links.toNat ∧
      (en = true → t.bar = s.bar) ∧
      (en = false → s.flag SYS_DIE_STAT_FRN_UP = false → t.bar = s.bar) ∧
      (en = false → s.flag SYS_DIE_STAT_FRN_UP = true → ∀ r : Fin 3, s.genHalf r ≠ 0 → t.progWord r (s.genBase r) = wSync ∧
        t.progWord r (s.genBase r + s.genHalf r) = wSync)) ∧
  (∀ (s u : State) (r : Fin 3) (air : BitVec 24) (x : Window × Nat × Nat) (a room : Nat) (b : List Byte), s.clockOn = true →
    s.placing = true → s.nextBeacon r = some x → u = s.toAbsTick (x.2.1 - (s.rd ACC_BCN_LEAD).toNat % 2 ^ 24) →
    b = (u.beaconOf r x.1 x.2.1 (x.2.1 + air.toNat)).2.bytes → s.tplEnd r x.1.param = (a, room) →
    (s.flag SYS_DIE_STAT_FRN_UP = true → ∃ t, exec (.beaconBuild r air true) s = .next t ∧
      256 * r.val + x.1.param ∉ t.acc.building ∧ t.tplTail r x.1.param = some (min room b.length) ∧
      t.memBytes a (min room b.length) = b.take room) ∧
    (∃ t, exec (.beaconBuild r air false) s = .next t ∧ 256 * r.val + x.1.param ∈ t.acc.building ∧ t.bar = s.bar ∧ t.frn = s.frn) ∧
    (s.flag SYS_DIE_STAT_FRN_UP = false → ∃ t, exec (.beaconBuild r air true) s = .next t ∧
      256 * r.val + x.1.param ∈ t.acc.building ∧ t.bar = s.bar ∧ t.frn = s.frn)) ∧
  (∀ (s : State) (r : Fin 3) (air : BitVec 24) (fin : Bool), (s.placing = false ∨ s.nextBeacon r = none) →
    exec (.beaconBuild r air fin) s = .next s)

/-- R96, R101, R115, R117, R124 to R127, R130: a frame received finds its station, waits for its context, or is a stranger's; a frame
toward a station is queued, dropped over its limit or its lifetime, and leaves for a radio under the braid's numbers; the uplink
follows its beacons, is lost after three misses, and is given up. -/
def Obligations.StationFramesAndUplink : Prop :=
  (∀ (s : State) (x : RxItem) (l : List RxItem), s.clockOn = true → s.rxq = x :: l → x.frame.kind ≠ .flood → s.handedOut = none →
    s.rxAid x.radio.val x.frame = none →
    ∃ (t : State) (p : Packet), exec .stationFrameRx s = .next t ∧ t.rxq = l ∧ t.prsq = s.prsq ++ [p] ∧ p.chain = x.chain ∧
      p.unassoc = true ∧
      t.flag MLK_EVT_NOLINK = true) ∧
  (∀ (s : State) (x : RxItem) (l : List RxItem) (aid : Nat), s.clockOn = true → s.rxq = x :: l → x.frame.kind ≠ .flood →
    s.handedOut = none →
    s.rxAid x.radio.val x.frame = some aid → s.acc.cache.contains aid = false → s.acc.fetching.any (fun w => w.1 == aid) = false →
    ∃ t, exec .stationFrameRx s = .next t ∧ t.rxq = l ∧ t.acc.fetching = s.acc.fetching ++ [(aid, x)] ∧ t.ctx = s.ctx ∧
      t.rd ACC_CNT_CACHE_MISS = BitVec.ofNat 32 (min 0xFFFFFFFF ((s.rd ACC_CNT_CACHE_MISS).toNat + 1))) ∧
  (∀ (s : State) (x : RxItem) (l : List RxItem) (aid : Nat), s.clockOn = true → s.rxq = x :: l → x.frame.kind ≠ .flood →
    x.frame.kind ≠ .ctrl →
    s.handedOut = none → s.rxAid x.radio.val x.frame = some aid → s.acc.cache.contains aid = true →
    s.acc.fetching.any (fun w => w.1 == aid) = false →
    s.cx aid (128 + 4 * dupEntry x.frame) 4 / 2 ^ 18 % 2 = 0 →
    ∃ t, exec .stationFrameRx s = .next t ∧ t.rxq = l ∧ t.cipq = s.cipq ++ [{ item := x, aid := aid }] ∧
      t.cx aid 168 4 = min 0xFFFFFFFF (s.cx aid 168 4 + 1) ∧ t.acc.cache.head? = some aid) ∧
  (∀ (s : State) (aid : BitVec 13), s.clockOn = true → s.acc.fetching.any (fun w => w.1 == aid.toNat) = true →
    ∃ t, exec (.contextFetchDone aid) s = .next t ∧ t.acc.fetching = s.acc.fetching.filter (fun w => w.1 != aid.toNat) ∧
      t.acc.cache.head? = some aid.toNat) ∧
  (∀ (s : State) (aid : BitVec 13), s.acc.fetching.any (fun w => w.1 == aid.toNat) = false →
    exec (.contextFetchDone aid) s = .next s) ∧
  (∀ (s : State) (aid : BitVec 13) (tid : BitVec 4) (len : BitVec 14) (mg ro ea : Bool) (air : AirTime) (data : List Byte) (id a q :
    Nat), s.clockOn = true →
    (s.alloc ownAcc len.toNat data).2 = some id → a = s.braidAid aid.toNat → a ≠ 0 → s.cxState a ≠ 0 →
    len.toNat ≤ s.mpduLimit a [0, 1, 2] → q = (if mg then 8 else min tid.toNat 8) →
    ∃ (t : State) (f : TxFrame), exec (.stationEnqueue aid tid len mg ro ea air data) s = .next t ∧ t.stq a q = s.stq a q ++ [f] ∧
      f.len = len.toNat ∧
      f.chain = id ∧ f.aid = a ∧ f.tid = q ∧ f.turn = s.turn ∧ t.cxBit a 11 3 = true) ∧
  (∀ (s : State) (aid : BitVec 13) (tid : BitVec 4) (len : BitVec 14) (mg ro ea : Bool) (air : AirTime) (data : List Byte) (id a :
    Nat), s.clockOn = true →
    (s.alloc ownAcc len.toNat data).2 = some id → a = s.braidAid aid.toNat → a ≠ 0 → s.cxState a ≠ 0 →
    s.mpduLimit a [0, 1, 2] < len.toNat →
    ∃ t, exec (.stationEnqueue aid tid len mg ro ea air data) s = .next t ∧ t.acc = s.acc ∧ t.ctx = s.ctx ∧
      t.rd ACC_CNT_TX_OVERSIZE = BitVec.ofNat 32 (min 0xFFFFFFFF ((s.rd ACC_CNT_TX_OVERSIZE).toNat + 1))) ∧
  (∀ (s : State) (r : Fin 3) (tid : BitVec 4) (air : AirTime) (w : Window) (a b p : Nat) (f : TxFrame), s.clockOn = true →
    s.flag SYS_DIE_STAT_FRN_UP = true → s.retq = [] → s.placing = true →
    (s.windowOf r (s.absTick + 0x80)).orElse (fun _ => s.windowOf r s.absTick) = some (w, a, b) → w.kind ≠ 8 → w.kind ≠ 7 →
    w.tx = true → s.placementNow r w a = some p →
    ((s.serveOrder r w a p).filter (fun x => s.nstrFree r x.aid)).findSome? (s.nextOf r tid.toNat w b p air) = some f →
    f.isBar = false → f.pn = none → f.aid ≠ 0 → s.cx f.aid 24 2 / 2 ^ 15 ≠ 1 →
    ∃ (t : State) (g : TxFrame), exec (.frondQueueFill r tid air) s = .next t ∧ t.ciptx = s.ciptx ++ [(r, g)] ∧ g.fid = f.fid ∧
      g.sn = some (f.sn.getD (s.txSn f.aid f.tid)) ∧
      t.stq f.aid f.tid = (s.stq f.aid f.tid).filter (fun h => h.fid != f.fid)) ∧
  (∀ (s : State) (r : Fin 3) (tid : BitVec 4) (air : AirTime), s.retq = [] →
    (s.flag SYS_DIE_STAT_FRN_UP = false ∨ s.placing = false) → exec (.frondQueueFill r tid air) s = .next s) ∧
  (∀ (s : State) (aid : BitVec 13) (tid : BitVec 4), s.clockOn = true →
    ∃ t, exec (.frameLifetimeExpiry aid tid) s = .next t ∧
      ∀ f ∈ t.stq aid.toNat tid.toNat, f.isBar = true ∨ s.turn < f.turn + atLeast1 (s.get ACC_RETRY_LIFE)) ∧
  (∀ (s : State) (tsf : BitVec 64) (lead bi : BitVec 16) (dt : BitVec 24) (x : Nat × Nat), s.clockOn = true →
    s.upWindow (s.absTick + dt.toNat) = some x → s.get ACC_UP_STAT_STATE = 2 ∨ s.get ACC_UP_STAT_STATE = 1 ∧ s.acc.upBi = 0 →
    ∃ t, exec (.uplinkBeacon tsf lead bi dt) s = .next t ∧ t.get ACC_UP_STAT_STATE = 1 ∧ t.get ACC_UP_STAT_MISS = 0 ∧
      t.acc.upBi = bi.toNat * 1024 * 16) ∧
  (∀ (s : State) (tsf : BitVec 64) (lead bi : BitVec 16) (dt : BitVec 24), s.clockOn = true → s.upWindow (s.absTick + dt.toNat) = none →
    ∃ t, exec (.uplinkBeacon tsf lead bi dt) s = .next t ∧ t.regs = s.regs ∧ t.acc = s.acc) ∧
  (∀ (s : State) (n : Nat), s.clockOn = true → s.placing = true → s.get ACC_UP_STAT_STATE = 1 → s.acc.upBi ≠ 0 → s.upNext = some n →
    ∃ t, exec .uplinkMiss s = .next t ∧ t.acc.upTbtt = n + s.acc.upBi ∧ t.flag ACC_EVT_UP_MISS = true ∧
      t.get ACC_UP_STAT_MISS = min 3 (s.get ACC_UP_STAT_MISS + 1) ∧
      t.get ACC_UP_STAT_STATE = (if 2 ≤ s.get ACC_UP_STAT_MISS then 2 else 1) ∧
      (2 ≤ s.get ACC_UP_STAT_MISS → t.flag ACC_EVT_UP_LOST = true)) ∧
  (∀ s : State, s.retq = [] → (s.placing = false ∨ s.upNext = none) → exec .uplinkMiss s = .next s) ∧
  (∀ s : State, s.clockOn = true → s.get ACC_UP_STAT_STATE = 2 →
    (∃ t, exec .uplinkHoldExpiry s = .next t ∧ t.get ACC_UP_STAT_STATE = 2 ∧ t.stq 0 15 = []) ∧
    ∃ t, exec .uplinkSearchExpiry s = .next t ∧ t.get ACC_UP_STAT_STATE = 3 ∧ t.flag ACC_EVT_UP_DOWN = true ∧ t.stq 0 15 = []) ∧
  (∀ s : State, s.get ACC_UP_STAT_STATE ≠ 2 → exec .uplinkHoldExpiry s = .next s ∧ exec .uplinkSearchExpiry s = .next s) ∧
  (∀ (s : State) (ap : BitVec 48), s.clockOn = true → s.get ACC_UP_CFG_RADIO < 3 → (s.get ACC_UP_STAT_STATE = 0 ∨
    s.get ACC_UP_STAT_STATE = 3) →
    ∃ t, exec (.uplinkAssociated ap) s = .next t ∧ t.get ACC_UP_STAT_STATE = 1 ∧ t.get ACC_UP_STAT_MISS = 0) ∧
  (∀ (s : State) (ap : BitVec 48), (s.get ACC_UP_STAT_STATE = 1 ∨ s.get ACC_UP_STAT_STATE = 2) →
    exec (.uplinkAssociated ap) s = .next s)

/-! ## Braided links and the flood (spec/06_braided_links.md, spec/07_flood_relay.md) -/

/-- R136, R137, R140 to R145, R147: the commands on a member; a Block Ack agreement begins within the pool, and ends; frames pass
upward in the order of the reorder buffer, a Block Ack Request moves its window, and its holes time out or are marked. -/
def Obligations.BraidedLinks : Prop :=
  (∀ (s : State) (l : Fin 3) (a : Nat), s.reach none MLK_CMD = .made → s.flag SYS_DIE_STAT_FRN_UP = false → a = s.get MLK_CMD_SEL_AID →
    a ≠ 0 → s.get MLK_CMD_SEL_LID = l.val → s.member a l.val = true → 1 < s.memberCount a →
    (∃ t, exec (.suspend 1) s = .next t ∧ t.flag MLK_CMD_STAT_ERR = false ∧ t.susp a l.val = true ∧ t.member a l.val = true ∧
      ∀ q, t.queue l q = (s.queue l q).filter (fun f => f.aid != a) ∧
        ∀ f ∈ s.queue l q, f.aid = a →
          ⟨l, .frame { f with recalled := true, first := if f.last = none then none else f.first }, .nochan, none⟩ ∈ t.retq) ∧
    (∃ t, exec (.remove 4) s = .next t ∧ t.flag MLK_CMD_STAT_ERR = false ∧ t.member a l.val = false ∧ t.mr a (6 * l.val) 6 = 0 ∧
      ∀ q, t.queue l q = (s.queue l q).filter (fun f => f.aid != a)) ∧
    ∃ t, exec (.resume 2) s = .next t ∧ t.flag MLK_CMD_STAT_ERR = false ∧ t.member a l.val = true ∧ t.frn = s.frn ∧
      t.susp a l.val = (s.upHeld a l.val && s.susp a l.val)) ∧
  (∀ s : State, s.reach none MLK_CMD = .made → s.flag SYS_DIE_STAT_FRN_UP = false → s.get MLK_CMD_SEL_AID ≠ 0 →
    ∃ t, exec (.braidRead 8) s = .next t ∧ t.flag MLK_CMD_STAT_ERR = false ∧ t.mlk = s.mlk ∧ t.ctx = s.ctx ∧
      t.memBytes 0x131000 256 = bytesGet zeroByte s.mlk (256 * s.get MLK_CMD_SEL_AID) 256) ∧
  (∀ (s : State) (cmd : BitVec 4), s.reach none MLK_CMD = .made → s.flag SYS_DIE_STAT_FRN_UP = false → s.get MLK_CMD_SEL_AID = 0 →
    ∀ c ∈ [Instr.suspend cmd, .resume cmd, .remove cmd, .braidRead cmd],
      ∃ t, exec c s = .next t ∧ t.flag MLK_CMD_STAT_ERR = true ∧ t.flag MLK_EVT_CMD_ERR = true ∧ t.ctx = s.ctx ∧ t.mlk = s.mlk ∧
        t.frn = s.frn) ∧
  (∀ (s : State) (r : Fin 3) (ta : BitVec 48) (tid : BitVec 3) (ssn size : BitVec 12) (a lim req want n e : Nat), s.clockOn = true →
    s.aidOf r.val ta = some a → s.cxBit a 194 tid.toNat = false → lim = s.baLimit a →
    req = (if size = 0 then lim else size.toNat) → want = (if req < 16 then 16 else min req lim / 16 * 16) →
    s.fitPool 12 want = some (n, e) →
    ∃ t, exec (.addbaRequest r ta tid ssn size) s = .next t ∧ t.cxBit a 194 tid.toNat = true ∧ t.wstart a tid.toNat = ssn.toNat ∧
      t.wsize a tid.toNat = n ∧ t.entAt a tid.toNat = e ∧ t.held a tid.toNat = 0 ∧ n ≤ want ∧
      t.get MLK_STAT_RB_FREE = s.get MLK_STAT_RB_FREE - n ∧
      t.out = s.out ++ [.addbaResp a tid.toNat 0 (if req < 16 then req else n)]) ∧
  (∀ (s : State) (r : Fin 3) (ta : BitVec 48) (tid : BitVec 3) (ssn size : BitVec 12), s.aidOf r.val ta = none →
    exec (.addbaRequest r ta tid ssn size) s = .next s) ∧
  (∀ (s : State) (r : Fin 3) (ta : BitVec 48) (tid : BitVec 3) (a : Nat), s.clockOn = true → s.aidOf r.val ta = some a →
    (∃ t, exec (.agreementEnd r ta tid true) s = .next t ∧ t.cxBit a 195 tid.toNat = false ∧ t.txw a tid.toNat = (0, 0, false) ∧
      t.regs = s.regs) ∧
    (s.cxBit a 194 tid.toNat = true →
      ∃ t, exec (.agreementEnd r ta tid false) s = .next t ∧ t.cxBit a 194 tid.toNat = false ∧ t.wsize a tid.toNat = 0 ∧
        t.held a tid.toNat = 0 ∧ t.settleOf a tid.toNat = none)) ∧
  (∀ (s : State) (x : RxStage) (l : List RxStage) (y : RxItem), s.clockOn = true → s.mlkq = x :: l → (s.cluSt = cluLead → s.reports = []) →
    (s.flag MLK_CTL_EN = true ∧ s.underBa x.aid x.item.frame = false ∨ s.flag MLK_CTL_EN = false ∧ s.memberCount x.aid ≤ 1) →
    (x.item.frame.kind = .qos → x.item.frame.prot = true → (x.unchecked = true ∨ s.rflagBit x.aid x.item.frame.tid.toNat 3 = true) →
      s.lastPn x.aid x.item.frame.tid.toNat < x.item.frame.pn.toNat) →
    (s.reassemble x.aid x.item).2 = some y → (y.frame.body = x.item.frame.body ∨ (s.refit ownMlk y.chain y.frame.body).2 = true) →
    x.item.frame.kind ≠ .leave →
    ∃ (t : State) (p : Packet), exec .reorderRx s = .next t ∧ t.mlkq = l ∧ t.prsq = s.prsq ++ [p] ∧ p.chain = x.item.chain ∧ p.aid = x.aid ∧
      t.cx x.aid (128 + 4 * dupEntry x.item.frame) 4 = dupWord x.item.frame x.item.radio.val) ∧
  (∀ (s : State) (x : RxStage) (l : List RxStage), s.clockOn = true → s.mlkq = x :: l → (s.cluSt = cluLead → s.reports = []) →
    s.flag MLK_CTL_EN = true → s.underBa x.aid x.item.frame = false →
    x.item.frame.kind = .qos → x.item.frame.prot = true → x.unchecked = true →
    x.item.frame.pn.toNat ≤ s.lastPn x.aid x.item.frame.tid.toNat →
    ∃ t, exec .reorderRx s = .next t ∧ t.mlkq = l ∧ t.prsq = s.prsq ∧ t.flag MLK_EVT_REPLAY = true ∧
      t.rd MLK_CNT_REPLAY = BitVec.ofNat 32 (min 0xFFFFFFFF ((s.rd MLK_CNT_REPLAY).toNat + 1))) ∧
  (∀ (s : State) (x : RxStage) (l : List RxStage) (a k tid : Nat), s.clockOn = true → s.mlkq = x :: l → (s.cluSt = cluLead →
    s.reports = []) → s.flag MLK_CTL_EN = true → a = x.aid →
    tid = x.item.frame.tid.toNat → s.underBa a x.item.frame = true → s.settleOf a tid = none →
    k = (x.item.frame.sn.toNat + 4096 - s.wstart a tid) % 4096 → 1 ≤ k → k < s.wsize a tid → k < 2048 → s.held a tid < 65535 →
    s.poolGet (s.entryIdx a tid x.item.frame.sn.toNat) = none → s.poolGet (s.entryIdx a tid (s.wstart a tid)) = none →
    ∃ t, exec .reorderRx s = .next t ∧ t.mlkq = l ∧ t.prsq = s.prsq ∧ t.held a tid = s.held a tid + 1 ∧
      t.wstart a tid = s.wstart a tid ∧ t.rflagBit a tid 1 = true ∧
      t.poolGet (s.entryIdx a tid x.item.frame.sn.toNat) = some ⟨false, x.item.radio.val, x.item.frame.pn.toNat, some x⟩) ∧
  (∀ (s : State) (x : RxStage) (l : List RxStage) (tid : Nat), s.clockOn = true → s.mlkq = x :: l → (s.cluSt = cluLead →
    s.reports = []) → s.flag MLK_CTL_EN = true →
    tid = x.item.frame.tid.toNat → s.underBa x.aid x.item.frame = true → s.settleOf x.aid tid = none →
    2048 ≤ (x.item.frame.sn.toNat + 4096 - s.wstart x.aid tid) % 4096 →
    ∃ t, exec .reorderRx s = .next t ∧ t.mlkq = l ∧ t.prsq = s.prsq ∧ t.mlk = s.mlk ∧ t.mlkx = s.mlkx ∧
      t.rd MLK_CNT_OLD = BitVec.ofNat 32 (min 0xFFFFFFFF ((s.rd MLK_CNT_OLD).toNat + 1))) ∧
  (∀ (s : State) (r : Fin 3) (ta : BitVec 48) (tid : BitVec 3) (ssn : BitVec 12) (a k : Nat), s.clockOn = true → s.aidOf r.val ta = some a →
    s.cxBit a 194 tid.toNat = true → k = (ssn.toNat + 4096 - s.wstart a tid.toNat) % 4096 → 1 ≤ k → k ≤ 2047 → s.mlkx.pool = [] →
    ∃ t, exec (.blockAckRequestRx r ta tid ssn) s = .next t ∧ t.wstart a tid.toNat = ssn.toNat ∧ t.prsq = s.prsq ∧
      t.rd MLK_CNT_HOLE_MOVE = BitVec.ofNat 32 (min 0xFFFFFFFF ((s.rd MLK_CNT_HOLE_MOVE).toNat + k))) ∧
  (∀ (s : State) (aid : BitVec 13) (tid : BitVec 3), s.clockOn = true → s.rflagBit aid.toNat tid.toNat 1 = true →
    s.settleOf aid.toNat tid.toNat = none →
    ∃ t, exec (.holeTimerExpiry aid tid) s = .next t ∧ t.regs = s.regs ∧ t.mlk = s.mlk ∧ t.mlkx.settling =
      s.mlkx.settling ++ [⟨aid.toNat, tid.toNat, SMap.get (fun _ => 0) s.mlkx.expiry (8 * aid.toNat + tid.toNat), []⟩]) ∧
  (∀ (s : State) (aid : BitVec 13) (tid : BitVec 3), s.rflagBit aid.toNat tid.toNat 1 = false →
    exec (.holeTimerExpiry aid tid) s = .next s) ∧
  (∀ (s : State) (aid : BitVec 13) (tid : BitVec 3), s.clockOn = true →
    ∃ t, exec (.holeSettleEnd aid tid) s = .next t ∧ t.settleOf aid.toNat tid.toNat = none) ∧
  (∀ (s : State) (aid : BitVec 13) (tid : BitVec 3) (sn : BitVec 12) (lid : BitVec 2) (k : Nat), s.clockOn = true →
    s.rflagBit aid.toNat tid.toNat 0 = true → k = (sn.toNat + 4096 - s.wstart aid.toNat tid.toNat) % 4096 →
    k < s.wsize aid.toNat tid.toNat → s.poolGet (s.entryIdx aid.toNat tid.toNat sn.toNat) = none →
    ∃ t, exec (.cipherDropNotice aid tid sn lid) s = .next t ∧ t.flag MLK_EVT_CIPHER_HOLE = true ∧
      t.rd MLK_CNT_HOLE_CIPHER = BitVec.ofNat 32 (min 0xFFFFFFFF ((s.rd MLK_CNT_HOLE_CIPHER).toNat + 1))) ∧
  (∀ (s : State) (aid : BitVec 13) (tid : BitVec 3) (sn : BitVec 12) (lid : BitVec 2),
    s.wsize aid.toNat tid.toNat ≤ (sn.toNat + 4096 - s.wstart aid.toNat tid.toNat) % 4096 →
    exec (.cipherDropNotice aid tid sn lid) s = .next s)

/-- R151 to R155, R158 to R168: a flood frame of the right form in its window goes to its check, waits, and is looked up: a copy is
counted, a new frame of a known station not replayed is accepted; a carry frame is looked up at once; floods are queued, dropped
with their lifetime, and the commands on the counter, the tags and the cache. -/
def Obligations.FloodRelay : Prop :=
  (∀ (s : State) (x : RxItem) (l : List RxItem) (f : FloodFrame) (k : Nat) (w : Window) (b : Nat × Nat), s.clockOn = true → s.rxq = x :: l →
    x.frame.kind = .flood → x.frame.flood = some f → s.fldOn = true → f.a1.toNat = s.addr48 FLD_GROUP_LO FLD_GROUP_HI →
    f.etype.toNat = s.get FLD_CFG_ETYPE → x.tick = some k → s.windowOf x.radio.val k = some (w, b) → w.rx = true → w.kind = 8 →
    w.chidx = x.chan →
    (s.floodBad f = false → ∃ t, exec .floodFrameRx s = .next t ∧ t.rxq = l ∧ t.cipq = s.cipq ++ [{ item := x, aid := 0 }] ∧
      t.regs = s.regs) ∧
    (s.floodBad f = true → ∃ t, exec .floodFrameRx s = .next t ∧ t.rxq = l ∧ t.cipq = s.cipq ∧ t.flag FLD_EVT_BAD = true ∧
      t.rd FLD_CNT_BAD = BitVec.ofNat 32 (min 0xFFFFFFFF ((s.rd FLD_CNT_BAD).toNat + 1)))) ∧
  (∀ (s : State) (x : RxItem) (l : List RxItem), s.rxq = x :: l → x.frame.kind ≠ .flood → exec .floodFrameRx s = .next s) ∧
  (∀ (s : State) (w : FloodWait) (i : Nat) (v : Sorus), s.clockOn = true → s.fld.waiting = [w] → s.floodInFlight w.tick = false →
    s.sorusFind w.f = some (i, v) →
    ∃ t, exec .sorusSettleEnd s = .next t ∧ t.fld.waiting = [] ∧ t.prsq = s.prsq ∧
      t.sorusGet i = some { v with copies := min 15 (v.copies + 1) } ∧
      t.rd FLD_CNT_COPY = BitVec.ofNat 32 (min 0xFFFFFFFF ((s.rd FLD_CNT_COPY).toNat + 1))) ∧
  (∀ (s : State) (w : FloodWait) (a rx map : Nat), s.clockOn = true → s.fld.waiting = [w] → s.floodInFlight w.tick = false →
    s.sorusFind w.f = none →
    ffType w.f = 1 → s.floodHome w.f.orig.toNat = none → s.aidOfMac w.f.orig.toNat = some a →
    replayCheck (s.cxBit a 232 0) (s.cx a 224 4) (s.cx a 228 4) w.f.fcnt.toNat = some (rx, map) →
    ∃ (t : State) (p : Packet), exec .sorusSettleEnd s = .next t ∧ t.fld.waiting = [] ∧ t.prsq = s.prsq ++ [p] ∧ p.aid = a ∧
      p.unknown = false ∧
      p.fcnt = w.f.fcnt.toNat ∧ t.cx a 224 4 = rx ∧ t.cxBit a 232 0 = true ∧
      t.rd FLD_CNT_ACCEPT = BitVec.ofNat 32 (min 0xFFFFFFFF ((s.rd FLD_CNT_ACCEPT).toNat + 1))) ∧
  (∀ (s : State) (w : FloodWait) (a : Nat), s.clockOn = true → s.fld.waiting = [w] → s.floodInFlight w.tick = false →
    s.sorusFind w.f = none →
    ffType w.f = 1 → s.floodHome w.f.orig.toNat = none → s.aidOfMac w.f.orig.toNat = some a →
    replayCheck (s.cxBit a 232 0) (s.cx a 224 4) (s.cx a 228 4) w.f.fcnt.toNat = none →
    ∃ t, exec .sorusSettleEnd s = .next t ∧ t.prsq = s.prsq ∧ t.ctx = s.ctx ∧ t.flag FLD_EVT_REPLAY = true ∧
      t.rd FLD_CNT_REPLAY = BitVec.ofNat 32 (min 0xFFFFFFFF ((s.rd FLD_CNT_REPLAY).toNat + 1))) ∧
  (∀ s : State, s.fld.waiting = [] → exec .sorusSettleEnd s = .next s) ∧
  (∀ (s u : State) (sec : LinkSec) (kind rssi : BitVec 8) (lid : BitVec 2) (tick : BitVec 64) (f : FloodFrame) (body : List Byte)
      (m : BitVec 2), exec (.carryFrameRx false sec kind lid rssi tick f body m) s = .next s ∧
    (s.clockOn = true → s.linkIn sec false = (u, .dropped) → exec (.carryFrameRx true sec kind lid rssi tick f body m) s = .next u) ∧
    (s.clockOn = true → s.linkIn sec false = (u, .badIcv) → exec (.carryFrameRx true sec kind lid rssi tick f body m) s = .next u) ∧
    (s.clockOn = true → s.linkIn sec false = (u, .passed) → u.fldOn = false →
      exec (.carryFrameRx true sec kind lid rssi tick f body m) s = .next u)) ∧
  (∀ (s w v u : State) (sec : LinkSec) (rssi : BitVec 8) (lid : BitVec 2) (tick : BitVec 64) (f : FloodFrame) (body : List Byte) (e :
    KeySlot) (id : Nat)
      (m : BitVec 2), s.clockOn = true → s.linkIn sec false = (w, .passed) → w.fldOn = true → w.floodBad f = false →
    w.takeLane sec.held sec.urgentHeld false m.toNat = (v, .done) →
    v.keyFetch (v.get (FLD_KEY_SLOT_SLOT (ffKeyid f))) suitesFlood = (v, some e) → f.micOk = true → v.floodForeign f = false →
    v.alloc ownFld (f.len.toNat + 32) body = (u, some id) → u.sorusFind f = none → ffType f = 1 → u.floodHome f.orig.toNat = none →
    u.aidOfMac f.orig.toNat = none →
    ∃ (t : State) (p : Packet), exec (.carryFrameRx true sec 0x80 lid rssi tick f body m) s = .next t ∧ t.prsq = u.prsq ++ [p] ∧
      p.unknown = true ∧
      p.chain = id ∧ t.fld.waiting = s.fld.waiting ∧
      t.rd FLD_CNT_UNKNOWN = BitVec.ofNat 32 (min 0xFFFFFFFF ((u.rd FLD_CNT_UNKNOWN).toNat + 1))) ∧
  (∀ (s : State) (r : Fin 3) (dst : BitVec 48) (air : AirTime) (payload : List Byte) (id : Nat), s.clockOn = true →
    (s.fldQueue r).length < 64 →
    payload.length ≤ 1024 → (s.alloc ownFld payload.length payload).2 = some id →
    ∃ (t : State) (f : TxFrame), exec (.floodEnqueue r dst air payload) s = .next t ∧ t.fldQueue r = s.fldQueue r ++ [f] ∧
      f.chain = id ∧ f.dst = dst ∧
      f.len = payload.length + 68 ∧ f.turn = s.turn) ∧
  (∀ (s : State) (r : Fin 3) (dst : BitVec 48) (air : AirTime) (payload : List Byte), s.clockOn = true → 64 ≤ (s.fldQueue r).length →
    ∃ t, exec (.floodEnqueue r dst air payload) s = .next t ∧ t.fld = s.fld ∧ t.flag FLD_EVT_QFULL = true ∧
      t.rd FLD_CNT_QFULL = BitVec.ofNat 32 (min 0xFFFFFFFF ((s.rd FLD_CNT_QFULL).toNat + 1))) ∧
  (∀ (s : State) (r : Fin 3), s.clockOn = true → ∃ t, exec (.floodLifetimeExpiry r) s = .next t ∧
    t.fldQueue r = (s.fldQueue r).filter (fun f => decide (s.turn < f.turn + atLeast1 (s.get ACC_RETRY_LIFE))) ∧
    t.fld.again[r] = s.fld.again[r].filter (fun f => decide (s.turn < f.turn + atLeast1 (s.get ACC_RETRY_LIFE)))) ∧
  (∀ (s : State) (r : Fin 3) (tid : BitVec 4) (air : AirTime) (w : Window) (a b : Nat), s.clockOn = true →
    s.flag SYS_DIE_STAT_FRN_UP = true →
    s.retq = [] → s.placing = true →
    (s.windowOf r (s.absTick + 0x80)).orElse (fun _ => s.windowOf r s.absTick) = some (w, a, b) → w.kind = 8 → w.tx = true →
    s.fldOn = true → s.fld.servedAt[r] ≠ some a → (b - a) / s.fldSlot r < 2 →
    ∃ t, exec (.frondQueueFill r tid air) s = .next t ∧ t.fld.servedAt[r] = some a ∧ t.fldQueue r = s.fldQueue r ∧
      t.rd FLD_CNT_NOFIT = BitVec.ofNat 32 (min 0xFFFFFFFF ((s.rd FLD_CNT_NOFIT).toNat + 1))) ∧
  (∀ s : State, s.reach none FLD_CMD = .made →
    s.fld.keysWritten.contains (s.get (FLD_KEY_SLOT_SLOT (s.get FLD_TX_KEY_KEYID))) = true →
    ∃ t, exec (.fcntReset 1) s = .next t ∧ t.rd FLD_TX_FCNT = 0 ∧ t.flag FLD_STAT_FCNT_END = false ∧ t.fld.keysWritten = []) ∧
  (∀ s : State, s.reach none FLD_CMD = .made →
    s.fld.keysWritten.contains (s.get (FLD_KEY_SLOT_SLOT (s.get FLD_TX_KEY_KEYID))) = false →
    ∃ t, exec (.fcntReset 1) s = .next t ∧ t.rd FLD_TX_FCNT = s.rd FLD_TX_FCNT ∧ t.flag FLD_EVT_CMD_ERR = true ∧ t.fld = s.fld) ∧
  (∀ (s : State) (a : Nat), s.reach none FLD_CMD = .made → a = (s.rd FLD_CMD_AID).toNat % 8192 →
    ∃ t, exec (.tagReset 2) s = .next t ∧ t.fld = s.fld ∧ (a ≠ 0 → t.cxBit a 232 0 = false ∧ t.regs = s.regs) ∧
      (a = 0 → t.flag FLD_EVT_CMD_ERR = true ∧ t.ctx = s.ctx)) ∧
  (∀ s : State, s.reach none FLD_CMD = .made →
    ∃ t, exec (.sorusFlush 4) s = .next t ∧ t.fld.sorus = [] ∧ t.get FLD_SORUS_FREE = 4096 ∧ t.get FLD_SORUS_USED = 0 ∧
      t.ctx = s.ctx) ∧
  (∀ s : State, s.clockOn = true → ∃ t, exec .sorusAging s = .next t ∧ ∀ e ∈ t.fld.sorus, e ∈ s.fld.sorus ∧
    ∃ v, e.2 = some v ∧ s.turn < v.turn + 8)

/-! ## Clusters (spec/08_cluster.md) -/

/-- R172 to R179: the cluster unit is enabled and disabled; SYNC is sent, taken, missed, and seized by the deputy; heartbeats make
devices present, and their absence is noted; a message without protection is counted as bad, one of another cluster as foreign. -/
def Obligations.ClusterUnit : Prop :=
  (∀ s : State, s.reach none CLU_CTL = .made → s.cluSt = cluOff → s.cid ≠ 0 →
    ∃ t, exec .clusterEnable s = .next t ∧ t.flag CLU_CTL_EN = true ∧ t.cluSt = (if s.get SYS_ROLE_ROLE = 1 then cluLead else cluJoin) ∧
      (s.get SYS_ROLE_ROLE = 1 → t.rd CLU_TERM = 1 ∧ t.get CLU_STAT_MGR = s.did)) ∧
  (∀ s : State, s.reach none CLU_CTL = .made →
    ∃ t, exec .clusterDisable s = .next t ∧ t.flag CLU_CTL_EN = false ∧ t.cluSt = cluOff ∧ t.get CLU_STAT_MISS = 0) ∧
  (∀ s : State, s.cluSt = cluLead → s.cid ≠ 0 → s.awake = true → s.running = true → s.flag SPN_STAT_HELD = false →
    ∃ t, exec .syncSend s = .next t ∧ s.clu.slot < t.clu.slot ∧ t.get CLU_STAT_DEPUTY = s.get CLU_CFG_DEPUTY ∧
      t.flag CLU_STAT_DEP_NONE = (s.flag CLU_CFG_DEP_NONE || s.clu.noDeputy) ∧
      ∀ p : Fin 2, s.backbone = some p → s.ethLive p = true → 128 ≤ s.ethMax p → (s.port p).timing.length < 16 →
        (t.port p).timing = (s.port p).timing ++
          [backboneFrame (BitVec.ofNat 48 (s.addr48 CLU_GROUP_LO CLU_GROUP_HI)) (s.get CLU_CFG_ETYPE) true
            (t.afetteHeader none 0 44 ++ t.syncBytes)]) ∧
  (∀ s : State, s.cluSt ≠ cluLead → exec .syncSend s = .next s) ∧
  (∀ (s u : State) (h : Afette) (m : SyncMsg) (k : Nat), s.afetteIn h 0 = (u, true) → u.clu.taken = [] → m.actKind = 0 →
    (u.cluSt = cluJoin ∨ (u.cluSt = cluMember ∨ u.cluSt = cluHoldover) ∧ u.syncOk h = true) →
    k = unpackTick h.tick.toNat / slotLen → k / 16 = u.turn → k * slotLen ≤ u.afetteTick →
    u.afetteTick < k * slotLen + (u.rd CLU_SYNC_TOL).toNat % 2 ^ 24 → m.epochNs = u.rd SPN_EPOCH_NS →
    m.epochSec.toNat * 1000000000 + m.epochNs.toNat = u.epochNs →
    ∃ t, exec (.syncRx h m) s = .next t ∧ t.cluSt = cluMember ∧ t.get CLU_STAT_MISS = 0 ∧ t.rd CLU_TERM = h.term ∧
      t.get CLU_STAT_MGR = h.from_.toNat ∧ t.get CLU_STAT_DEPUTY = m.deputy.toNat ∧ t.flag CLU_STAT_DEP_NONE = m.depNone ∧
      t.rd CLU_PRESENT = m.present ∧ (u.cluSt = cluHoldover → t.flag CLU_EVT_REJOIN = true)) ∧
  (∀ (s u : State) (h : Afette) (m : SyncMsg), s.afetteIn h 0 = (u, true) →
    (u.cluSt = cluMember ∨ u.cluSt = cluHoldover) → u.syncOk h = false → m.epochNs = u.rd SPN_EPOCH_NS →
    m.epochSec.toNat * 1000000000 + m.epochNs.toNat = u.epochNs →
    ∃ t, exec (.syncRx h m) s = .next t ∧ t.cluSt = u.cluSt ∧ t.rd CLU_TERM = u.rd CLU_TERM ∧
      t.rd CLU_CNT_SYNC_REJ = BitVec.ofNat 32 (min 0xFFFFFFFF ((u.rd CLU_CNT_SYNC_REJ).toNat + 1))) ∧
  (∀ (s u : State) (h : Afette) (m : SyncMsg), s.afetteIn h 0 = (u, true) →
    (u.cluSt = cluJoin ∨ u.cluSt = cluMember ∨ u.cluSt = cluHoldover) → m.epochNs ≠ u.rd SPN_EPOCH_NS →
    ∃ t, exec (.syncRx h m) s = .next t ∧ t.cluSt = u.cluSt ∧ t.flag CLU_EVT_EPOCH_MIS = true ∧
      t.rd CLU_CNT_SYNC_REJ = BitVec.ofNat 32 (min 0xFFFFFFFF ((u.rd CLU_CNT_SYNC_REJ).toNat + 1))) ∧
  (∀ (s u : State) (h : Afette) (m : SyncMsg), s.afetteIn h 0 = (u, true) → u.cluSt = cluLead →
    (u.rd CLU_TERM).toNat < h.term.toNat →
    ∃ t, exec (.syncRx h m) s = .next t ∧ t.cluSt = cluDeposed ∧ t.flag CLU_EVT_DEPOSED = true ∧
      ∀ r : Fin 3, u.flag SYS_DIE_STAT_FRN_UP = true → u.genHalf r ≠ 0 → t.progWord r (u.genBase r) = wSync) ∧
  (∀ s : State, s.listening = true → s.awake = true → s.running = true → s.flag SPN_STAT_HELD = false →
    ∃ t, exec .syncSlotMiss s = .next t ∧ t.get CLU_STAT_MISS = min 31 (s.get CLU_STAT_MISS + 1) ∧
      t.cluSt = (if s.cluSt = cluMember ∧ 2 ≤ s.get CLU_STAT_MISS then cluHoldover else s.cluSt) ∧
      (s.cluSt = cluMember → 2 ≤ s.get CLU_STAT_MISS → t.flag CLU_EVT_HOLDOVER = true) ∧
      t.clu.run = (if s.clu.caught then 0 else s.clu.run + 1) ∧
      t.rd CLU_CNT_SYNC_MISS = BitVec.ofNat 32 (min 0xFFFFFFFF ((s.rd CLU_CNT_SYNC_MISS).toNat + 1))) ∧
  (∀ s : State, s.cluSt = cluHoldover → s.cid ≠ 0 → s.get SYS_ROLE_ROLE = 3 → s.flag CLU_STAT_DEP_NONE = false →
    s.get CLU_STAT_DEPUTY = s.did → 16 ≤ s.clu.run → s.spnSt ≠ spnFree → s.spnSt ≠ spnEstimated → s.spnSt ≠ spnStopped →
    s.running = true → s.flag SPN_STAT_HELD = false → s.awake = true →
    ∃ t, exec .deputyTakeover s = .next t ∧ t.cluSt = cluLead ∧ t.rd CLU_TERM = s.rd CLU_TERM + 1 ∧ t.get CLU_STAT_MGR = s.did ∧
      t.get SYS_ROLE_ROLE = 1 ∧ t.flag SYS_ROLE_TAKEN = true ∧ t.flag CLU_EVT_TAKEOVER = true ∧
      ∀ p : Fin 2, s.backbone = some p → s.ethLive p = true → 128 ≤ s.ethMax p → (s.port p).timing.length < 16 →
        (t.port p).timing = (s.port p).timing ++
          [backboneFrame (BitVec.ofNat 48 (s.addr48 CLU_GROUP_LO CLU_GROUP_HI)) (s.get CLU_CFG_ETYPE) true
            (t.afetteHeader none 0 44 ++ t.syncBytes)]) ∧
  (∀ s : State, s.spnSt ≠ spnFree → s.spnSt ≠ spnEstimated → s.spnSt ≠ spnStopped →
    (s.running = false ∨ s.flag SPN_STAT_HELD = true) → exec .deputyTakeover s = .next s) ∧
  (∀ s : State, s.cluSt = cluHoldover → s.get SYS_ROLE_ROLE = 3 → s.flag CLU_STAT_DEP_NONE = false → s.get CLU_STAT_DEPUTY = s.did →
    16 ≤ s.clu.run → (s.spnSt = spnFree ∨ s.spnSt = spnEstimated ∨ s.spnSt = spnStopped) → s.clu.takeHeld = false →
    ∃ t, exec .deputyTakeover s = .next t ∧ t.cluSt = cluHoldover ∧ t.clu.takeHeld = true ∧ t.flag CLU_EVT_TAKE_HELD = true) ∧
  (∀ s : State, (s.cluSt = cluMember ∨ s.cluSt = cluHoldover) → s.cid ≠ 0 → s.awake = true → s.running = true →
    s.flag SPN_STAT_HELD = false → s.reports = [] → s.sess ≠ sessReady →
    ∃ t, exec .hbSend s = .next t ∧ s.clu.hbAt < t.clu.hbAt ∧
      ∀ (p : Fin 2) (m : Nat), s.backbone = some p → s.ethLive p = true → 128 ≤ s.ethMax p → s.devMac (s.get CLU_STAT_MGR) = some m →
        (t.port p).txq = (s.port p).txq ++ [backboneFrame (BitVec.ofNat 48 m) (s.get CLU_CFG_ETYPE) false
          (t.afetteHeader (some (s.get CLU_STAT_MGR)) 1 32 ++ t.hbBytes)]) ∧
  (∀ (s u : State) (h : Afette) (hb : BitVec 256), s.afetteIn h 1 = (u, true) → u.cluSt = cluLead →
    (u.devOf h.srcMac.toNat = none ∨ u.devOf h.srcMac.toNat = some h.from_.toNat) →
    ∃ t, exec (.hbRx h hb) s = .next t ∧ t.rd CLU_PRESENT = u.rd CLU_PRESENT ||| BitVec.ofNat 32 (2 ^ h.from_.toNat) ∧
      t.mem (0x151000 + 32 * h.from_.toNat) 32 = hb.toNat) ∧
  (∀ (s u : State) (h : Afette) (hb : BitVec 256) (b : Nat), s.afetteIn h 1 = (u, true) → u.cluSt = cluLead →
    u.devOf h.srcMac.toNat = some b → b ≠ h.from_.toNat →
    ∃ t, exec (.hbRx h hb) s = .next t ∧ t.flag CLU_EVT_DUP_DID = true ∧ t.rd CLU_PRESENT = u.rd CLU_PRESENT ∧ t.bar = u.bar) ∧
  (∀ (s : State) (h : Afette) (hb : BitVec 256), s.cid ≠ 0 → s.cluSt ≠ cluOff → s.clockOn = true → h.prot = false →
    ∃ t, exec (.hbRx h hb) s = .next t ∧ t.clu = s.clu ∧ t.bar = s.bar ∧
      t.rd CLU_CNT_BAD = BitVec.ofNat 32 (min 0xFFFFFFFF ((s.rd CLU_CNT_BAD).toNat + 1))) ∧
  (∀ (s u : State) (h : Afette) (hb : BitVec 256) (use : LinkUse), s.clockOn = true → h.prot = true →
    (s.toAbsTick (s.absTick + h.dt.toNat)).linkIn h.sec false = (u, use) →
    (use = .passed → u.cid ≠ 0 → u.cluSt ≠ cluOff → h.ver = 1 → h.typ = 1 → h.lenOk = true →
      (h.all = true ∨ h.to_.toNat = u.did) → h.cid.toNat ≠ u.cid →
      ∃ t, exec (.hbRx h hb) s = .next t ∧ t.clu = u.clu ∧ t.bar = u.bar ∧
        t.rd CLU_CNT_FOREIGN = BitVec.ofNat 32 (min 0xFFFFFFFF ((u.rd CLU_CNT_FOREIGN).toNat + 1))) ∧
    (use = .badIcv → u.cid ≠ 0 → u.cluSt ≠ cluOff →
      ∃ t, exec (.hbRx h hb) s = .next t ∧ t.clu = u.clu ∧ t.bar = u.bar ∧
        t.rd CLU_CNT_BAD = BitVec.ofNat 32 (min 0xFFFFFFFF ((u.rd CLU_CNT_BAD).toNat + 1))) ∧
    (use = .dropped → exec (.hbRx h hb) s = .next u)) ∧
  (∀ (s : State) (d : BitVec 5) (n : Nat), s.clockOn = true → SMap.get (fun _ => none) s.clu.hbSeen d.toNat = some n → s.cluSt = cluLead →
    s.placing = true →
    ∃ t, exec (.deviceAbsent d) s = .next t ∧ t.flag CLU_EVT_ABSENT = true ∧
      t.rd CLU_PRESENT = s.rd CLU_PRESENT &&& ~~~ BitVec.ofNat 32 (2 ^ d.toNat) ∧
      t.rd CLU_CNT_HB_MISS = BitVec.ofNat 32 (min 0xFFFFFFFF ((s.rd CLU_CNT_HB_MISS).toNat + 1)))

/-- R182 to R187: the manager turns a report into the next update, or restates the entry it has; a device applies updates in order,
holds those ahead, frees a context that the directory gives another address, replaces its directory whole, and takes its DID. -/
def Obligations.ClusterDirectory : Prop :=
  (∀ (s u : State) (h : Afette) (r : DirRecord), s.afetteIn h 2 = (u, true) → u.cluSt = cluLead → u.reports = [] → u.clu.hands = [] →
    r.kind = 0 → addrBad r.addr.toNat = false → u.dirGet r.mac.toNat = none → u.clu.dir.length < 262144 →
    u.aidOfMac r.mac.toNat = none →
    ∃ t, exec (.dirReportRx h [r]) s = .next t ∧ t.dirGet r.mac.toNat = some ⟨r.addr.toNat, r.tick.toNat⟩ ∧
      t.rd CLU_DSEQ = u.rd CLU_DSEQ + 1 ∧
      ∀ p : Fin 2, u.cid ≠ 0 → u.backbone = some p → u.ethLive p = true → 128 ≤ u.ethMax p →
        (t.port p).txq = (u.port p).txq ++ [backboneFrame (BitVec.ofNat 48 (u.addr48 CLU_GROUP_LO CLU_GROUP_HI)) (u.get CLU_CFG_ETYPE) false
          (t.afetteHeader none 2 40 ++ dirBytes 0 (t.rd CLU_DSEQ).toNat 0 0 [dirRecOf r])]) ∧
  (∀ (s u : State) (h : Afette) (r : DirRecord) (e : DirEntry), s.afetteIn h 2 = (u, true) → u.cluSt = cluLead → u.reports = [] →
    u.clu.hands = [] → r.kind = 0 → u.dirGet r.mac.toNat = some e → addrBad r.addr.toNat = false →
    unpackTick r.tick.toNat < unpackTick e.tick →
    ∃ t, exec (.dirReportRx h [r]) s = .next t ∧ t.dirGet r.mac.toNat = some e ∧ t.rd CLU_DSEQ = u.rd CLU_DSEQ + 1 ∧
      t.rd CLU_CNT_DIR_STALE = BitVec.ofNat 32 (min 0xFFFFFFFF ((u.rd CLU_CNT_DIR_STALE).toNat + 1))) ∧
  (∀ (s u : State) (h : Afette) (seq : BitVec 32) (r : DirRecord), s.afetteIn h 2 = (u, true) → u.follows h = true →
    u.clu.held = [] → u.clu.hands = [] → r.kind = 0 → addrBad r.addr.toNat = false → u.clu.dir.length < 262144 →
    seq.toNat = (u.rd CLU_DSEQ).toNat + 1 →
    ∃ t, exec (.dirUpdateRx h seq [r]) s = .next t ∧ t.dirGet r.mac.toNat = some ⟨r.addr.toNat, r.tick.toNat⟩ ∧ t.rd CLU_DSEQ = seq ∧
      ∀ a, u.aidOfMac r.mac.toNat = some a → r.addr.toNat ≠ packAddr u.cid u.did a → t.cxState a = 0 ∧
        t.rd CLU_CNT_EVICT = BitVec.ofNat 32 (min 0xFFFFFFFF ((u.rd CLU_CNT_EVICT).toNat + 1))) ∧
  (∀ (s u : State) (h : Afette) (seq : BitVec 32) (r : DirRecord), s.afetteIn h 2 = (u, true) → u.follows h = true →
    u.clu.hands = [] → seq.toNat ≤ (u.rd CLU_DSEQ).toNat → exec (.dirUpdateRx h seq [r]) s = .next u) ∧
  (∀ (s u : State) (h : Afette) (seq : BitVec 32) (r : DirRecord), s.afetteIn h 2 = (u, true) → u.follows h = true →
    u.clu.hands = [] → (u.rd CLU_DSEQ).toNat + 1 < seq.toNat → seq.toNat ≤ (u.rd CLU_DSEQ).toNat + 1 + 1024 →
    u.clu.held.length < 1024 → u.clu.held.any (fun g => g.1 == seq.toNat) = false →
    ∃ t, exec (.dirUpdateRx h seq [r]) s = .next t ∧ t.clu.dir = u.clu.dir ∧ t.rd CLU_DSEQ = u.rd CLU_DSEQ ∧
      t.clu.held = u.clu.held ++ [(seq.toNat, dirRecOf r)]) ∧
  (∀ (s u : State) (h : Afette) (seq : BitVec 32), s.afetteIn h 2 = (u, true) → u.follows h = true → u.clu.full = none →
    u.clu.held = [] → u.clu.hands = [] →
    ∃ t, exec (.dirFullRx h seq 0 0 []) s = .next t ∧ t.clu.dir = [] ∧ t.clu.devs = [] ∧ t.rd CLU_DSEQ = seq ∧
      t.flag CLU_DIR_STAT_FULL_RX = false) ∧
  (∀ (s u : State) (h : Afette) (seq total : BitVec 32) (r : DirRecord), s.afetteIn h 2 = (u, true) → u.follows h = true →
    u.clu.full = none → u.clu.hands = [] → 1 < total.toNat →
    ∃ t, exec (.dirFullRx h seq total 0 [r]) s = .next t ∧ t.clu.dir = u.clu.dir ∧ t.flag CLU_DIR_STAT_FULL_RX = true ∧
      t.clu.full = some ⟨seq.toNat, total.toNat, [(0, dirRecOf r)]⟩) ∧
  (∀ (s : State) (d : Nat), s.clockOn = true → s.devOf Config.backboneMac.toNat = some d → s.atTurnStart = true → d ≠ s.did → d < 32 →
    (s.aids = [] → ∃ t, exec .didChange s = .next t ∧ t.did = d ∧ t.cid = s.cid) ∧
    (s.aids ≠ [] → ∃ t, exec .didChange s = .next t ∧ t.did = s.did ∧ (s.clu.hflags % 2 = 0 → t.flag CLU_EVT_DID_CONFLICT = true))) ∧
  (∀ s : State, s.devOf Config.backboneMac.toNat = none → exec .didChange s = .next s)

/-- R188 to R193, R309: the manager sends a plan or stages its own; a device stages a whole plan whose bank passes its checks; an
activation waits, is sent when all are ready, fails at its deadline, is taken and withdrawn in time; an image's acknowledgement is
kept. -/
def Obligations.PlansAndActivations : Prop :=
  (∀ (s : State) (d : BitVec 5) (r : Fin 3) (len : BitVec 8) (n : Nat), s.reach none CLU_PLAN_CMD = .made → s.cluSt = cluLead →
    s.cid ≠ 0 → s.flag CLU_PLAN_STAT_BUSY = false → d.toNat ≠ s.did → (s.rd CLU_PRESENT).getLsbD d.toNat = true →
    n = (s.windowsFrom (s.planOut d.toNat r.val) 1024).length →
    ∃ t, exec (.planSend d (BitVec.ofNat 2 r.val) len) s = .next t ∧ t.flag CLU_PLAN_STAT_BUSY = true ∧
      t.flag CLU_PLAN_STAT_ERR = false ∧
      ∀ (p : Fin 2) (m : Nat), s.backbone = some p → s.ethLive p = true → 1200 ≤ s.ethMax p → s.devMac d.toNat = some m →
        ∃ fs : List EthTx, (t.port p).txq = (s.port p).txq ++ fs ∧ fs.length = max 1 ((n + 63) / 64) ∧
          ∀ f ∈ fs, f.sec = true ∧ f.sync = false ∧ f.bytes.take 6 = leBytes 6 m) ∧
  (∀ (s : State) (d : BitVec 5) (radio : BitVec 2) (len : BitVec 8), s.reach none CLU_PLAN_CMD = .made → s.cluSt = cluLead →
    radio.toNat < 3 → d.toNat ≠ s.did → (s.rd CLU_PRESENT).getLsbD d.toNat = false →
    ∃ t, exec (.planSend d radio len) s = .next t ∧ t.flag CLU_PLAN_STAT_ERR = true ∧ t.eth = s.eth ∧ t.clu.staged = s.clu.staged) ∧
  (∀ (s : State) (d : BitVec 5) (r : Fin 3) (len : BitVec 8), s.reach none CLU_PLAN_CMD = .made → s.cluSt = cluLead →
    s.flag CLU_PLAN_STAT_BUSY = false → d.toNat = s.did → s.flag (ACC_PLAN_STAT_ARMED r) = false →
    ∃ t, exec (.planSend d (BitVec.ofNat 2 r.val) len) s = .next t ∧ t.flag CLU_PLAN_STAT_BUSY = false ∧
      t.clu.staged[r] = (if t.bankBad r.val (!s.flag (ACC_PLAN_STAT_ACT_BANK r)) (len.toNat + 1) then (0, 0)
        else ((s.rd CLU_PLAN_ID).toNat, len.toNat + 1))) ∧
  (∀ s : State, s.clockOn = true → exec .planSendDone s = .next (s.put CLU_PLAN_STAT_BUSY 0)) ∧
  (∀ (s u : State) (h : Afette) (r : Fin 3) (len : BitVec 8) (id : BitVec 32) (nwin : BitVec 11) (ws : List (BitVec 128)),
    s.afetteIn h 3 = (u, true) → u.cluSt ≠ cluLead → u.cluSt ≠ cluDeposed → u.flag (ACC_PLAN_STAT_ARMED r) = false →
    u.clu.planRx[r] = none →
    (∃ t, exec (.planRx h (BitVec.ofNat 2 r.val) len 0 1 id nwin ws) s = .next t ∧ t.clu.planRx[r] = none ∧
      t.clu.staged[r] = (if t.bankBad r.val (!u.flag (ACC_PLAN_STAT_ACT_BANK r)) (len.toNat + 1) then (0, 0)
        else (id.toNat, len.toNat + 1))) ∧
    ∃ t, exec (.planRx h (BitVec.ofNat 2 r.val) len 0 2 id nwin ws) s = .next t ∧ t.clu.planRx[r] = some ⟨id.toNat, 2, [0]⟩ ∧
      t.clu.staged = u.clu.staged) ∧
  (∀ (s u : State) (h : Afette) (r : Fin 3) (len : BitVec 8) (f : BitVec 4) (nf : BitVec 5) (id : BitVec 32) (nwin : BitVec 11)
      (ws : List (BitVec 128)), s.afetteIn h 3 = (u, true) → u.cluSt ≠ cluLead → u.cluSt ≠ cluDeposed →
    u.flag (ACC_PLAN_STAT_ARMED r) = true →
    ∃ t, exec (.planRx h (BitVec.ofNat 2 r.val) len f nf id nwin ws) s = .next t ∧ t.flag CLU_EVT_PLAN_FAIL = true ∧ t.bar = u.bar ∧
      t.clu.staged = u.clu.staged) ∧
  (∀ (s : State) (kind : BitVec 2) (map : BitVec 3), s.reach none CLU_ACT_CMD = .made → s.cluSt = cluLead →
    (kind = 1 ∨ kind = 2) → (s.rd CLU_ACT_STAT).toNat % 4 ≠ 2 →
    ∃ (t : State) (a : Activation), exec (.actSend kind map) s = .next t ∧ t.clu.act = some (a, (s.rd CLU_ACT_MASK).toNat) ∧
      t.rd CLU_ACT_STAT = (if s.actClose a then 3 else 1) ∧ (s.actClose a = true → t.flag CLU_EVT_ACT_FAIL = true) ∧
      a.kind = kind.toNat ∧ a.map = map.toNat ∧ a.id = (s.rd CLU_ACT_ID).toNat ∧
      a.turn = (s.rd CLU_ACT_TURN_LO).toNat + 2 ^ 32 * ((s.rd CLU_ACT_TURN_HI).toNat % 256) ∧ t.clu.taken = s.clu.taken) ∧
  (∀ (s : State) (kind : BitVec 2) (map : BitVec 3), s.reach none CLU_ACT_CMD = .made → s.cluSt ≠ cluLead →
    exec (.actSend kind map) s = .next (s.hostWrote CLU_ACT_CMD)) ∧
  (∀ (s : State) (a : Activation) (m : Nat), s.clockOn = true → s.clu.act = some (a, m) → (s.rd CLU_ACT_STAT).toNat % 4 = 1 →
    s.cluSt = cluLead →
    s.cid ≠ 0 → (∀ d < 32, m / 2 ^ d % 2 = 1 → s.didReady a d = true) → a.kind = 1 → a.map % 8 = 0 →
    s.actClose a = false → s.clu.taken = [] → s.clu.withdrawn = [] →
    ∃ t, exec .actReady s = .next t ∧ t.rd CLU_ACT_STAT = 2 ∧ t.clu.taken = [a] ∧
      ∀ p : Fin 2, s.backbone = some p → s.ethLive p = true → 128 ≤ s.ethMax p →
        (t.port p).txq = (s.port p).txq ++ [backboneFrame (BitVec.ofNat 48 (s.addr48 CLU_GROUP_LO CLU_GROUP_HI)) (s.get CLU_CFG_ETYPE) false
          (t.afetteHeader none 6 16 ++ actBytes a false)]) ∧
  (∀ (s : State) (a : Activation) (m : Nat), s.clockOn = true → s.clu.act = some (a, m) → (s.rd CLU_ACT_STAT).toNat % 4 = 1 →
    s.actClose a = true →
    ∃ t, exec .actReady s = .next t ∧ t.rd CLU_ACT_STAT = 3 ∧ t.flag CLU_EVT_ACT_FAIL = true ∧ t.clu = s.clu ∧ t.eth = s.eth) ∧
  (∀ (s : State) (a : Activation) (m d : Nat), s.clu.act = some (a, m) → d < 32 → m / 2 ^ d % 2 = 1 → s.didReady a d = false →
    s.actClose a = false → exec .actReady s = .next s) ∧
  (∀ (s : State) (a : Activation) (m : Nat), s.clockOn = true → s.clu.act = some (a, m) → (s.rd CLU_ACT_STAT).toNat % 4 = 1 →
    s.placing = true → ∃ t, exec .actDeadline s = .next t ∧ t.rd CLU_ACT_STAT = 3 ∧ t.flag CLU_EVT_ACT_FAIL = true ∧ t.clu = s.clu) ∧
  (∀ (s : State) (kind : BitVec 2) (map : BitVec 3) (a : Activation) (m : Nat), s.reach none CLU_ACT_CMD = .made →
    s.clu.act = some (a, m) → (kind = 1 ∨ kind = 2) → (s.rd CLU_ACT_STAT).toNat % 4 = 1 →
    ∃ t, exec (.actWithdrawCmd kind map) s = .next t ∧ t.clu.act = none ∧ t.rd CLU_ACT_STAT = 0 ∧ t.clu.taken = s.clu.taken) ∧
  (∀ (s : State) (kind : BitVec 2) (map : BitVec 3) (a : Activation) (m : Nat), s.reach none CLU_ACT_CMD = .made →
    s.clu.act = some (a, m) → (kind = 1 ∨ kind = 2) → (s.rd CLU_ACT_STAT).toNat % 4 = 2 →
    a.turn ≤ s.turn + atLeast1 ((s.rd CLU_ACT_MIN).toNat % 256) →
    ∃ t, exec (.actWithdrawCmd kind map) s = .next t ∧ t.clu.act = some (a, m) ∧ t.flag CLU_EVT_ACT_FAIL = true ∧
      t.rd CLU_ACT_STAT = s.rd CLU_ACT_STAT) ∧
  (∀ (s u : State) (h : Afette) (map : BitVec 8) (id : BitVec 32) (turn : BitVec 40), s.afetteIn h 6 = (u, true) →
    u.follows h = true → u.clu.taken = [] →
    (u.turn < turn.toNat → (∀ r : Fin 3, map.getLsbD r.val = true → u.clu.staged[r].1 = id.toNat ∧ id ≠ 0) →
      ∃ t, exec (.actRx h 1 map id turn) s = .next t ∧ t.clu.taken = [⟨1, map.toNat, id.toNat, turn.toNat⟩]) ∧
    (turn.toNat ≤ u.turn →
      ∃ t, exec (.actRx h 1 map id turn) s = .next t ∧ t.clu.taken = [] ∧ t.flag CLU_EVT_ACT_FAIL = true)) ∧
  (∀ (s u : State) (h : Afette) (map m2 : BitVec 8) (id : BitVec 32) (turn : BitVec 40), s.afetteIn h 6 = (u, true) →
    u.follows h = true → u.clu.taken = [⟨1, m2.toNat, id.toNat, turn.toNat⟩] → u.turn < turn.toNat →
    ∃ t, exec (.actWithdrawRx h 1 map id turn) s = .next t ∧ t.clu.taken = [] ∧
      t.clu.withdrawn = ⟨1, m2.toNat, id.toNat, turn.toNat⟩ :: u.clu.withdrawn) ∧
  (∀ (s u : State) (h : Afette) (sess ofs total : BitVec 32) (last : Bool), s.afetteIn h 5 = (u, true) → u.cluSt = cluLead →
    ∃ t, exec (.imgAckRx h sess ofs total last) s = .next t ∧
      SMap.get (fun _ => none) t.upd.acks h.from_.toNat = some (sess.toNat, ofs.toNat, last) ∧
      (last = true → ofs = total → (h.from_.toNat, sess.toNat) ∈ t.clu.ready) ∧ t.regs = u.regs)

/-- R195 to R199: the manager begins a handoff or refuses it, and shows its end; the source notes the request, marks the context at the
ACCEPT, takes its frames back at the cut and frees the context at the settling; the target prepares a context, fills it, takes its
frames, enters it, or frees it. -/
def Obligations.StationHandoff : Prop :=
  (∀ (s : State) (e : DirEntry) (mac cut : Nat), s.reach none CLU_HAND_CMD = .made → s.cluSt = cluLead → s.cid ≠ 0 →
    mac = s.addr48 CLU_HAND_MAC_LO CLU_HAND_MAC_HI → cut = unpackTick (s.rd64 CLU_HAND_CUT_LO) → s.dirGet mac = some e →
    s.absTick + (s.rd CLU_HAND_LEAD).toNat % 2 ^ 24 ≤ cut → s.clu.hands.any (fun h => h.part == 0 && h.mac == mac) = false →
    addrDid e.addr ≠ s.did → s.get CLU_HAND_CFG_DST ≠ s.did →
    ∃ (t : State) (h : Handoff), exec (.handReqCmd false) s = .next t ∧ t.clu.hands = s.clu.hands ++ [h] ∧ h.part = 0 ∧ h.mac = mac ∧
      h.src = e.addr ∧
      addrDid h.dst = s.get CLU_HAND_CFG_DST ∧ h.cut = cut ∧ t.flag CLU_HAND_STAT_BUSY = true ∧ t.flag CLU_HAND_STAT_ERR = false ∧
      ∀ (p : Fin 2) (m n : Nat), s.backbone = some p → s.ethLive p = true → 128 ≤ s.ethMax p → s.devMac (addrDid e.addr) = some m →
        s.devMac (s.get CLU_HAND_CFG_DST) = some n →
        (t.port p).txq = (s.port p).txq ++
          [backboneFrame (BitVec.ofNat 48 m) (s.get CLU_CFG_ETYPE) false
            (t.afetteHeader (some (addrDid e.addr)) 4 40 ++ handBytes handReq 0 h []),
           backboneFrame (BitVec.ofNat 48 n) (s.get CLU_CFG_ETYPE) false
            (t.afetteHeader (some (s.get CLU_HAND_CFG_DST)) 4 40 ++ handBytes handReq 0 h [])]) ∧
  (∀ s : State, s.reach none CLU_HAND_CMD = .made → s.cluSt = cluLead →
    s.dirGet (s.addr48 CLU_HAND_MAC_LO CLU_HAND_MAC_HI) = none →
    ∃ t, exec (.handReqCmd false) s = .next t ∧ t.flag CLU_HAND_STAT_ERR = true ∧ t.clu.hands = s.clu.hands ∧ t.eth = s.eth) ∧
  (∀ (s : State) (h : Handoff), s.reach none CLU_HAND_CMD = .made → s.clu.hands = [h] → h.part = 0 →
    ∃ t, exec .handAbortCmd s = .next t ∧ t.clu.hands = [] ∧ t.flag CLU_HAND_STAT_FAILED = true ∧
      t.flag CLU_HAND_STAT_BUSY = false ∧ t.flag CLU_EVT_HAND_FAIL = true) ∧
  (∀ s : State, s.reach none CLU_HAND_CMD = .made → s.clu.hands = [] → exec .handAbortCmd s = .next (s.hostWrote CLU_HAND_CMD)) ∧
  (∀ (s u : State) (h : Afette) (m : HandMsg) (a : Nat), s.afetteIn h 4 = (u, true) → u.cluSt = cluMember →
    h.from_.toNat = u.get CLU_STAT_MGR → addrBad m.src.toNat = false → addrBad m.dst.toNat = false →
    addrDid m.src.toNat = u.did → u.aidOfMac m.mac.toNat = some a →
    ∃ t, exec (.handReqRx h m) s = .next t ∧ t.clu.hands = u.clu.hands ++ [{ handOf m 1 with aid := a }] ∧ t.ctx = u.ctx) ∧
  (∀ (s u : State) (h : Afette) (m : HandMsg) (a : Nat), s.afetteIn h 4 = (u, true) → u.cluSt = cluMember →
    h.from_.toNat = u.get CLU_STAT_MGR → addrBad m.src.toNat = false → addrBad m.dst.toNat = false → addrDid m.src.toNat ≠ u.did →
      addrDid m.dst.toNat = u.did → u.spnSt = spnLocked →
    u.clu.hands = [] → a = addrAid m.dst.toNat → a ≠ 0 → u.cxState a = 0 →
    ∃ (t : State) (g : Handoff), exec (.handReqRx h m) s = .next t ∧ t.clu.hands = [g] ∧ g.part = 2 ∧ g.aid = a ∧
      g.mac = m.mac.toNat ∧ t.cxState a = 2 ∧
      t.mac a = m.mac.toNat) ∧
  (∀ (s u : State) (h : Afette) (m : HandMsg), s.afetteIn h 4 = (u, true) → u.cluSt = cluHoldover →
    exec (.handReqRx h m) s = .next u) ∧
  (∀ (s u : State) (h : Afette) (m : HandMsg), s.afetteIn h 4 = (u, true) → (addrBad m.src.toNat = true ∨ addrBad m.dst.toNat = true) →
    exec (.handReqRx h m) s = .next u ∧ exec (.handAcceptRx h m) s = .next u ∧
    (∀ body, exec (.handCtxRx h m body) s = .next u) ∧
    (∀ tid sn has len air data, exec (.handFrameRx h m tid sn has len air data) s = .next u) ∧
    (∀ refuse, exec (.handAbortRx h m refuse) s = .next u) ∧
    (u.reports = [] → u.clu.hands = [] → ∀ same air fr, exec (.handEndRx h m same air fr) s = .next u)) ∧
  (∀ (s u : State) (h : Afette) (m : HandMsg) (g : Handoff), s.afetteIn h 4 = (u, true) → u.hand 1 m.hid.toNat = some g →
    addrBad m.src.toNat = false → addrBad m.dst.toNat = false → u.afetteTick < g.cut → u.cxState g.aid = 1 →
    u.mac g.aid = g.mac →
    ∃ t, exec (.handAcceptRx h m) s = .next t ∧ t.hand 1 m.hid.toNat = some { g with dst := m.dst.toNat } ∧ t.cxState g.aid = 2 ∧
      t.cxBit g.aid 240 1 = true ∧ t.cx g.aid 248 8 = packTick g.cut ∧ t.mac g.aid = u.mac g.aid) ∧
  (∀ (s u : State) (h : Afette) (m : HandMsg) (g : Handoff), s.afetteIn h 4 = (u, true) → u.hand 1 m.hid.toNat = some g →
    addrBad m.src.toNat = false → addrBad m.dst.toNat = false → u.cxState g.aid ≠ 2 → g.loaded = false →
    (g.cut ≤ u.afetteTick ∨ u.cxState g.aid ≠ 1 ∨ u.mac g.aid ≠ g.mac) →
    ∃ t, exec (.handAcceptRx h m) s = .next t ∧ t.hand 1 m.hid.toNat = none ∧ (u.hand 2 m.hid.toNat = none → t.ctx = u.ctx)) ∧
  (∀ (s : State) (hid : BitVec 32) (h : Handoff), s.clockOn = true → s.hand 1 hid.toNat = some h → h.loaded = false → h.aid ≠ 0 →
    s.cxState h.aid = 2 →
    s.flag SYS_DIE_STAT_FRN_UP = false →
    ∃ t, exec (.handCut hid) s = .next t ∧ (t.hand 1 hid.toNat).map (·.loaded) = some true ∧
      (∀ (r : Fin 3) (q : Nat), ∀ f ∈ t.queue r q, f.aid ≠ h.aid) ∧ ∀ k < 8, t.cxBit h.aid 194 k = false) ∧
  (∀ (s : State) (hid : BitVec 32) (h : Handoff), s.clockOn = true → s.hand 1 hid.toNat = some h → h.loaded = true →
    ∃ t, exec (.handSettleEnd hid) s = .next t ∧ t.hand 1 hid.toNat = none ∧
      t.clu.forward = s.clu.forward ++ [{ h with lmacs := (List.range 3).map (fun l => s.mr h.aid (6 * l) 6) }] ∧
      t.cxState h.aid = 0) ∧
  (∀ (s : State) (hid : BitVec 32), s.hand 1 hid.toNat = none → s.retq = [] → exec (.handCut hid) s = .next s ∧
    exec (.handSettleEnd hid) s = .next s) ∧
  (∀ (s u : State) (h : Afette) (m : HandMsg) (body : List Byte) (g : Handoff), s.afetteIn h 4 = (u, true) →
    addrBad m.src.toNat = false → addrBad m.dst.toNat = false → u.hand 2 m.hid.toNat = some g → 256 ≤ body.length →
    ∃ t, exec (.handCtxRx h m body) s = .next t ∧ t.cxState g.aid = 2 ∧ t.mac g.aid = leNum ((body.drop 4).take 6) ∧
      t.cx g.aid 248 8 = packTick g.cut) ∧
  (∀ (s u v : State) (h : Afette) (m : HandMsg) (g : Handoff) (tid : BitVec 4) (sn : BitVec 12) (len : BitVec 14) (air : AirTime)
      (data : List Byte) (id : Nat), s.afetteIn h 4 = (u, true) → u.hand 2 m.hid.toNat = some g → u.overLimit g.aid len.toNat = false →
    addrBad m.src.toNat = false → addrBad m.dst.toNat = false → u.alloc ownAcc len.toNat data = (v, some id) →
    ∃ (t : State) (f : TxFrame), exec (.handFrameRx h m tid sn true len air data) s = .next t ∧ f.len = len.toNat ∧
      t.stq g.aid (min tid.toNat 8) = u.stq g.aid (min tid.toNat 8) ++ [f] ∧ f.chain = id ∧ f.sn = some sn.toNat) ∧
  (∀ (s u : State) (h : Afette) (m : HandMsg) (g : Handoff) (tid : BitVec 4) (sn : BitVec 12) (has : Bool) (len : BitVec 14)
      (air : AirTime) (data : List Byte), s.afetteIn h 4 = (u, true) → u.hand 2 m.hid.toNat = some g →
    addrBad m.src.toNat = false → addrBad m.dst.toNat = false → u.overLimit g.aid len.toNat = true →
    exec (.handFrameRx h m tid sn has len air data) s = .next (u.bump ACC_CNT_TX_OVERSIZE)) ∧
  (∀ (s u : State) (h : Afette) (m : HandMsg) (g : Handoff) (same : Bool) (air : AirTime) (fr : List Byte), s.afetteIn h 4 = (u, true) →
    addrBad m.src.toNat = false → addrBad m.dst.toNat = false → u.cluSt = cluMember → u.hand 2 m.hid.toNat = some g →
    ∃ t, exec (.handEndRx h m same air fr) s = .next t ∧ t.cxState g.aid = 1 ∧ t.hand 2 m.hid.toNat = none ∧
      t.rd CLU_CNT_HAND_OK = BitVec.ofNat 32 (min 0xFFFFFFFF ((u.rd CLU_CNT_HAND_OK).toNat + 1))) ∧
  (∀ (s u : State) (h : Afette) (m : HandMsg) (refuse : Bool) (g : Handoff), s.afetteIn h 4 = (u, true) →
    addrBad m.src.toNat = false → addrBad m.dst.toNat = false → u.hand 0 m.hid.toNat = none → u.hand 1 m.hid.toNat = none →
      u.hand 2 m.hid.toNat = some g → u.cxState g.aid = 2 →
    ∃ t, exec (.handAbortRx h m refuse) s = .next t ∧ t.hand 2 m.hid.toNat = none ∧ t.cxState g.aid = 0) ∧
  (∀ (s : State) (hid : BitVec 32) (g : Handoff), s.clockOn = true → s.hand 2 hid.toNat = some g →
    ∃ t, exec (.handTimeout hid) s = .next t ∧ t.hand 2 hid.toNat = none ∧ t.flag CLU_EVT_HAND_FAIL = true ∧
      t.rd CLU_CNT_HAND_FAIL = BitVec.ofNat 32 (min 0xFFFFFFFF ((s.rd CLU_CNT_HAND_FAIL).toNat + 1))) ∧
  (∀ (s : State) (hid : BitVec 32), s.hand 2 hid.toNat = none → exec (.handTimeout hid) s = .next s)


/-! ## The router (spec/09_router_pipeline.md) -/

/-- R200, R201, R205 to R207, R215, R216: the packet at the head of an ingress takes a free slot and the next sequence tag and is
parsed from its ingress code; one that does not parse is an exception of its stop; with the parser off it is dropped and counted; with
no slot it waits, counted once; one whose bytes find no buffers is dropped (the model's choice, log entry 18), and a protected one
waits for its lane (log entry 17). R244, R245, R247, R249: a packet takes ceil(LEN / 2,048) buffers, gives its references back and shares
them, and the books page is copied. -/
def Obligations.PacketEntry : Prop :=
  (∀ (s u : State) (q : BitVec 2) (k : Packet) (l : List Packet) (r : ParseRes), s.clockOn = true → s.serving = true →
    s.ingressOf q.toNat = k :: l → k.sec = false → s.flag PRS_CTL_EN = true → s.prs.slots.length < 8192 →
    ((s.setIngress q.toNat l).moveRef k.chain k.owner ownRob).refit ownRob k.chain k.bytes = (u, true) →
    r = s.parse k.iport (if k.iport < 3 then k.aid else 0) (if k.iport < 3 then k.tid else 0) k.bytes →
    ∃ (t : State) (x : Slot), exec (.packetEntry q) s = .next t ∧ t.ingressOf q.toNat = l ∧ t.prs.slots = s.prs.slots ++ [x] ∧
      x.seq = (s.rd ROB_SEQ).toNat ∧ x.pkt = k ∧ x.st = .pending ∧ x.flow = none ∧ x.len = k.bytes.length ∧ x.parse = r ∧
      t.rd ROB_SEQ = s.rd ROB_SEQ + 1 ∧ t.prs.wc = s.prs.wc ∧ t.prs.em = s.prs.em ∧
      (r.status = stOk → x.exc = none ∧ x.wc = s.wcLookup r.key) ∧
      ∀ c : Fin 6, c ≠ 0 → r.status = c.val → x.wc = none ∧ x.exc.map (·.1) = some c.val ∧
        t.rd (PRS_CNT_EXC c.val) = BitVec.ofNat 32 (min 0xFFFFFFFF ((s.rd (PRS_CNT_EXC c.val)).toNat + 1)) ∧
        (s.flag (PRS_EXC_CFG_TO_HOST c.val) = false → x.exc = some (c.val, none))) ∧
  (∀ (s : State) (q : BitVec 2) (k : Packet) (l : List Packet), s.clockOn = true → s.serving = true → s.ingressOf q.toNat = k :: l →
    k.sec = false → s.flag PRS_CTL_EN = false →
    ∃ t, exec (.packetEntry q) s = .next t ∧ t.ingressOf q.toNat = l ∧ t.prs.slots = s.prs.slots ∧
      t.rd PRS_CNT_DROP = BitVec.ofNat 32 (min 0xFFFFFFFF ((s.rd PRS_CNT_DROP).toNat + 1))) ∧
  (∀ (s : State) (q : BitVec 2) (k : Packet) (l : List Packet), s.clockOn = true → s.serving = true → s.ingressOf q.toNat = k :: l →
    k.sec = false → s.flag PRS_CTL_EN = true → 8192 ≤ s.prs.slots.length →
    (k.waited = true → exec (.packetEntry q) s = .next s) ∧
    (k.waited = false → ∃ t, exec (.packetEntry q) s = .next t ∧ t.ingressOf q.toNat = { k with waited := true } :: l ∧
      t.prs.slots = s.prs.slots ∧ t.flag ROB_EVT_STALL = true ∧
      t.rd ROB_CNT_STALL = BitVec.ofNat 32 (min 0xFFFFFFFF ((s.rd ROB_CNT_STALL).toNat + 1)))) ∧
  (∀ (s u : State) (q : BitVec 2) (k : Packet) (l : List Packet), s.clockOn = true → s.serving = true →
    s.ingressOf q.toNat = k :: l → k.sec = false → s.flag PRS_CTL_EN = true → s.prs.slots.length < 8192 →
    ((s.setIngress q.toNat l).moveRef k.chain k.owner ownRob).refit ownRob k.chain k.bytes = (u, false) →
    ∃ t, exec (.packetEntry q) s = .next t ∧ t.ingressOf q.toNat = l ∧ t.prs.slots = s.prs.slots ∧ t.rd ROB_SEQ = s.rd ROB_SEQ) ∧
  (∀ (s : State) (q : BitVec 2), (s.serving = false ∨ s.ingressOf q.toNat = [] ∨ ∃ k l, s.ingressOf q.toNat = k :: l ∧ k.sec = true) →
    exec (.packetEntry q) s = .next s) ∧
  (∀ (s : State) (own : BitVec 4) (len : BitVec 24), s.clockOn = true → own.toNat ≤ 11 → 1 ≤ len.toNat →
    (s.rd CHK_TIER).getLsbD own.toNat = true → (len.toNat + 2047) / 2048 ≤ (s.rd CHK_FREE_ODIE).toNat →
    s.chain? s.chk.nextId = none →
    ∃ (t : State) (c : Chain), exec (.bufferAlloc own len) s = .next t ∧ t.chain? s.chk.nextId = some c ∧ c.len = len.toNat ∧
      c.owners = [own.toNat] ∧ c.bufs.length = (len.toNat + 2047) / 2048 ∧
      (t.rd CHK_FREE_ODIE).toNat + (len.toNat + 2047) / 2048 = (s.rd CHK_FREE_ODIE).toNat ∧ t.rd CHK_FREE_DRAM = s.rd CHK_FREE_DRAM) ∧
  (∀ (s : State) (own : BitVec 4) (h : BitVec 24) (c : Chain), s.clockOn = true → s.badHandle h.toNat = false →
    s.chainOf h.toNat = some c → s.chain? c.id = some c →
    (own.toNat ∈ c.owners → ∃ t, exec (.bufferRelease own h) s = .next t ∧
      t.chain? c.id = (if c.owners.length = 1 then none else some { c with owners := c.owners.erase own.toNat })) ∧
    (c.owners.length < 4 → ∃ t, exec (.referenceAdd own h) s = .next t ∧
      t.chain? c.id = some { c with owners := c.owners ++ [own.toNat] } ∧ t.regs = s.regs)) ∧
  (∀ s : State, s.reach none CHK_BOOK_CMD = .made →
    ∃ t, exec .booksSnap s = .next t ∧ t.rd CHK_BK_FREE_ODIE = s.rd CHK_FREE_ODIE ∧ t.rd CHK_BK_FREE_DRAM = s.rd CHK_FREE_DRAM ∧
      t.rd CHK_BK_EXTRA = BitVec.ofNat 32 s.extra ∧ t.chk = s.chk)

/-- R207, R211 to R213, R215, R216, R262, R264: the oldest unclassified packet takes the exact table's result before the wildcard
table's: its flow is fixed, its outputs are those of the result, a dropped one is counted, one with a program queues a task or holds
the classifier; with neither result it is an exception of class MISS; a slot that was retired
before takes its place in its flow as it is; the hash profiles take writes only with the parser off. -/
def Obligations.Classification : Prop :=
  (∀ (s : State) (x : Slot) (v : Nat), s.clockOn = true → s.prs.slots.find? (fun y => y.flow.isNone) = some x → x.st = .pending →
    x.exc = none →
    (s.emLookup x.parse.key = some v ∨ s.emLookup x.parse.key = none ∧ x.wc = some v) → resProg v = 0 →
    (resDisp v ≠ 0 → ∃ (t : State) (y : Slot), exec .classifyDone s = .next t ∧ t.slotOf? x.seq = some y ∧ y.st = .done ∧ y.result = v ∧
      y.flow = some (s.flowOf x.pkt.iport x.parse.key (resHprof v)) ∧ y.outs = resOutputs v ∧ y.classAt = s.ref ∧ t.tsk = s.tsk) ∧
    (resDisp v = 0 → ∃ (t : State) (y : Slot), exec .classifyDone s = .next t ∧ t.slotOf? x.seq = some y ∧ y.st = .dropped ∧
      y.flow = some (s.flowOf x.pkt.iport x.parse.key (resHprof v)) ∧
      t.rd PRS_CNT_DROP = BitVec.ofNat 32 (min 0xFFFFFFFF ((s.rd PRS_CNT_DROP).toNat + 1)))) ∧
  (∀ (s : State) (x : Slot) (v : Nat), s.clockOn = true → s.prs.slots.find? (fun y => y.flow.isNone) = some x → x.st = .pending →
    x.exc = none →
    s.emLookup x.parse.key = some v → (resProg v = 0 ∨ s.canQueue srcPkt (resTclass v) = true) →
    ∃ t, exec .classifyDone s = .next t ∧
      t.rd PRS_CNT_EM_HIT = BitVec.ofNat 32 (min 0xFFFFFFFF ((s.rd PRS_CNT_EM_HIT).toNat + 1)) ∧
      t.rd PRS_CNT_WC_HIT = s.rd PRS_CNT_WC_HIT) ∧
  (∀ (s : State) (x : Slot) (v : Nat), s.clockOn = true → s.prs.slots.find? (fun y => y.flow.isNone) = some x → x.st = .pending →
    s.slotOf? x.seq = some x →
    x.exc = none →
    (s.emLookup x.parse.key = some v ∨ s.emLookup x.parse.key = none ∧ x.wc = some v) → resProg v ≠ 0 →
    (s.canQueue srcPkt (resTclass v) = true → ∃ (t : State) (y : Slot) (k : Task), exec .classifyDone s = .next t ∧
      t.slotOf? x.seq = some y ∧ y.st = x.st ∧
      y.flow = some (s.flowOf x.pkt.iport x.parse.key (resHprof v)) ∧ t.tsk.tasks = s.tsk.tasks ++ [k] ∧ k.slot = some x.seq ∧
      k.cls = resTclass v ∧ k.src = srcPkt ∧ k.st = .ready) ∧
    (s.canQueue srcPkt (resTclass v) = false → x.held = false → ∃ (t : State) (y : Slot), exec .classifyDone s = .next t ∧
      t.slotOf? x.seq = some y ∧ y.flow = none ∧ y.held = true ∧ t.tsk.tasks = s.tsk.tasks ∧
      t.rd TSK_CNT_BP = BitVec.ofNat 32 (min 0xFFFFFFFF ((s.rd TSK_CNT_BP).toNat + 1))) ∧
    (s.canQueue srcPkt (resTclass v) = false → x.held = true → exec .classifyDone s = .next s)) ∧
  (∀ (s : State) (x : Slot) (c : Nat), s.clockOn = true → s.prs.slots.find? (fun y => y.flow.isNone) = some x → x.st = .pending →
    (∀ q, x.exc = some (c, some q) → ∃ (t : State) (y : Slot), exec .classifyDone s = .next t ∧ t.slotOf? x.seq = some y ∧ y.st = .done ∧
      y.outs = [{ port := 2, queue := q }] ∧ y.flow = some (s.flowOf x.pkt.iport x.parse.key (s.get (PRS_EXC_CFG_HPROF c)))) ∧
    (x.exc = some (c, none) → ∃ (t : State) (y : Slot), exec .classifyDone s = .next t ∧ t.slotOf? x.seq = some y ∧ y.st = .dropped ∧
      y.flow = some (s.flowOf x.pkt.iport x.parse.key (s.get (PRS_EXC_CFG_HPROF c))))) ∧
  (∀ (s : State) (x : Slot), s.clockOn = true → s.prs.slots.find? (fun y => y.flow.isNone) = some x → x.st = .pending → x.exc = none →
    s.emLookup x.parse.key = none → x.wc = none → s.flag (PRS_EXC_CFG_TO_HOST 0) = false →
    ∃ (t : State) (y : Slot), exec .classifyDone s = .next t ∧ t.slotOf? x.seq = some y ∧ y.st = .dropped ∧ y.exc = some (0, none) ∧
      t.rd (PRS_CNT_EXC 0) = BitVec.ofNat 32 (min 0xFFFFFFFF ((s.rd (PRS_CNT_EXC 0)).toNat + 1))) ∧
  (∀ (s : State) (x : Slot), s.clockOn = true → s.prs.slots.find? (fun y => y.flow.isNone) = some x → s.slotOf? x.seq = some x →
    x.st ≠ .pending →
    ∃ (t : State) (y : Slot), exec .classifyDone s = .next t ∧ t.slotOf? x.seq = some y ∧ y.flow.isSome = true ∧ y.st = x.st ∧
      t.prs.slots.length = s.prs.slots.length ∧ t.tsk = s.tsk ∧ t.chk = s.chk) ∧
  (∀ s : State, s.prs.slots.find? (fun y => y.flow.isNone) = none → exec .classifyDone s = .next s) ∧
  (∀ (s : State) (p : BitVec 4) (hi : Bool) (v : Word), s.reach none (if hi then PRS_HPROF_HI p.toNat else PRS_HPROF_LO p.toNat) = .made →
    (s.flag PRS_CTL_EN = false → ∃ t, exec (.hprofWrite false p hi v) s = .next t ∧
      t.rd (if hi then PRS_HPROF_HI p.toNat else PRS_HPROF_LO p.toNat) = v) ∧
    (s.flag PRS_CTL_EN = true → ∃ t, exec (.hprofWrite false p hi v) s = .next t ∧ t.flag PRS_EVT_TBL_ERR = true ∧
      t.rd (PRS_HPROF_LO p.toNat) = s.rd (PRS_HPROF_LO p.toNat) ∧ t.rd (PRS_HPROF_HI p.toNat) = s.rd (PRS_HPROF_HI p.toNat))) ∧
  (∀ (s : State) (p : BitVec 4) (hi : Bool) (v : Word), s.reach none ROB_CFG = .made →
    (s.flag PRS_CTL_EN = false → ∃ t, exec (.hprofWrite true p hi v) s = .next t ∧ t.rd ROB_CFG = v &&& 0xF) ∧
    (s.flag PRS_CTL_EN = true → ∃ t, exec (.hprofWrite true p hi v) s = .next t ∧ t.flag PRS_EVT_TBL_ERR = true ∧
      t.rd ROB_CFG = s.rd ROB_CFG))

/-- R208 to R211: a table command is taken while none runs; done, it reads an entry into the staging window, writes or inserts one
whose result keeps R211, or deletes one; an insertion that finds both buckets full, a deletion that finds nothing and a result that
breaks R211 fail with their codes; the exact table's mask changes only while the table is empty. -/
def Obligations.RuleTables : Prop :=
  (∀ (s : State) (exact : Bool) (index : BitVec 14), s.reach none PRS_TBL_CMD = .made → s.flag PRS_TBL_STAT_BUSY = false →
    (∃ t, exec (.tableRead exact index) s = .next t ∧ t.flag PRS_TBL_STAT_BUSY = true ∧
      t.prs.cmd = some ⟨0, exact, index.toNat, s.memBytes entData 128⟩) ∧
    (∃ t, exec (.tableWrite index) s = .next t ∧ t.flag PRS_TBL_STAT_BUSY = true ∧
      t.prs.cmd = some ⟨1, false, index.toNat, s.memBytes entData 128⟩) ∧
    (∃ t, exec (.tableInsert index) s = .next t ∧ t.flag PRS_TBL_STAT_BUSY = true ∧
      t.prs.cmd = some ⟨1, true, index.toNat, s.memBytes entData 128⟩) ∧
    (∃ t, exec (.tableDelete exact index) s = .next t ∧ t.flag PRS_TBL_STAT_BUSY = true ∧
      t.prs.cmd = some ⟨2, exact, index.toNat, s.memBytes entData 128⟩)) ∧
  (∀ (s : State) (exact : Bool) (index : BitVec 14), s.reach none PRS_TBL_CMD = .made → s.flag PRS_TBL_STAT_BUSY = true →
    exec (.tableRead exact index) s = .next (s.hostWrote PRS_TBL_CMD) ∧
    exec (.tableWrite index) s = .next (s.hostWrote PRS_TBL_CMD) ∧
    exec (.tableInsert index) s = .next (s.hostWrote PRS_TBL_CMD) ∧
    exec (.tableDelete exact index) s = .next (s.hostWrote PRS_TBL_CMD)) ∧
  (∀ (s : State) (i : Nat) (d : List Byte) (v : Nat), s.clockOn = true → s.prs.cmd = some ⟨1, false, i, d⟩ →
    v = leNum ((d.drop 96).take 16) →
    (resInvalid v = false → ∃ t, exec .tableCommandDone s = .next t ∧
      t.wcGet i = some ⟨(d.drop 0).take 48, (d.drop 48).take 48, v⟩ ∧ (∀ j, j ≠ i → t.wcGet j = s.wcGet j) ∧
      t.flag PRS_TBL_STAT_BUSY = false ∧ t.flag PRS_TBL_STAT_ERR = false ∧ t.prs.em = s.prs.em ∧
      t.flag PRS_TBL_STAT_HIT = s.flag PRS_TBL_STAT_HIT) ∧
    (resInvalid v = true → ∃ t, exec .tableCommandDone s = .next t ∧ t.prs.wc = s.prs.wc ∧ t.flag PRS_TBL_STAT_BUSY = false ∧
      t.flag PRS_TBL_STAT_ERR = true ∧ t.get PRS_TBL_STAT_CODE = 3 ∧ t.flag PRS_EVT_TBL_ERR = true)) ∧
  (∀ (s : State) (i : Nat) (d : List Byte), s.clockOn = true → s.prs.cmd = some ⟨2, false, i, d⟩ →
    ∃ t, exec .tableCommandDone s = .next t ∧ t.wcGet i = none ∧ (∀ j, j ≠ i → t.wcGet j = s.wcGet j) ∧
      t.flag PRS_TBL_STAT_BUSY = false ∧ t.flag PRS_TBL_STAT_ERR = false) ∧
  (∀ (s : State) (i : Nat) (d : List Byte) (e : WcEntry), s.clockOn = true → s.prs.cmd = some ⟨0, false, i, d⟩ → s.wcGet i = some e →
    e.value.length = 48 → e.mask.length = 48 →
    ∃ t, exec .tableCommandDone s = .next t ∧ t.memBytes entData 96 = e.value ++ e.mask ∧ t.prs.wc = s.prs.wc ∧
      t.flag PRS_TBL_STAT_BUSY = false) ∧
  (∀ (s : State) (i : Nat) (d k : List Byte) (v : Nat), s.clockOn = true → s.prs.cmd = some ⟨1, true, i, d⟩ →
    k = s.emKey ((d.drop 0).take 48) →
    v = leNum ((d.drop 48).take 16) →
    (resInvalid v = false → (s.emFind k ≠ none ∨ ∃ j ∈ candidates (crc32c k) 32768, s.emGet j = none) →
      ∃ (t : State) (j : Nat), exec .tableCommandDone s = .next t ∧ t.emFind k = some (j, v) ∧ (∀ n, n ≠ j → t.emGet n = s.emGet n) ∧
        t.flag PRS_TBL_STAT_BUSY = false ∧ t.flag PRS_TBL_STAT_ERR = false) ∧
    (resInvalid v = false → s.emFind k = none → (∀ j ∈ candidates (crc32c k) 32768, s.emGet j ≠ none) →
      ∃ t, exec .tableCommandDone s = .next t ∧ t.prs.em = s.prs.em ∧ t.flag PRS_EVT_EM_FULL = true ∧
        t.flag PRS_TBL_STAT_ERR = true ∧ t.get PRS_TBL_STAT_CODE = 1) ∧
    (resInvalid v = true → ∃ t, exec .tableCommandDone s = .next t ∧ t.prs.em = s.prs.em ∧ t.flag PRS_TBL_STAT_ERR = true ∧
      t.get PRS_TBL_STAT_CODE = 3)) ∧
  (∀ (s : State) (i : Nat) (d k : List Byte), s.clockOn = true → s.prs.cmd = some ⟨2, true, i, d⟩ → k = s.emKey ((d.drop 0).take 48) →
    (∀ j v, s.emFind k = some (j, v) → ∃ t, exec .tableCommandDone s = .next t ∧ t.emGet j = none ∧
      (∀ n, n ≠ j → t.emGet n = s.emGet n) ∧ t.flag PRS_TBL_STAT_ERR = false) ∧
    (s.emFind k = none → ∃ t, exec .tableCommandDone s = .next t ∧ t.prs.em = s.prs.em ∧ t.flag PRS_TBL_STAT_ERR = true ∧
      t.get PRS_TBL_STAT_CODE = 2)) ∧
  (∀ (s : State) (i : Nat) (d k : List Byte), s.clockOn = true → s.prs.cmd = some ⟨0, true, i, d⟩ → k = s.emKey ((d.drop 0).take 48) →
    ∃ t, exec .tableCommandDone s = .next t ∧ t.prs.em = s.prs.em ∧ t.flag PRS_TBL_STAT_HIT = (s.emFind k).isSome ∧
      t.flag PRS_TBL_STAT_ERR = false) ∧
  (∀ s : State, s.prs.cmd = none → exec .tableCommandDone s = .next s) ∧
  (∀ (s : State) (hi : Bool) (v : Word), s.reach none (if hi then PRS_EM_MASK_HI else PRS_EM_MASK_LO) = .made →
    (s.get PRS_EM_STAT_USED = 0 → ∃ t, exec (.emMaskWrite hi v) s = .next t ∧
      (hi = true → t.rd PRS_EM_MASK_HI = v &&& 0xFFFF ∧ t.rd PRS_EM_MASK_LO = s.rd PRS_EM_MASK_LO) ∧
      (hi = false → t.rd PRS_EM_MASK_LO = v ∧ t.rd PRS_EM_MASK_HI = s.rd PRS_EM_MASK_HI)) ∧
    (s.get PRS_EM_STAT_USED ≠ 0 → ∃ t, exec (.emMaskWrite hi v) s = .next t ∧ t.flag PRS_EVT_TBL_ERR = true ∧
      t.rd PRS_EM_MASK_LO = s.rd PRS_EM_MASK_LO ∧ t.rd PRS_EM_MASK_HI = s.rd PRS_EM_MASK_HI))

/-- R214, R219, R222: only the head slot of a flow is released, and only once it is no longer PENDING or REDISP; it hands its
packet to its outputs in turn, keeps one that a port holds, counts one that has no destination, and frees; a dropped slot or a hole
frees at once. -/
def Obligations.SlotRelease : Prop :=
  (∀ (s : State) (flow : BitVec 12) (full : BitVec 2) (mpdu : BitVec 14) (air : AirTime) (x : Slot), s.clockOn = true →
    s.slotsOver = false →
    s.prs.slots.find? (fun y => y.flow == some flow.toNat) = some x →
    ((x.st = .pending ∨ x.st = .redisp) → exec (.slotRelease flow full mpdu air) s = .next s) ∧
    ((x.st = .dropped ∨ x.st = .hole) → ∃ t, exec (.slotRelease flow full mpdu air) s = .next t ∧
      t.prs.slots = s.prs.slots.filter (fun y => y.seq != x.seq)) ∧
    (x.st = .done → x.outs = [] → s.hif.wait = [] → ∃ t, exec (.slotRelease flow full mpdu air) s = .next t ∧
      t.slotOf? x.seq = none ∧ t.out = s.out) ∧
    (∀ q, x.st = .done → x.outs = [{ port := 2, queue := q }] → s.hif.wait = [] → x.exc = none →
      s.hostFate (q % 32) (s.dataOf x.pkt.chain).length = .ready →
      ∃ (t : State) (w : HostOut), exec (.slotRelease flow full mpdu air) s = .next t ∧ t.slotOf? x.seq = none ∧ t.hif.wait = [w] ∧
        w.q = q % 32 ∧
        w.seq = x.seq ∧ w.chain = x.pkt.chain ∧ w.bytes = s.dataOf x.pkt.chain ∧ w.held = none) ∧
    (∀ (p : Fin 2) (o : Output), x.st = .done → x.outs = [o] → o.port = p.val → s.ethTakes p o.txw (full.getLsbD p.val) = false →
      ∃ (t : State) (y : Slot), exec (.slotRelease flow full mpdu air) s = .next t ∧ t.slotOf? x.seq = some y ∧ y.outs = [o] ∧
        y.releasing = true ∧
        t.eth = s.eth) ∧
    (∀ o : Output, x.st = .done → x.outs = [o] → o.port = 3 → s.airOk (o.dst % 8192) = false → s.clu.forward = [] → s.hif.wait = [] →
      ∃ t, exec (.slotRelease flow full mpdu air) s = .next t ∧ t.slotOf? x.seq = none ∧ t.flag ROB_EVT_NODEST = true ∧
        t.rd ROB_CNT_NODEST = BitVec.ofNat 32 (min 0xFFFFFFFF ((s.rd ROB_CNT_NODEST).toNat + 1)))) ∧
  (∀ (s : State) (flow : BitVec 12) (full : BitVec 2) (mpdu : BitVec 14) (air : AirTime),
    (s.slotsOver = true ∨ s.prs.slots.find? (fun y => y.flow == some flow.toNat) = none) →
    exec (.slotRelease flow full mpdu air) s = .next s)


/-! ## The Ethernet ports (spec/10_ethernet.md) -/

/-- R225 to R231: a frame that arrives on a live port is counted as runt, without buffer, long, bad, PAUSE, or over the full ingress
queue, or joins the ingress queue without its FCS; a port that is not live takes nothing; a pause ends at its time. -/
def Obligations.EthernetReceive : Prop :=
  (∀ (s : State) (p : Fin 2) (data : List Byte) (good : Bool),
    (s.clockOn = false ∨ s.flag (ETH_CTL_EN p) = false ∨ s.flag (ETH_CTL_RX_EN p) = false ∨ s.flag (ETH_STAT_LINK p) = false) →
    exec (.ethFrameRx p data good) s = .next s) ∧
  (∀ (s : State) (p : Fin 2) (data : List Byte) (good : Bool), s.clockOn = true → s.flag (ETH_CTL_EN p) = true →
    s.flag (ETH_CTL_RX_EN p) = true → s.flag (ETH_STAT_LINK p) = true → data.length < 64 →
    ∃ t, exec (.ethFrameRx p data good) s = .next t ∧ t.eth = s.eth ∧ t.chk = s.chk ∧
      t.rd (ETH_CNT_RUNT p) = BitVec.ofNat 32 (min 0xFFFFFFFF ((s.rd (ETH_CNT_RUNT p)).toNat + 1))) ∧
  (∀ (s u : State) (p : Fin 2) (data b : List Byte) (good : Bool), s.clockOn = true → s.flag (ETH_CTL_EN p) = true →
    s.flag (ETH_CTL_RX_EN p) = true → s.flag (ETH_STAT_LINK p) = true → 64 ≤ data.length →
    b = data.take (min data.length (s.ethMax p) - 4) →
    (atLeast1 ((s.rd (ETH_RX_QUOTA p)).toNat % 2 ^ 21) < s.rxHeld p + (b.length + 2047) / 2048 ∨
      s.alloc (ownEth p) b.length b = (u, none)) →
    ∃ t, exec (.ethFrameRx p data good) s = .next t ∧ t.eth = s.eth ∧ t.flag (ETH_EVT_RX_NOBUF p) = true ∧
      t.rd (ETH_CNT_RX_NOBUF p) = BitVec.ofNat 32 (min 0xFFFFFFFF ((s.rd (ETH_CNT_RX_NOBUF p)).toNat + 1))) ∧
  (∀ (s u : State) (p : Fin 2) (data b : List Byte) (good : Bool) (id : Nat), s.clockOn = true → s.flag (ETH_CTL_EN p) = true →
    s.flag (ETH_CTL_RX_EN p) = true → s.flag (ETH_STAT_LINK p) = true → 64 ≤ data.length →
    b = data.take (min data.length (s.ethMax p) - 4) →
    s.rxHeld p + (b.length + 2047) / 2048 ≤ atLeast1 ((s.rd (ETH_RX_QUOTA p)).toNat % 2 ^ 21) →
    s.alloc (ownEth p) b.length b = (u, some id) →
    (s.ethMax p < data.length → ∃ t, exec (.ethFrameRx p data good) s = .next t ∧ t.eth = s.eth ∧
      t.flag (ETH_EVT_LONG p) = true ∧
      t.rd (ETH_CNT_LONG p) = BitVec.ofNat 32 (min 0xFFFFFFFF ((s.rd (ETH_CNT_LONG p)).toNat + 1))) ∧
    (data.length ≤ s.ethMax p → good = false → ∃ t, exec (.ethFrameRx p data good) s = .next t ∧ t.eth = s.eth ∧
      t.rd (ETH_CNT_FCS p) = BitVec.ofNat 32 (min 0xFFFFFFFF ((s.rd (ETH_CNT_FCS p)).toNat + 1))) ∧
    (∀ n, data.length ≤ s.ethMax p → good = true → s.flag (ETH_CTL_PAUSE_RX p) = true → pauseTime b = some n →
      ∃ t, exec (.ethFrameRx p data good) s = .next t ∧ (t.port p).ingress = (s.port p).ingress ∧
        (t.port p).pauseEnd = (if n = 0 then none else some (s.ref + pauseHalf (s.get (ETH_STAT_RATE p)) n)) ∧
        t.rd (ETH_CNT_PAUSE_RX p) = BitVec.ofNat 32 (min 0xFFFFFFFF ((s.rd (ETH_CNT_PAUSE_RX p)).toNat + 1))) ∧
    (data.length ≤ s.ethMax p → good = true → (s.flag (ETH_CTL_PAUSE_RX p) = false ∨ pauseTime b = none) →
      ((s.port p).ingress.length < 256 → ∃ (t : State) (k : Packet), exec (.ethFrameRx p data good) s = .next t ∧
        (t.port p).ingress = (s.port p).ingress ++ [k] ∧ k.bytes = data.take (data.length - 4) ∧ k.chain = id ∧ k.src = 1 ∧
        k.port = p.val ∧ t.chk = u.chk ∧
        t.rd (ETH_CNT_RX_OK p) = BitVec.ofNat 32 (min 0xFFFFFFFF ((s.rd (ETH_CNT_RX_OK p)).toNat + 1))) ∧
      (256 ≤ (s.port p).ingress.length → ∃ t, exec (.ethFrameRx p data good) s = .next t ∧ t.eth = s.eth ∧
        t.flag (ETH_EVT_RX_QFULL p) = true ∧
        t.rd (ETH_CNT_RX_QFULL p) = BitVec.ofNat 32 (min 0xFFFFFFFF ((s.rd (ETH_CNT_RX_QFULL p)).toNat + 1))))) ∧
  (∀ (s : State) (p : Fin 2) (n : Nat), (s.port p).pauseEnd = some n →
    ∃ t, exec (.pauseEnd p) s = .next t ∧ (t.port p).pauseEnd = none ∧ (t.port p).ingress = (s.port p).ingress ∧ n ≤ t.ref ∧
      t.regs = s.regs) ∧
  (∀ (s : State) (p : Fin 2), (s.port p).pauseEnd = none → exec (.pauseEnd p) s = .next s)

/-- R233, R235, R236, R240: the head frame, the timing queue's first, goes on the line with its padding; none goes on a dead, paused or
idle line, nor before a protected one has passed its lane; a frame whose FIFO runs empty is cut, and the threshold may double; low-power
idle is entered on an idle line and left for a
frame; the partner's idle is shown. -/
def Obligations.EthernetTransmit : Prop :=
  (∀ (s : State) (p : Fin 2) (empty : Bool) (after : BitVec 14), (s.clockOn = false ∨ s.ethLive p = false ∨
    s.flag (ETH_STAT_LPI_TX p) = true ∨ (∃ n, (s.port p).pauseEnd = some n ∧ s.ref < n) ∨ (s.port p).pop = none ∨
      ∃ f e, (s.port p).pop = some (f, e) ∧ f.unsealed = true) →
    exec (.ethFrameTx p empty after) s = .next s) ∧
  (∀ (s : State) (p : Fin 2) (f : EthTx) (e : EthPort) (after : BitVec 14), s.clockOn = true → s.ethLive p = true →
    s.flag (ETH_STAT_LPI_TX p) = false → (s.port p).pauseEnd = none → (s.port p).pop = some (f, e) → f.unsealed = false → f.txw = 0 →
      f.host = none →
    f.sync = false →
    ∃ (t : State) (w : Nat), exec (.ethFrameTx p false after) s = .next t ∧
      t.out = s.out ++ [.ethTx p w (f.bytes ++ List.replicate (60 - f.wire f.bytes.length) 0) f.pn false] ∧
      (t.port p).txq = e.txq ∧ (t.port p).timing = e.timing ∧ (t.port p).ingress = (s.port p).ingress ∧
      t.rd (ETH_CNT_TX_OK p) = BitVec.ofNat 32 (min 0xFFFFFFFF ((s.rd (ETH_CNT_TX_OK p)).toNat + 1))) ∧
  (∀ (s : State) (p : Fin 2) (f : EthTx) (e : EthPort) (after : BitVec 14), s.clockOn = true → s.ethLive p = true →
    s.flag (ETH_STAT_LPI_TX p) = false → (s.port p).pauseEnd = none → (s.port p).pop = some (f, e) → f.unsealed = false → f.txw = 16 →
      f.host = none →
    f.sync = true → 60 ≤ f.bytes.length →
    ∃ (t : State) (w : Nat), exec (.ethFrameTx p false after) s = .next t ∧
      t.out = s.out ++ [.ethTx p w (patch f.bytes 46 (stampBytes (t.wideNs + t.get (ETH_PTP_DLY_TX_NS p)))) f.pn false]) ∧
  (∀ (s : State) (p : Fin 2) (f : EthTx) (e : EthPort) (after : BitVec 14) (b : List Byte), s.clockOn = true → s.ethLive p = true →
    s.flag (ETH_STAT_LPI_TX p) = false → (s.port p).pauseEnd = none → (s.port p).pop = some (f, e) → f.unsealed = false → f.txw = 0 →
      f.host = none →
    f.sync = false → b = f.bytes ++ List.replicate (60 - f.wire f.bytes.length) 0 → s.ethThr p < s.ethMax p → s.ethThr p ≤ after.toNat →
    after.toNat < b.length →
    ∃ (t : State) (w : Nat), exec (.ethFrameTx p true after) s = .next t ∧ t.out = s.out ++ [.ethTx p w (b.take after.toNat) f.pn true] ∧
      t.flag (ETH_EVT_UNDERRUN p) = true ∧ t.rd (ETH_CNT_TX_OK p) = s.rd (ETH_CNT_TX_OK p) ∧
      t.rd (ETH_CNT_TX_UNDERRUN p) = BitVec.ofNat 32 (min 0xFFFFFFFF ((s.rd (ETH_CNT_TX_UNDERRUN p)).toNat + 1)) ∧
      t.get (ETH_TX_THR_THR p) = if s.flag (ETH_TX_THR_AUTO p) then min (2 * s.ethThr p) 9600 else s.get (ETH_TX_THR_THR p)) ∧
  (∀ (s : State) (p : Fin 2), s.awake = true → s.flag (ETH_STAT_LINK p) = true → s.flag (ETH_CTL_EN p) = true →
    s.flag (ETH_CTL_LPI_EN p) = true → s.flag (ETH_STAT_LPI_TX p) = false →
    (s.port p).pop = none → (s.port p).pauseEnd = none →
    ∃ t, exec (.lpiEntry p) s = .next t ∧ t.flag (ETH_STAT_LPI_TX p) = true ∧
      t.rd (ETH_CNT_LPI_TX p) = BitVec.ofNat 32 (min 0xFFFFFFFF ((s.rd (ETH_CNT_LPI_TX p)).toNat + 1)) ∧
      (s.port p).idleFrom + 2000 * atLeast1 (s.get (ETH_LPI_CFG_IDLE p)) ≤ t.ref) ∧
  (∀ (s : State) (p : Fin 2), (s.awake = false ∨ s.flag (ETH_STAT_LINK p) = false ∨ s.flag (ETH_CTL_EN p) = false ∨
      s.flag (ETH_CTL_LPI_EN p) = false ∨ (s.port p).pop ≠ none) →
    exec (.lpiEntry p) s = .next s) ∧
  (∀ (s : State) (p : Fin 2), s.flag (ETH_STAT_LPI_TX p) = true → (s.port p).pop ≠ none →
    ∃ t, exec (.lpiWake p) s = .next t ∧ t.flag (ETH_STAT_LPI_TX p) = false ∧
      (t.port p).readyAt = s.ref + 2000 * s.get (ETH_LPI_CFG_TW p) ∧ (t.port p).pop.isSome = true) ∧
  (∀ (s : State) (p : Fin 2), (s.flag (ETH_STAT_LPI_TX p) = false ∨ (s.port p).pop = none) → exec (.lpiWake p) s = .next s) ∧
  (∀ (s : State) (p : Fin 2) (on : Bool),
    ∃ t, exec (.partnerLpiChange p on) s = .next t ∧ t.flag (ETH_STAT_LPI_RX p) = on ∧ s.onlyRegs t (fun a => a == ETH_STAT p))

/-- R224, R225, R235, R240, R242: the link comes up at its rate and drops with what the port held; CFG takes only what the port has
while it is disabled; a port that no longer sends drops its frames; a snapshot copies and clears the 18 counters. -/
def Obligations.EthernetControl : Prop :=
  (∀ (s : State) (p : Fin 2) (rate : BitVec 3) (rf : Bool), s.flag (ETH_STAT_LINK p) = false →
    ∃ t, exec (.linkUp p rate rf) s = .next t ∧ t.flag (ETH_STAT_LINK p) = true ∧ t.flag (ETH_EVT_LINK_UP p) = true ∧
      t.flag (ETH_STAT_LFAULT p) = false ∧ t.flag (ETH_STAT_RFAULT p) = rf ∧
      t.get (ETH_STAT_RATE p) = (if s.get (ETH_CFG_MODE p) ≤ 3 then s.get (ETH_CFG_MODE p)
        else if s.flag (ETH_CFG_AN_EN p) then rate.toNat else s.get (ETH_CFG_RATE p))) ∧
  (∀ (s : State) (p : Fin 2) (lf rf rx : Bool), s.flag (ETH_STAT_LINK p) = true →
    ∃ t, exec (.linkDown p lf rf rx) s = .next t ∧ t.flag (ETH_STAT_LINK p) = false ∧ t.flag (ETH_EVT_LINK_DOWN p) = true ∧
      t.flag (ETH_STAT_LFAULT p) = lf ∧ t.flag (ETH_STAT_RFAULT p) = rf ∧ t.flag (ETH_STAT_LPI_TX p) = false ∧
      (t.port p).txq = [] ∧ (t.port p).timing = [] ∧ (t.port p).late = [] ∧ (t.port p).ingress = (s.port p).ingress) ∧
  (∀ (s : State) (p : Fin 2) (v : Word), s.reach none (ETH_CFG p) = .made → s.flag (ETH_CTL_EN p) = false → v.toNat % 8 < 6 →
    (v.toNat % 8 = 5 → p = 0) → (v.getLsbD 4 = true ∨ modeHasRate (v.toNat % 8) (v.toNat / 256 % 8) = true) →
    ∃ t, exec (.ethCfgWrite p v) s = .next t ∧ t.rd (ETH_CFG p) = v &&& 0x717) ∧
  (∀ (s : State) (p : Fin 2) (v : Word), s.reach none (ETH_CFG p) = .made →
    (s.flag (ETH_CTL_EN p) = true ∨ 6 ≤ v.toNat % 8 ∨ v.toNat % 8 = 5 ∧ p = 1) →
    ∃ t, exec (.ethCfgWrite p v) s = .next t ∧ t.rd (ETH_CFG p) = s.rd (ETH_CFG p) ∧ t.flag (ETH_EVT_CFG_ERR p) = true) ∧
  (∀ (s : State) (p : Fin 2) (v : BitVec 7), s.reach none (ETH_CTL p) = .made →
    ∃ t, exec (.ethCtlWrite p v) s = .next t ∧ t.rd (ETH_CTL p) = v.setWidth 32 ∧
      t.flag (ETH_STAT_SQUELCH p) = (!t.flag (ETH_CTL_EN p)) ∧
      ((t.flag (ETH_CTL_EN p) = false ∨ t.flag (ETH_CTL_LPI_EN p) = false) → t.flag (ETH_STAT_LPI_TX p) = false) ∧
      (t.ethLive p = true → (t.port p).txq = (s.port p).txq ∧ (t.port p).timing = (s.port p).timing) ∧
      (t.ethLive p = false → (t.port p).txq = [] ∧ (t.port p).timing = [] ∧ (t.port p).late = [])) ∧
  (∀ (s : State) (p : Fin 2), s.reach none (ETH_SNAP_CMD p) = .made →
    ∃ t, exec (.snap p) s = .next t ∧ t.rd64 (ETH_SNAP_TICK_LO p) = s.stampTick ∧
      ∀ i < 18, t.mem (ethBase p + 0x200 + 4 * i) 4 = (s.rd (ethBase p + 0x100 + 4 * i)).toNat ∧
        t.rd (ethBase p + 0x100 + 4 * i) = 0)


/-! ## Buffers and books (spec/11_buffers_credits_order.md) -/

/-- R244, R245, R247 to R249, R252, R255: an owner that the tiers serve gets ceil(LEN / 2,048) buffers; one that they do not gets none
and the failure is counted; a release by an owner drops its reference, the last one frees the chain; a chain takes at most four
references; a handle that names no packet is a bad release; the books page is copied at one instant. -/
def Obligations.BuffersAndBooks : Prop :=
  (∀ (s : State) (own : BitVec 4) (len : BitVec 24), s.clockOn = true → own.toNat ≤ 11 → 1 ≤ len.toNat → len.toNat ≤ 2048 →
    (s.rd CHK_TIER).getLsbD own.toNat = true → 0 < (s.rd CHK_FREE_ODIE).toNat → s.chk.chains = [] →
    ∃ (t : State) (c : Chain) (h : Nat), exec (.bufferAlloc own len) s = .next t ∧ t.chk.chains = [c] ∧ c.bufs = [h] ∧ hTier h = 1 ∧
      t.badHandle h = false ∧
      c.owners = [own.toNat] ∧ c.len = len.toNat ∧ (t.rd CHK_FREE_ODIE).toNat + 1 = (s.rd CHK_FREE_ODIE).toNat ∧
      t.rd CHK_FREE_DRAM = s.rd CHK_FREE_DRAM) ∧
  (∀ (s : State) (own : BitVec 4) (len : BitVec 24), s.clockOn = true → own.toNat ≤ 11 → 1 ≤ len.toNat → len.toNat ≤ 2048 →
    (s.rd CHK_TIER).getLsbD own.toNat = false → (own.toNat ≤ 2 → (s.rd CHK_RSV).toNat < (s.rd CHK_FREE_DRAM).toNat) →
    0 < (s.rd CHK_FREE_DRAM).toNat → (s.rd CHK_DRAM_CNT).toNat ≤ 2 ^ 20 → s.chk.chains = [] →
    ∃ (t : State) (c : Chain) (h : Nat), exec (.bufferAlloc own len) s = .next t ∧ t.chk.chains = [c] ∧ c.bufs = [h] ∧ hTier h = 0 ∧
      c.owners = [own.toNat] ∧ (t.rd CHK_FREE_DRAM).toNat + 1 = (s.rd CHK_FREE_DRAM).toNat ∧
      t.rd CHK_FREE_ODIE = s.rd CHK_FREE_ODIE) ∧
  (∀ (s : State) (own : BitVec 4) (len : BitVec 24), s.clockOn = true → own.toNat ≤ 11 → 1 ≤ len.toNat → len.toNat ≤ 2048 →
    s.chain? s.chk.nextId = none →
    ((s.rd CHK_TIER).getLsbD own.toNat = false ∨ s.rd CHK_FREE_ODIE = 0) →
    (own.toNat ≤ 2 ∧ (s.rd CHK_FREE_DRAM).toNat ≤ (s.rd CHK_RSV).toNat ∨ s.rd CHK_FREE_DRAM = 0) →
    ∃ t, exec (.bufferAlloc own len) s = .next t ∧ t.chk.chains = s.chk.chains ∧ t.flag CHK_EVT_EMPTY = true ∧
      t.rd CHK_FREE_ODIE = s.rd CHK_FREE_ODIE ∧ t.rd CHK_FREE_DRAM = s.rd CHK_FREE_DRAM ∧
      t.rd CHK_CNT_ALLOC_FAIL = BitVec.ofNat 32 (min 0xFFFFFFFF ((s.rd CHK_CNT_ALLOC_FAIL).toNat + 1))) ∧
  (∀ (s : State) (own : BitVec 4) (h : BitVec 24) (c : Chain), s.clockOn = true → s.badHandle h.toNat = false → s.chainOf h.toNat = some c →
    s.chain? c.id = some c → own.toNat ∈ c.owners →
    (2 ≤ c.owners.length → ∃ t, exec (.bufferRelease own h) s = .next t ∧
      t.chain? c.id = some { c with owners := c.owners.erase own.toNat } ∧ t.regs = s.regs) ∧
    (c.owners.length = 1 → ∃ t, exec (.bufferRelease own h) s = .next t ∧ t.chain? c.id = none ∧
      (∀ d, d ≠ c.id → t.chain? d = s.chain? d) ∧
      t.rd CHK_FREE_ODIE = s.rd CHK_FREE_ODIE + BitVec.ofNat 32 (c.bufs.filter (fun b => hTier b == 1)).length ∧
      t.rd CHK_FREE_DRAM = s.rd CHK_FREE_DRAM + BitVec.ofNat 32 (c.bufs.filter (fun b => hTier b != 1)).length)) ∧
  (∀ (s : State) (own : BitVec 4) (h : BitVec 24), s.clockOn = true → (s.badHandle h.toNat = true ∨ s.chainOf h.toNat = none) →
    (∃ t, exec (.bufferRelease own h) s = .next t ∧ t.chk = s.chk ∧ t.flag CHK_EVT_BAD_REL = true ∧
      t.rd CHK_CNT_BAD_REL = BitVec.ofNat 32 (min 0xFFFFFFFF ((s.rd CHK_CNT_BAD_REL).toNat + 1))) ∧
    (∃ t, exec (.referenceAdd own h) s = .next t ∧ t.chk = s.chk ∧ t.flag CHK_EVT_BAD_REL = true)) ∧
  (∀ (s : State) (own : BitVec 4) (h : BitVec 24) (c : Chain), s.clockOn = true → s.badHandle h.toNat = false → s.chainOf h.toNat = some c →
    s.chain? c.id = some c →
    (c.owners.length < 4 → ∃ t, exec (.referenceAdd own h) s = .next t ∧
      t.chain? c.id = some { c with owners := c.owners ++ [own.toNat] } ∧ t.regs = s.regs) ∧
    (4 ≤ c.owners.length → ∃ t, exec (.referenceAdd own h) s = .next t ∧ t.chk = s.chk ∧ t.flag CHK_EVT_BAD_REL = true)) ∧
  (∀ s : State, s.reach none CHK_BOOK_CMD = .made →
    ∃ t, exec .booksSnap s = .next t ∧ t.rd CHK_BK_FREE_ODIE = s.rd CHK_FREE_ODIE ∧ t.rd CHK_BK_FREE_DRAM = s.rd CHK_FREE_DRAM ∧
      t.rd CHK_BK_EXTRA = BitVec.ofNat 32 s.extra ∧ (∀ o < 12, t.rd (CHK_BK_OWN o) = BitVec.ofNat 32 (s.ownBufs o)) ∧
      (∀ r : Fin 3, t.get (CHK_BK_CRED_AVAIL r) = s.avail r) ∧ t.rd CHK_BK_TASK_A = s.rd TSK_STAT ∧
      t.rd CHK_BK_TASK_B = s.rd TSK_RUN ∧ t.rd CHK_BK_ROB = s.rd ROB_STAT ∧ t.rd CHK_BK_SORUS = s.rd FLD_SORUS ∧
      t.rd64 CHK_BOOK_TICK_LO = s.stampTick ∧ t.chk = s.chk)


/-! ## Tasks and engines (spec/12_gouge_engines.md, spec/09_router_pipeline.md) -/

/-- R262 to R267, R273, R291: a task is queued where its class may be and its source is below its quota, in a descriptor that was free;
otherwise its source waits, counted once, or the post is refused; a timer fires at its time; the next task starts on a free thread of
its engine, with registers 0, at its packet's program or its class's entry. -/
def Obligations.TasksAndTimers : Prop :=
  (∀ (s : State) (cls : BitVec 5), s.reach none TSK_POST_CMD = .made → s.canQueue srcHost cls.toNat = true →
    ∃ (t : State) (k : Task), exec (.taskPost cls) s = .next t ∧ t.tsk.tasks = s.tsk.tasks ++ [k] ∧ k.cls = cls.toNat ∧
      k.src = srcHost ∧ k.st = .ready ∧
      k.arg0 = BitVec.ofNat 64 (s.rd64 TSK_POST_ARG0_LO) ∧ k.arg1 = BitVec.ofNat 64 (s.rd64 TSK_POST_ARG1_LO) ∧ k.slot = none ∧
      k.attempt = 0 ∧ t.flag TSK_POST_STAT_REFUSED = false ∧ (∀ x ∈ s.tsk.tasks, x.desc ≠ k.desc) ∧ k.desc < 4096) ∧
  (∀ (s : State) (cls : BitVec 5), s.reach none TSK_POST_CMD = .made → s.canQueue srcHost cls.toNat = false →
    ∃ t, exec (.taskPost cls) s = .next t ∧ t.tsk.tasks = s.tsk.tasks ∧ t.flag TSK_POST_STAT_REFUSED = true ∧
      t.flag TSK_EVT_POST_REF = true ∧ (s.clsOk srcHost cls.toNat = false → t.flag TSK_EVT_NOCLASS = true) ∧
      t.rd TSK_CNT_POST_REF = BitVec.ofNat 32 (min 0xFFFFFFFF ((s.rd TSK_CNT_POST_REF).toNat + 1)) ∧
      t.rd TSK_CNT_BP = BitVec.ofNat 32 (min 0xFFFFFFFF ((s.rd TSK_CNT_BP).toNat + 1))) ∧
  (∀ (s : State) (e : TaskEvent) (l : List TaskEvent), s.clockOn = true → s.tsk.evq = e :: l →
    (s.canQueue srcEvt e.cls = true → ∃ (t : State) (k : Task), exec (.taskEnqueue none) s = .next t ∧ t.tsk.evq = l ∧
      t.tsk.tasks = s.tsk.tasks ++ [k] ∧ k.cls = e.cls ∧ k.src = srcEvt ∧ k.arg0 = BitVec.ofNat 64 e.arg0 ∧
      k.arg1 = BitVec.ofNat 64 e.arg1 ∧ k.st = .ready) ∧
    (s.canQueue srcEvt e.cls = false → e.waited = false → ∃ t, exec (.taskEnqueue none) s = .next t ∧
      t.tsk.evq = { e with waited := true } :: l ∧ t.tsk.tasks = s.tsk.tasks ∧
      t.rd TSK_CNT_BP = BitVec.ofNat 32 (min 0xFFFFFFFF ((s.rd TSK_CNT_BP).toNat + 1))) ∧
    (s.canQueue srcEvt e.cls = false → e.waited = true → exec (.taskEnqueue none) s = .next s)) ∧
  (∀ s : State, s.tsk.evq = [] → exec (.taskEnqueue none) s = .next s) ∧
  (∀ (s : State) (n : BitVec 8) (c : Nat) (a : DWord) (w : Bool), s.clockOn = true → (s.timer n.toNat).fired = some (c, a, w) →
    (s.canQueue srcTmr c = true → ∃ (t : State) (k : Task), exec (.taskEnqueue (some n)) s = .next t ∧ (t.timer n.toNat).fired = none ∧
      t.tsk.tasks = s.tsk.tasks ++ [k] ∧ k.cls = c ∧ k.src = srcTmr ∧ k.arg0 = a ∧ k.arg1 = BitVec.ofNat 64 n.toNat) ∧
    (s.canQueue srcTmr c = false → w = false → ∃ t, exec (.taskEnqueue (some n)) s = .next t ∧
      (t.timer n.toNat).fired = some (c, a, true) ∧ t.tsk.tasks = s.tsk.tasks) ∧
    (s.canQueue srcTmr c = false → w = true → exec (.taskEnqueue (some n)) s = .next s)) ∧
  (∀ (s : State) (n : BitVec 8), (s.timer n.toNat).fired = none → exec (.taskEnqueue (some n)) s = .next s) ∧
  (∀ (s : State) (n : BitVec 8) (at_ : Nat) (x : Timer), s.clockOn = true → s.timer n.toNat = x → x.at_ = some at_ →
    (x.fired = none → s.canQueue srcTmr x.cls = true → ∃ (t : State) (k : Task), exec (.timerFire n) s = .next t ∧
      (t.timer n.toNat).at_ = none ∧
      t.tsk.tasks = s.tsk.tasks ++ [k] ∧ k.cls = x.cls ∧ k.src = srcTmr ∧ k.arg0 = x.arg0 ∧ k.arg1 = BitVec.ofNat 64 n.toNat ∧
      at_ ≤ t.ref) ∧
    (x.fired ≠ none → ∃ t, exec (.timerFire n) s = .next t ∧ (t.timer n.toNat).at_ = none ∧ t.tsk.tasks = s.tsk.tasks ∧
      t.flag TSK_EVT_TMR_LATE = true ∧
      t.rd TSK_CNT_TMR_LATE = BitVec.ofNat 32 (min 0xFFFFFFFF ((s.rd TSK_CNT_TMR_LATE).toNat + 1)))) ∧
  (∀ (s : State) (n : BitVec 8), (s.timer n.toNat).at_ = none → exec (.timerFire n) s = .next s) ∧
  (∀ (s : State) (k : Task) (e : Nat), s.clockOn = true → s.flag TSK_CTL_EN = true →
    s.get PWR_STAT_STATE = 0 → s.nextTask = some (k, e) →
    ∃ (t : State) (i : Nat) (x : Thread), exec .taskDispatch s = .next t ∧ i / 4 = e ∧ s.thread i = none ∧ t.thread i = some x ∧
      x.desc = k.desc ∧
      x.regs = Vector.replicate 16 0 ∧ x.stack = [] ∧ x.loc = s.localMem k ∧ (t.taskOf k.desc).map (·.st) = some (.run i) ∧
      (k.slot = none → x.pc = s.clsEntry k.cls ∧ x.pkt = none) ∧
      (∀ q y, k.slot = some q → s.slotOf? q = some y → x.pc = resProg y.result ∧ x.pkt = some (s.dataOf y.pkt.chain))) ∧
  (∀ s : State, (s.flag TSK_CTL_EN = false ∨ s.get PWR_STAT_STATE ≠ 0 ∨ s.nextTask = none) → exec .taskDispatch s = .next s)

/-- R219, R220, R250, R261, R274 to R276: an error of a single bit is corrected and counted; a fault of a running task is recorded; the
task is given once to another ONLINE engine, or ends:
its slot becomes a hole, or it is lost; a store error takes the engine's every task and the engine itself; an engine is enabled,
drained, reloaded and comes ONLINE as GGEn_CTL and its store say. -/
def Obligations.EnginesAndFaults : Prop :=
  (∀ (s : State) (e : Fin 16) (n : Fin 4) (code : BitVec 3), s.thread (4 * e.val + n.val) = none →
    exec (.engineFault e n code) s = .next s) ∧
  (∀ (s : State) (e : Fin 16) (n : Fin 4), s.clockOn = true → s.thread (4 * e.val + n.val) ≠ none →
    ∃ t, exec (.engineFault e n 0) s = .next t ∧ s.onlyRegs t (fun a => a == GGE_CNT_ECC e) ∧
      t.rd (GGE_CNT_ECC e) = BitVec.ofNat 32 (min 0xFFFFFFFF ((s.rd (GGE_CNT_ECC e)).toNat + 1))) ∧
  (∀ (s : State) (e : Fin 16) (n : Fin 4) (code : BitVec 3) (x : Thread) (k : Task), s.clockOn = true →
    s.thread (4 * e.val + n.val) = some x →
    2 ≤ code.toNat → s.taskOf x.desc = some k → k.attempt = 0 → (s.onlineOf k.cls).any (fun j => j != e.val) = true →
    (k.slot = none ∨ ∃ q, k.slot = some q ∧ s.liveSlot q = true) →
    ∃ t y, exec (.engineFault e n code) s = .next t ∧ t.thread (4 * e.val + n.val) = none ∧ t.taskOf k.desc = some y ∧
      y = { k with st := .redisp e.val, attempt := 1 } ∧ (t.rd (GGE_EVT e)).getLsbD (code.toNat - 1) = true ∧
      t.rd (GGE_FAULT e) = BitVec.ofNat 32 (code.toNat + 16 * n.val + 2 ^ 16 * (x.pc % 2 ^ 13)) ∧
      t.rd (GGE_CNT_FAULT e) = BitVec.ofNat 32 (min 0xFFFFFFFF ((s.rd (GGE_CNT_FAULT e)).toNat + 1)) ∧
      (∀ q, k.slot = some q → (t.slotOf? q).map (·.st) = some .redisp ∧
        t.rd ROB_CNT_REDISP = BitVec.ofNat 32 (min 0xFFFFFFFF ((s.rd ROB_CNT_REDISP).toNat + 1)))) ∧
  (∀ (s : State) (e : Fin 16) (n : Fin 4) (code : BitVec 3) (x : Thread) (k : Task), s.clockOn = true →
    s.thread (4 * e.val + n.val) = some x →
    2 ≤ code.toNat → s.taskOf x.desc = some k → (k.attempt ≠ 0 ∨ (s.onlineOf k.cls).any (fun j => j != e.val) = false) →
    (k.slot = none → ∃ t, exec (.engineFault e n code) s = .next t ∧ t.thread (4 * e.val + n.val) = none ∧ t.taskOf k.desc = none ∧
      t.flag TSK_EVT_LOST = true ∧ t.rd TSK_CNT_LOST = BitVec.ofNat 32 (min 0xFFFFFFFF ((s.rd TSK_CNT_LOST).toNat + 1))) ∧
    (∀ q, k.slot = some q → s.liveSlot q = true → ∃ t y, exec (.engineFault e n code) s = .next t ∧
      t.thread (4 * e.val + n.val) = none ∧ t.taskOf k.desc = none ∧ t.slotOf? q = some y ∧ y.st = .hole ∧ y.outs = [] ∧
      t.flag ROB_EVT_HOLE_FAULT = true ∧
      t.rd ROB_CNT_HOLE_FAULT = BitVec.ofNat 32 (min 0xFFFFFFFF ((s.rd ROB_CNT_HOLE_FAULT).toNat + 1)))) ∧
  (∀ (s : State) (e : Fin 16) (n : Fin 4) (x : Thread), s.clockOn = true → s.thread (4 * e.val + n.val) = some x →
    ∃ t, exec (.engineFault e n 1) s = .next t ∧ (∀ j : Fin 4, t.thread (4 * e.val + j.val) = none) ∧
      t.flag (GGE_EVT_ECC_STORE e) = true ∧
      t.get (GGE_STAT_STATE e) = (if s.flag (GGE_CTL_AUTO_RELOAD e) then 3 else 2)) ∧
  (∀ (s : State) (e : Fin 16) (en auto : Bool), s.reach none (GGE_CTL e) = .made →
    ∃ t, exec (.engineEnable e en auto) s = .next t ∧ t.flag (GGE_CTL_EN e) = en ∧ t.flag (GGE_CTL_AUTO_RELOAD e) = auto ∧
      t.get (GGE_STAT_STATE e) = (match s.get (GGE_STAT_STATE e), en with
        | 0, false => 1
        | 1, true => 0
        | 2, true => if s.flag (GGE_STAT_STORE_OK e) then 0 else 2
        | n, _ => n)) ∧
  (∀ (s : State) (e : Fin 16) (en auto : Bool), s.reach none (GGE_CTL e) = .made → s.get (GGE_STAT_STATE e) = 2 →
    ∃ t, exec (.reload e en auto) s = .next t ∧ t.flag (GGE_CTL_EN e) = en ∧ t.get (GGE_STAT_STATE e) = 3 ∧ t.tsk = s.tsk) ∧
  (∀ (s : State) (e : Fin 16) (ok : Bool), s.clockOn = true → s.get (GGE_STAT_STATE e) = 3 →
    ∃ t, exec (.reloadDone e ok) s = .next t ∧ t.flag (GGE_STAT_STORE_OK e) = ok ∧
      t.get (GGE_STAT_STATE e) = (if ok = true ∧ s.flag (GGE_CTL_EN e) = true then 0 else 2) ∧
      s.onlyRegs t (fun a => a == GGE_STAT e)) ∧
  (∀ (s : State) (e : Fin 16) (ok : Bool), s.get (GGE_STAT_STATE e) ≠ 3 → exec (.reloadDone e ok) s = .next s) ∧
  (∀ (s : State) (e : Fin 16), s.clockOn = true → s.get (GGE_STAT_STATE e) = 1 → s.busyThreads e = [] →
    exec (.drainDone e) s = .next (s.put (GGE_STAT_STATE e) 2)) ∧
  (∀ (s : State) (e : Fin 16), (s.get (GGE_STAT_STATE e) ≠ 1 ∨ s.busyThreads e ≠ []) → exec (.drainDone e) s = .next s)


/-! ## The actions (spec/12_gouge_engines.md) -/

/-- R267, R269, R270, R274: the register actions set D to their function of A and b, LDH sets D's high half; w0 reads 0 and keeps 0; a
word named on a thread without a task does nothing, and where the store holds a word with a reserved opcode or field, or the program is
at word 0, the fetch faults OPCODE, whatever action is named; the store holds the blank's PROGRAMS (R290). -/
def Obligations.RegisterActions : Prop :=
  (∀ (s : State) (e : Fin 16) (n : Fin 4) (w : ActWord) (x : Thread), s.issues (thr e n) 0x01 w x →
    ∃ t, exec (.add e n w) s = .next t ∧ s.acted t (thr e n) (x.next.setReg w.d (x.reg w.a + x.opB w))) ∧
  (∀ (s : State) (e : Fin 16) (n : Fin 4) (w : ActWord) (x : Thread), s.issues (thr e n) 0x02 w x →
    ∃ t, exec (.sub e n w) s = .next t ∧ s.acted t (thr e n) (x.next.setReg w.d (x.reg w.a - x.opB w))) ∧
  (∀ (s : State) (e : Fin 16) (n : Fin 4) (w : ActWord) (x : Thread), s.issues (thr e n) 0x03 w x →
    ∃ t, exec (.and e n w) s = .next t ∧ s.acted t (thr e n) (x.next.setReg w.d (x.reg w.a &&& x.opB w))) ∧
  (∀ (s : State) (e : Fin 16) (n : Fin 4) (w : ActWord) (x : Thread), s.issues (thr e n) 0x04 w x →
    ∃ t, exec (.or e n w) s = .next t ∧ s.acted t (thr e n) (x.next.setReg w.d (x.reg w.a ||| x.opB w))) ∧
  (∀ (s : State) (e : Fin 16) (n : Fin 4) (w : ActWord) (x : Thread), s.issues (thr e n) 0x05 w x →
    ∃ t, exec (.xor e n w) s = .next t ∧ s.acted t (thr e n) (x.next.setReg w.d (x.reg w.a ^^^ x.opB w))) ∧
  (∀ (s : State) (e : Fin 16) (n : Fin 4) (w : ActWord) (x : Thread), s.issues (thr e n) 0x06 w x →
    ∃ t, exec (.shl e n w) s = .next t ∧ s.acted t (thr e n) (x.next.setReg w.d (x.reg w.a <<< ((x.opB w).toNat % 64)))) ∧
  (∀ (s : State) (e : Fin 16) (n : Fin 4) (w : ActWord) (x : Thread), s.issues (thr e n) 0x07 w x →
    ∃ t, exec (.shr e n w) s = .next t ∧ s.acted t (thr e n) (x.next.setReg w.d (x.reg w.a >>> ((x.opB w).toNat % 64)))) ∧
  (∀ (s : State) (e : Fin 16) (n : Fin 4) (w : ActWord) (x : Thread), s.issues (thr e n) 0x08 w x →
    ∃ t, exec (.sar e n w) s = .next t ∧ s.acted t (thr e n) (x.next.setReg w.d ((x.reg w.a).sshiftRight ((x.opB w).toNat % 64)))) ∧
  (∀ (s : State) (e : Fin 16) (n : Fin 4) (w : ActWord) (x : Thread), s.issues (thr e n) 0x09 w x →
    ∃ t, exec (.ldh e n w) s = .next t ∧ s.acted t (thr e n) (x.next.setReg w.d (w.imm ++ (x.reg w.d).setWidth 32))) ∧
  (∀ (x : Thread) (d r : BitVec 4) (v : DWord), (x.setReg d v).reg r = (if r = d ∧ d ≠ 0 then v else x.reg r) ∧ x.reg 0 = 0 ∧
    (x.setReg d v).loc = x.loc ∧ (x.setReg d v).pkt = x.pkt ∧ (x.setReg d v).stack = x.stack ∧ (x.setReg d v).pc = x.pc) ∧
  (∀ f ∈ ([.add, .sub, .and, .or, .xor, .shl, .shr, .sar, .ldh, .br, .call, .ret, .ldl, .stl, .ldp, .stp, .adj, .tld, .tst, .tlkp,
      .tins, .tdel, .cadd, .cswp, .pnew, .spawn, .tmr, .ctxr, .ctxw, .time, .trace, .nop, .endTask] :
      List (Fin 16 → Fin 4 → ActWord → Instr)), ∀ (s : State) (e : Fin 16) (n : Fin 4) (w : ActWord),
    (s.thread (thr e n) = none → exec (f e n w) s = .next s) ∧
    (∀ x, s.thread (thr e n) = some x → s.clockOn = true → s.inTurn (thr e n) = true →
      (x.pc = 0 ∨ badEnc (s.fetchWord x.pc) = true) → ∃ t, exec (f e n w) s = .next t ∧ t.faulted (thr e n) fltOpcode)) ∧
  (∀ (w : ActWord) (op : Nat), op < 256 → (opX op = none ∨ w.res ≠ 0 ∨ (∃ m, opX op = some m ∧ w.x.toNat ||| m ≠ m) ∨
    (0x18 ≤ op ∧ op ≤ 0x1B ∧ 8 ≤ w.x.toNat) ∨ (op = 0x10 ∧ (w.x.toNat / 2 % 8 = 7 ∨ 2 ^ 13 ≤ w.imm.toNat))) →
    badEnc (actBytesOf w op) = true) ∧
  (∀ (b : Blank) (r : List Byte) (s : State) (pc : Nat), b.programs = r → pc < r.length / 8 →
    (s.loadPrograms b).fetchWord pc = (r.drop (8 * pc)).take 8)

/-- R269 to R271, R274: BR goes to IMM where its condition holds; CALL pushes and RET pops, at most eight deep; loads and stores of local
memory are little-endian, of the packet big-endian, and stay within their bounds; ADJ moves the packet's ends by at most 64 bytes net;
TIME reads the time; a task whose budget ends faults BUDGET. A word is issued where the clock runs, the thread is in turn and the action
store holds the word at its pc (R260, R261, R290). -/
def Obligations.ControlAndMemoryActions : Prop :=
  (∀ (s : State) (e : Fin 16) (n : Fin 4) (w : ActWord) (x : Thread) (c : Bool), s.issues (thr e n) 0x10 w x →
    brTaken (w.x.toNat / 2 % 8) (x.reg w.a) (x.reg w.b) = some c →
    ∃ t, exec (.br e n w) s = .next t ∧ s.acted t (thr e n) (if c then { x.next with pc := w.imm.toNat } else x.next)) ∧
  (∀ (s : State) (e : Fin 16) (n : Fin 4) (w : ActWord) (x : Thread),
    (x.stack.length < 8 → s.issues (thr e n) 0x11 w x → ∃ t, exec (.call e n w) s = .next t ∧
      s.acted t (thr e n) { x.next with stack := x.next.pc :: x.stack, pc := w.imm.toNat % 2 ^ 13 }) ∧
    (8 ≤ x.stack.length → s.issues (thr e n) 0x11 w x → ∃ t, exec (.call e n w) s = .next t ∧ t.faulted (thr e n) fltStack) ∧
    (∀ a l, x.stack = a :: l → s.issues (thr e n) 0x12 w x → ∃ t, exec (.ret e n w) s = .next t ∧
      s.acted t (thr e n) { x.next with stack := l, pc := a }) ∧
    (x.stack = [] → s.issues (thr e n) 0x12 w x → ∃ t, exec (.ret e n w) s = .next t ∧ t.faulted (thr e n) fltStack) ∧
    (s.issues (thr e n) 0x3E w x → ∃ t, exec (.nop e n w) s = .next t ∧ s.acted t (thr e n) x.next)) ∧
  (∀ (s : State) (e : Fin 16) (n : Fin 4) (w : ActWord) (x : Thread) (a : Nat), w.x.toNat < 8 →
    a = actAddr (x.reg w.a) (w.imm.toNat % 512) →
    (a + w.x.toNat + 1 ≤ 512 → (s.issues (thr e n) 0x18 w x → ∃ t, exec (.ldl e n w) s = .next t ∧
        s.acted t (thr e n) (x.next.setReg w.d (BitVec.ofNat 64 (leNum (part x.loc a (w.x.toNat + 1)))))) ∧
      (s.issues (thr e n) 0x19 w x → ∃ t, exec (.stl e n w) s = .next t ∧
        s.acted t (thr e n) { x.next with loc := putAt x.loc a (leBytes (w.x.toNat + 1) (x.reg w.b).toNat) })) ∧
    (512 < a + w.x.toNat + 1 → (s.issues (thr e n) 0x18 w x → ∃ t, exec (.ldl e n w) s = .next t ∧ t.faulted (thr e n) fltAddr) ∧
      (s.issues (thr e n) 0x19 w x → ∃ t, exec (.stl e n w) s = .next t ∧ t.faulted (thr e n) fltAddr))) ∧
  (∀ (s : State) (e : Fin 16) (n : Fin 4) (w : ActWord) (x : Thread) (a : Nat) (b : List Byte), w.x.toNat < 8 →
    a = actAddr (x.reg w.a) (w.imm.toNat % 65536) → x.pkt = some b →
    (a + w.x.toNat + 1 ≤ b.length → (s.issues (thr e n) 0x1A w x → ∃ t, exec (.ldp e n w) s = .next t ∧
        s.acted t (thr e n) (x.next.setReg w.d (BitVec.ofNat 64 (beNum (part b a (w.x.toNat + 1)))))) ∧
      (s.issues (thr e n) 0x1B w x → ∃ t, exec (.stp e n w) s = .next t ∧
        s.acted t (thr e n) { x.next with pkt := some (patch b a (beBytes (w.x.toNat + 1) (x.reg w.b).toNat)) })) ∧
    (b.length < a + w.x.toNat + 1 → (s.issues (thr e n) 0x1A w x → ∃ t, exec (.ldp e n w) s = .next t ∧ t.faulted (thr e n) fltAddr) ∧
      (s.issues (thr e n) 0x1B w x → ∃ t, exec (.stp e n w) s = .next t ∧ t.faulted (thr e n) fltAddr))) ∧
  (∀ (s : State) (e : Fin 16) (n : Fin 4) (w : ActWord) (x : Thread) (b : List Byte) (m : Int), s.issues (thr e n) 0x1C w x →
    x.pkt = some b → m = w.imm.toInt → m ≤ b.length →
    (w.x.getLsbD 0 = false → x.head - m ≤ 64 → x.tail ≤ 64 → ∃ t, exec (.adj e n w) s = .next t ∧ s.acted t (thr e n)
      { x.next with pkt := some (List.replicate (-m).toNat 0 ++ b.drop m.toNat), head := x.head - m }.showLen) ∧
    (w.x.getLsbD 0 = true → x.tail - m ≤ 64 → x.head ≤ 64 → ∃ t, exec (.adj e n w) s = .next t ∧ s.acted t (thr e n)
      { x.next with pkt := some (b.take (b.length - m.toNat) ++ List.replicate (-m).toNat 0), tail := x.tail - m }.showLen)) ∧
  (∀ (s : State) (e : Fin 16) (n : Fin 4) (w : ActWord) (x : Thread), s.issues (thr e n) 0x35 w x →
    ∃ t, exec (.time e n w) s = .next t ∧ s.acted t (thr e n) (x.next.setReg w.d (s.timeNow (w.x.getLsbD 0)))) ∧
  (∀ (s : State) (e : Fin 16) (n : Fin 4) (w : ActWord) (x : Thread) (k : Task), s.gets (thr e n) 0x3E w x →
    s.taskOf x.desc = some k → s.get (TSK_CLASS_BUDGET k.cls) ≠ 0 → 16 * s.get (TSK_CLASS_BUDGET k.cls) ≤ x.words + 1 →
    ∃ t, exec (.nop e n w) s = .next t ∧ t.faulted (thr e n) fltBudget)

/-- R210, R270 to R272: TLD and TST read and write an entry of an indexed table, TLKP finds a key's result, TINS and TDEL insert and
remove a key with their codes, CADD and CSWP change a counter at once and return what it was. -/
def Obligations.TableActions : Prop :=
  (∀ (s : State) (e : Fin 16) (n : Fin 4) (w : ActWord) (x : Thread) (b : List Byte), s.issues (thr e n) 0x20 w x →
    s.tldRead (actTbl w) (x.reg w.a) = .ok b → keyOfs w + b.length ≤ 512 →
    ∃ t, exec (.tld e n w) s = .next t ∧ s.acted t (thr e n) ({ x.next with loc := putAt x.loc (keyOfs w) b }.setReg w.d 1) ∧
      t.tsk.tables = s.tsk.tables) ∧
  (∀ (s : State) (e : Fin 16) (n : Fin 4) (w : ActWord) (x : Thread) (d : TblDef) (o : Nat), s.issues (thr e n) 0x21 w x →
    s.actEntry (actTbl w) 0 (x.reg w.a) = .ok (d, o) →
    keyOfs w + d.ent ≤ 512 → x.loc.length = 512 →
    ∃ t, exec (.tst e n w) s = .next t ∧ s.acted t (thr e n) x.next ∧ t.tblBytes (actTbl w) o d.ent = part x.loc (keyOfs w) d.ent) ∧
  (∀ (s : State) (e : Fin 16) (n : Fin 4) (w : ActWord) (x : Thread) (r : Option (List Byte)), s.issues (thr e n) 0x22 w x →
    s.actFind w x = .ok r →
    (r = none → ∃ t, exec (.tlkp e n w) s = .next t ∧ s.acted t (thr e n) (x.next.setReg w.d 0)) ∧
    (∀ b, r = some b → resOfs w + b.length ≤ 512 → ∃ t, exec (.tlkp e n w) s = .next t ∧
      s.acted t (thr e n) ({ x.next with loc := putAt x.loc (resOfs w) b }.setReg w.d 1))) ∧
  (∀ (s : State) (e : Fin 16) (n : Fin 4) (w : ActWord) (x : Thread) (d : TblDef) (k : List Byte), 2 ≤ actTbl w →
    s.actTable (actTbl w) 1 = .ok d →
    x.loc.length = 512 → keyOfs w + d.key ≤ 512 → resOfs w + d.ent ≤ 512 → k = part x.loc (keyOfs w) d.key →
    ((s.hashFind (actTbl w) d k ≠ none ∨ s.hashFree (actTbl w) d k ≠ none) → s.issues (thr e n) 0x23 w x →
      ∃ (t : State) (i : Nat), exec (.tins e n w) s = .next t ∧
      s.acted t (thr e n) (x.next.setReg w.d 0) ∧ t.hashFind (actTbl w) d k = some i ∧
      t.tblBytes (actTbl w) (i * d.slot + (d.key + 7) / 8 * 8) d.ent = part x.loc (resOfs w) d.ent) ∧
    (s.hashFind (actTbl w) d k = none → s.hashFree (actTbl w) d k = none → s.issues (thr e n) 0x23 w x →
      ∃ t, exec (.tins e n w) s = .next t ∧
      s.acted t (thr e n) (x.next.setReg w.d 1) ∧ t.tsk.tables = s.tsk.tables) ∧
    (∀ i, s.hashFind (actTbl w) d k = some i → s.issues (thr e n) 0x24 w x → ∃ t, exec (.tdel e n w) s = .next t ∧
      s.acted t (thr e n) (x.next.setReg w.d 0) ∧
      leNum (t.tblBytes (actTbl w) (i * d.slot + d.slot - 8) 8) = 0) ∧
    (s.hashFind (actTbl w) d k = none → s.issues (thr e n) 0x24 w x → ∃ t, exec (.tdel e n w) s = .next t ∧
      s.acted t (thr e n) (x.next.setReg w.d 2) ∧
      t.tsk.tables = s.tsk.tables)) ∧
  (∀ (s : State) (e : Fin 16) (n : Fin 4) (w : ActWord) (x : Thread) (d : TblDef) (o old : Nat),
    s.actEntry (actTbl w) 2 (x.reg w.a) = .ok (d, o) →
    old = leNum (s.tblBytes (actTbl w) o 8) →
    (s.issues (thr e n) 0x28 w x → ∃ t, exec (.cadd e n w) s = .next t ∧ s.acted t (thr e n) (x.next.setReg w.d (BitVec.ofNat 64 old)) ∧
      leNum (t.tblBytes (actTbl w) o 8) = (old + (x.reg w.b).toNat) % 2 ^ 64) ∧
    (s.issues (thr e n) 0x29 w x → ∃ t, exec (.cswp e n w) s = .next t ∧ s.acted t (thr e n) (x.next.setReg w.d (BitVec.ofNat 64 old)) ∧
      leNum (t.tblBytes (actTbl w) o 8) = (if old = (x.reg w.d).toNat then (x.reg w.b).toNat else old))) ∧
  (∀ (s : State) (e : Fin 16) (n : Fin 4) (w : ActWord) (x : Thread), s.issues (thr e n) 0x20 w x →
    (∃ c, s.tldRead (actTbl w) (x.reg w.a) = .error c) →
    ∃ t c, exec (.tld e n w) s = .next t ∧ s.tldRead (actTbl w) (x.reg w.a) = .error c ∧ t.faulted (thr e n) c)

/-- R267, R268, R270, R271, R273, R221: PNEW makes a zero-filled packet or answers 0; SPAWN queues a task or answers 0; TMR arms and
cancels a timer at a tick of the reference; CTXR reads 8 bytes of a context and CTXW writes those the host may; END frees the thread
and the descriptor, and gives a live slot its packet and outputs; a late END counts. -/
def Obligations.TaskActions : Prop :=
  (∀ (s : State) (e : Fin 16) (n : Fin 4) (w : ActWord) (x : Thread) (m : Nat), s.issues (thr e n) 0x30 w x → x.pkt = none →
    m = w.imm.toNat % 2 ^ 14 → 1 ≤ m → m ≤ 2048 → s.chk.chains = [] →
    ((s.rd CHK_TIER).getLsbD ownGge = true → 0 < (s.rd CHK_FREE_ODIE).toNat →
      ∃ t y id c, exec (.pnew e n w) s = .next t ∧ t.thread (thr e n) = some y ∧ y.pkt = some (List.replicate m 0) ∧
        y.made = some id ∧ y.pc = x.next.pc ∧ y.reg w.d = (if w.d = 0 then 0 else 1) ∧ t.chk.chains = [c] ∧ c.id = id ∧
        c.owners = [ownGge] ∧ c.len = m) ∧
    ((s.rd CHK_TIER).getLsbD ownGge = false → s.rd CHK_FREE_DRAM = 0 →
      ∃ t, exec (.pnew e n w) s = .next t ∧ t.thread (thr e n) = some (x.next.setReg w.d 0) ∧ t.chk.chains = [])) ∧
  (∀ (s : State) (e : Fin 16) (n : Fin 4) (w : ActWord) (x : Thread), s.issues (thr e n) 0x30 w x → (x.pkt.isSome = true ∨
    w.imm.toNat % 2 ^ 14 = 0 ∨ 9600 < w.imm.toNat % 2 ^ 14) →
    ∃ t, exec (.pnew e n w) s = .next t ∧ t.faulted (thr e n) fltAddr) ∧
  (∀ (s : State) (e : Fin 16) (n : Fin 4) (w : ActWord) (x : Thread) (c : Nat), s.issues (thr e n) 0x31 w x → c = w.x.toNat % 32 →
    (s.canQueue srcSpawn c = true → ∃ (t : State) (k : Task), exec (.spawn e n w) s = .next t ∧
      t.thread (thr e n) = some (x.next.setReg w.d 1) ∧
      t.tsk.tasks = s.tsk.tasks ++ [k] ∧ k.cls = c ∧ k.src = srcSpawn ∧ k.arg0 = x.reg w.a ∧ k.arg1 = x.reg w.b ∧ k.slot = none) ∧
    (s.canQueue srcSpawn c = false → ∃ t, exec (.spawn e n w) s = .next t ∧ t.thread (thr e n) = some (x.next.setReg w.d 0) ∧
      t.tsk.tasks = s.tsk.tasks)) ∧
  (∀ (s : State) (e : Fin 16) (n : Fin 4) (w : ActWord) (x : Thread) (m : Nat), s.issues (thr e n) 0x32 w x → m = w.imm.toNat % 256 →
    ∃ t, exec (.tmr e n w) s = .next t ∧ s.acted t (thr e n) x.next ∧ (∀ j, j ≠ m → t.timer j = s.timer j) ∧
      (x.reg w.a = 0 → t.timer m = { s.timer m with at_ := none }) ∧
      (x.reg w.a ≠ 0 → ∃ a, t.timer m = { s.timer m with at_ := some a, cls := w.x.toNat % 32, arg0 := x.reg w.b } ∧ a % 125 = 0 ∧
        s.ref + 125 * (x.reg w.a).toNat ≤ a ∧ a < s.ref + 125 * (x.reg w.a).toNat + 125)) ∧
  (∀ (s : State) (e : Fin 16) (n : Fin 4) (w : ActWord) (x : Thread) (a o : Nat), a = (x.reg w.a).toNat → o = w.imm.toNat % 256 →
    1 ≤ a → a ≤ 8191 → o % 8 = 0 →
    (s.issues (thr e n) 0x33 w x → ∃ t, exec (.ctxr e n w) s = .next t ∧ t.ctx = s.ctx ∧
      t.thread (thr e n) = some (x.next.setReg w.d (BitVec.ofNat 64 (s.cx a o 8)))) ∧
    (16 ≤ o → s.cxState a = 1 → s.issues (thr e n) 0x34 w x → ∃ t, exec (.ctxw e n w) s = .next t ∧ t.thread (thr e n) = some x.next ∧
      ∀ i < 8,
      t.cx a (o + i) 1 = Nat.lor (Nat.land (s.cx a (o + i) 1) (255 - ctxwMask (o + i)))
        (Nat.land ((x.reg w.b).toNat / 256 ^ i % 256) (ctxwMask (o + i))))) ∧
  (∀ (s : State) (e : Fin 16) (n : Fin 4) (w : ActWord) (x : Thread), ((x.reg w.a).toNat = 0 ∨ 8192 ≤ (x.reg w.a).toNat ∨
    w.imm.toNat % 8 ≠ 0) →
    (s.issues (thr e n) 0x33 w x → ∃ t, exec (.ctxr e n w) s = .next t ∧ t.faulted (thr e n) fltAddr) ∧
    (s.issues (thr e n) 0x34 w x → ∃ t, exec (.ctxw e n w) s = .next t ∧ t.faulted (thr e n) fltAddr ∧ t.ctx = s.ctx)) ∧
  (∀ (s : State) (e : Fin 16) (n : Fin 4) (w : ActWord) (x : Thread), s.issues (thr e n) 0x3C w x →
    ∃ t, exec (.trace e n w) s = .next t ∧ t.thread (thr e n) = some x.next ∧ t.tsk.tasks = s.tsk.tasks ∧ t.prs = s.prs) ∧
  (∀ (s : State) (e : Fin 16) (n : Fin 4) (w : ActWord) (x : Thread) (k : Task), s.gets (thr e n) 0x3F w x →
    s.taskOf x.desc = some k → k.slot = none → x.made = none →
    (w.x.getLsbD 0 = true ∨ ∃ l, outEntries x.loc = .ok l) →
    ∃ t, exec (.endTask e n w) s = .next t ∧ t.thread (thr e n) = none ∧ t.taskOf x.desc = none ∧ t.prs = s.prs ∧
      t.rd TSK_CNT_TASK = BitVec.ofNat 32 (min 0xFFFFFFFF ((s.rd TSK_CNT_TASK).toNat + 1))) ∧
  (∀ (s : State) (e : Fin 16) (n : Fin 4) (w : ActWord) (x : Thread) (k : Task) (q : Nat) (z : Slot) (c : Chain) (b : List Byte) (outs
    : List Output), s.gets (thr e n) 0x3F w x →
    s.taskOf x.desc = some k → k.slot = some q → s.slotOf? q = some z → s.liveSlot q = true → b = x.pkt.getD [] →
    s.chain? z.pkt.chain = some c → (atLeast1 b.length + 2047) / 2048 ≤ c.bufs.length →
    (w.x.getLsbD 0 = true ∧ outs = [] ∨ w.x.getLsbD 0 = false ∧ outEntries x.loc = .ok outs) →
    ∃ t y, exec (.endTask e n w) s = .next t ∧ t.thread (thr e n) = none ∧ t.taskOf x.desc = none ∧ t.slotOf? q = some y ∧
      y.outs = outs ∧ y.st = (if outs = [] then .dropped else .done) ∧ t.dataOf z.pkt.chain = b) ∧
  (∀ (s : State) (e : Fin 16) (n : Fin 4) (w : ActWord) (x : Thread) (k : Task) (q : Nat), s.gets (thr e n) 0x3F w x →
    s.taskOf x.desc = some k → k.slot = some q → s.liveSlot q = false →
    (w.x.getLsbD 0 = true ∨ ∃ l, outEntries x.loc = .ok l) →
    ∃ t, exec (.endTask e n w) s = .next t ∧ t.thread (thr e n) = none ∧ t.taskOf x.desc = none ∧ t.prs = s.prs ∧
      t.rd ROB_CNT_LATE = BitVec.ofNat 32 (min 0xFFFFFFFF ((s.rd ROB_CNT_LATE).toNat + 1)))


/-! ## Updates and turnovers (spec/14_update_turnover.md) -/

/-- R305 to R310: a session opens for a source that owns none other's, under R310, RANGE and TRIAL; a block in order is stored in the
staging slot, others answer DUP, GAP, RANGE, BUSY or NOSESS; the session ends by ABORT, COMMIT or reclamation; the backbone's blocks are
acknowledged to the manager. -/
def Obligations.UpdateSessions : Prop :=
  (∀ (s : State) (i : Iface) (n : Nat), s.reach (some i) UPD_SESS_CMD = .made → s.foreign (srcOf i) = false →
    s.get UPD_STAT_TOV ≠ 2 → n = (s.rd UPD_SESS_TOTAL).toNat % 2 ^ 23 →
    (s.updBar 0 = none → s.flag SYS_DIE_STAT_THL_UP = true → 256 ≤ n → n ≤ 6291456 → s.jrn.find .trial = none →
      ∃ t, exec (.openSession i) s = .next t ∧ t.sess = sessOpen ∧ t.get UPD_STAT_SRC = srcOf i ∧ t.upd.total = n ∧
        t.rd UPD_SESS_ID = BitVec.ofNat 32 s.nextSess ∧ t.rd UPD_SESS_NEXT = 0 ∧ t.rd UPD_RESULT = 0 ∧
        t.jrn = s.jrn.setSlot s.jrn.staging .none ∧ t.upd.lastSess = s.nextSess ∧ t.thal = s.thal) ∧
    (s.updBar 0 = none → s.flag SYS_DIE_STAT_THL_UP = true → (n < 256 ∨ 6291456 < n) → ∃ t, exec (.openSession i) s = .next t ∧
      t.rd UPD_RESULT = BitVec.ofNat 32 resRange ∧ t.sess = s.sess ∧ t.jrn = s.jrn) ∧
    (s.updBar 0 = none → s.flag SYS_DIE_STAT_THL_UP = false → ∃ t, exec (.openSession i) s = .next t ∧
      t.rd UPD_RESULT = BitVec.ofNat 32 resBusy ∧ t.sess = s.sess ∧ t.jrn = s.jrn) ∧
    (s.updBar 0 = none → s.flag SYS_DIE_STAT_THL_UP = true → 256 ≤ n → n ≤ 6291456 → s.jrn.find .trial ≠ none →
      ∃ t, exec (.openSession i) s = .next t ∧
      t.rd UPD_RESULT = BitVec.ofNat 32 resTrial ∧ t.sess = s.sess ∧ t.jrn = s.jrn) ∧
    (∀ c, s.updBar 0 = some c → ∃ t, exec (.openSession i) s = .next t ∧ t.rd UPD_RESULT = BitVec.ofNat 32 c ∧ t.sess = s.sess ∧
      t.jrn = s.jrn ∧ t.flag UPD_EVT_REFUSED = true ∧
      t.rd UPD_CNT_REFUSED = BitVec.ofNat 32 (min 0xFFFFFFFF ((s.rd UPD_CNT_REFUSED).toNat + 1)))) ∧
  (∀ (s : State) (i : Iface), s.reach (some i) UPD_SESS_CMD = .made → s.foreign (srcOf i) = true →
    (∃ t, exec (.openSession i) s = .next t ∧ t.rd UPD_RESULT = BitVec.ofNat 32 resNotOwner ∧ t.sess = s.sess ∧ t.jrn = s.jrn) ∧
    (∃ t, exec (.commit i) s = .next t ∧ t.rd UPD_RESULT = BitVec.ofNat 32 resNotOwner ∧ t.sess = s.sess ∧ t.jrn = s.jrn)) ∧
  (∀ (s : State) (i : Iface) (len : BitVec 13) (ofs next : Nat), s.reach (some i) UPD_BLK_CMD = .made → 1 ≤ len.toNat →
    len.toNat ≤ 4096 → s.sess ≠ sessIdle → s.foreign (srcOf i) = false → s.updBar 0 = none →
    s.flag SYS_DIE_STAT_THL_UP = true → ofs = (s.rd UPD_BLK_OFS).toNat % 2 ^ 23 → next = (s.rd UPD_SESS_NEXT).toNat →
    (s.flag UPD_STAT_BUSY = false → ofs = next → ofs + len.toNat ≤ s.upd.total → ∃ t, exec (.blockWrite i len) s = .next t ∧
      bytesGet zeroByte t.thal (slotBase s.jrn.staging + ofs) len.toNat = s.memBytes 0x071000 len.toNat ∧
      t.rd UPD_SESS_NEXT = BitVec.ofNat 32 (ofs + len.toNat) ∧ t.flag UPD_STAT_BUSY = true ∧ t.rd UPD_RESULT = 0 ∧
      t.sess = (if ofs + len.toNat = s.upd.total then sessReady else s.sess) ∧ t.jrn = s.jrn) ∧
    (s.flag UPD_STAT_BUSY = true → ∃ t, exec (.blockWrite i len) s = .next t ∧ t.rd UPD_RESULT = BitVec.ofNat 32 resBusy ∧
      t.thal = s.thal ∧ t.rd UPD_SESS_NEXT = s.rd UPD_SESS_NEXT) ∧
    (s.flag UPD_STAT_BUSY = false → ofs < next → ∃ t, exec (.blockWrite i len) s = .next t ∧
      t.rd UPD_RESULT = BitVec.ofNat 32 resDup ∧ t.thal = s.thal ∧ t.rd UPD_SESS_NEXT = s.rd UPD_SESS_NEXT) ∧
    (s.flag UPD_STAT_BUSY = false → next < ofs → ∃ t, exec (.blockWrite i len) s = .next t ∧
      t.rd UPD_RESULT = BitVec.ofNat 32 resGap ∧ t.thal = s.thal ∧ t.rd UPD_SESS_NEXT = s.rd UPD_SESS_NEXT) ∧
    (s.flag UPD_STAT_BUSY = false → ofs = next → s.upd.total < ofs + len.toNat → ∃ t, exec (.blockWrite i len) s = .next t ∧
      t.rd UPD_RESULT = BitVec.ofNat 32 resRange ∧ t.thal = s.thal ∧ t.rd UPD_SESS_NEXT = s.rd UPD_SESS_NEXT)) ∧
  (∀ (s : State) (i : Iface) (len : BitVec 13), s.reach (some i) UPD_BLK_CMD = .made → s.sess = sessIdle → 1 ≤ len.toNat →
    len.toNat ≤ 4096 → ∃ t, exec (.blockWrite i len) s = .next t ∧ t.rd UPD_RESULT = BitVec.ofNat 32 resNoSess ∧ t.thal = s.thal) ∧
  (∀ (s : State) (i : Iface) (len : BitVec 13), s.reach (some i) UPD_BLK_CMD = .made → s.sess ≠ sessIdle →
    s.foreign (srcOf i) = false → s.updBar 0 = none → s.flag SYS_DIE_STAT_THL_UP = false → 1 ≤ len.toNat → len.toNat ≤ 4096 →
    ∃ t, exec (.blockWrite i len) s = .next t ∧ t.rd UPD_RESULT = BitVec.ofNat 32 resBusy ∧ t.thal = s.thal ∧
      t.rd UPD_SESS_NEXT = s.rd UPD_SESS_NEXT) ∧
  (∀ s : State, s.clockOn = true → s.flag SYS_DIE_STAT_THL_UP = true → exec .blockWriteDone s = .next (s.put UPD_STAT_BUSY 0)) ∧
  (∀ s : State, s.flag SYS_DIE_STAT_THL_UP = false → exec .blockWriteDone s = .next s) ∧
  (∀ (s : State) (i : Iface), s.reach (some i) UPD_SESS_CMD = .made → s.sess ≠ sessIdle →
    (s.get UPD_STAT_SRC = srcOf i ∨ s.get UPD_STAT_SRC = srcBackbone) → s.get UPD_STAT_TOV ≠ 2 →
    ∃ t, exec (.abortSession i) s = .next t ∧ t.sess = sessIdle ∧ t.get UPD_STAT_SRC = 0 ∧ t.rd UPD_RESULT = 0 ∧ t.jrn = s.jrn ∧
      (∀ a, s.upd.armed = some a → a.fallback = false → t.upd.armed = none)) ∧
  (∀ (s : State) (i : Iface), s.reach (some i) UPD_SESS_CMD = .made → s.sess = sessIdle →
    (∃ t, exec (.abortSession i) s = .next t ∧ t.rd UPD_RESULT = BitVec.ofNat 32 resNoSess ∧ t.sess = sessIdle ∧ t.jrn = s.jrn) ∧
    (∃ t, exec (.commit i) s = .next t ∧ t.rd UPD_RESULT = BitVec.ofNat 32 resNoSess ∧ t.sess = sessIdle ∧ t.jrn = s.jrn)) ∧
  (∀ (s : State) (i : Iface), s.reach (some i) UPD_SESS_CMD = .made → s.foreign (srcOf i) = false → s.sess = sessReady →
    s.get UPD_STAT_TOV ≠ 2 →
    (s.updBar 1 = none → s.flag SYS_DIE_STAT_THL_UP = false → ∃ t, exec (.commit i) s = .next t ∧ t.sess = sessReady ∧
      t.rd UPD_RESULT = BitVec.ofNat 32 resBusy ∧ t.jrn = s.jrn) ∧
    (s.updBar 1 = none → s.flag SYS_DIE_STAT_THL_UP = true →
      ∃ t, exec (.commit i) s = .next t ∧ t.sess = sessIdle ∧ t.rd UPD_RESULT = 0 ∧
      t.jrn = s.jrn.setSlot s.jrn.staging .pending ∧ t.flag UPD_STAT_PENDING = true) ∧
    (∀ c, s.updBar 1 = some c → ∃ t, exec (.commit i) s = .next t ∧ t.sess = sessReady ∧ t.rd UPD_RESULT = BitVec.ofNat 32 c ∧
      t.jrn = s.jrn)) ∧
  (∀ s : State, s.clockOn = true → (s.sess = sessOpen ∨ s.sess = sessReady ∧ s.upd.armed = none) →
    ∃ t, exec .sessionReclaim s = .next t ∧ t.sess = sessIdle ∧ t.flag UPD_EVT_RECLAIMED = true ∧ t.jrn = s.jrn ∧
      s.upd.sessAt + 2000000000 * atLeast1 ((s.rd UPD_SESS_TMO).toNat % 2 ^ 16) ≤ t.ref ∧
      t.rd UPD_CNT_RECLAIM = BitVec.ofNat 32 (min 0xFFFFFFFF ((s.rd UPD_CNT_RECLAIM).toNat + 1))) ∧
  (∀ s : State, s.sess = sessIdle → exec .sessionReclaim s = .next s) ∧
  (∀ (s u : State) (h : Afette) (sess ofs total : BitVec 32) (last : Bool) (d : List Byte), s.afetteIn h 5 = (u, true) →
    (u.follows h = false → exec (.imgRx h sess ofs total last d) s = .next u) ∧
    (u.follows h = true → u.sess = sessOpen → u.rd UPD_SESS_ID = sess → u.get UPD_STAT_SRC = srcBackbone → u.updBar 0 = none →
      u.flag SYS_DIE_STAT_THL_UP = true →
      u.flag UPD_STAT_BUSY = false → ofs = u.rd UPD_SESS_NEXT → 1 ≤ d.length → d.length ≤ 1024 →
      ofs.toNat + d.length ≤ u.upd.total →
      ∃ t, exec (.imgRx h sess ofs total last d) s = .next t ∧
        bytesGet zeroByte t.thal (slotBase u.jrn.staging + ofs.toNat) d.length = d ∧
        t.rd UPD_SESS_NEXT = BitVec.ofNat 32 (ofs.toNat + d.length) ∧
        ∀ (p : Fin 2) (m : Nat), u.backbone = some p → u.ethLive p = true → 128 ≤ u.ethMax p →
          u.devMac (u.get CLU_STAT_MGR) = some m →
          (t.port p).txq = (u.port p).txq ++ [backboneFrame (BitVec.ofNat 48 m) (u.get CLU_CFG_ETYPE) false
            (t.afetteHeader (some (u.get CLU_STAT_MGR)) 5 16 ++
              imgBytes sess.toNat (ofs.toNat + d.length) false u.upd.total)]))

/-- R26, R297, R298, R311, R312, R321, R322: a token's checks set and clear the owner's locks; a trial is confirmed, or falls back on
REVERT or at its time, by a turnover two turns on where the spindle allows it, else by a device reset; a boot ROM without a source waits,
and takes a PENDING slot that verifies as TRIAL. -/
def Obligations.TokensTrialsAndBoots : Prop :=
  (∀ s : State, s.reach none UPD_TOKEN_CMD = .made →
    (s.flag UPD_TOKEN_STAT_BUSY = false → ∃ t, exec .submit s = .next t ∧ t.flag UPD_TOKEN_STAT_BUSY = true ∧
      t.upd.token = some (s.memBytes 0x072000 128) ∧ t.jrn = s.jrn) ∧
    (s.flag UPD_TOKEN_STAT_BUSY = true → exec .submit s = .next (s.hostWrote UPD_TOKEN_CMD))) ∧
  (∀ (s : State) (k : List Byte), s.clockOn = true → s.flag SYS_DIE_STAT_THL_UP = true → s.upd.token = some k →
    ∃ t, exec .tokenCheckDone s = .next t ∧ t.flag UPD_TOKEN_STAT_BUSY = false ∧ t.upd.token = none ∧
      t.get UPD_TOKEN_STAT_RESULT = s.tokCheck k ∧
      (s.tokCheck k ≠ 1 → t.flag UPD_EVT_TOKEN_BAD = true ∧ t.jrn = s.jrn) ∧
      (s.tokCheck k = 1 → t.jrn.tokenCtr = num k 16 4 ∧ s.jrn.tokenCtr < t.jrn.tokenCtr ∧
        t.jrn.locks = (if num k 4 1 = 1 then s.jrn.locks ||| BitVec.ofNat 2 (num k 5 1)
          else s.jrn.locks &&& ~~~ BitVec.ofNat 2 (num k 5 1)) ∧
        t.rd UPD_LOCK = t.jrn.locks.setWidth 32)) ∧
  (∀ s : State, (s.upd.token = none ∨ s.flag SYS_DIE_STAT_THL_UP = false) → exec .tokenCheckDone s = .next s) ∧
  (∀ (s : State) (b : Bool), s.reach none UPD_CMD = .made → s.flag SYS_DIE_STAT_THL_UP = true → s.jrn.find .trial = some b →
    ∃ t, exec .confirm s = .next t ∧ t.jrn.slot b = .confirmed ∧ t.jrn.slot (!b) = .none ∧
      t.jrn.verFloor = max s.jrn.verFloor (s.rd UPD_RUN_VER).toNat ∧ t.upd.freeOther = true ∧ t.flag UPD_EVT_CONFIRMED = true ∧
      t.flag UPD_STAT_TRIAL = false) ∧
  (∀ s : State, s.reach none UPD_CMD = .made → s.jrn.find .trial = none →
    exec .confirm s = .next (s.hostWrote UPD_CMD) ∧ exec .revert s = .next (s.hostWrote UPD_CMD)) ∧
  (∀ s : State, s.reach none UPD_CMD = .made → s.flag SYS_DIE_STAT_THL_UP = false →
    exec .confirm s = .next (s.hostWrote UPD_CMD)) ∧
  (∀ (s : State) (b : Bool), s.reach none UPD_CMD = .made → s.jrn.find .trial = some b →
    ((s.spnSt = spnLocked ∨ s.spnSt = spnHoldover) → s.upd.byTurnover = true → s.running = true →
      ∃ t, exec .revert s = .next t ∧ t.get UPD_STAT_TOV = 1 ∧
        (s.flag SYS_DIE_STAT_THL_UP = true → t.jrn.slot b = .none ∧ t.jrn.why = bootReverted) ∧
        t.upd.armed = some ⟨s.turn + 2, false, true⟩ ∧ t.flag UPD_EVT_FALLBACK = true) ∧
    (s.upd.byTurnover = false →
      ∃ t, exec .revert s = .next t ∧ t.pwr.phase = .boot ∧ t.blk = none ∧
        (s.flag SYS_DIE_STAT_THL_UP = true → t.jrn.slot b = .none ∧ t.jrn.why = bootReverted) ∧
        t.get PWR_LAST_BOOT = bootHost ∧ t.flag UPD_EVT_FALLBACK = true)) ∧
  (∀ (s u : State) (b : Bool), s.clockOn = true → s.jrn.find .trial = some b → s.get UPD_STAT_UP = 1 →
    u = s.toRef (s.upd.runAt + 2000000000 * atLeast1 ((s.rd UPD_CONFIRM_TMO).toNat % 2 ^ 16)) →
    ((u.spnSt = spnLocked ∨ u.spnSt = spnHoldover) → u.upd.byTurnover = true → u.running = true →
      ∃ t, exec .confirmExpiry s = .next t ∧
        (u.flag SYS_DIE_STAT_THL_UP = true → t.jrn.slot b = .none ∧ t.jrn.why = bootExpired) ∧
        t.upd.armed = some ⟨u.turn + 2, false, true⟩ ∧ t.flag UPD_EVT_FALLBACK = true) ∧
    (u.upd.byTurnover = false → ∃ t, exec .confirmExpiry s = .next t ∧
      (u.flag SYS_DIE_STAT_THL_UP = true → t.jrn.slot b = .none ∧ t.jrn.why = bootExpired) ∧
      t.pwr.phase = .boot ∧ t.flag UPD_EVT_FALLBACK = true)) ∧
  (∀ s : State, (s.jrn.find .trial = none ∨ s.get UPD_STAT_UP ≠ 1) → exec .confirmExpiry s = .next s) ∧
  (∀ (s : State) (env : BootEnv), s.pwr.phase = .boot → s.upd.ho = none → s.upd.waiting = false → s.noSource = true →
    s.jrn.find .pending = none →
    ∃ t, exec (.fullBoot env) s = .next t ∧ t.upd.waiting = true ∧ t.get HIF_STAT_PHASE = 1 ∧ t.flag KEY_STAT_READY = true ∧
      t.get SYS_ROLE_ROLE = s.get SYS_STRAP_ROLE ∧ t.pwr.phase = .boot ∧ t.blk = s.blk) ∧
  (∀ (s : State) (env : BootEnv) (b : Bool), s.pwr.phase = .boot → s.flag SYS_DIE_STAT_THL_UP = true → s.upd.ho = none →
    s.upd.waiting = true →
    s.jrn.find .pending = some b → s.jrn.find .trial = none →
    ∃ t, exec (.fullBoot env) s = .next t ∧
      (s.slotFault b none env = none → t.pwr.phase = .run ∧ t.upd.waiting = false ∧ t.jrn.find .trial = some b ∧
        t.get HIF_STAT_PHASE = 3 ∧ t.get UPD_BOOT_RESULT = bootTaken ∧ t.blk = some (blankOf (s.slotImage b)) ∧
        t.get UPD_STAT_UP = 1) ∧
      (∀ f, s.slotFault b none env = some f → t.jrn.slot b ≠ .pending)) ∧
  (∀ (s : State) (env : BootEnv), (s.pwr.phase ≠ .boot ∨ s.upd.ho ≠ none ∨ s.upd.waiting = true ∧ s.jrn.find .pending = none) →
    exec (.fullBoot env) s = .next s)

/-- R310, R314 to R320: TURNOVER arms the READY session's blank for a turn far enough ahead, or answers why not; at the handover start
the conditions are tested again and the turnover begins or is cancelled; half-way to its turn what the old blank leaves is
discarded and spilled, and the handover area is sealed before it (the stages: the model's choice, log entry 30); at its turn start the
core die resets while the other dies run
on; the turnover boot ends it. -/
def Obligations.Turnovers : Prop :=
  (∀ (s : State) (i : Iface) (n : Nat), s.reach (some i) UPD_SESS_CMD = .made →
    (s.flag CLU_CTL_EN = false ∨ s.get SYS_ADDR_CID = 0) → s.foreign (srcOf i) = false → s.updBar 1 = none →
    s.flag SYS_DIE_STAT_THL_UP = true → n = (s.rd UPD_TURN_LO).toNat + 2 ^ 32 * ((s.rd UPD_TURN_HI).toNat % 256) →
    (s.sess = sessReady → s.spnSt = spnLocked → s.absTick < s.hoAt n → s.get UPD_STAT_TOV ≠ 2 → s.running = true →
      ∃ t, exec (.turnover i) s = .next t ∧ t.upd.armed = some ⟨n, false, false⟩ ∧ t.get UPD_STAT_TOV = 1 ∧ t.rd UPD_RESULT = 0 ∧
        t.jrn = s.jrn) ∧
    (s.sess ≠ sessReady → ∃ t, exec (.turnover i) s = .next t ∧ t.upd = s.upd ∧ t.rd UPD_RESULT = BitVec.ofNat 32 resNoSess) ∧
    (s.sess = sessReady → s.spnSt ≠ spnLocked → ∃ t, exec (.turnover i) s = .next t ∧ t.upd = s.upd ∧
      t.rd UPD_RESULT = BitVec.ofNat 32 resNotLocked) ∧
    (s.sess = sessReady → s.spnSt = spnLocked → s.hoAt n ≤ s.absTick → ∃ t, exec (.turnover i) s = .next t ∧ t.upd = s.upd ∧
      t.rd UPD_RESULT = BitVec.ofNat 32 resLate)) ∧
  (∀ (s : State) (i : Iface), s.reach (some i) UPD_SESS_CMD = .made → s.flag CLU_CTL_EN = true → s.get SYS_ADDR_CID ≠ 0 →
    ∃ t, exec (.turnover i) s = .next t ∧ t.upd = s.upd ∧ t.rd UPD_RESULT = BitVec.ofNat 32 resCluster) ∧
  (∀ (s u : State) (a : TurnArm) (b : Blank), s.upd.armed = some a → s.blk = some b → s.get UPD_STAT_TOV = 1 → s.placing = true →
    u = s.toAbsTick (s.hoAt a.turn) →
    (u.absTick < a.turn * turnTicks → (a.fallback = true ∨ u.updBar 1 = none ∧ u.turnBar none = none ∧ u.flag SYS_DIE_STAT_THL_UP = true) →
      ∃ t, exec .handoverStart s = .next t ∧ t.get UPD_STAT_TOV = 2 ∧ t.upd.armed = some a ∧
        t.jrn = (if a.fallback then s.jrn else s.jrn.setSlot s.jrn.staging .pending) ∧
        (∀ r : Fin 3, (t.fr r).coastAt = some a.turn) ∧ ∀ e < 16, t.get (GGE_STAT_STATE e) ≠ 0) ∧
    (u.absTick < a.turn * turnTicks → a.fallback = false → u.updBar 1 ≠ none →
      ∃ t, exec .handoverStart s = .next t ∧ t.get UPD_STAT_TOV = 0 ∧ t.upd.armed = none ∧ t.flag UPD_EVT_CANCELLED = true ∧
        t.flag UPD_EVT_REFUSED = true ∧ t.jrn = s.jrn ∧ t.sess = s.sess) ∧
    (a.turn * turnTicks ≤ u.absTick ∨ a.fallback = false ∧ u.updBar 1 = none ∧
        (u.turnBar none ≠ none ∨ u.flag SYS_DIE_STAT_THL_UP = false) →
      ∃ t, exec .handoverStart s = .next t ∧ t.get UPD_STAT_TOV = 0 ∧ t.upd.armed = none ∧ t.flag UPD_EVT_CANCELLED = true ∧
        t.jrn = s.jrn ∧ t.sess = s.sess)) ∧
  (∀ (s : State) (a : TurnArm) (b : Blank), s.upd.armed = some a → s.blk = some b → s.get UPD_STAT_TOV = 2 → s.running = true →
    s.upd.area = none →
    (s.flag CHK_STAT_SPILL = false → ∃ t, exec .handoverStart s = .next t ∧ t.prs.slots = [] ∧ t.flag CHK_STAT_SPILL = true ∧
      t.tsk.evq = [] ∧ t.tsk.timers = [] ∧ (∀ x ∈ t.tsk.tasks, x.spare = false) ∧ t.upd.armed = some a ∧ t.upd.area = none) ∧
    (s.flag CHK_STAT_SPILL = true → ∃ (t : State) (h : Handover), exec .handoverStart s = .next t ∧ t.upd.area = some h ∧
      h.turn = a.turn ∧ h.old = b ∧ t.get DMC_STAT_STATE = dmcSelfRefresh ∧ t.flag CHK_STAT_SPILL = false ∧
      t.upd.armed = some a)) ∧
  (∀ s : State, (s.upd.armed = none ∨ s.blk = none ∨ s.get UPD_STAT_TOV ≠ 1 ∧ s.get UPD_STAT_TOV ≠ 2 ∨ s.running = false) →
    exec .handoverStart s = .next s) ∧
  (∀ (s : State) (a : TurnArm) (b : Blank) (e0 e1 e2 : Ecc), s.upd.armed = some a → s.blk = some b → s.get UPD_STAT_TOV = 2 →
    s.atTurnStart = true → s.turn = a.turn → s.upd.area = none →
    ∃ (t : State) (h : Handover), exec (.turnoverCoreReset e0 e1 e2) s = .next t ∧ t.upd.ho = some h ∧ h.turn = a.turn ∧
      h.old = b ∧ t.blk = some b ∧ t.spnSt = spnStopped ∧ t.flag SYS_DIE_STAT_FRN_UP = false ∧
      t.get PWR_LAST_BOOT = bootTurnover ∧ t.get HIF_STAT_PHASE = 0 ∧ t.get DMC_STAT_STATE = dmcSelfRefresh ∧ t.jrn = s.jrn ∧
      t.thal = s.thal ∧ t.key = s.key ∧ t.rtc = s.rtc ∧ t.ref = s.ref ∧ t.prs = {} ∧ t.tsk = {} ∧ t.hif = {}) ∧
  (∀ (s : State) (a : TurnArm) (b : Blank) (g : Handover) (e0 e1 e2 : Ecc), s.upd.armed = some a → s.blk = some b →
    s.get UPD_STAT_TOV = 2 → s.atTurnStart = true → s.turn = a.turn → s.upd.area = some g →
    ∃ t, exec (.turnoverCoreReset e0 e1 e2) s = .next t ∧
      t.upd.ho = some { g with wideU := s.spn.wideU, refAt := s.ref } ∧ t.blk = some b ∧
      t.spnSt = spnStopped ∧ t.flag SYS_DIE_STAT_FRN_UP = false ∧ t.frnTick = s.frnTick ∧
      t.get SYS_ROLE_ROLE = s.get SYS_STRAP_ROLE ∧ t.get PWR_LAST_BOOT = bootTurnover ∧ t.get HIF_STAT_PHASE = 0 ∧
      t.jrn = s.jrn ∧ t.thal = s.thal ∧ t.key = s.key ∧ t.rtc = s.rtc ∧ t.ctx = s.ctx ∧ t.ref = s.ref ∧
      t.mlk = s.mlk ∧ t.prs = {} ∧ t.tsk = {} ∧ t.hif = {}) ∧
  (∀ (s : State) (e0 e1 e2 : Ecc), (s.upd.armed = none ∨ s.blk = none ∨ s.get UPD_STAT_TOV ≠ 2 ∨ s.atTurnStart = false ∨
    (∀ a, s.upd.armed = some a → s.turn ≠ a.turn)) →
    exec (.turnoverCoreReset e0 e1 e2) s = .next s) ∧
  (∀ (s : State) (h : Handover) (env : BootEnv) (d0 d1 : Delays), s.upd.ho = some h →
    (∃ t, exec (.turnoverBoot none env d0 d1) s = .next t ∧ t.upd.ho = none ∧ t.get UPD_BOOT_TOV = 1 ∧
      (t.pwr.phase ≠ .run → t.upd.waiting = true ∧ t.blk = none ∧ t.ctx = [])) ∧
    ∀ bad, areaHolds bad = false → exec (.turnoverBoot (some bad) env d0 d1) s =
      exec (.fullBoot env) ({ s with upd := {}, ctx := [], mlk := [], blk := none } : State).frondForget) ∧
  (∀ (s : State) (damage : Option (List Byte)) (env : BootEnv) (d0 d1 : Delays), s.upd.ho = none →
    exec (.turnoverBoot damage env d0 d1) s = .next s)


/-- R221: a slot still PENDING or REDISP when ROB_AGE microseconds have passed since its classification is retired as a HOLE, counted and
flagged; a task of it that completes later leaves its slot and its packet as they are and counts in ROB_CNT_LATE; with ROB_AGE 0, and
for a slot that is not so, nothing happens. -/
def Obligations.SlotAging : Prop :=
  (∀ (s : State) (seq : Word) (x : Slot), s.clockOn = true → s.slotOf? seq.toNat = some x → x.flow.isSome = true →
    (x.st = .pending ∨ x.st = .redisp) → (s.rd ROB_AGE).toNat % 65536 ≠ 0 →
    ∃ (t : State) (y : Slot), exec (.robAgeExpiry seq) s = .next t ∧ t.slotOf? seq.toNat = some y ∧ y.st = .hole ∧ y.outs = [] ∧
      y.flow = x.flow ∧
      t.flag ROB_EVT_HOLE_AGE = true ∧
      t.rd ROB_CNT_HOLE_AGE = BitVec.ofNat 32 (min 0xFFFFFFFF ((s.rd ROB_CNT_HOLE_AGE).toNat + 1)) ∧
      x.classAt + 2000 * ((s.rd ROB_AGE).toNat % 65536) ≤ t.ref) ∧
  (∀ (s : State) (seq : Word) (x : Slot), s.slotOf? seq.toNat = some x →
    (x.flow = none ∨ x.st ≠ .pending ∧ x.st ≠ .redisp ∨ (s.rd ROB_AGE).toNat % 65536 = 0) →
    exec (.robAgeExpiry seq) s = .next s) ∧
  (∀ (s : State) (seq : Word), s.slotOf? seq.toNat = none → exec (.robAgeExpiry seq) s = .next s) ∧
  (∀ (s : State) (e : Fin 16) (n : Fin 4) (w : ActWord) (x : Thread) (k : Task) (q : Nat), s.gets (thr e n) 0x3F w x →
    s.taskOf x.desc = some k → k.slot = some q → s.liveSlot q = false →
    (w.x.getLsbD 0 = true ∨ ∃ l, outEntries x.loc = .ok l) →
    ∃ t, exec (.endTask e n w) s = .next t ∧ t.thread (thr e n) = none ∧ t.taskOf x.desc = none ∧ t.prs = s.prs ∧
      t.rd ROB_CNT_LATE = BitVec.ofNat 32 (min 0xFFFFFFFF ((s.rd ROB_CNT_LATE).toNat + 1)))

/-! ## The real-time clock (spec/18_rtc.md) -/

/-- R372 to R374, R376: writes of the calendar land on the held copy; SET commits an accepted copy at the next edge and refuses
one outside its ranges; DISCARD and the timeout drop it; a shift waits for the next edge, or is refused. -/
def Obligations.ClockCommands : Prop :=
  (∀ (s : State) (i : Fin 8) (v : Word), s.reach none (RTC_SEC + 4 * i.val) = .made → ¬(i = 6 ∧ s.compat = true) →
    ∃ t, exec (.calendarWrite i v) s = .next t ∧ t.rtc.held = some ((s.rtc.held.getD s.rtc.cal).write i v.toNat) ∧
      t.rtc.cal = s.rtc.cal ∧ t.flag RTC_STAT_HELD = true) ∧
  (∀ (s : State) (v : Word), s.reach none RTC_CENTURY = .made → s.compat = true →
    ∃ t, exec (.calendarWrite 6 v) s = .next t ∧ t.rtc.held = s.rtc.held ∧ t.rtc.cal = s.rtc.cal) ∧
  (∀ (s : State) (cmd : BitVec 6) (c : Calendar), s.reach none RTC_SET_CMD = .made → s.rtc.held = some c → c.ok = true →
    ∃ t, exec (.set cmd) s = .next t ∧ t.rtc.held = none ∧
      t.rtc.pend = some (c, if cmd.getLsbD 5 then some (cmd.getLsbD 4) else none) ∧ t.rtc.pendAt = s.rtc.heldAt) ∧
  (∀ (s : State) (cmd : BitVec 6) (c : Calendar), s.reach none RTC_SET_CMD = .made → s.rtc.held = some c → c.ok = false →
    ∃ t, exec (.set cmd) s = .next t ∧ t.flag RTC_EVT_SET_REF = true ∧ t.rtc.pend = s.rtc.pend ∧ t.rtc.cal = s.rtc.cal ∧
      t.rtc.held = if cmd.getLsbD 1 then none else some c) ∧
  (∀ (s : State) (cmd : BitVec 6), s.reach none RTC_SET_CMD = .made →
    ∃ t, exec (.discard cmd) s = .next t ∧ t.rtc.held = none ∧ t.rtc.cal = s.rtc.cal ∧ t.flag RTC_STAT_HELD = false) ∧
  (∀ (s : State) (c : Calendar), s.rtc.pend = none → s.rtc.held = some c →
    ∃ t, exec .holdTimeout s = .next t ∧ t.rtc.held = none ∧ t.flag RTC_EVT_HOLD_TMO = true ∧ t.rtc.cal = s.rtc.cal ∧
      s.rtc.heldAt + twoSec ≤ t.ref) ∧
  (∀ s : State, s.rtc.pend ≠ none →
    ∃ t, exec .holdTimeout s = .next t ∧ t.rtc.pend = none ∧ t.flag RTC_EVT_HOLD_TMO = true ∧ t.rtc.cal = s.rtc.cal ∧
      t.rtc.held = s.rtc.held ∧ s.rtc.pendAt + twoSec ≤ t.ref) ∧
  (∀ s : State, s.rtc.pend = none → s.rtc.held = none → exec .holdTimeout s = .next s) ∧
  (∀ (s : State) (n : BitVec 16), s.reach none RTC_SHIFT = .made → s.rtc.withhold = 0 → n ≠ 0 → n ≠ 0x8000 →
    ∃ t, exec (.shift n) s = .next t ∧ t.rtc.cal = s.rtc.cal ∧ t.rtc.pre = s.rtc.pre ∧
      (n.toInt < 0 → t.rtc.withhold = n.toInt.natAbs) ∧ (0 ≤ n.toInt → t.rtc.shift = s.rtc.shift + n.toNat)) ∧
  (∀ (s : State) (n : BitVec 16), s.reach none RTC_SHIFT = .made → (n = 0 ∨ n = 0x8000 ∨ s.rtc.withhold ≠ 0) →
    ∃ t, exec (.shift n) s = .next t ∧ t.flag RTC_EVT_SHIFT_REF = true ∧ t.rtc.withhold = s.rtc.withhold ∧
      t.rtc.shift = s.rtc.shift)

/-- R366 to R369, R371, R374: what an edge of the crystal, its absence, and the changes of the domain's supply do, and how a
read of RTC_SEC begins a freeze that a read of RTC_YEAR, or 2 s, end. -/
def Obligations.ClockEvents : Prop :=
  (∀ s : State, ∃ t, exec .rtcEdge s = .next t ∧ t.rtc.raw = (s.rtc.raw + 1) % 2 ^ 48 ∧
    (s.rtc.pend = none → s.rtc.withhold ≠ 0 → t.rtc.withhold = s.rtc.withhold - 1 ∧ t.rtc.pre = s.rtc.pre ∧ t.rtc.cal = s.rtc.cal) ∧
    (s.rtc.pend = none → s.rtc.withhold = 0 → s.rtc.shift = 0 → s.rtc.pre < 32767 →
      t.rtc.pre = s.rtc.pre + 1 ∧ t.rtc.cal = s.rtc.cal) ∧
    (s.rtc.pend = none → s.rtc.withhold = 0 → s.rtc.shift = 0 → s.rtc.pre = 32767 →
      t.rtc.pre = 0 ∧ t.rtc.cal = s.rtc.cal.tick s.compat) ∧
    (∀ c m, s.rtc.pend = some (c, m) → t.rtc.pre = 0 ∧ t.rtc.withhold = 0 ∧ t.rtc.cal.sec = c.sec ∧ t.rtc.cal.date = c.date)) ∧
  (∀ s : State, s.flag RTC_STAT_OSC_RUN = true →
    ∃ t, exec .oscStop s = .next t ∧ t.flag RTC_FLAG_OSF = true ∧ t.flag RTC_STAT_OSC_RUN = false ∧ t.rtc = s.rtc ∧
      (s.flag PWR_RAIL_AON = true → t.flag RTC_EVT_OSC_FAIL = true)) ∧
  (∀ s : State, ∃ t, exec .vbatSwitch s = .next t ∧ t.flag RTC_STAT_SRC = false ∧ t.flag PWR_RAIL_AON = false ∧ t.rtc = s.rtc ∧
    t.pwr.phase = .unpowered) ∧
  (∀ s : State, ∃ t, exec .aonQualified s = .next t ∧ t.flag RTC_STAT_SRC = true ∧
    (s.rtc.dip = false → t.rtc = s.rtc) ∧
    (s.rtc.dip = true → t.rtc.cal = {} ∧ t.rtc.pre = 0 ∧ t.rtc.raw = 0 ∧ t.flag RTC_FLAG_DIP = true ∧ t.flag RTC_FLAG_OSF = true)) ∧
  (∀ s : State, exec .dipLatch s = .next { s with rtc := { s.rtc with dip := true } }) ∧
  (∀ (s : State) (low : Bool), s.flag RTC_STAT_SRC = true →
    ∃ t, exec (.vbatCompare low) s = .next t ∧ t.flag RTC_STAT_VBAT_LOW = low ∧
      (low = true → s.flag RTC_STAT_VBAT_LOW = false → t.flag RTC_EVT_VBAT_LOW = true)) ∧
  (∀ s : State, s.reach none RTC_SEC = .made →
    ∃ t, exec .rtcSecRead s = .next t ∧ t.rtc.frozenAt.isSome = true ∧ t.hostRd = t.rd RTC_SEC ∧
      (s.rtc.frozenAt.isSome = true → t.hostRd = s.rd RTC_SEC)) ∧
  (∀ s : State, s.reach none RTC_YEAR = .made →
    ∃ t, exec .rtcYearRead s = .next t ∧ t.rtc.frozenAt = none ∧ t.hostRd = s.rd RTC_YEAR) ∧
  (∀ (s : State) (n : Nat), s.rtc.frozenAt = some n →
    ∃ t, exec .freezeTimeout s = .next t ∧ t.rtc.frozenAt = none ∧ t.flag RTC_EVT_FRZ_TMO = true ∧ n + twoSec ≤ t.ref)

/-! ## Fault collection and the idle-time test (spec/19_faults_test.md) -/

/-- R381, R383, R385, R390: the first waiting event is classed and counted; its reactions follow; an event that a reaction caused
is a second error. The source's quiet period has not ended unseen (first hypothesis of each clause but the last). -/
def Obligations.FaultEventIsClassed : Prop :=
  (∀ (s : State) (e : FltEvent) (q : List FltEvent), s.clockOn = true → ((s.fltSrc e.src).state = 0 ∨ (s.policy e.src).quiet = 0) →
    s.flt.queue = e :: q → s.flag FLT_CTL_EN = true → e.second = false →
    (s.policy e.src).minor ||| 5 = 5 → (s.policy e.src).major ||| 5 = 5 →
    ∃ t, exec .faultEvent s = .next t ∧ t.flt.queue = q ∧
      (t.fltSrc e.src).state = classAfter (s.policy e.src) (s.fltSrc e.src).state (countAfter (s.fltSrc e.src) e) ∧
      (t.fltSrc e.src).count = countAfter (s.fltSrc e.src) e ∧ (t.fltSrc e.src).last = 2 * e.cycle) ∧
  (∀ (s : State) (e : FltEvent) (q : List FltEvent), s.clockOn = true → (s.fltSrc e.src).state = 0 → s.flt.queue = e :: q →
    s.flag FLT_CTL_EN = true → e.second = false → (s.policy e.src).n ≤ 1 → (s.policy e.src).major = 16 →
    s.get PWR_LAST_BOOT ≠ bootFault → countAfter (s.fltSrc e.src) e = 1 →
    ∃ t, exec .faultEvent s = .next t ∧ t.get PWR_LAST_BOOT = bootFault ∧ t.pwr.phase = .boot ∧ t.flt.queue = [] ∧
      t.key.slots = s.key.slots) ∧
  (∀ (s : State) (e : FltEvent) (q : List FltEvent), s.clockOn = true → s.flt.queue = e :: q → s.flag FLT_CTL_EN = true → e.second = true →
    ∃ t, exec .faultEvent s = .next t ∧ t.flt.queue = q ∧ t.flag FLT_FLAG_SECOND = true ∧
      (t.fltSrc e.src).state = (s.fltSrc e.src).state)

/-- R381, R384, R386, R389: windows and quiet periods end, the host clears a source, consumes records and asks for a pulse of
ERR_N, which ends no sooner than 10 µs after its start. A source under isolation is not meant here but in R384's statement. -/
def Obligations.FaultCollectorCommands : Prop :=
  (∀ (s : State) (src : BitVec 8) (w : Nat), s.clockOn = true → (s.fltSrc src.toNat).winEnd = some w → s.fltDue src.toNat (w - 1) = false →
    ∃ t, exec (.faultWindowExpiry src) s = .next t ∧ (t.fltSrc src.toNat).count = 0 ∧ (t.fltSrc src.toNat).winEnd = none ∧
      (t.fltSrc src.toNat).state = (s.fltSrc src.toNat).state ∧ w ≤ t.ref) ∧
  (∀ (s : State) (src : BitVec 8), s.clockOn = true → (s.fltSrc src.toNat).state ≠ 0 → (s.policy src.toNat).quiet ≠ 0 →
    s.fltDue src.toNat ((s.fltSrc src.toNat).last + 2000000 * (s.policy src.toNat).quiet) = false →
    (s.fltSrc src.toNat).iso = none →
    ∃ t, exec (.quietExpiry src) s = .next t ∧ (t.fltSrc src.toNat).state = 0 ∧
      (t.fltSrc src.toNat).recovered = min 0xFFFF ((s.fltSrc src.toNat).recovered + 1) ∧
      (s.fltSrc src.toNat).last + 2000000 * (s.policy src.toNat).quiet ≤ t.ref) ∧
  (∀ (s : State) (k : Nat), s.reach none FLT_SRC_CMD = .made → k = (s.rd FLT_SRC_SEL).toNat % 256 → k ≤ 191 →
    (s.fltSrc k).state ≠ 0 → (s.fltSrc k).iso = none →
    ∃ t, exec .clear s = .next t ∧ (t.fltSrc k).state = 0 ∧
      (t.fltSrc k).recovered = min 0xFFFF ((s.fltSrc k).recovered + 1)) ∧
  (∀ (s : State) (rd : BitVec 7), s.reach none FLT_RING = .made →
    ∃ t, exec (.ringRdWrite rd) s = .next t ∧
      t.ringRd = (if s.recsHeld s.ringRd < s.recsHeld rd.toNat then s.ringRd else rd.toNat) ∧ t.ringWr = s.ringWr) ∧
  (∀ (s : State) (force mask : Bool), s.reach none FLT_ERRN_CTL = .made →
    ∃ t, exec (.pulse force mask) s = .next t ∧ t.flag FLT_ERRN_CTL_FORCE = force ∧ t.flag FLT_ERRN_CTL_MASK = mask ∧
      t.flt.errn = some (s.flt.errn.getD (max s.ref s.flt.errnNext))) ∧
  (∀ (s : State) (ns : BitVec 11) (a : Nat), s.clockOn = true → s.flt.errn = some a →
    ∃ t, exec (.errnPulseEnd ns) s = .next t ∧ t.flt.errn = none ∧ a + 20000 ≤ t.ref ∧ t.flt.errnNext = t.ref + 20000)

/-- R384: ISOLATE on a lane's mismatch clears the lane's enable, and the source's return to CLEAR sets it again unless the host
has written CIP_CTL since. -/
def Obligations.LaneIsolation : Prop :=
  (∀ (s : State) (l : Nat), l < 4 → (s.rd CIP_CTL).getLsbD l = true →
    ((s.isolate (149 + l)).rd CIP_CTL).getLsbD l = false ∧ ((s.isolate (149 + l)).fltSrc (149 + l)).iso = some CIP_CTL ∧
    (∀ k, k < 32 → k ≠ l → ((s.isolate (149 + l)).rd CIP_CTL).getLsbD k = (s.rd CIP_CTL).getLsbD k)) ∧
  (∀ (s : State) (l : Nat) (a : Nat), l < 4 → (s.fltSrc (149 + l)).iso = some a →
    ((s.fltClear (149 + l)).rd CIP_CTL).getLsbD l = true) ∧
  (∀ (s : State) (l : Nat), l < 4 → (s.fltSrc (149 + l)).iso = some CIP_CTL →
    ((s.hostWrote CIP_CTL).fltSrc (149 + l)).iso = none)

/-- R391 to R393: a round begins at its first test's first block, a step starts in an IDLE window where it fits, is counted when it
completes, and raises its test's source when it fails; a round that lasts too long raises STARVED once. -/
def Obligations.IdleTimeTest : Prop :=
  (∀ (s : State) (k : Nat), s.flag ITT_CTL_EN = true → s.itt.going = false → s.running = true → s.itt.round = none →
    s.ittNext 0 = some k →
    ∃ t, exec .ittRoundStart s = .next t ∧ t.itt.going = true ∧ t.itt.starved = false ∧ t.itt.round = some s.turn ∧
      t.get ITT_POS_TEST = k ∧ t.get ITT_POS_BLK = 0) ∧
  (∀ (s : State) (r : Fin 3) (w : Window) (st en : Nat), s.windowOf r s.absTick = some (w, st, en) → w.kind = 9 → s.ittMay = true →
    s.get ITT_POS_TEST < ittRtcFreq → s.ittOn (s.get ITT_POS_TEST) = true →
    (s.get ITT_POS_TEST = ittRfLoop → s.get ITT_POS_BLK / 4 = r.val) → s.absTick + ittMax (s.get ITT_POS_TEST) ≤ en →
    (s.rd ITT_USED).toNat + ittMax (s.get ITT_POS_TEST) ≤ s.ittBudget → s.ittSpare (s.get ITT_POS_TEST) = true →
    ∃ t, exec (.ittStepStart r) s = .next t ∧ t.itt.step = some (s.get ITT_POS_TEST, s.absTick) ∧
      t.flag ITT_STAT_RUNNING = true ∧ t.get ITT_STAT_TEST = s.get ITT_POS_TEST) ∧
  (∀ (s : State) (fail : Bool) (ticks : BitVec 10) (k a : Nat), s.itt.step = some (k, a) → k < ittRtcFreq →
    ∃ t, exec (.ittStepDone fail ticks) s = .next t ∧
      t.rd ITT_CNT_STEP = BitVec.ofNat 32 (min 0xFFFFFFFF ((s.rd ITT_CNT_STEP).toNat + 1)) ∧
      (fail = true → t.flag ⟨ITT_EVT, k, 1⟩ = true ∧
        t.rd ITT_CNT_FAIL = BitVec.ofNat 32 (min 0xFFFFFFFF ((s.rd ITT_CNT_FAIL).toNat + 1)))) ∧
  (∀ (s : State) (n : Nat), s.itt.round = some n → s.flag ITT_CTL_EN = true → s.itt.going = true → s.itt.starved = false →
    ∃ t, exec .starved s = .next t ∧ t.itt.starved = true ∧ t.flag ITT_EVT_STARVED = true ∧ t.itt.going = true) ∧
  (∀ (s : State) (edges : BitVec 24) (a : Nat), s.itt.step = some (ittRtcFreq, a) →
    ∃ t, exec (.rtcFreqDone edges) s = .next t ∧ t.itt.step = none ∧ t.itt.going = false ∧ a + 2 ^ 30 * 50 ≤ t.ref ∧
      t.get ITT_STAT_ROUNDS = min 0xFFFF (s.get ITT_STAT_ROUNDS + 1))

/-! ## The host interface (spec/20_host_interface.md) -/

/-- R398, R401, R402, R406: tails post descriptors, an output that has its descriptors is written and HEAD advances by what it
needs, a held output whose time is over is dropped and counted, a disabled ring gives its descriptors back, and a vector is
raised when its delay is over. -/
def Obligations.HostRings : Prop :=
  (∀ (s : State) (q : Fin 32) (addrs : List (BitVec 64)) (w : HostOut), s.clockOn = true →
    s.hif.wait.find? (fun w => w.q == q.val && w.held.isNone) = some w →
    ∃ t, exec (.hostRxDelivery q addrs) s = .next t ∧ t.hif.wait = s.hif.wait.erase w ∧
      t.rxHead q.val = (s.rxHead q.val + s.needs q.val w.bytes.length) % s.rxSize q.val ∧
      ∃ ms, t.out = s.out ++ .hostWrite (addrs.getD 0 0).toNat (w.bytes.take (s.bufSize q.val)) :: ms) ∧
  (∀ (s : State) (q : Fin 32) (w : HostOut), s.clockOn = true → s.hif.wait.find? (fun w => w.q == q.val && w.held.isSome) = some w →
    ∃ t, exec (.rxHoldTimeout q) s = .next t ∧ t.hif.wait = s.hif.wait.erase w ∧ t.flag HIF_EVT_RX_HOLD_TMO = true ∧
      t.rd HIF_CNT_RX_HOLD_TMO = BitVec.ofNat 32 (min 0xFFFFFFFF ((s.rd HIF_CNT_RX_HOLD_TMO).toNat + 1))) ∧
  (∀ (s : State) (q : Fin 32) (v : BitVec 15), s.reach none (HIF_Q_RX_TAIL q.val) = .made →
    ∃ t, exec (.rxTailWrite q v) s = .next t ∧ (t.rd (HIF_Q_RX_TAIL q.val)).toNat = v.toNat ∧ t.rxHead q.val = s.rxHead q.val) ∧
  (∀ (s : State) (q : Fin 32) (v : BitVec 15), s.reach none (HIF_Q_TX_TAIL q.val) = .made →
    ∃ t, exec (.txTailWrite q v) s = .next t ∧ (t.rd (HIF_Q_TX_TAIL q.val)).toNat = v.toNat ∧
      (s.hostWrote (HIF_Q_TX_TAIL q.val)).onlyRegs t (fun a => a == HIF_Q_TX_TAIL q.val)) ∧
  (∀ (s : State) (q : Fin 32) (v : Word), s.reach none (HIF_Q_CFG q.val) = .made → s.get HIF_STAT_PHASE = 3 →
    s.flag (HIF_Q_CFG_RX_EN q.val) = false → s.flag (HIF_Q_CFG_TX_EN q.val) = false →
    ∃ t, exec (.queueCfgWrite q v) s = .next t ∧ t.rd (HIF_Q_CFG q.val) = v &&& 0xFFF7FFF7) ∧
  (∀ (s : State) (q : Fin 32) (v : Word), s.reach none (HIF_Q_CFG q.val) = .made → s.flag (HIF_Q_CFG_RX_EN q.val) = true →
    v.getLsbD 0 = false →
    ∃ t, exec (.queueCfgWrite q v) s = .next t ∧ t.flag (HIF_Q_CFG_RX_EN q.val) = false ∧ t.rxd q.val = 0 ∧
      ∀ w ∈ t.hif.wait, w.q ≠ q.val) ∧
  (∀ (s : State) (q : Fin 32) (tx : Bool), s.clockOn = true → (s.modGet (modKey q.val tx)).count ≠ 0 →
    s.get (if tx then HIF_Q_IRQ_TX_USEC q.val else HIF_Q_IRQ_RX_USEC q.val) ≠ 0 →
    ∃ t, exec (.irqModerationExpiry q tx) s = .next t ∧ t.modGet (modKey q.val tx) = {} ∧
      t.out = s.out ++ [.msix (s.get (if tx then HIF_Q_CFG_TX_VEC q.val else HIF_Q_CFG_RX_VEC q.val))] ∧
      (s.modGet (modKey q.val tx)).first + 2000 * s.get (if tx then HIF_Q_IRQ_TX_USEC q.val else HIF_Q_IRQ_RX_USEC q.val) ≤ t.ref)

/-- R201, R403, R404: a well-formed chain of the ring whose turn it is enters the parser and its descriptors are given back, or waits,
counted once, where the reorder buffer has no free slot; a malformed one is completed with ERR, counted, and not sent. -/
def Obligations.TransmitRing : Prop :=
  (∀ (s : State) (descs : List TxDesc) (q : Nat) (c : List TxDesc) (id : Nat), s.clockOn = true → s.serving = true → s.txTurn = some q →
    txChain 16 (descs.take (s.txd q)) = some c → txBad c = false → s.flag PRS_CTL_EN = true → s.prs.slots.length < 8192 →
    (({ s with hif := { s.hif with lastTx := q, stalled := s.hif.stalled.filter (· != q) } }).alloc ownHif (txLen c) (txData c)).2 =
      some id →
    ∃ t, exec (.txRingRead descs) s = .next t ∧ t.hif.lastTx = q ∧ t.prs.slots.length = s.prs.slots.length + 1 ∧
      t.txHead q = (s.txHead q + c.length) % s.txSize q) ∧
  (∀ (s : State) (descs : List TxDesc) (q : Nat) (c : List TxDesc), s.clockOn = true → s.serving = true → s.txTurn = some q →
    txChain 16 (descs.take (s.txd q)) = some c → txBad c = false → s.flag PRS_CTL_EN = true → 8192 ≤ s.prs.slots.length →
    (q ∈ s.hif.stalled → exec (.txRingRead descs) s = .next s) ∧
    (q ∉ s.hif.stalled → ∃ t, exec (.txRingRead descs) s = .next t ∧ q ∈ t.hif.stalled ∧ t.flag ROB_EVT_STALL = true ∧
      t.rd ROB_CNT_STALL = BitVec.ofNat 32 (min 0xFFFFFFFF ((s.rd ROB_CNT_STALL).toNat + 1)) ∧ t.prs = s.prs ∧
      t.txHead q = s.txHead q)) ∧
  (∀ (s : State) (descs : List TxDesc) (q : Nat) (c : List TxDesc), s.clockOn = true → s.serving = true → s.txTurn = some q →
    txChain 16 (descs.take (s.txd q)) = some c → txBad c = true →
    ∃ t, exec (.txRingRead descs) s = .next t ∧ t.hif.lastTx = q ∧ t.prs = s.prs ∧ t.flag HIF_EVT_TX_BAD = true ∧
      t.rd HIF_CNT_TX_BAD = BitVec.ofNat 32 (min 0xFFFFFFFF ((s.rd HIF_CNT_TX_BAD).toNat + 1)) ∧
      t.txHead q = (s.txHead q + c.length) % s.txSize q)

/-- R16, R19, R394, R407, R408, R419: host-memory errors, the PCIe link, Function Level Reset and the host's heartbeat; a failed flit of
a die link is sent again and counted until the fifth failure declares the link down; strobes that agree do nothing further; SYS_SUPPLY
follows the monitor. -/
def Obligations.LinksAndHeartbeat : Prop :=
  (∀ (s : State) (q : Fin 32), s.clockOn = true → ∃ t, exec (.dmaError q .rxDesc) s = .next t ∧ t.flag (HIF_Q_CFG_RX_EN q.val) = false ∧
    t.flag (HIF_Q_STAT_RX_QERR q.val) = true ∧ t.flag HIF_EVT_DMA_ERR = true ∧ t.rxd q.val = 0) ∧
  (∀ (s : State) (q : Fin 32), s.clockOn = true → ∃ t, exec (.dmaError q .txDesc) s = .next t ∧ t.flag (HIF_Q_CFG_TX_EN q.val) = false ∧
    t.flag (HIF_Q_STAT_TX_QERR q.val) = true ∧ t.flag HIF_EVT_DMA_ERR = true ∧ t.txd q.val = 0) ∧
  (∀ (s : State) (q : Fin 32) (fl : List Byte), s.clockOn = true → ∃ t, exec (.dmaError q (.txData fl)) s = .next t ∧
    t.flag HIF_EVT_DMA_ERR = true ∧ t.txHead q.val = (s.txHead q.val + fl.length) % s.txSize q.val ∧
    t.flag (HIF_Q_CFG_TX_EN q.val) = s.flag (HIF_Q_CFG_TX_EN q.val)) ∧
  (∀ s : State, s.flag HIF_STAT_LINK = true →
    ∃ t, exec .pcieLinkLoss s = .next t ∧ t.flag HIF_STAT_LINK = false ∧ t.flag HIF_EVT_LINK_DOWN = true ∧ t.hif.wait = [] ∧
      t.flag HIF_STS_CFG_EN = false ∧
      ∀ q < 32, t.flag (HIF_Q_CFG_RX_EN q) = false ∧ t.flag (HIF_Q_CFG_TX_EN q) = false) ∧
  (∀ (s : State) (gen : BitVec 3) (x2 : Bool), ∃ t, exec (.pcieLinkUp gen x2) s = .next t ∧ t.flag HIF_STAT_LINK = true ∧
    t.get HIF_STAT_GEN = gen.toNat ∧ t.flag HIF_STAT_X2 = x2 ∧ s.onlyRegs t (fun a => a == HIF_STAT)) ∧
  (∀ s : State, ∃ t, exec .flr s = .next t ∧ t.flag HIF_EVT_FLR = true ∧ t.hif.wait = [] ∧ t.rd HIF_HB_CFG = s.rd HIF_HB_CFG ∧
    t.rd HIF_VEC = 0x100 ∧ t.flag HIF_STAT_HOST_LOST = false ∧ t.get HIF_STAT_PHASE = s.get HIF_STAT_PHASE ∧
    t.flag HIF_STAT_LINK = s.flag HIF_STAT_LINK ∧ ∀ q < 32, t.rd (HIF_Q_CFG q) = 0x10880) ∧
  (∀ s : State, s.reach none HIF_HB = .made →
    ∃ t, exec .heartbeatWrite s = .next t ∧ t.flag HIF_STAT_HOST_LOST = false ∧ t.hif.hbAt = s.ref) ∧
  (∀ s : State, s.clockOn = true → s.get HIF_HB_CFG_TMO ≠ 0 → s.flag HIF_STAT_HOST_LOST = false →
    ∃ t, exec .heartbeatTimeout s = .next t ∧ t.flag HIF_STAT_HOST_LOST = true ∧ t.flag HIF_EVT_HB_LOST = true ∧
      s.hif.hbAt + 2000000 * s.get HIF_HB_CFG_TMO ≤ t.ref ∧ ∀ w ∈ t.hif.wait, w.held = none) ∧
  (∀ (s : State) (l : Fin 3) (new : Bool), s.flag (linkUpF l) = true → (if new then 1 else s.linkFails[l] + 1) ≤ 4 →
    ∃ t, exec (.flitCrcFail l new) s = .next t ∧ t.linkFails[l] = (if new then 1 else s.linkFails[l] + 1) ∧
      t.get (linkRetryF l) = min 255 (s.get (linkRetryF l) + 1) ∧ t.flag (linkUpF l) = true) ∧
  (∀ (s : State) (l : Fin 3), s.flag (linkUpF l) = true → 4 ≤ s.linkFails[l] →
    ∃ t, exec (.flitCrcFail l false) s = .next t ∧ t.flag (linkUpF l) = false ∧ t.flag (linkErrF l) = true ∧
      (s.flag FLT_CTL_EN = true → s.flt.queue.length < 64 → ∃ e ∈ t.flt.queue, e.src = l.val)) ∧
  (∀ s : State, exec (.turnStrobe true) s = .next s) ∧
  (∀ s : State, s.spn.frond.free.isSome = true → exec (.turnStrobe false) s = .next s) ∧
  (∀ s : State, s.spn.frond.free = none → s.flag FLT_CTL_EN = true → s.flt.queue.length < 64 →
    ∃ t, exec (.turnStrobe false) s = .next t ∧ (∃ e ∈ t.flt.queue, e.src = 3) ∧
      t.spn = { s.spn with frond := s.spn.frondWas }) ∧
  (∀ (s : State) (low : Bool), ∃ t, exec (.supplyMonitorChange low) s = .next t ∧ t.flag SYS_SUPPLY_MEAS_LOW = low ∧
    t.flag SYS_SUPPLY_LOW = (low || decide (s.get SYS_SUPPLY_DECL ≠ 0)) ∧ s.onlyRegs t (fun a => a == SYS_SUPPLY))

/-! ## Accesses of BAR0 (spec/01_architecture.md, spec/20_host_interface.md) -/

/-- R8, R10, R12, R13, R28: a write by the access types, a write of W1C bits with what the device sets in the same cycle, a read
that clears RC fields, and accesses that fail; R410, R411: serial frames that make their accesses and are answered OK. The writes are of
the registers of ITT and CIP, which have no effects of their
own. -/
def Obligations.RegisterAccess : Prop :=
  (∀ (s : State) (i : Iface) (a : BitVec 26) (v : Word) (x : RegRow), s.reach (some i) a.toNat = .made → plainAddr s a.toNat →
    regRow a.toNat = some x → (a.toNat / 0x10000 = 3 ∨ a.toNat / 0x10000 = 9) →
    ∃ t, exec (.registerWrite i a v) s = .next t ∧
      t.rd a.toNat = ((s.rd a.toNat &&& ~~~x.rw) ||| (v &&& x.rw)) &&& ~~~(v &&& x.w1c) ∧
      (s.hostWrote a.toNat).onlyRegs t (fun b => b == a.toNat)) ∧
  (∀ (s : State) (i : Iface) (a : BitVec 26) (v set : Word) (x : RegRow), s.reach (some i) a.toNat = .made →
    plainAddr s a.toNat → regRow a.toNat = some x → (a.toNat / 0x10000 = 3 ∨ a.toNat / 0x10000 = 9) →
    ∃ t, exec (.w1cWrite i a v set) s = .next t ∧
      t.rd a.toNat = (((s.rd a.toNat &&& ~~~x.rw) ||| (v &&& x.rw)) &&& ~~~(v &&& x.w1c)) ||| (s.rd a.toNat &&& set &&& x.w1c)) ∧
  (∀ (s : State) (i : Iface) (a : BitVec 26) (x : RegRow), s.reach (some i) a.toNat = .made → plainAddr s a.toNat →
    regRow a.toNat = some x →
    ∃ t, exec (.rcRead i a) s = .next t ∧ t.hostRd = s.wordAt a.toNat ∧ t.rd a.toNat = s.rd a.toNat &&& ~~~x.rc ∧
      ∀ b, b ≠ a.toNat → t.rd b = s.rd b) ∧
  (∀ (s : State) (a : BitVec 26) (w : Bool), s.reach (some .pcie) a.toNat ≠ .silent →
    ∃ t, exec (.badWidthAccess a w) s = .next t ∧
      t.rd HIF_CNT_ACCESS = BitVec.ofNat 32 (min 0xFFFFFFFF ((s.rd HIF_CNT_ACCESS).toNat + 1)) ∧ (w = false → t.hostRd = 0) ∧
      ∀ b, reporting b = false → t.rd b = s.rd b) ∧
  (∀ (s : State) (i : Iface) (a : BitVec 26) (v : Option Word), s.reach (some i) a.toNat = .counted →
    ∃ t, exec (.unassignedAccess i a v) s = .next t ∧
      t.rd HIF_CNT_ACCESS = BitVec.ofNat 32 (min 0xFFFFFFFF ((s.rd HIF_CNT_ACCESS).toNat + 1)) ∧ (v = none → t.hostRd = 0) ∧
      ∀ b, reporting b = false → t.rd b = s.rd b) ∧
  (∀ (s : State) (count : BitVec 8) (ofs : Word) (cut : HspCut), s.powered = true → s.hspBusy = false → cut ≠ .beforeCrc →
    ofs.toNat % 4 = 0 → ofs.toNat + 4 * (count.toNat + 1) ≤ 0x4000000 →
    ∃ (t : State) (ws : List Word), exec (.hspRead 1 count ofs true cut) s = .next t ∧ ws.length = count.toNat + 1 ∧
      ws.head? = some (s.busRead .hsp ofs.toNat).hostRd ∧
      t.out = (s.hspReads ofs.toNat (count.toNat + 1)).1.out ++ [.hsp 0x5A (if cut = .afterOk then [] else ws)]) ∧
  (∀ (s : State) (ofs : Word) (data : List Word), s.powered = true → s.hspBusy = false → ofs.toNat % 4 = 0 →
    ofs.toNat + 4 * data.length ≤ 0x4000000 →
    ∃ t, exec (.hspWrite 2 ofs data true false) s = .next t ∧ t.out = (s.hspWrites ofs.toNat data).out ++ [.hsp 0x5A []] ∧
      t.regs = (s.hspWrites ofs.toNat data).regs ∧ t.bar = (s.hspWrites ofs.toNat data).bar)

/-- R13: whichever register the write clears W1C bits of, a bit that the device sets in the same fabric cycle ends set. The device's
setting stands before the host's write in the queue, which names it (log entry 27). -/
def Obligations.ClearRace : Prop :=
  ∀ (s : State) (i : Iface) (a : BitVec 26) (v set : Word) (x : RegRow) (k : Nat), s.reach (some i) a.toNat = .made →
    inWindows a.toNat = false → regRow a.toNat = some x → x.w1c.getLsbD k = true → (s.rd a.toNat).getLsbD k = true →
    set.getLsbD k = true → ∃ t, exec (.w1cWrite i a v set) s = .next t ∧ (t.rd a.toNat).getLsbD k = true

/-- R9, R396: the low word of a pair is held, for its interface alone, until the high word commits or returns both. -/
def Obligations.PairAccess : Prop :=
  (∀ (s : State) (i : Iface) (a : BitVec 26), s.reach (some i) a.toNat = .made → inWindows a.toNat = false →
    s.isLow a.toNat = true → a.toNat ≠ SPN_NOW_NS → a.toNat ≠ SPN_TL_NS → a.toNat ≠ RTC_SEC → a.toNat ≠ RTC_YEAR →
    ∃ t, exec (.pairLowRead i a) s = .next t ∧ t.hostRd = s.wordAt a.toNat ∧
      t.rdHeld i a.toNat = some (s.wordAt (a.toNat + 4)) ∧
      ∀ j b, (j, b) ≠ (i, a.toNat) → t.rdHeld j b = s.rdHeld j b) ∧
  (∀ (s : State) (i : Iface) (a : BitVec 26) (v : Word), s.reach (some i) a.toNat = .made → inWindows a.toNat = false →
    s.isLow a.toNat = false → s.isHigh a.toNat = true → a.toNat ≠ SPN_NOW_NS → a.toNat ≠ SPN_TL_NS → a.toNat ≠ RTC_SEC →
    a.toNat ≠ RTC_YEAR → s.rdHeld i (a.toNat - 4) = some v →
    ∃ t, exec (.pairHighRead i a) s = .next t ∧ t.hostRd = v ∧ t.rdHeld i (a.toNat - 4) = none ∧ t.regs = s.regs) ∧
  (∀ (s : State) (i : Iface) (a : BitVec 26) (v : Word), s.reach (some i) a.toNat = .made → inWindows a.toNat = false →
    s.isLow a.toNat = true →
    ∃ t, exec (.pairLowWrite i a v) s = .next t ∧ t.wrHeld i a.toNat = some v ∧ (a.toNat ≠ RTC_RAW_LO → t.regs = s.regs) ∧
      ∀ j b, (j, b) ≠ (i, a.toNat) → t.wrHeld j b = s.wrHeld j b) ∧
  (∀ (s : State) (i : Iface) (a : BitVec 26) (lo v : Word), a.toNat = FLD_GROUP_LO + 4 → s.reach (some i) a.toNat = .made →
    s.wrHeld i FLD_GROUP_LO = some lo → s.blk = none →
    ∃ t, exec (.pairHighWrite i a v) s = .next t ∧ t.rd FLD_GROUP_LO = lo ∧ t.rd (FLD_GROUP_LO + 4) &&& 0xFFFF = v &&& 0xFFFF ∧
      t.wrHeld i FLD_GROUP_LO = none)

/-- R410 to R412: a serial frame whose checks pass makes its accesses in the order of its words and is answered OK; one with a CRC
error makes none and is counted; one cut off before its CRC makes none. -/
def Obligations.SerialPort : Prop :=
  (∀ (s : State) (count : BitVec 8) (ofs : Word) (cut : HspCut), s.powered = true → s.hspBusy = false → cut ≠ .beforeCrc →
    ofs.toNat % 4 = 0 → ofs.toNat + 4 * (count.toNat + 1) ≤ 0x4000000 →
    ∃ t, exec (.hspRead 1 count ofs true cut) s = .next t ∧
      t.out = (s.hspReads ofs.toNat (count.toNat + 1)).1.out ++
        [.hsp hspOk (if cut = .afterOk then [] else (s.hspReads ofs.toNat (count.toNat + 1)).2)] ∧
      t.regs = (s.hspReads ofs.toNat (count.toNat + 1)).1.regs ∧
      (s.hspReads ofs.toNat (count.toNat + 1)).2.length = count.toNat + 1) ∧
  (∀ (s : State) (ofs : Word) (data : List Word), s.powered = true → s.hspBusy = false → ofs.toNat % 4 = 0 →
    ofs.toNat + 4 * data.length ≤ 0x4000000 →
    ∃ t, exec (.hspWrite 2 ofs data true false) s = .next t ∧ t.out = (s.hspWrites ofs.toNat data).out ++ [.hsp hspOk []] ∧
      t.regs = (s.hspWrites ofs.toNat data).regs) ∧
  (∀ (s : State) (op : Byte) (ofs : Word) (data : List Word), s.powered = true → s.hspBusy = false →
    ∃ t, exec (.hspWrite op ofs data false false) s = .next t ∧ t.out = s.out ++ [.hsp hspCrc []] ∧
      t.flag HIF_EVT_HSP_CRC = true ∧
      t.rd HIF_CNT_HSP_ERR = BitVec.ofNat 32 (min 0xFFFFFFFF ((s.rd HIF_CNT_HSP_ERR).toNat + 1))) ∧
  (∀ (s : State) (op : Byte) (ofs : Word) (data : List Word) (crcOk : Bool),
    exec (.hspWrite op ofs data crcOk true) s = .next s)

/-! ## The key store and the cipher engine (spec/15_cipher_keys.md) -/

/-- R331 to R333: an accepted command runs and shows BUSY; a refused one changes no slot, shows its code and clears KEY_DATA. -/
def Obligations.KeyCommandsStart : Prop :=
  (∀ (s : State) (cmd : BitVec 4), s.reach none KEY_CMD = .made → alone cmd 1 → s.flag KEY_STAT_BUSY = false →
    1 ≤ s.get KEY_SEL_SUITE → s.get KEY_SEL_SUITE ≤ 10 → s.rd UPD_LOCK = 0 →
    ∃ t, exec (.install cmd) s = .next t ∧ t.flag KEY_STAT_BUSY = true ∧ t.key.slots = s.key.slots ∧
      t.key.cmd = some (.install (s.get KEY_SEL_SLOT) (s.get KEY_SEL_SUITE) (keyOf (s.get KEY_SEL_SUITE) s.key.data))) ∧
  (∀ (s : State) (cmd : BitVec 4), s.reach none KEY_CMD = .made → alone cmd 2 → s.flag KEY_STAT_BUSY = false →
    s.rd UPD_LOCK = 0 →
    ∃ t, exec (.erase cmd) s = .next t ∧ t.flag KEY_STAT_BUSY = true ∧ t.key.slots = s.key.slots ∧
      t.key.cmd = some (.erase (s.get KEY_SEL_SLOT))) ∧
  (∀ (s : State) (cmd : BitVec 4), s.reach none KEY_CMD = .made → alone cmd 8 → s.flag KEY_STAT_BUSY = false →
    ∃ t, exec (.wipe cmd) s = .next t ∧ t.flag KEY_STAT_BUSY = true ∧ t.key.slots = s.key.slots ∧ t.key.cmd = some .wipe) ∧
  (∀ (s : State) (cmd : BitVec 4) (e : KeySlot), s.reach none KEY_CMD = .made → alone cmd 4 → s.flag KEY_STAT_BUSY = false →
    s.keySlot (s.get KEY_SEL_SLOT) = some e → e.suite < 16 →
    ∃ t, exec (.info cmd) s = .next t ∧ t.key.slots = s.key.slots ∧ (t.rd KEY_INFO).toNat % 16 = e.suite ∧
      (t.rd KEY_INFO).getLsbD 4 = decide (s.get KEY_SEL_SLOT < 0x400) ∧
      (t.rd KEY_INFO_TXPN_LO).toNat = e.txPn % 2 ^ 32 ∧ (t.rd KEY_INFO_RXPN_LO).toNat = e.rxPn % 2 ^ 32 ∧
      (t.rd KEY_INFO_MGPN_LO).toNat = e.mgPn % 2 ^ 32) ∧
  (∀ (s : State) (cmd : BitVec 4) (c : Instr), (c = .install cmd ∨ c = .erase cmd ∨ c = .info cmd ∨ c = .wipe cmd) →
    s.reach none KEY_CMD = .made → s.flag KEY_STAT_BUSY = true →
    ∃ t, exec c s = .next t ∧ t.get KEY_STAT_RESULT = 1 ∧ t.flag KEY_EVT_CMD_ERR = true ∧ t.key.slots = s.key.slots ∧
      t.key.cmd = s.key.cmd ∧ t.key.data = 0)

/-- R330 to R333: as a command completes its slot takes the new state with its packet numbers 0, a persistent slot's backing with it;
WIPE empties the volatile slots and no persistent one; a backing that could not be written leaves the slot empty. -/
def Obligations.KeyCommandCompletes : Prop :=
  (∀ (s : State) (k su : Nat) (d : BitVec 256) (ok : Bool), s.key.cmd = some (.install k su d) → (ok = true ∨ 0x400 ≤ k) →
    ∃ t, exec (.keyCommandDone ok) s = .next t ∧ t.keySlot k = some ⟨su, d, 0, 0, 0⟩ ∧ t.key.cmd = none ∧ t.key.data = 0 ∧
      t.flag KEY_STAT_BUSY = false ∧ t.get KEY_STAT_RESULT = 0 ∧ (∀ j, j ≠ k → t.keySlot j = s.keySlot j) ∧
      t.rd KEY_CNT_INSTALL = BitVec.ofNat 32 (min 0xFFFFFFFF ((s.rd KEY_CNT_INSTALL).toNat + 1))) ∧
  (∀ (s : State) (k : Nat) (ok : Bool), s.key.cmd = some (.erase k) → (ok = true ∨ 0x400 ≤ k) →
    ∃ t, exec (.keyCommandDone ok) s = .next t ∧ t.keySlot k = none ∧ t.key.cmd = none ∧
      (∀ j, j ≠ k → t.keySlot j = s.keySlot j)) ∧
  (∀ (s : State) (ok : Bool), s.key.cmd = some .wipe →
    ∃ t, exec (.keyCommandDone ok) s = .next t ∧ (∀ j, 0x400 ≤ j → t.keySlot j = none) ∧
      (∀ j, j < 0x400 → t.keySlot j = s.keySlot j) ∧ t.key.backing = s.key.backing) ∧
  (∀ (s : State) (k su : Nat) (d : BitVec 256), s.key.cmd = some (.install k su d) → k < 0x400 →
    ∃ t, exec (.keyCommandDone false) s = .next t ∧ t.keySlot k = none ∧ t.get KEY_STAT_RESULT = 4 ∧
      t.flag KEY_EVT_CMD_ERR = true)

/-- R18, R250, R324, R329, R330, R434: with a lane free, the next protected frame of the backbone port takes the next packet number of its
slot; one that arrives goes on when it passes the integrity check with a number above the slot's counter, which takes that number. A
frame without a key (its lane down brings none), past the last number, with a bad check, replayed, or given up for want of a lane is
counted, leaves the slot alone and leaves its queue. A replayed Afette message reaches no further. A station's frame that needs no lane
passes on as it is. -/
def Obligations.CipherFrames : Prop :=
  (∀ (s : State) (p : Fin 2) (f : EthTx) (k : BitVec 14) (e : KeySlot) (ok : Bool), s.clockOn = true → s.backbone = some p →
    (s.port p).nextUnsealed = some f → (s.rd CIP_CTL).toNat % 16 ≠ 0 → s.flag SYS_DIE_STAT_KEY_UP = true →
    s.keyBusy k.toNat = false → s.keySlot k.toNat = some e → e.suite = 9 →
    (e.txPn < 2 ^ 32 - 1 → ∃ t, exec (.cipherFrame (.backbone false k) ok 0 0 0) s = .next t ∧
      t.keySlot k.toNat = some { e with txPn := e.txPn + 1 } ∧ (∀ j, j ≠ k.toNat → t.keySlot j = s.keySlot j) ∧
      t.port p = (s.port p).sealed (fun g => some { g with pn := some (e.txPn + 1) }) ∧ t.chk = s.chk) ∧
    (2 ^ 32 - 1 ≤ e.txPn → ∃ t, exec (.cipherFrame (.backbone false k) ok 0 0 0) s = .next t ∧ t.key = s.key ∧
      t.flag CIP_EVT_PN_END = true ∧ t.port p = (s.port p).sealed (fun _ => none) ∧ (f.chain = none → t.chk = s.chk))) ∧
  (∀ (s : State) (p : Fin 2) (x : Packet) (k : BitVec 14) (e : KeySlot) (n : Nat), s.clockOn = true → s.backbone = some p →
    (s.port p).ingress.find? (·.sec) = some x → (s.rd CIP_CTL).toNat % 16 ≠ 0 → s.flag SYS_DIE_STAT_KEY_UP = true →
    s.keyBusy k.toNat = false → s.keySlot k.toNat = some e → e.suite = 9 → n = beNum (part x.bytes 16 4) →
    (e.rxPn < n → ∃ t, exec (.cipherFrame (.backbone true k) true 0 0 0) s = .next t ∧
      t.keySlot k.toNat = some { e with rxPn := n } ∧ (∀ j, j ≠ k.toNat → t.keySlot j = s.keySlot j) ∧
      (t.port p).ingress = clearFirst (fun y => some { y with sec := false, bytes := linkPlain e.key x.bytes }) (s.port p).ingress) ∧
    (n ≤ e.rxPn → ∃ t, exec (.cipherFrame (.backbone true k) true 0 0 0) s = .next t ∧ t.key = s.key ∧
      (t.port p).ingress = clearFirst (fun _ => none) (s.port p).ingress ∧ t.flag CIP_EVT_REPLAY = true ∧
      t.rd CIP_CNT_REPLAY = BitVec.ofNat 32 (min 0xFFFFFFFF ((s.rd CIP_CNT_REPLAY).toNat + 1))) ∧
    (∃ t, exec (.cipherFrame (.backbone true k) false 0 0 0) s = .next t ∧ t.key = s.key ∧
      (t.port p).ingress = clearFirst (fun _ => none) (s.port p).ingress ∧
      t.rd CIP_CNT_MIC = BitVec.ofNat 32 (min 0xFFFFFFFF ((s.rd CIP_CNT_MIC).toNat + 1)))) ∧
  (∀ (s : State) (p : Fin 2) (f : EthTx) (k : BitVec 14) (ok : Bool), s.clockOn = true → s.backbone = some p →
    (s.port p).nextUnsealed = some f → (s.rd CIP_CTL).toNat % 16 ≠ 0 →
    (s.keySlot k.toNat = none ∨ s.flag SYS_DIE_STAT_KEY_UP = false) →
    ∃ t, exec (.cipherFrame (.backbone false k) ok 0 0 0) s = .next t ∧ t.flag CIP_EVT_NOKEY = true ∧ t.key = s.key ∧
      t.port p = (s.port p).sealed (fun _ => none) ∧
      t.rd CIP_CNT_NOKEY = BitVec.ofNat 32 (min 0xFFFFFFFF ((s.rd CIP_CNT_NOKEY).toNat + 1))) ∧
  (∀ (s : State) (p : Fin 2) (f : EthTx) (k : BitVec 14) (ok : Bool) (mm : BitVec 2) (h u : BitVec 4), s.clockOn = true →
    s.backbone = some p → (s.port p).nextUnsealed = some f → (s.rd CIP_CTL).toNat % 16 = 0 →
    ∃ t, exec (.cipherFrame (.backbone false k) ok mm h u) s = .next t ∧ t.flag CIP_EVT_LANE_OFF = true ∧ t.key = s.key ∧
      t.port p = (s.port p).sealed (fun _ => none) ∧
      t.rd CIP_CNT_GIVEUP = BitVec.ofNat 32 (min 0xFFFFFFFF ((s.rd CIP_CNT_GIVEUP).toNat + 1))) ∧
  (∀ (s : State) (h : Afette) (hb : BitVec 256) (e : KeySlot), s.clockOn = true → h.prot = true → h.sec.held = 0 →
    h.sec.urgentHeld = 0 → h.sec.mism = 0 → (s.rd CIP_CTL).toNat % 16 ≠ 0 → s.flag SYS_DIE_STAT_KEY_UP = true →
    s.keyBusy h.sec.slot.toNat = false → s.keySlot h.sec.slot.toNat = some e → e.suite = 9 → h.sec.icvOk = true →
    h.sec.pn.toNat ≤ e.rxPn →
    ∃ t, exec (.hbRx h hb) s = .next t ∧ t.flag CIP_EVT_REPLAY = true ∧ t.clu = s.clu ∧ t.key = s.key) ∧
  (∀ (s : State) (x : RxStage) (rest : List RxStage) (gk : BitVec 14) (ok : Bool) (mm : BitVec 2) (h u : BitVec 4), s.clockOn = true →
    s.cipq = x :: rest → s.treatment x = .accept →
    ∃ t, exec (.cipherFrame (.rx 0 gk) ok mm h u) s = .next t ∧ t.cipq = rest ∧ t.mlkq = s.mlkq ++ [x] ∧ t.key = s.key)

/-! ## The DRAM controller (spec/16_dram.md) -/

/-- R335, R337: the place of an offset under each mapping order, with 64-byte accesses, and the row and rank bits of each configuration;
an access is placed by the order and the configuration that DMC_MAP and DMC_STAT show. R340 to R342, R346, R347: a training step, the
mode registers, a run of the pattern helper, a refresh, a poll of MR4, a tracking run and a panic are carried out where the controller
may do so. -/
def Obligations.DramMapping : Prop :=
  (∀ (rows ranks ch rank row bank col b : Nat), ch < 2 → rank < 2 ^ ranks → row < 2 ^ rows → bank < 8 → col < 32 → b < 64 →
    dramPlace 0 rows ranks (b + 64 * (ch + 2 * (col + 32 * (bank + 8 * (row + 2 ^ rows * rank))))) = ⟨ch, rank, row, bank, 32 * col⟩ ∧
    dramPlace 1 rows ranks (b + 64 * (ch + 2 * (bank + 8 * (col + 32 * (row + 2 ^ rows * rank))))) = ⟨ch, rank, row, bank, 32 * col⟩ ∧
    dramPlace 2 rows ranks (b + 64 * (ch + 2 * (col + 32 * (bank + 8 * (row + 2 ^ rows * rank))))) =
      ⟨ch, rank, row, bank ^^^ (row % 8), 32 * col⟩ ∧
    dramPlace 3 rows ranks (b + 64 * (col + 32 * (bank + 8 * (row + 2 ^ rows * (rank + 2 ^ ranks * ch))))) =
      ⟨ch, rank, row, bank, 32 * col⟩ ∧
    rowBits false = 16 ∧ rowBits true = 17 ∧ rankBits false = 0 ∧ rankBits true = 1 ∧
    ∀ (s : State) (a : Nat), s.dramAt a = dramPlace (s.get DMC_MAP_ORDER) (rowBits (s.flag DMC_STAT_DENS)) (rankBits (s.flag
      DMC_STAT_RANKS)) a) ∧
  (∀ (s : State) (step : BitVec 3) (ch : BitVec 2) (f : TrainFound), s.pwr.phase = .boot → s.dmcSt ≤ dmcTraining → step.toNat ≤ 5 →
    ∃ t, exec (.trainingStep step ch f) s = .next t ∧ t.dmcSt = dmcTraining ∧ t.get DMC_TRN_STAT_CHF = (ch &&& f.fails).toNat ∧
      t.dmc = s.dmc ∧ t.out = s.out) ∧
  (∀ (s : State) (mr : BitVec 8) (rank : Bool) (d0 d1 : BitVec 8), s.reach none DMC_MR_CMD = .made →
    (s.dmcSt = dmcTraining ∨ s.dmcSt = dmcReady) →
    ∃ t, exec (.mrRead mr 3 rank d0 d1) s = .next t ∧ t.get DMC_MR_DATA_CH0 = d0.toNat ∧ t.get DMC_MR_DATA_CH1 = d1.toNat) ∧
  (∀ (s : State) (mr op : BitVec 8) (ch : BitVec 2) (rank : Bool), s.dmcSt = dmcTraining →
    ∃ t, exec (.mrWrite mr op ch rank) s = .next t ∧
      t.out = s.out ++ [.modeReg ch.toNat (if rank then 1 else 0) mr.toNat op.toNat] ∧ t.regs = s.regs) ∧
  (∀ s : State, s.reach none DMC_PAT_CMD = .made → s.dmcSt ≠ dmcTraining → s.flag DMC_PAT_STAT_BUSY = false →
    s.itt.step = none → (s.rd DMC_PAT_LEN).toNat % 2 ^ 27 ≠ 0 → s.get DMC_PAT_CFG_KIND ≤ 4 → s.patInside = true →
    (∃ t p, exec .patternWrite s = .next t ∧ t.dmc.pat = some p ∧ p.cmp = false ∧ p.base = (s.rd DMC_PAT_ADDR).toNat % 2 ^ 27 ∧
      p.len = (s.rd DMC_PAT_LEN).toNat % 2 ^ 27 ∧ t.flag DMC_PAT_STAT_BUSY = true) ∧
    (∃ t p, exec .patternCompare s = .next t ∧ t.dmc.pat = some p ∧ p.cmp = true ∧ p.base = (s.rd DMC_PAT_ADDR).toNat % 2 ^ 27 ∧
      p.len = (s.rd DMC_PAT_LEN).toNat % 2 ^ 27 ∧ t.flag DMC_PAT_STAT_BUSY = true)) ∧
  (∀ (s : State) (fl : List (BitVec 27 × BitVec 16)) (n : BitVec 27) (p : PatRun), s.dmc.pat = some p →
    (s.reach none DMC_PAT_CMD = .made → s.itt.step = none →
      ∃ t, exec (.patternAbort fl n) s = .next t ∧ t.dmc.pat = none ∧ t.flag DMC_PAT_STAT_BUSY = false) ∧
    (s.clockOn = true → n.toNat = p.len →
      ∃ t, exec (.patternDone fl n) s = .next t ∧ t.dmc.pat = none ∧ t.flag DMC_PAT_STAT_BUSY = false)) ∧
  (∀ (s : State) (ch : Fin 2) (f0 f1 : BitVec 3) (d : Delays), s.clockOn = true → s.dmcSt = dmcReady → s.panic = false →
    (∃ t, exec (.refreshDue ch) s = .next t ∧ t.out = s.out ++ [.refresh ch (s.flag DMC_CTL_PBR)] ∧ t.regs = s.regs) ∧
    (∃ t, exec (.mr4Poll f0 f1) s = .next t ∧ t.get DMC_REF_MR4_CH0 = f0.toNat ∧ t.get DMC_REF_MR4_CH1 = f1.toNat) ∧
    (s.flag DMC_CTL_TRK_EN = true → ∃ t, exec (.trackingRun ch d) s = .next t ∧ t.get (DMC_DLY_RD ch.val 0) = d.rd0.toNat ∧
      t.get (DMC_DLY_RD ch.val 1) = d.rd1.toNat ∧ t.get (DMC_DLY_WR ch.val 0) = d.wr0.toNat ∧
      t.get (DMC_DLY_WR ch.val 1) = d.wr1.toNat)) ∧
  (∀ (s : State) (i : Fin 3) (lat : BitVec 16) (d0 d1 : Delays), s.clockOn = true →
    (s.rtThr i ≠ 0 → s.flag (rtBit i) = false → ∃ t, exec (.panicEntry i) s = .next t ∧ t.flag (rtBit i) = true ∧ t.dmc = s.dmc) ∧
    (s.flag (rtBit i) = true → ∃ t, exec (.panicEnd i lat d0 d1) s = .next t ∧ t.flag (rtBit i) = false))

/-- R346, R347: training steps and mode-register writes only while the boot ROM trains, mode-register reads in TRAINING and READY
into the named channels' bytes, and a training step sets the delays that it finds where it passes; the pattern helper starts with the
pattern that DMC_PAT_CFG names, refuses while it is busy, writes the pattern at the places that R337 gives, and reports what a compare
found: nothing where the memory holds the pattern, and the failing lines and accesses else. R340 to R342:
refreshes that fall due under panic are postponed, eight for a channel at most; else they are issued as PBR says; MR4 is shown and sets
the interval, the fastest above the high limit; tracking runs count and move the delays,
or wait for the end of panic, which carries out what it had postponed. -/
def Obligations.DramHelpers : Prop :=
  (∀ (s : State) (step : BitVec 3) (ch : BitVec 2) (f : TrainFound), s.pwr.phase = .boot → s.dmcSt ≤ dmcTraining → step.toNat ≤ 5 →
    ∃ t, exec (.trainingStep step ch f) s = .next t ∧ t.dmcSt = dmcTraining ∧
      t.get DMC_TRN_STAT_CHF = (ch &&& f.fails).toNat ∧ t.flag DMC_TRN_STAT_FAIL = decide (ch &&& f.fails ≠ 0) ∧
      (step = 3 → ch.getLsbD 0 = true → f.fails.getLsbD 0 = false → t.get (DMC_DLY_RD 0 0) = f.c0l0.toNat % 128 ∧
        t.get (DMC_DLY_WR 0 0) = s.get (DMC_DLY_WR 0 0)) ∧
      (step = 4 → ch.getLsbD 1 = true → f.fails.getLsbD 1 = false → t.get (DMC_DLY_WR 1 1) = f.c1l1.toNat / 256 % 128 ∧
        t.get (DMC_DLY_RD 1 1) = s.get (DMC_DLY_RD 1 1)) ∧
      ((step.toNat ≤ 1 ∨ ch &&& ~~~f.fails = 0) → ∀ c < 2, ∀ l < 2, t.rd (DMC_DLY c l) = s.rd (DMC_DLY c l))) ∧
  (∀ (s : State) (mr : BitVec 8) (ch : BitVec 2) (rank : Bool) (d0 d1 : BitVec 8), s.reach none DMC_MR_CMD = .made →
    (s.dmcSt = dmcTraining ∨ s.dmcSt = dmcReady) →
    ∃ t, exec (.mrRead mr ch rank d0 d1) s = .next t ∧
      t.get DMC_MR_DATA_CH0 = (if ch.getLsbD 0 then d0.toNat else s.get DMC_MR_DATA_CH0) ∧
      t.get DMC_MR_DATA_CH1 = (if ch.getLsbD 1 then d1.toNat else s.get DMC_MR_DATA_CH1)) ∧
  (∀ (s : State) (mr op : BitVec 8) (ch : BitVec 2) (rank : Bool), s.dmcSt = dmcTraining →
    exec (.mrWrite mr op ch rank) s = .next (s.emit (.modeReg ch.toNat (if rank then 1 else 0) mr.toNat op.toNat))) ∧
  (∀ s : State, s.reach none DMC_PAT_CMD = .made → s.dmcSt ≠ dmcTraining → s.flag DMC_PAT_STAT_BUSY = false →
    s.itt.step = none → (s.rd DMC_PAT_LEN).toNat % 2 ^ 27 ≠ 0 → s.get DMC_PAT_CFG_KIND ≤ 4 → s.patInside = true →
    (∃ t p, exec .patternWrite s = .next t ∧ t.dmc.pat = some p ∧ p.cmp = false ∧ p.raw = false ∧
      p.base = (s.rd DMC_PAT_ADDR).toNat % 2 ^ 27 ∧ p.len = (s.rd DMC_PAT_LEN).toNat % 2 ^ 27 ∧ p.kind = s.get DMC_PAT_CFG_KIND ∧
      p.inv = s.flag DMC_PAT_CFG_INVERT ∧ (p.kind = 4 → p.seed = max 1 (s.get DMC_PAT_CFG_SEED)) ∧
      t.flag DMC_PAT_STAT_BUSY = true ∧ t.flag DMC_PAT_STAT_REFUSED = false ∧ t.dmc.cells = s.dmc.cells) ∧
    (∃ t p, exec .patternCompare s = .next t ∧ t.dmc.pat = some p ∧ p.cmp = true ∧ p.raw = false ∧ t.flag DMC_PAT_STAT_BUSY = true ∧
      t.rd DMC_PAT_ERRCNT = 0 ∧ t.rd DMC_PAT_ERRMASK = 0)) ∧
  (∀ s : State, s.reach none DMC_PAT_CMD = .made → s.flag DMC_PAT_STAT_BUSY = true →
    (∃ t, exec .patternWrite s = .next t ∧ t.dmc = s.dmc ∧ t.flag DMC_PAT_STAT_REFUSED = true) ∧
    (∃ t, exec .patternCompare s = .next t ∧ t.dmc = s.dmc ∧ t.flag DMC_PAT_STAT_REFUSED = true)) ∧
  (∀ (s : State) (fl : List (BitVec 27 × BitVec 16)) (n : BitVec 27) (p : PatRun), s.reach none DMC_PAT_CMD = .made → s.itt.step = none →
    s.dmc.pat = some p →
    ∃ t, exec (.patternAbort fl n) s = .next t ∧ t.dmc.pat = none ∧ t.flag DMC_PAT_STAT_BUSY = false) ∧
  (∀ (s : State) (fl : List (BitVec 27 × BitVec 16)) (n : BitVec 27) (p : PatRun), s.clockOn = true → s.dmc.pat = some p →
    p.cmp = false → n.toNat = p.len → (∀ j < p.len, ∀ i < j, (s.patPlace p i).cell ≠ (s.patPlace p j).cell) →
    ∃ t, exec (.patternDone fl n) s = .next t ∧ t.dmc.pat = none ∧ t.flag DMC_PAT_STAT_BUSY = false ∧
      (∀ i < p.len, t.dramCell (s.patPlace p i).cell = some (p.bytes i)) ∧
      (∀ k, (∀ i < p.len, (s.patPlace p i).cell ≠ k) → t.dramCell k = s.dramCell k)) ∧
  (∀ (s : State) (n : BitVec 27) (p : PatRun), s.clockOn = true → s.dmc.pat = some p → p.cmp = true → n.toNat = p.len →
    (∀ i < p.len, s.dramCell (s.patPlace p i).cell = some (p.bytes i)) →
    ∃ t, exec (.patternDone [] n) s = .next t ∧ t.dmc.pat = none ∧ t.flag DMC_PAT_STAT_BUSY = false ∧
      t.flag DMC_EVT_PAT_MISMATCH = s.flag DMC_EVT_PAT_MISMATCH ∧ t.rd DMC_PAT_ERRCNT = s.rd DMC_PAT_ERRCNT) ∧
  (∀ (s : State) (n : BitVec 27) (p : PatRun) (i : Nat) (m : BitVec 16), s.clockOn = true → s.dmc.pat = some p → p.cmp = true →
    n.toNat = p.len → i < p.len → m ≠ 0 → (∀ j < p.len, s.dramCell (s.patPlace p j).cell = some (p.bytes j)) → (s.patPlace p i).ch = 0 →
    ∃ t, exec (.patternDone [(BitVec.ofNat 27 i, m)] n) s = .next t ∧ t.dmc.pat = none ∧ t.flag DMC_PAT_STAT_BUSY = false ∧
      t.flag DMC_PAT_STAT_MISMATCH = true ∧ t.rd DMC_PAT_ERRMASK = m.setWidth 32 ∧ t.rd DMC_PAT_ERRCNT = 1 ∧
      (p.raw = false → t.flag DMC_EVT_PAT_MISMATCH = true)) ∧
  (∀ (s : State) (ch : Fin 2), s.clockOn = true → s.dmcSt = dmcReady → s.panic = true → (if ch = 0 then s.dmc.out0 else s.dmc.out1) < 8 →
    ∃ t, exec (.refreshDue ch) s = .next t ∧
      (if ch = 0 then t.dmc.out0 else t.dmc.out1) = (if ch = 0 then s.dmc.out0 else s.dmc.out1) + 1) ∧
  (∀ (s : State) (ch : Fin 2), s.clockOn = true → s.dmcSt = dmcReady → s.panic = true → 8 ≤ (if ch = 0 then s.dmc.out0 else s.dmc.out1) →
    ∃ t, exec (.refreshDue ch) s = .next t ∧ t.flag DMC_EVT_REF_FORCED = true ∧ t.dmc = s.dmc ∧
      t.out = s.out ++ [.refresh ch (s.flag DMC_CTL_PBR)]) ∧
  (∀ (s : State) (ch : Fin 2), s.clockOn = true → s.dmcSt = dmcReady → s.panic = false →
    exec (.refreshDue ch) s = .next (s.emit (.refresh ch (s.flag DMC_CTL_PBR)))) ∧
  (∀ (s : State) (f0 f1 : BitVec 3), s.clockOn = true → s.dmcSt = dmcReady →
    ∃ t, exec (.mr4Poll f0 f1) s = .next t ∧ t.get DMC_REF_MR4_CH0 = f0.toNat ∧ t.get DMC_REF_MR4_CH1 = f1.toNat ∧
      t.dmc.ivl0 = mr4Interval f0.toNat ∧ (f0 = 7 → t.dmc.ivl0 = 1 ∧ t.flag DMC_EVT_HOT = true)) ∧
  (∀ (s : State) (ch : Fin 2) (d : Delays), s.clockOn = true → s.dmcSt = dmcReady → s.flag DMC_CTL_TRK_EN = true → s.panic = false →
    ∃ t, exec (.trackingRun ch d) s = .next t ∧ t.get (DMC_DLY_RD ch.val 0) = d.rd0.toNat ∧
      t.get (DMC_DLY_WR ch.val 1) = d.wr1.toNat ∧
      t.rd DMC_CNT_TRK = BitVec.ofNat 32 (min 0xFFFFFFFF ((s.rd DMC_CNT_TRK).toNat + 1))) ∧
  (∀ (s : State) (ch : Fin 2) (d : Delays), s.clockOn = true → s.dmcSt = dmcReady → s.flag DMC_CTL_TRK_EN = true → s.panic = true →
    ∃ t, exec (.trackingRun ch d) s = .next t ∧ t.regs = s.regs ∧ (if ch = 0 then t.dmc.trk0 else t.dmc.trk1) = true) ∧
  (∀ (s : State) (i : Fin 3), s.clockOn = true → s.rtThr i ≠ 0 → s.flag (rtBit i) = false →
    ∃ t, exec (.panicEntry i) s = .next t ∧ t.flag (rtBit i) = true ∧
      t.rd DMC_CNT_PANIC = BitVec.ofNat 32 (min 0xFFFFFFFF ((s.rd DMC_CNT_PANIC).toNat + 1)) ∧
      s.onlyRegs t (fun a => a == DMC_RT_STAT || a == DMC_CNT_PANIC)) ∧
  (∀ (s : State) (i : Fin 3) (lat : BitVec 16) (d0 d1 : Delays), s.clockOn = true → s.flag (rtBit i) = true →
    ∃ t, exec (.panicEnd i lat d0 d1) s = .next t ∧ t.flag (rtBit i) = false ∧ lat.toNat ≤ (t.rd DMC_RT_MAXLAT).toNat ∧
      (t.panic = false → t.dmc.out0 = 0 ∧ t.dmc.out1 = 0 ∧ t.dmc.trk0 = false ∧ t.dmc.trk1 = false))

/-! ## Power, resets, links and supply (spec/17_power_reset.md, spec/01_architecture.md, spec/21_pins_electrical.md) -/

/-- R352, R355, R356, R358 to R360: requests are accepted, held, refused or answered SAME; RUN is a wake. -/
def Obligations.PowerRequests : Prop :=
  (∀ (s : State) (k : Nat) (low : Bool), (k = tgtSleep ∨ k = tgtDeep ∨ k = tgtOff) → s.reach none PWR_CMD = .made →
    s.inMove = false → s.pwrSt ≠ k → s.pwrBar k = false →
    ∃ t, exec (requestOf k low) s = .next t ∧ t.get PWR_RESULT_CODE = 0 ∧ t.flag PWR_STAT_TRANS = true ∧
      t.get PWR_STAT_TARGET = k ∧ t.pwr.wake = (if low then some 1 else none) ∧ t.pwrSt = s.pwrSt) ∧
  (∀ (s : State) (k : Nat) (low : Bool), (k = tgtSleep ∨ k = tgtDeep ∨ k = tgtOff) → s.reach none PWR_CMD = .made →
    s.inMove = false → s.pwrSt ≠ k → s.pwrBar k = true →
    ∃ t, exec (requestOf k low) s = .next t ∧ t.get PWR_RESULT_CODE = 2 ∧ t.flag PWR_EVT_REFUSED = true ∧ t.pwrSt = s.pwrSt ∧
      t.flag PWR_STAT_TRANS = false ∧
      t.rd PWR_CNT_REFUSED = BitVec.ofNat 32 (min 0xFFFFFFFF ((s.rd PWR_CNT_REFUSED).toNat + 1))) ∧
  (∀ (s : State) (k : Nat) (low : Bool), (k = tgtSleep ∨ k = tgtDeep ∨ k = tgtOff) → s.reach none PWR_CMD = .made →
    s.inMove = true → s.get PWR_STAT_TARGET ≠ k →
    ∃ t, exec (requestOf k low) s = .next t ∧ t.get PWR_RESULT_CODE = 1 ∧ t.flag PWR_STAT_PEND = true ∧
      t.get PWR_STAT_PEND_TGT = k ∧ t.get PWR_STAT_TARGET = s.get PWR_STAT_TARGET ∧
      (s.flag PWR_STAT_PEND = true → t.flag PWR_EVT_REPLACED = true)) ∧
  (∀ (s : State) (k : Nat) (low : Bool), (k = tgtSleep ∨ k = tgtDeep ∨ k = tgtOff) → s.reach none PWR_CMD = .made →
    s.pwrCurrent = k →
    ∃ t, exec (requestOf k low) s = .next t ∧ t.get PWR_RESULT_CODE = 3 ∧ t.rd PWR_STAT = s.rd PWR_STAT) ∧
  (∀ s : State, s.reach none PWR_CMD = .made → s.pwrSt = 2 → s.inMove = false → s.flag PWR_WAKE_CFG_HOST = true →
    ∃ t, exec .targetRun s = .next t ∧ t.get PWR_RESULT_CODE = 0 ∧ t.flag PWR_STAT_TRANS = true ∧ t.get PWR_STAT_TARGET = 0 ∧
      t.get PWR_LAST_WAKE = 2) ∧
  (∀ s : State, s.reach none PWR_CMD = .made → s.inMove = true → s.get PWR_STAT_TARGET ≠ 0 → s.flag PWR_WAKE_CFG_HOST = true →
    ∃ t, exec .targetRun s = .next t ∧ t.get PWR_RESULT_CODE = 0 ∧ t.flag PWR_EVT_WAKE_IN_ENTRY = true ∧
      t.flag PWR_STAT_PEND = false ∧ t.pwr.wake = some (s.pwr.wake.getD 2)) ∧
  (∀ s : State, s.reach none PWR_CMD = .made → s.pwrCurrent = 0 →
    ∃ t, exec .targetRun s = .next t ∧ t.get PWR_RESULT_CODE = 3 ∧ t.rd PWR_STAT = s.rd PWR_STAT ∧ t.pwr = s.pwr) ∧
  (∀ s : State, s.reach none PWR_CMD = .made → s.pwrCurrent ≠ 0 → s.flag PWR_WAKE_CFG_HOST = false →
    ∃ t, exec .targetRun s = .next t ∧ t.get PWR_RESULT_CODE = 0 ∧ t.rd PWR_STAT = s.rd PWR_STAT ∧ t.pwr = s.pwr)

/-- R352 to R356: IDLE is entered and left by itself; an entry whose pairs have halted completes, into SLEEP, DEEP or OFF, or turns
into an exit where a wake came; WAKE_N and the timed wake end SLEEP; an exit reaches RUN. -/
def Obligations.PowerTransitions : Prop :=
  (∀ s : State, s.flag PWR_CTL_AUTO_IDLE = true → s.pwrSt = 0 → s.inMove = false → s.pwr.phase = .run → s.quiet = true →
    ∃ t, exec .autoIdleEntry s = .next t ∧ t.pwrSt = 1 ∧ t.regs = (s.put PWR_STAT_STATE 1).regs ∧ t.stir = false ∧
      s.pwr.busyAt + 2000 * atLeast1 ((s.rd PWR_IDLE_HOLD).toNat % 2 ^ 16) ≤ t.ref) ∧
  (∀ s : State, s.pwrSt = 1 → s.inMove = false → (s.stir = true ∨ s.quiet = false) →
    ∃ t, exec .idleExit s = .next t ∧ t.inMove = true ∧ t.get PWR_STAT_TARGET = 0 ∧ s.onlyRegs t (fun a => a == PWR_STAT)) ∧
  (∀ (s : State) (low : Bool), s.inMove = true → s.get PWR_STAT_TARGET = tgtSleep → s.pairsHalted = true → s.pwrSt ≠ 2 →
    s.pwr.phase = .run → s.flag PWR_STAT_PEND = false →
    ∃ t, exec (.entryComplete low) s = .next t ∧ t.pwrSt = 2 ∧ t.dmcSt = dmcSelfRefresh ∧
      (s.pwr.wake = none → t.inMove = false) ∧
      (∀ w, s.pwr.wake = some w → w < 16 → t.inMove = true ∧ t.get PWR_STAT_TARGET = 0 ∧ t.get PWR_LAST_WAKE = w)) ∧
  (∀ (s : State) (low : Bool), s.inMove = true → s.get PWR_STAT_TARGET = tgtDeep → s.pairsHalted = true →
    ∃ t, exec (.entryComplete low) s = .next t ∧ t.pwr.phase = (if s.pwr.wake.isSome then .deepExit else .deep) ∧
      t.key.slots = s.key.slots ∧ t.rtc = s.rtc ∧ t.pwr.saved.isSome = true ∧ t.blk = none ∧ t.ctx = []) ∧
  (∀ (s : State) (low : Bool), s.inMove = true → s.get PWR_STAT_TARGET = tgtOff → s.pairsHalted = true →
    ∃ t, exec (.entryComplete low) s = .next t ∧ t.pwr.phase = (if s.pwr.wake.isSome then .boot else .off) ∧
      t.key.slots = [] ∧ t.key.backing = s.key.backing ∧ t.rtc.raw = s.rtc.raw ∧ t.rtc.cal = s.rtc.cal ∧ t.thal = s.thal ∧ t.jrn = s.jrn) ∧
  (∀ s : State, s.pwr.phase = .run → s.pwrSt = 2 → s.inMove = false →
    ∃ t, exec .wakeN s = .next t ∧ t.inMove = true ∧ t.get PWR_STAT_TARGET = 0 ∧ t.get PWR_LAST_WAKE = 1) ∧
  (∀ (s : State) (low : Bool), s.inMove = true → s.get PWR_STAT_TARGET = tgtDeep → s.pairsHalted = true → s.pwr.wake = none →
    s.flag PWR_STAT_PEND = true → s.get PWR_STAT_PEND_TGT = tgtOff →
    ∃ t, exec (.entryComplete low) s = .next t ∧ t.pwr.phase = .deep ∧ t.inMove = true ∧ t.get PWR_STAT_TARGET = tgtOff ∧
      t.flag PWR_STAT_PEND = false ∧ t.pwr.wake = if low then some 1 else none) ∧
  (∀ s : State, s.pwr.phase = .deep → s.entering = false →
    ∃ t, exec .wakeN s = .next t ∧ t.pwr.phase = .deepExit ∧ t.get PWR_LAST_WAKE = 1 ∧ t.flag PWR_STAT_PEND = false) ∧
  (∀ s : State, s.pwr.phase = .deep → s.entering = true →
    ∃ t, exec .wakeN s = .next t ∧ t.pwr.phase = .deep ∧ t.flag PWR_EVT_WAKE_IN_ENTRY = true ∧
      t.pwr.wake = some (s.pwr.wake.getD 1)) ∧
  (∀ s : State, s.pwr.phase = .unpowered → exec .wakeN s = .next s) ∧
  (∀ s : State, s.pwr.phase = .off → ∃ t, exec .wakeN s = .next t ∧ t.pwr.phase = .boot ∧ t.get PWR_LAST_BOOT = bootWakeOff) ∧
  (∀ s : State, s.flag PWR_WAKE_CFG_TIMED = true → s.running = true → s.pwrSt = 2 → s.inMove = false →
    ∃ t, exec .timedWake s = .next t ∧ t.inMove = true ∧ t.get PWR_STAT_TARGET = 0 ∧ t.get PWR_LAST_WAKE = 3) ∧
  (∀ (s : State) (low : Bool) (d0 d1 : Delays), s.inMove = true → s.get PWR_STAT_TARGET = 0 → s.pwrSt = 2 →
    s.flag PWR_STAT_PEND = false →
    ∃ t, exec (.exitComplete low d0 d1) s = .next t ∧ t.pwrSt = 0 ∧ t.inMove = false ∧ t.dmcSt = dmcReady) ∧
  (∀ (s : State) (low : Bool) (d0 d1 : Delays), s.inMove = true → s.get PWR_STAT_TARGET = 0 → s.pwrSt = 1 →
    s.flag PWR_STAT_PEND = false →
    ∃ t, exec (.exitComplete low d0 d1) s = .next t ∧ t.pwrSt = 0 ∧ t.inMove = false ∧ t.dmc = s.dmc) ∧
  (∀ (s : State) (low : Bool) (d0 d1 : Delays), (s.inMove = false ∨ s.get PWR_STAT_TARGET ≠ 0) →
    exec (.exitComplete low d0 d1) s = .next s) ∧
  (∀ (s : State) (low : Bool), (s.inMove = false ∨ s.get PWR_STAT_TARGET = 0 ∨ s.pairsHalted = false) →
    exec (.entryComplete low) s = .next s) ∧
  (∀ (s : State) (low : Bool), s.inMove = true → s.get PWR_STAT_TARGET = tgtSleep → s.pairsHalted = true → s.pwrSt ≠ 2 →
    s.pwr.phase = .run → s.flag PWR_STAT_PEND = true → s.pwr.wake = none → s.get UPD_STAT_TOV = 0 → s.get PWR_STAT_PEND_TGT = tgtOff →
    ∃ t, exec (.entryComplete low) s = .next t ∧ t.pwrSt = 2 ∧ t.inMove = true ∧ t.get PWR_STAT_TARGET = tgtOff ∧
      t.flag PWR_STAT_PEND = false ∧ t.pwr.wake = if low then some 1 else none) ∧
  (∀ s : State, (s.flag PWR_CTL_AUTO_IDLE = false ∨ s.pwrSt ≠ 0 ∨ s.inMove = true ∨ s.pwr.phase ≠ .run ∨ s.quiet = false) →
    exec .autoIdleEntry s = .next s) ∧
  (∀ s : State, (s.pwrSt ≠ 1 ∨ s.inMove = true ∨ s.stir = false ∧ s.quiet = true) → exec .idleExit s = .next s) ∧
  (∀ s : State, s.pwr.phase = .run → s.inMove = true → s.get PWR_STAT_TARGET ≠ 0 →
    ∃ t, exec .wakeN s = .next t ∧ t.flag PWR_EVT_WAKE_IN_ENTRY = true ∧ t.pwr.wake = some (s.pwr.wake.getD 1) ∧
      t.flag PWR_STAT_PEND = false ∧ t.pwrSt = s.pwrSt) ∧
  (∀ s : State, s.pwr.phase = .run → s.pwrSt ≤ 1 → s.inMove = false → exec .wakeN s = .next s) ∧
  (∀ s : State, s.pwr.phase = .railFail → s.pwr.retry = false → ∃ t, exec .wakeN s = .next t ∧ t.pwr.phase = .boot) ∧
  (∀ s : State, (s.flag PWR_WAKE_CFG_TIMED = false ∨ s.running = false) → exec .timedWake s = .next s)

/-- R53, R357: DEEP_EXIT ends the wake from DEEP. The device runs the blank of the confirmed slot where its checks hold, and its
spindle restarts from what DEEP saved; where they do not hold, or no slot is confirmed, the boot ROM waits for the host. What the key
store and the clock hold is kept, and no other slot is booted. -/
def Obligations.WakeFromDeep : Prop :=
  ∀ (s : State) (env : BootEnv), s.pwr.phase = .deepExit →
    ∃ t, exec (.deepExit env) s = .next t ∧ t.pwr.phase ≠ .deepExit ∧ t.pwr.saved = none ∧
      (s.pwr.saved = none → t.get PWR_LAST_BOOT = bootWakeDeep) ∧
      t.key.slots = s.key.slots ∧ t.rtc = s.rtc ∧ t.jrn.slotA = s.jrn.slotA ∧ t.jrn.slotB = s.jrn.slotB ∧
      (s.jrn.find .confirmed = none → t.pwr.phase = .boot ∧ t.blk = s.blk ∧ t.upd.waiting = true) ∧
      (∀ b f, s.jrn.find .confirmed = some b → ((s.railsUp.train env).updShow).checkOnly b env = some f →
        t.pwr.phase = .boot ∧ t.blk = s.blk ∧ t.upd.waiting = true ∧
        (s.pwr.saved = none → t.get UPD_BOOT_RESULT = bootCheck ∧ t.get HIF_STAT_PHASE = 1)) ∧
      (∀ b, s.jrn.find .confirmed = some b → ((s.railsUp.train env).updShow).checkOnly b env = none →
        t.pwr.phase = .run ∧ t.blk = some (blankOf (s.slotImage b)) ∧ t.upd.waiting = false ∧
        (s.pwr.saved = none → t.get HIF_STAT_PHASE = 3 ∧ t.get UPD_STAT_UP = 1) ∧
        (∀ u : State, s.pwr.saved = some u.spnLatch → t.get PWR_LAST_BOOT = bootWakeDeep ∧ t.get HIF_STAT_PHASE = 3 ∧
          t.get UPD_STAT_UP = 1 ∧ t.rd SPN_CTL = u.rd SPN_CTL ∧ t.spn.f = u.spn.f ∧ t.spn.r = u.spn.f ∧
          (u.flag SPN_CTL_EN = true → u.spn.hasTime = true → s.flag RTC_FLAG_OSF = false → t.spnSt = spnEstimated ∧
            t.spn.wideU = u.spn.wideU + (s.rtc.raw + 2 ^ 48 - u.rtc.raw) % 2 ^ 48 * rawUnits)))

/-- R24, R361 to R363: what each reset reaches. Every reset but the turnover's leaves the part in its boot ROM with the core's
memories empty; only a power-on loses volatile keys; a pin reset and a power-on sample the straps. -/
def Obligations.Resets : Prop :=
  (∀ (s : State) (role bootif : BitVec 2), ∃ t, exec (.powerOnReset role bootif) s = .next t ∧ t.pwr.phase = .boot ∧
    t.get SYS_STRAP_ROLE = role.toNat ∧ t.get SYS_STRAP_BOOTIF = bootif.toNat ∧ t.get SYS_ROLE_ROLE = role.toNat ∧
    t.get PWR_LAST_BOOT = bootPor ∧
    t.key.slots = [] ∧ t.key.backing = s.key.backing ∧ t.rtc.raw = s.rtc.raw ∧ t.rtc.cal = s.rtc.cal ∧ t.thal = s.thal ∧ t.jrn = s.jrn ∧
    t.ctx = [] ∧ t.blk = none) ∧
  (∀ (s : State) (role bootif : BitVec 2), ∃ t, exec (.pinReset role bootif) s = .next t ∧ t.pwr.phase = .boot ∧
    t.get SYS_STRAP_ROLE = role.toNat ∧ t.get SYS_STRAP_BOOTIF = bootif.toNat ∧ t.get SYS_ROLE_ROLE = role.toNat ∧
    t.get PWR_LAST_BOOT = bootResetN ∧
    t.key.slots = s.key.slots ∧ t.rtc.raw = s.rtc.raw ∧ t.rtc.cal = s.rtc.cal ∧ t.ctx = [] ∧ t.blk = none) ∧
  (∀ (s : State) (key : BitVec 8), s.reach none PWR_RST_CMD = .made → key = 0x5A →
    ∃ t, exec (.hostReset key) s = .next t ∧ t.pwr.phase = .boot ∧ t.rd SYS_STRAP = s.rd SYS_STRAP ∧
      t.get SYS_ROLE_ROLE = s.get SYS_STRAP_ROLE ∧ t.get PWR_LAST_BOOT = bootHost ∧ t.key.slots = s.key.slots ∧ t.ctx = [] ∧
      t.blk = none) ∧
  (∀ (s : State) (key : BitVec 8), s.reach none PWR_RST_CMD = .made → key ≠ 0x5A →
    exec (.hostReset key) s = .next (s.hostWrote PWR_RST_CMD)) ∧
  (∀ s : State, (s.pwr.phase = .run ∨ s.pwr.phase = .boot ∨ s.pwr.phase = .deepExit) →
    ∃ t, exec .railFailure s = .next t ∧ t.pwr.phase = .railFail ∧ t.get PWR_LAST_BOOT = bootRailFail ∧
      t.flag PWR_EVT_RAIL_FAIL = true ∧ t.key.slots = s.key.slots ∧ t.rd PWR_CTL = s.rd PWR_CTL ∧ t.ctx = [] ∧
      t.rd PWR_CNT_RAIL_FAIL = BitVec.ofNat 32 (min 0xFFFFFFFF ((s.rd PWR_CNT_RAIL_FAIL).toNat + 1)) ∧
      (s.flag PWR_CTL_RAIL_RETRY = false → t.pwr.retry = false)) ∧
  (∀ (s : State) (n : Nat), s.pwr.phase = .railFail → s.pwr.retry = true → s.pwr.railAt = some n →
    ∃ t, exec .railRetry s = .next t ∧ t.pwr.phase = .boot ∧ n + retryWait ≤ t.ref ∧ t.regs = s.regs) ∧
  (∀ (s : State) (e0 e1 e2 : Ecc), (∀ r : Fin 3, (s.fr r).ppdu = none ∧ (s.fr r).rsp = none) →
    (∀ n : Fin 4, (s.trig n).pulseEnd = none) → s.retq = [] →
    ∃ t, exec (.resetNGlitch e0 e1 e2) s = .next t ∧ t.regs = s.regs ∧ t.key = s.key ∧ t.frn = s.frn ∧
      t.out = s.out ++ [.released 0, .released 1, .released 2, .released 3, .released 4]) ∧
  (∀ (s : State) (e0 e1 e2 : Ecc), ∃ t, exec (.resetNGlitch e0 e1 e2) s = .next t ∧
    (∀ (n : Fin 4) (e : Nat), (s.trig n).pulseEnd = some e → (t.trig n).pulseEnd = none ∧ (t.trig n).pin = some (!s.trigActive n)) ∧
    ∀ (r : Fin 3) (p : TxPpdu), (s.fr r).ppdu = some p → p.start ≤ s.frnTick → p.await = none →
      .airCut r s.frnTick ∈ t.out ∧ (p.loose = false → (t.fr r).ppdu = none)) ∧
  (∀ s : State, (s.pwr.phase = .deep ∨ s.pwr.phase = .off ∨ s.pwr.phase = .railFail ∨ s.pwr.phase = .unpowered) →
    exec .railFailure s = .next s) ∧
  (∀ s : State, (s.pwr.phase ≠ .railFail ∨ s.pwr.retry = false) → exec .railRetry s = .next s)
end

