-- ==== Sys2Proof/Laws/Maps.lean ====
section
/-! SUPPORT. The laws of the sparse maps: what a key reads as after a write, and that a write keeps the canonical form. -/

namespace Sys2Proof.Machine

variable {α : Type} {d : Nat → α} {m : List (Nat × α)} {k j : Nat} {v : α}

theorem SMap.get_drop_ne (h : k ≠ j) : SMap.get d (SMap.drop m k) j = SMap.get d m j := by
  induction m with
  | nil => rfl
  | cons e t ih =>
    obtain ⟨a, w⟩ := e
    by_cases ha : a = k
    · subst ha; simp [SMap.drop, SMap.get, ih, h]
    · simp [SMap.drop, SMap.get, ih, ha]

theorem SMap.get_drop_same : SMap.get d (SMap.drop m k) k = d k := by
  induction m with
  | nil => rfl
  | cons e t ih =>
    obtain ⟨a, w⟩ := e
    by_cases ha : a = k
    · simp [SMap.drop, ih, ha]
    · simp [SMap.drop, SMap.get, ih, ha]

theorem SMap.get_insert_same : SMap.get d (SMap.insert (SMap.drop m k) k v) k = v := by
  induction m with
  | nil => simp [SMap.drop, SMap.insert, SMap.get]
  | cons e t ih =>
    obtain ⟨a, w⟩ := e
    by_cases ha : a = k
    · simpa [SMap.drop, ha] using ih
    · by_cases hk : k < a
      · simp [SMap.drop, SMap.insert, SMap.get, ha, hk]
      · simp [SMap.drop, SMap.insert, SMap.get, ha, hk, ih]

theorem SMap.get_insert_ne (h : k ≠ j) : SMap.get d (SMap.insert m k v) j = SMap.get d m j := by
  induction m with
  | nil => simp [SMap.insert, SMap.get, h]
  | cons e t ih =>
    obtain ⟨a, w⟩ := e
    by_cases hk : k < a
    · simp [SMap.insert, SMap.get, hk, h]
    · simp [SMap.insert, SMap.get, hk, ih]

variable [DecidableEq α]

/-- A key reads as what was last written to it. -/
@[simp] theorem SMap.get_set_same : SMap.get d (SMap.set d m k v) k = v := by
  unfold SMap.set
  split
  · next h => rw [SMap.get_drop_same, h]
  · exact SMap.get_insert_same

/-- A write leaves every other key alone. -/
theorem SMap.get_set_ne (h : k ≠ j) : SMap.get d (SMap.set d m k v) j = SMap.get d m j := by
  unfold SMap.set
  split
  · exact SMap.get_drop_ne h
  · rw [SMap.get_insert_ne h, SMap.get_drop_ne h]

/-! ### The canonical form -/

omit [DecidableEq α] in
theorem SMap.sorted_weaken {lo hi : Nat} (h : hi ≤ lo) (hs : SMap.sortedFrom lo m = true) : SMap.sortedFrom hi m = true := by
  cases m with
  | nil => rfl
  | cons e t =>
    obtain ⟨a, w⟩ := e
    simp only [SMap.sortedFrom, Bool.and_eq_true, decide_eq_true_eq] at hs ⊢
    exact ⟨by omega, hs.2⟩

omit [DecidableEq α] in
theorem SMap.sorted_drop {lo : Nat} (hs : SMap.sortedFrom lo m = true) : SMap.sortedFrom lo (SMap.drop m k) = true := by
  induction m generalizing lo with
  | nil => rfl
  | cons e t ih =>
    obtain ⟨a, w⟩ := e
    simp only [SMap.sortedFrom, Bool.and_eq_true, decide_eq_true_eq] at hs
    by_cases ha : a = k
    · simpa [SMap.drop, ha] using ih (SMap.sorted_weaken (by omega) hs.2)
    · simpa [SMap.drop, SMap.sortedFrom, ha] using And.intro hs.1 (ih hs.2)

omit [DecidableEq α] in
theorem SMap.sorted_insert {lo : Nat} (hk : lo ≤ k) (hm : SMap.get (fun _ => none) (m.map (fun e => (e.1, some e.2))) k = none)
    (hs : SMap.sortedFrom lo m = true) : SMap.sortedFrom lo (SMap.insert m k v) = true := by
  induction m generalizing lo with
  | nil => simpa [SMap.insert, SMap.sortedFrom] using hk
  | cons e t ih =>
    obtain ⟨a, w⟩ := e
    simp only [SMap.sortedFrom, Bool.and_eq_true, decide_eq_true_eq] at hs
    have hak : a ≠ k := by
      intro h
      simp [SMap.get, h] at hm
    simp only [List.map_cons, SMap.get, hak, if_false] at hm
    by_cases hlt : k < a
    · simp only [SMap.insert, hlt, if_true, SMap.sortedFrom, Bool.and_eq_true, decide_eq_true_eq]
      exact ⟨hk, by omega, hs.2⟩
    · simp only [SMap.insert, hlt, if_false, SMap.sortedFrom, Bool.and_eq_true, decide_eq_true_eq]
      exact ⟨hs.1, ih (by omega) hm hs.2⟩

omit [DecidableEq α] in
theorem SMap.absent_drop : SMap.get (fun _ => none) ((SMap.drop m k).map (fun e => (e.1, some e.2))) k = none := by
  induction m with
  | nil => rfl
  | cons e t ih =>
    obtain ⟨a, w⟩ := e
    by_cases ha : a = k
    · simpa [SMap.drop, ha] using ih
    · simpa [SMap.drop, SMap.get, ha] using ih

omit [DecidableEq α] in
theorem SMap.mem_drop {e : Nat × α} (h : e ∈ SMap.drop m k) : e ∈ m := by
  induction m with
  | nil => simp [SMap.drop] at h
  | cons x t ih =>
    obtain ⟨a, w⟩ := x
    by_cases ha : a = k
    · simp only [SMap.drop, ha, if_true] at h
      exact List.mem_cons_of_mem _ (ih h)
    · simp only [SMap.drop, ha, if_false, List.mem_cons] at h
      rcases h with h | h
      · simp [h]
      · exact List.mem_cons_of_mem _ (ih h)

omit [DecidableEq α] in
theorem SMap.mem_insert {e : Nat × α} (h : e ∈ SMap.insert m k v) : e = (k, v) ∨ e ∈ m := by
  induction m with
  | nil => simpa [SMap.insert] using h
  | cons x t ih =>
    obtain ⟨a, w⟩ := x
    by_cases hk : k < a
    · simpa [SMap.insert, hk] using h
    · simp only [SMap.insert, hk, if_false, List.mem_cons] at h
      rcases h with h | h
      · simp [h]
      · rcases ih h with h | h
        · exact Or.inl h
        · exact Or.inr (List.mem_cons_of_mem _ h)

/-- A write keeps the canonical form. -/
theorem SMap.wf_set (h : SMap.wf d m = true) : SMap.wf d (SMap.set d m k v) = true := by
  simp only [SMap.wf, Bool.and_eq_true, List.all_eq_true, decide_eq_true_eq] at h ⊢
  unfold SMap.set
  split
  · exact ⟨SMap.sorted_drop h.1, fun e he => h.2 e (SMap.mem_drop he)⟩
  · next hv =>
    refine ⟨SMap.sorted_insert (Nat.zero_le _) SMap.absent_drop (SMap.sorted_drop h.1), fun e he => ?_⟩
    rcases SMap.mem_insert he with he | he
    · subst he; exact hv
    · exact h.2 e (SMap.mem_drop he)

theorem SMap.wf_nil : SMap.wf d ([] : List (Nat × α)) = true := rfl

omit [DecidableEq α] in
theorem SMap.sorted_filter {lo : Nat} {p : Nat × α → Bool} (hs : SMap.sortedFrom lo m = true) :
    SMap.sortedFrom lo (m.filter p) = true := by
  induction m generalizing lo with
  | nil => rfl
  | cons e t ih =>
    obtain ⟨a, w⟩ := e
    simp only [SMap.sortedFrom, Bool.and_eq_true, decide_eq_true_eq] at hs
    by_cases hp : p (a, w) = true
    · simpa [List.filter, hp, SMap.sortedFrom] using And.intro hs.1 (ih hs.2)
    · simpa [List.filter, hp] using SMap.sorted_weaken (by omega) (ih hs.2)

/-- Dropping entries by a test keeps the canonical form. -/
theorem SMap.wf_filter {p : Nat × α → Bool} (h : SMap.wf d m = true) : SMap.wf d (m.filter p) = true := by
  simp only [SMap.wf, Bool.and_eq_true, List.all_eq_true] at h ⊢
  exact ⟨SMap.sorted_filter h.1, fun e he => h.2 e ((List.mem_filter.mp he).1)⟩

/-! ### Byte memories -/

/-- The canonical form survives a write of several bytes. -/
theorem leSet_wf {z : Nat → Byte} {c : List Host.Cell} {a n w : Nat} (h : SMap.wf z c = true) :
    SMap.wf z (leSet z c a n w) = true := by
  induction n generalizing c a w with
  | zero => exact h
  | succ n ih => exact ih (SMap.wf_set h)

theorem bytesSet_wf {z : Nat → Byte} {c : List Host.Cell} {a : Nat} {l : List Byte} (h : SMap.wf z c = true) :
    SMap.wf z (bytesSet z c a l) = true := by
  induction l generalizing c a with
  | nil => exact h
  | cons b t ih => exact ih (SMap.wf_set h)

/-- A byte outside the bytes written reads as before. -/
theorem get_leSet_out {z : Nat → Byte} {c : List Host.Cell} {a n w b : Nat} (h : b < a ∨ a + n ≤ b) :
    SMap.get z (leSet z c a n w) b = SMap.get z c b := by
  induction n generalizing c a w with
  | zero => rfl
  | succ n ih =>
    rw [leSet, ih (by omega), SMap.get_set_ne (by omega)]

theorem get_bytesSet_out {z : Nat → Byte} {c : List Host.Cell} {a b : Nat} {l : List Byte} (h : b < a ∨ a + l.length ≤ b) :
    SMap.get z (bytesSet z c a l) b = SMap.get z c b := by
  induction l generalizing c a with
  | nil => rfl
  | cons x t ih =>
    simp only [List.length_cons] at h
    rw [bytesSet, ih (by omega), SMap.get_set_ne (by omega)]

theorem leGet_congr {z : Nat → Byte} {c c' : List Host.Cell} {a n : Nat}
    (h : ∀ b, a ≤ b → b < a + n → SMap.get z c b = SMap.get z c' b) : leGet z c a n = leGet z c' a n := by
  induction n generalizing a with
  | zero => rfl
  | succ n ih =>
    rw [leGet, leGet, h a (Nat.le_refl _) (by omega), ih (fun b h1 h2 => h b (by omega) (by omega))]

/-- Bytes just written read as the number that was written. -/
theorem leGet_leSet {z : Nat → Byte} {c : List Host.Cell} {a n w : Nat} : leGet z (leSet z c a n w) a n = w % 2 ^ (8 * n) := by
  induction n generalizing c a w with
  | zero => simp [leGet, Nat.mod_one]
  | succ n ih =>
    rw [leSet, leGet, ih, get_leSet_out (by omega), SMap.get_set_same]
    have e : 2 ^ (8 * (n + 1)) = 256 * 2 ^ (8 * n) := by rw [show 8 * (n + 1) = 8 + 8 * n by omega, Nat.pow_add]
    rw [e, Nat.mod_mul, BitVec.toNat_ofNat]

/-- What a write of `n` bytes leaves of another run of bytes. -/
theorem leGet_leSet_out {z : Nat → Byte} {c : List Host.Cell} {a n w b k : Nat} (h : b + k ≤ a ∨ a + n ≤ b) :
    leGet z (leSet z c a n w) b k = leGet z c b k :=
  leGet_congr (fun _ h1 h2 => get_leSet_out (by omega))

end Sys2Proof.Machine
end

