-- ==== Sys2Proof/Laws/State.lean ====
section
/-! SUPPORT. What each named operation of Machine/Ops.lean leaves of every field of the state: one lemma for each field and
operation, so that no later proof unfolds a record update. -/

namespace Sys2Proof.Machine

variable (s : State)

/-! ### State.wr -/

@[simp] theorem State.wr_pending (a : Nat) (v : Word) : (s.wr a v).pending = s.pending := rfl
@[simp] theorem State.wr_ref (a : Nat) (v : Word) : (s.wr a v).ref = s.ref := rfl
@[simp] theorem State.wr_freeCtr (a : Nat) (v : Word) : (s.wr a v).freeCtr = s.freeCtr := rfl
@[simp] theorem State.wr_hostRd (a : Nat) (v : Word) : (s.wr a v).hostRd = s.hostRd := rfl
@[simp] theorem State.wr_out (a : Nat) (v : Word) : (s.wr a v).out = s.out := rfl
@[simp] theorem State.wr_bar (a : Nat) (v : Word) : (s.wr a v).bar = s.bar := rfl
@[simp] theorem State.wr_ctx (a : Nat) (v : Word) : (s.wr a v).ctx = s.ctx := rfl
@[simp] theorem State.wr_mlk (a : Nat) (v : Word) : (s.wr a v).mlk = s.mlk := rfl
@[simp] theorem State.wr_acc (a : Nat) (v : Word) : (s.wr a v).acc = s.acc := rfl
@[simp] theorem State.wr_mlkx (a : Nat) (v : Word) : (s.wr a v).mlkx = s.mlkx := rfl
@[simp] theorem State.wr_fld (a : Nat) (v : Word) : (s.wr a v).fld = s.fld := rfl
@[simp] theorem State.wr_clu (a : Nat) (v : Word) : (s.wr a v).clu = s.clu := rfl
@[simp] theorem State.wr_key (a : Nat) (v : Word) : (s.wr a v).key = s.key := rfl
@[simp] theorem State.wr_prs (a : Nat) (v : Word) : (s.wr a v).prs = s.prs := rfl
@[simp] theorem State.wr_eth (a : Nat) (v : Word) : (s.wr a v).eth = s.eth := rfl
@[simp] theorem State.wr_tsk (a : Nat) (v : Word) : (s.wr a v).tsk = s.tsk := rfl
@[simp] theorem State.wr_hif (a : Nat) (v : Word) : (s.wr a v).hif = s.hif := rfl
@[simp] theorem State.wr_ciptx (a : Nat) (v : Word) : (s.wr a v).ciptx = s.ciptx := rfl
@[simp] theorem State.wr_reports (a : Nat) (v : Word) : (s.wr a v).reports = s.reports := rfl
@[simp] theorem State.wr_cipq (a : Nat) (v : Word) : (s.wr a v).cipq = s.cipq := rfl
@[simp] theorem State.wr_mlkq (a : Nat) (v : Word) : (s.wr a v).mlkq = s.mlkq := rfl
@[simp] theorem State.wr_prsq (a : Nat) (v : Word) : (s.wr a v).prsq = s.prsq := rfl
@[simp] theorem State.wr_spn (a : Nat) (v : Word) : (s.wr a v).spn = s.spn := rfl
@[simp] theorem State.wr_flt (a : Nat) (v : Word) : (s.wr a v).flt = s.flt := rfl
@[simp] theorem State.wr_rtc (a : Nat) (v : Word) : (s.wr a v).rtc = s.rtc := rfl
@[simp] theorem State.wr_itt (a : Nat) (v : Word) : (s.wr a v).itt = s.itt := rfl
@[simp] theorem State.wr_upd (a : Nat) (v : Word) : (s.wr a v).upd = s.upd := rfl
@[simp] theorem State.wr_jrn (a : Nat) (v : Word) : (s.wr a v).jrn = s.jrn := rfl
@[simp] theorem State.wr_thal (a : Nat) (v : Word) : (s.wr a v).thal = s.thal := rfl
@[simp] theorem State.wr_dmc (a : Nat) (v : Word) : (s.wr a v).dmc = s.dmc := rfl
@[simp] theorem State.wr_pwr (a : Nat) (v : Word) : (s.wr a v).pwr = s.pwr := rfl
@[simp] theorem State.wr_chk (a : Nat) (v : Word) : (s.wr a v).chk = s.chk := rfl
@[simp] theorem State.wr_frn (a : Nat) (v : Word) : (s.wr a v).frn = s.frn := rfl
@[simp] theorem State.wr_rxq (a : Nat) (v : Word) : (s.wr a v).rxq = s.rxq := rfl
@[simp] theorem State.wr_retq (a : Nat) (v : Word) : (s.wr a v).retq = s.retq := rfl
@[simp] theorem State.wr_blk (a : Nat) (v : Word) : (s.wr a v).blk = s.blk := rfl
@[simp] theorem State.wr_seqEvs (a : Nat) (v : Word) : (s.wr a v).seqEvs = s.seqEvs := rfl
@[simp] theorem State.wr_wrHold (a : Nat) (v : Word) : (s.wr a v).wrHold = s.wrHold := rfl
@[simp] theorem State.wr_rdHold (a : Nat) (v : Word) : (s.wr a v).rdHold = s.rdHold := rfl
@[simp] theorem State.wr_linkFails (a : Nat) (v : Word) : (s.wr a v).linkFails = s.linkFails := rfl
@[simp] theorem State.wr_stir (a : Nat) (v : Word) : (s.wr a v).stir = s.stir := rfl

/-! ### State.put -/

@[simp] theorem State.put_pending (f : Fld) (v : Nat) : (s.put f v).pending = s.pending := rfl
@[simp] theorem State.put_ref (f : Fld) (v : Nat) : (s.put f v).ref = s.ref := rfl
@[simp] theorem State.put_freeCtr (f : Fld) (v : Nat) : (s.put f v).freeCtr = s.freeCtr := rfl
@[simp] theorem State.put_hostRd (f : Fld) (v : Nat) : (s.put f v).hostRd = s.hostRd := rfl
@[simp] theorem State.put_out (f : Fld) (v : Nat) : (s.put f v).out = s.out := rfl
@[simp] theorem State.put_bar (f : Fld) (v : Nat) : (s.put f v).bar = s.bar := rfl
@[simp] theorem State.put_ctx (f : Fld) (v : Nat) : (s.put f v).ctx = s.ctx := rfl
@[simp] theorem State.put_mlk (f : Fld) (v : Nat) : (s.put f v).mlk = s.mlk := rfl
@[simp] theorem State.put_acc (f : Fld) (v : Nat) : (s.put f v).acc = s.acc := rfl
@[simp] theorem State.put_mlkx (f : Fld) (v : Nat) : (s.put f v).mlkx = s.mlkx := rfl
@[simp] theorem State.put_fld (f : Fld) (v : Nat) : (s.put f v).fld = s.fld := rfl
@[simp] theorem State.put_clu (f : Fld) (v : Nat) : (s.put f v).clu = s.clu := rfl
@[simp] theorem State.put_key (f : Fld) (v : Nat) : (s.put f v).key = s.key := rfl
@[simp] theorem State.put_prs (f : Fld) (v : Nat) : (s.put f v).prs = s.prs := rfl
@[simp] theorem State.put_eth (f : Fld) (v : Nat) : (s.put f v).eth = s.eth := rfl
@[simp] theorem State.put_tsk (f : Fld) (v : Nat) : (s.put f v).tsk = s.tsk := rfl
@[simp] theorem State.put_hif (f : Fld) (v : Nat) : (s.put f v).hif = s.hif := rfl
@[simp] theorem State.put_ciptx (f : Fld) (v : Nat) : (s.put f v).ciptx = s.ciptx := rfl
@[simp] theorem State.put_reports (f : Fld) (v : Nat) : (s.put f v).reports = s.reports := rfl
@[simp] theorem State.put_cipq (f : Fld) (v : Nat) : (s.put f v).cipq = s.cipq := rfl
@[simp] theorem State.put_mlkq (f : Fld) (v : Nat) : (s.put f v).mlkq = s.mlkq := rfl
@[simp] theorem State.put_prsq (f : Fld) (v : Nat) : (s.put f v).prsq = s.prsq := rfl
@[simp] theorem State.put_spn (f : Fld) (v : Nat) : (s.put f v).spn = s.spn := rfl
@[simp] theorem State.put_flt (f : Fld) (v : Nat) : (s.put f v).flt = s.flt := rfl
@[simp] theorem State.put_rtc (f : Fld) (v : Nat) : (s.put f v).rtc = s.rtc := rfl
@[simp] theorem State.put_itt (f : Fld) (v : Nat) : (s.put f v).itt = s.itt := rfl
@[simp] theorem State.put_upd (f : Fld) (v : Nat) : (s.put f v).upd = s.upd := rfl
@[simp] theorem State.put_jrn (f : Fld) (v : Nat) : (s.put f v).jrn = s.jrn := rfl
@[simp] theorem State.put_thal (f : Fld) (v : Nat) : (s.put f v).thal = s.thal := rfl
@[simp] theorem State.put_dmc (f : Fld) (v : Nat) : (s.put f v).dmc = s.dmc := rfl
@[simp] theorem State.put_pwr (f : Fld) (v : Nat) : (s.put f v).pwr = s.pwr := rfl
@[simp] theorem State.put_chk (f : Fld) (v : Nat) : (s.put f v).chk = s.chk := rfl
@[simp] theorem State.put_frn (f : Fld) (v : Nat) : (s.put f v).frn = s.frn := rfl
@[simp] theorem State.put_rxq (f : Fld) (v : Nat) : (s.put f v).rxq = s.rxq := rfl
@[simp] theorem State.put_retq (f : Fld) (v : Nat) : (s.put f v).retq = s.retq := rfl
@[simp] theorem State.put_blk (f : Fld) (v : Nat) : (s.put f v).blk = s.blk := rfl
@[simp] theorem State.put_seqEvs (f : Fld) (v : Nat) : (s.put f v).seqEvs = s.seqEvs := rfl
@[simp] theorem State.put_wrHold (f : Fld) (v : Nat) : (s.put f v).wrHold = s.wrHold := rfl
@[simp] theorem State.put_rdHold (f : Fld) (v : Nat) : (s.put f v).rdHold = s.rdHold := rfl
@[simp] theorem State.put_linkFails (f : Fld) (v : Nat) : (s.put f v).linkFails = s.linkFails := rfl
@[simp] theorem State.put_stir (f : Fld) (v : Nat) : (s.put f v).stir = s.stir := rfl

/-! ### State.putB -/

@[simp] theorem State.putB_pending (f : Fld) (b : Bool) : (s.putB f b).pending = s.pending := rfl
@[simp] theorem State.putB_ref (f : Fld) (b : Bool) : (s.putB f b).ref = s.ref := rfl
@[simp] theorem State.putB_freeCtr (f : Fld) (b : Bool) : (s.putB f b).freeCtr = s.freeCtr := rfl
@[simp] theorem State.putB_hostRd (f : Fld) (b : Bool) : (s.putB f b).hostRd = s.hostRd := rfl
@[simp] theorem State.putB_out (f : Fld) (b : Bool) : (s.putB f b).out = s.out := rfl
@[simp] theorem State.putB_bar (f : Fld) (b : Bool) : (s.putB f b).bar = s.bar := rfl
@[simp] theorem State.putB_ctx (f : Fld) (b : Bool) : (s.putB f b).ctx = s.ctx := rfl
@[simp] theorem State.putB_mlk (f : Fld) (b : Bool) : (s.putB f b).mlk = s.mlk := rfl
@[simp] theorem State.putB_acc (f : Fld) (b : Bool) : (s.putB f b).acc = s.acc := rfl
@[simp] theorem State.putB_mlkx (f : Fld) (b : Bool) : (s.putB f b).mlkx = s.mlkx := rfl
@[simp] theorem State.putB_fld (f : Fld) (b : Bool) : (s.putB f b).fld = s.fld := rfl
@[simp] theorem State.putB_clu (f : Fld) (b : Bool) : (s.putB f b).clu = s.clu := rfl
@[simp] theorem State.putB_key (f : Fld) (b : Bool) : (s.putB f b).key = s.key := rfl
@[simp] theorem State.putB_prs (f : Fld) (b : Bool) : (s.putB f b).prs = s.prs := rfl
@[simp] theorem State.putB_eth (f : Fld) (b : Bool) : (s.putB f b).eth = s.eth := rfl
@[simp] theorem State.putB_tsk (f : Fld) (b : Bool) : (s.putB f b).tsk = s.tsk := rfl
@[simp] theorem State.putB_hif (f : Fld) (b : Bool) : (s.putB f b).hif = s.hif := rfl
@[simp] theorem State.putB_ciptx (f : Fld) (b : Bool) : (s.putB f b).ciptx = s.ciptx := rfl
@[simp] theorem State.putB_reports (f : Fld) (b : Bool) : (s.putB f b).reports = s.reports := rfl
@[simp] theorem State.putB_cipq (f : Fld) (b : Bool) : (s.putB f b).cipq = s.cipq := rfl
@[simp] theorem State.putB_mlkq (f : Fld) (b : Bool) : (s.putB f b).mlkq = s.mlkq := rfl
@[simp] theorem State.putB_prsq (f : Fld) (b : Bool) : (s.putB f b).prsq = s.prsq := rfl
@[simp] theorem State.putB_spn (f : Fld) (b : Bool) : (s.putB f b).spn = s.spn := rfl
@[simp] theorem State.putB_flt (f : Fld) (b : Bool) : (s.putB f b).flt = s.flt := rfl
@[simp] theorem State.putB_rtc (f : Fld) (b : Bool) : (s.putB f b).rtc = s.rtc := rfl
@[simp] theorem State.putB_itt (f : Fld) (b : Bool) : (s.putB f b).itt = s.itt := rfl
@[simp] theorem State.putB_upd (f : Fld) (b : Bool) : (s.putB f b).upd = s.upd := rfl
@[simp] theorem State.putB_jrn (f : Fld) (b : Bool) : (s.putB f b).jrn = s.jrn := rfl
@[simp] theorem State.putB_thal (f : Fld) (b : Bool) : (s.putB f b).thal = s.thal := rfl
@[simp] theorem State.putB_dmc (f : Fld) (b : Bool) : (s.putB f b).dmc = s.dmc := rfl
@[simp] theorem State.putB_pwr (f : Fld) (b : Bool) : (s.putB f b).pwr = s.pwr := rfl
@[simp] theorem State.putB_chk (f : Fld) (b : Bool) : (s.putB f b).chk = s.chk := rfl
@[simp] theorem State.putB_frn (f : Fld) (b : Bool) : (s.putB f b).frn = s.frn := rfl
@[simp] theorem State.putB_rxq (f : Fld) (b : Bool) : (s.putB f b).rxq = s.rxq := rfl
@[simp] theorem State.putB_retq (f : Fld) (b : Bool) : (s.putB f b).retq = s.retq := rfl
@[simp] theorem State.putB_blk (f : Fld) (b : Bool) : (s.putB f b).blk = s.blk := rfl
@[simp] theorem State.putB_seqEvs (f : Fld) (b : Bool) : (s.putB f b).seqEvs = s.seqEvs := rfl
@[simp] theorem State.putB_wrHold (f : Fld) (b : Bool) : (s.putB f b).wrHold = s.wrHold := rfl
@[simp] theorem State.putB_rdHold (f : Fld) (b : Bool) : (s.putB f b).rdHold = s.rdHold := rfl
@[simp] theorem State.putB_linkFails (f : Fld) (b : Bool) : (s.putB f b).linkFails = s.linkFails := rfl
@[simp] theorem State.putB_stir (f : Fld) (b : Bool) : (s.putB f b).stir = s.stir := rfl

/-! ### State.bumpBy -/

@[simp] theorem State.bumpBy_pending (a n : Nat) : (s.bumpBy a n).pending = s.pending := rfl
@[simp] theorem State.bumpBy_ref (a n : Nat) : (s.bumpBy a n).ref = s.ref := rfl
@[simp] theorem State.bumpBy_freeCtr (a n : Nat) : (s.bumpBy a n).freeCtr = s.freeCtr := rfl
@[simp] theorem State.bumpBy_hostRd (a n : Nat) : (s.bumpBy a n).hostRd = s.hostRd := rfl
@[simp] theorem State.bumpBy_out (a n : Nat) : (s.bumpBy a n).out = s.out := rfl
@[simp] theorem State.bumpBy_bar (a n : Nat) : (s.bumpBy a n).bar = s.bar := rfl
@[simp] theorem State.bumpBy_ctx (a n : Nat) : (s.bumpBy a n).ctx = s.ctx := rfl
@[simp] theorem State.bumpBy_mlk (a n : Nat) : (s.bumpBy a n).mlk = s.mlk := rfl
@[simp] theorem State.bumpBy_acc (a n : Nat) : (s.bumpBy a n).acc = s.acc := rfl
@[simp] theorem State.bumpBy_mlkx (a n : Nat) : (s.bumpBy a n).mlkx = s.mlkx := rfl
@[simp] theorem State.bumpBy_fld (a n : Nat) : (s.bumpBy a n).fld = s.fld := rfl
@[simp] theorem State.bumpBy_clu (a n : Nat) : (s.bumpBy a n).clu = s.clu := rfl
@[simp] theorem State.bumpBy_key (a n : Nat) : (s.bumpBy a n).key = s.key := rfl
@[simp] theorem State.bumpBy_prs (a n : Nat) : (s.bumpBy a n).prs = s.prs := rfl
@[simp] theorem State.bumpBy_eth (a n : Nat) : (s.bumpBy a n).eth = s.eth := rfl
@[simp] theorem State.bumpBy_tsk (a n : Nat) : (s.bumpBy a n).tsk = s.tsk := rfl
@[simp] theorem State.bumpBy_hif (a n : Nat) : (s.bumpBy a n).hif = s.hif := rfl
@[simp] theorem State.bumpBy_ciptx (a n : Nat) : (s.bumpBy a n).ciptx = s.ciptx := rfl
@[simp] theorem State.bumpBy_reports (a n : Nat) : (s.bumpBy a n).reports = s.reports := rfl
@[simp] theorem State.bumpBy_cipq (a n : Nat) : (s.bumpBy a n).cipq = s.cipq := rfl
@[simp] theorem State.bumpBy_mlkq (a n : Nat) : (s.bumpBy a n).mlkq = s.mlkq := rfl
@[simp] theorem State.bumpBy_prsq (a n : Nat) : (s.bumpBy a n).prsq = s.prsq := rfl
@[simp] theorem State.bumpBy_spn (a n : Nat) : (s.bumpBy a n).spn = s.spn := rfl
@[simp] theorem State.bumpBy_flt (a n : Nat) : (s.bumpBy a n).flt = s.flt := rfl
@[simp] theorem State.bumpBy_rtc (a n : Nat) : (s.bumpBy a n).rtc = s.rtc := rfl
@[simp] theorem State.bumpBy_itt (a n : Nat) : (s.bumpBy a n).itt = s.itt := rfl
@[simp] theorem State.bumpBy_upd (a n : Nat) : (s.bumpBy a n).upd = s.upd := rfl
@[simp] theorem State.bumpBy_jrn (a n : Nat) : (s.bumpBy a n).jrn = s.jrn := rfl
@[simp] theorem State.bumpBy_thal (a n : Nat) : (s.bumpBy a n).thal = s.thal := rfl
@[simp] theorem State.bumpBy_dmc (a n : Nat) : (s.bumpBy a n).dmc = s.dmc := rfl
@[simp] theorem State.bumpBy_pwr (a n : Nat) : (s.bumpBy a n).pwr = s.pwr := rfl
@[simp] theorem State.bumpBy_chk (a n : Nat) : (s.bumpBy a n).chk = s.chk := rfl
@[simp] theorem State.bumpBy_frn (a n : Nat) : (s.bumpBy a n).frn = s.frn := rfl
@[simp] theorem State.bumpBy_rxq (a n : Nat) : (s.bumpBy a n).rxq = s.rxq := rfl
@[simp] theorem State.bumpBy_retq (a n : Nat) : (s.bumpBy a n).retq = s.retq := rfl
@[simp] theorem State.bumpBy_blk (a n : Nat) : (s.bumpBy a n).blk = s.blk := rfl
@[simp] theorem State.bumpBy_seqEvs (a n : Nat) : (s.bumpBy a n).seqEvs = s.seqEvs := rfl
@[simp] theorem State.bumpBy_wrHold (a n : Nat) : (s.bumpBy a n).wrHold = s.wrHold := rfl
@[simp] theorem State.bumpBy_rdHold (a n : Nat) : (s.bumpBy a n).rdHold = s.rdHold := rfl
@[simp] theorem State.bumpBy_linkFails (a n : Nat) : (s.bumpBy a n).linkFails = s.linkFails := rfl
@[simp] theorem State.bumpBy_stir (a n : Nat) : (s.bumpBy a n).stir = s.stir := rfl

/-! ### State.bump -/

@[simp] theorem State.bump_pending (a : Nat) : (s.bump a).pending = s.pending := rfl
@[simp] theorem State.bump_ref (a : Nat) : (s.bump a).ref = s.ref := rfl
@[simp] theorem State.bump_freeCtr (a : Nat) : (s.bump a).freeCtr = s.freeCtr := rfl
@[simp] theorem State.bump_hostRd (a : Nat) : (s.bump a).hostRd = s.hostRd := rfl
@[simp] theorem State.bump_out (a : Nat) : (s.bump a).out = s.out := rfl
@[simp] theorem State.bump_bar (a : Nat) : (s.bump a).bar = s.bar := rfl
@[simp] theorem State.bump_ctx (a : Nat) : (s.bump a).ctx = s.ctx := rfl
@[simp] theorem State.bump_mlk (a : Nat) : (s.bump a).mlk = s.mlk := rfl
@[simp] theorem State.bump_acc (a : Nat) : (s.bump a).acc = s.acc := rfl
@[simp] theorem State.bump_mlkx (a : Nat) : (s.bump a).mlkx = s.mlkx := rfl
@[simp] theorem State.bump_fld (a : Nat) : (s.bump a).fld = s.fld := rfl
@[simp] theorem State.bump_clu (a : Nat) : (s.bump a).clu = s.clu := rfl
@[simp] theorem State.bump_key (a : Nat) : (s.bump a).key = s.key := rfl
@[simp] theorem State.bump_prs (a : Nat) : (s.bump a).prs = s.prs := rfl
@[simp] theorem State.bump_eth (a : Nat) : (s.bump a).eth = s.eth := rfl
@[simp] theorem State.bump_tsk (a : Nat) : (s.bump a).tsk = s.tsk := rfl
@[simp] theorem State.bump_hif (a : Nat) : (s.bump a).hif = s.hif := rfl
@[simp] theorem State.bump_ciptx (a : Nat) : (s.bump a).ciptx = s.ciptx := rfl
@[simp] theorem State.bump_reports (a : Nat) : (s.bump a).reports = s.reports := rfl
@[simp] theorem State.bump_cipq (a : Nat) : (s.bump a).cipq = s.cipq := rfl
@[simp] theorem State.bump_mlkq (a : Nat) : (s.bump a).mlkq = s.mlkq := rfl
@[simp] theorem State.bump_prsq (a : Nat) : (s.bump a).prsq = s.prsq := rfl
@[simp] theorem State.bump_spn (a : Nat) : (s.bump a).spn = s.spn := rfl
@[simp] theorem State.bump_flt (a : Nat) : (s.bump a).flt = s.flt := rfl
@[simp] theorem State.bump_rtc (a : Nat) : (s.bump a).rtc = s.rtc := rfl
@[simp] theorem State.bump_itt (a : Nat) : (s.bump a).itt = s.itt := rfl
@[simp] theorem State.bump_upd (a : Nat) : (s.bump a).upd = s.upd := rfl
@[simp] theorem State.bump_jrn (a : Nat) : (s.bump a).jrn = s.jrn := rfl
@[simp] theorem State.bump_thal (a : Nat) : (s.bump a).thal = s.thal := rfl
@[simp] theorem State.bump_dmc (a : Nat) : (s.bump a).dmc = s.dmc := rfl
@[simp] theorem State.bump_pwr (a : Nat) : (s.bump a).pwr = s.pwr := rfl
@[simp] theorem State.bump_chk (a : Nat) : (s.bump a).chk = s.chk := rfl
@[simp] theorem State.bump_frn (a : Nat) : (s.bump a).frn = s.frn := rfl
@[simp] theorem State.bump_rxq (a : Nat) : (s.bump a).rxq = s.rxq := rfl
@[simp] theorem State.bump_retq (a : Nat) : (s.bump a).retq = s.retq := rfl
@[simp] theorem State.bump_blk (a : Nat) : (s.bump a).blk = s.blk := rfl
@[simp] theorem State.bump_seqEvs (a : Nat) : (s.bump a).seqEvs = s.seqEvs := rfl
@[simp] theorem State.bump_wrHold (a : Nat) : (s.bump a).wrHold = s.wrHold := rfl
@[simp] theorem State.bump_rdHold (a : Nat) : (s.bump a).rdHold = s.rdHold := rfl
@[simp] theorem State.bump_linkFails (a : Nat) : (s.bump a).linkFails = s.linkFails := rfl
@[simp] theorem State.bump_stir (a : Nat) : (s.bump a).stir = s.stir := rfl

/-! ### State.bumpF -/

@[simp] theorem State.bumpF_pending (f : Fld) : (s.bumpF f).pending = s.pending := rfl
@[simp] theorem State.bumpF_ref (f : Fld) : (s.bumpF f).ref = s.ref := rfl
@[simp] theorem State.bumpF_freeCtr (f : Fld) : (s.bumpF f).freeCtr = s.freeCtr := rfl
@[simp] theorem State.bumpF_hostRd (f : Fld) : (s.bumpF f).hostRd = s.hostRd := rfl
@[simp] theorem State.bumpF_out (f : Fld) : (s.bumpF f).out = s.out := rfl
@[simp] theorem State.bumpF_bar (f : Fld) : (s.bumpF f).bar = s.bar := rfl
@[simp] theorem State.bumpF_ctx (f : Fld) : (s.bumpF f).ctx = s.ctx := rfl
@[simp] theorem State.bumpF_mlk (f : Fld) : (s.bumpF f).mlk = s.mlk := rfl
@[simp] theorem State.bumpF_acc (f : Fld) : (s.bumpF f).acc = s.acc := rfl
@[simp] theorem State.bumpF_mlkx (f : Fld) : (s.bumpF f).mlkx = s.mlkx := rfl
@[simp] theorem State.bumpF_fld (f : Fld) : (s.bumpF f).fld = s.fld := rfl
@[simp] theorem State.bumpF_clu (f : Fld) : (s.bumpF f).clu = s.clu := rfl
@[simp] theorem State.bumpF_key (f : Fld) : (s.bumpF f).key = s.key := rfl
@[simp] theorem State.bumpF_prs (f : Fld) : (s.bumpF f).prs = s.prs := rfl
@[simp] theorem State.bumpF_eth (f : Fld) : (s.bumpF f).eth = s.eth := rfl
@[simp] theorem State.bumpF_tsk (f : Fld) : (s.bumpF f).tsk = s.tsk := rfl
@[simp] theorem State.bumpF_hif (f : Fld) : (s.bumpF f).hif = s.hif := rfl
@[simp] theorem State.bumpF_ciptx (f : Fld) : (s.bumpF f).ciptx = s.ciptx := rfl
@[simp] theorem State.bumpF_reports (f : Fld) : (s.bumpF f).reports = s.reports := rfl
@[simp] theorem State.bumpF_cipq (f : Fld) : (s.bumpF f).cipq = s.cipq := rfl
@[simp] theorem State.bumpF_mlkq (f : Fld) : (s.bumpF f).mlkq = s.mlkq := rfl
@[simp] theorem State.bumpF_prsq (f : Fld) : (s.bumpF f).prsq = s.prsq := rfl
@[simp] theorem State.bumpF_spn (f : Fld) : (s.bumpF f).spn = s.spn := rfl
@[simp] theorem State.bumpF_flt (f : Fld) : (s.bumpF f).flt = s.flt := rfl
@[simp] theorem State.bumpF_rtc (f : Fld) : (s.bumpF f).rtc = s.rtc := rfl
@[simp] theorem State.bumpF_itt (f : Fld) : (s.bumpF f).itt = s.itt := rfl
@[simp] theorem State.bumpF_upd (f : Fld) : (s.bumpF f).upd = s.upd := rfl
@[simp] theorem State.bumpF_jrn (f : Fld) : (s.bumpF f).jrn = s.jrn := rfl
@[simp] theorem State.bumpF_thal (f : Fld) : (s.bumpF f).thal = s.thal := rfl
@[simp] theorem State.bumpF_dmc (f : Fld) : (s.bumpF f).dmc = s.dmc := rfl
@[simp] theorem State.bumpF_pwr (f : Fld) : (s.bumpF f).pwr = s.pwr := rfl
@[simp] theorem State.bumpF_chk (f : Fld) : (s.bumpF f).chk = s.chk := rfl
@[simp] theorem State.bumpF_frn (f : Fld) : (s.bumpF f).frn = s.frn := rfl
@[simp] theorem State.bumpF_rxq (f : Fld) : (s.bumpF f).rxq = s.rxq := rfl
@[simp] theorem State.bumpF_retq (f : Fld) : (s.bumpF f).retq = s.retq := rfl
@[simp] theorem State.bumpF_blk (f : Fld) : (s.bumpF f).blk = s.blk := rfl
@[simp] theorem State.bumpF_seqEvs (f : Fld) : (s.bumpF f).seqEvs = s.seqEvs := rfl
@[simp] theorem State.bumpF_wrHold (f : Fld) : (s.bumpF f).wrHold = s.wrHold := rfl
@[simp] theorem State.bumpF_rdHold (f : Fld) : (s.bumpF f).rdHold = s.rdHold := rfl
@[simp] theorem State.bumpF_linkFails (f : Fld) : (s.bumpF f).linkFails = s.linkFails := rfl
@[simp] theorem State.bumpF_stir (f : Fld) : (s.bumpF f).stir = s.stir := rfl

/-! ### State.wr64 -/

@[simp] theorem State.wr64_pending (a v : Nat) : (s.wr64 a v).pending = s.pending := rfl
@[simp] theorem State.wr64_ref (a v : Nat) : (s.wr64 a v).ref = s.ref := rfl
@[simp] theorem State.wr64_freeCtr (a v : Nat) : (s.wr64 a v).freeCtr = s.freeCtr := rfl
@[simp] theorem State.wr64_hostRd (a v : Nat) : (s.wr64 a v).hostRd = s.hostRd := rfl
@[simp] theorem State.wr64_out (a v : Nat) : (s.wr64 a v).out = s.out := rfl
@[simp] theorem State.wr64_bar (a v : Nat) : (s.wr64 a v).bar = s.bar := rfl
@[simp] theorem State.wr64_ctx (a v : Nat) : (s.wr64 a v).ctx = s.ctx := rfl
@[simp] theorem State.wr64_mlk (a v : Nat) : (s.wr64 a v).mlk = s.mlk := rfl
@[simp] theorem State.wr64_acc (a v : Nat) : (s.wr64 a v).acc = s.acc := rfl
@[simp] theorem State.wr64_mlkx (a v : Nat) : (s.wr64 a v).mlkx = s.mlkx := rfl
@[simp] theorem State.wr64_fld (a v : Nat) : (s.wr64 a v).fld = s.fld := rfl
@[simp] theorem State.wr64_clu (a v : Nat) : (s.wr64 a v).clu = s.clu := rfl
@[simp] theorem State.wr64_key (a v : Nat) : (s.wr64 a v).key = s.key := rfl
@[simp] theorem State.wr64_prs (a v : Nat) : (s.wr64 a v).prs = s.prs := rfl
@[simp] theorem State.wr64_eth (a v : Nat) : (s.wr64 a v).eth = s.eth := rfl
@[simp] theorem State.wr64_tsk (a v : Nat) : (s.wr64 a v).tsk = s.tsk := rfl
@[simp] theorem State.wr64_hif (a v : Nat) : (s.wr64 a v).hif = s.hif := rfl
@[simp] theorem State.wr64_ciptx (a v : Nat) : (s.wr64 a v).ciptx = s.ciptx := rfl
@[simp] theorem State.wr64_reports (a v : Nat) : (s.wr64 a v).reports = s.reports := rfl
@[simp] theorem State.wr64_cipq (a v : Nat) : (s.wr64 a v).cipq = s.cipq := rfl
@[simp] theorem State.wr64_mlkq (a v : Nat) : (s.wr64 a v).mlkq = s.mlkq := rfl
@[simp] theorem State.wr64_prsq (a v : Nat) : (s.wr64 a v).prsq = s.prsq := rfl
@[simp] theorem State.wr64_spn (a v : Nat) : (s.wr64 a v).spn = s.spn := rfl
@[simp] theorem State.wr64_flt (a v : Nat) : (s.wr64 a v).flt = s.flt := rfl
@[simp] theorem State.wr64_rtc (a v : Nat) : (s.wr64 a v).rtc = s.rtc := rfl
@[simp] theorem State.wr64_itt (a v : Nat) : (s.wr64 a v).itt = s.itt := rfl
@[simp] theorem State.wr64_upd (a v : Nat) : (s.wr64 a v).upd = s.upd := rfl
@[simp] theorem State.wr64_jrn (a v : Nat) : (s.wr64 a v).jrn = s.jrn := rfl
@[simp] theorem State.wr64_thal (a v : Nat) : (s.wr64 a v).thal = s.thal := rfl
@[simp] theorem State.wr64_dmc (a v : Nat) : (s.wr64 a v).dmc = s.dmc := rfl
@[simp] theorem State.wr64_pwr (a v : Nat) : (s.wr64 a v).pwr = s.pwr := rfl
@[simp] theorem State.wr64_chk (a v : Nat) : (s.wr64 a v).chk = s.chk := rfl
@[simp] theorem State.wr64_frn (a v : Nat) : (s.wr64 a v).frn = s.frn := rfl
@[simp] theorem State.wr64_rxq (a v : Nat) : (s.wr64 a v).rxq = s.rxq := rfl
@[simp] theorem State.wr64_retq (a v : Nat) : (s.wr64 a v).retq = s.retq := rfl
@[simp] theorem State.wr64_blk (a v : Nat) : (s.wr64 a v).blk = s.blk := rfl
@[simp] theorem State.wr64_seqEvs (a v : Nat) : (s.wr64 a v).seqEvs = s.seqEvs := rfl
@[simp] theorem State.wr64_wrHold (a v : Nat) : (s.wr64 a v).wrHold = s.wrHold := rfl
@[simp] theorem State.wr64_rdHold (a v : Nat) : (s.wr64 a v).rdHold = s.rdHold := rfl
@[simp] theorem State.wr64_linkFails (a v : Nat) : (s.wr64 a v).linkFails = s.linkFails := rfl
@[simp] theorem State.wr64_stir (a v : Nat) : (s.wr64 a v).stir = s.stir := rfl

/-! ### State.drawn -/

@[simp] theorem State.drawn_pending : (s.drawn).pending = s.pending := rfl
@[simp] theorem State.drawn_regs : (s.drawn).regs = s.regs := rfl
@[simp] theorem State.drawn_ref : (s.drawn).ref = s.ref := rfl
@[simp] theorem State.drawn_hostRd : (s.drawn).hostRd = s.hostRd := rfl
@[simp] theorem State.drawn_out : (s.drawn).out = s.out := rfl
@[simp] theorem State.drawn_bar : (s.drawn).bar = s.bar := rfl
@[simp] theorem State.drawn_ctx : (s.drawn).ctx = s.ctx := rfl
@[simp] theorem State.drawn_mlk : (s.drawn).mlk = s.mlk := rfl
@[simp] theorem State.drawn_acc : (s.drawn).acc = s.acc := rfl
@[simp] theorem State.drawn_mlkx : (s.drawn).mlkx = s.mlkx := rfl
@[simp] theorem State.drawn_fld : (s.drawn).fld = s.fld := rfl
@[simp] theorem State.drawn_clu : (s.drawn).clu = s.clu := rfl
@[simp] theorem State.drawn_key : (s.drawn).key = s.key := rfl
@[simp] theorem State.drawn_prs : (s.drawn).prs = s.prs := rfl
@[simp] theorem State.drawn_eth : (s.drawn).eth = s.eth := rfl
@[simp] theorem State.drawn_tsk : (s.drawn).tsk = s.tsk := rfl
@[simp] theorem State.drawn_hif : (s.drawn).hif = s.hif := rfl
@[simp] theorem State.drawn_ciptx : (s.drawn).ciptx = s.ciptx := rfl
@[simp] theorem State.drawn_reports : (s.drawn).reports = s.reports := rfl
@[simp] theorem State.drawn_cipq : (s.drawn).cipq = s.cipq := rfl
@[simp] theorem State.drawn_mlkq : (s.drawn).mlkq = s.mlkq := rfl
@[simp] theorem State.drawn_prsq : (s.drawn).prsq = s.prsq := rfl
@[simp] theorem State.drawn_spn : (s.drawn).spn = s.spn := rfl
@[simp] theorem State.drawn_flt : (s.drawn).flt = s.flt := rfl
@[simp] theorem State.drawn_rtc : (s.drawn).rtc = s.rtc := rfl
@[simp] theorem State.drawn_itt : (s.drawn).itt = s.itt := rfl
@[simp] theorem State.drawn_upd : (s.drawn).upd = s.upd := rfl
@[simp] theorem State.drawn_jrn : (s.drawn).jrn = s.jrn := rfl
@[simp] theorem State.drawn_thal : (s.drawn).thal = s.thal := rfl
@[simp] theorem State.drawn_dmc : (s.drawn).dmc = s.dmc := rfl
@[simp] theorem State.drawn_pwr : (s.drawn).pwr = s.pwr := rfl
@[simp] theorem State.drawn_chk : (s.drawn).chk = s.chk := rfl
@[simp] theorem State.drawn_frn : (s.drawn).frn = s.frn := rfl
@[simp] theorem State.drawn_rxq : (s.drawn).rxq = s.rxq := rfl
@[simp] theorem State.drawn_retq : (s.drawn).retq = s.retq := rfl
@[simp] theorem State.drawn_blk : (s.drawn).blk = s.blk := rfl
@[simp] theorem State.drawn_seqEvs : (s.drawn).seqEvs = s.seqEvs := rfl
@[simp] theorem State.drawn_wrHold : (s.drawn).wrHold = s.wrHold := rfl
@[simp] theorem State.drawn_rdHold : (s.drawn).rdHold = s.rdHold := rfl
@[simp] theorem State.drawn_linkFails : (s.drawn).linkFails = s.linkFails := rfl
@[simp] theorem State.drawn_stir : (s.drawn).stir = s.stir := rfl

/-! ### State.pass -/

@[simp] theorem State.pass_pending (dt : Nat) : (s.pass dt).pending = s.pending := (rfl)
@[simp] theorem State.pass_regs (dt : Nat) : (s.pass dt).regs = s.regs := (rfl)
@[simp] theorem State.pass_freeCtr (dt : Nat) : (s.pass dt).freeCtr = s.freeCtr := (rfl)
@[simp] theorem State.pass_hostRd (dt : Nat) : (s.pass dt).hostRd = s.hostRd := (rfl)
@[simp] theorem State.pass_out (dt : Nat) : (s.pass dt).out = s.out := (rfl)
@[simp] theorem State.pass_bar (dt : Nat) : (s.pass dt).bar = s.bar := (rfl)
@[simp] theorem State.pass_ctx (dt : Nat) : (s.pass dt).ctx = s.ctx := (rfl)
@[simp] theorem State.pass_mlk (dt : Nat) : (s.pass dt).mlk = s.mlk := (rfl)
@[simp] theorem State.pass_acc (dt : Nat) : (s.pass dt).acc = s.acc := (rfl)
@[simp] theorem State.pass_mlkx (dt : Nat) : (s.pass dt).mlkx = s.mlkx := (rfl)
@[simp] theorem State.pass_fld (dt : Nat) : (s.pass dt).fld = s.fld := (rfl)
@[simp] theorem State.pass_clu (dt : Nat) : (s.pass dt).clu = s.clu := (rfl)
@[simp] theorem State.pass_key (dt : Nat) : (s.pass dt).key = s.key := (rfl)
@[simp] theorem State.pass_prs (dt : Nat) : (s.pass dt).prs = s.prs := (rfl)
@[simp] theorem State.pass_eth (dt : Nat) : (s.pass dt).eth = s.eth := (rfl)
@[simp] theorem State.pass_tsk (dt : Nat) : (s.pass dt).tsk = s.tsk := (rfl)
@[simp] theorem State.pass_hif (dt : Nat) : (s.pass dt).hif = s.hif := (rfl)
@[simp] theorem State.pass_ciptx (dt : Nat) : (s.pass dt).ciptx = s.ciptx := (rfl)
@[simp] theorem State.pass_reports (dt : Nat) : (s.pass dt).reports = s.reports := (rfl)
@[simp] theorem State.pass_cipq (dt : Nat) : (s.pass dt).cipq = s.cipq := (rfl)
@[simp] theorem State.pass_mlkq (dt : Nat) : (s.pass dt).mlkq = s.mlkq := (rfl)
@[simp] theorem State.pass_prsq (dt : Nat) : (s.pass dt).prsq = s.prsq := (rfl)
@[simp] theorem State.pass_flt (dt : Nat) : (s.pass dt).flt = s.flt := (rfl)
@[simp] theorem State.pass_rtc (dt : Nat) : (s.pass dt).rtc = s.rtc := (rfl)
@[simp] theorem State.pass_itt (dt : Nat) : (s.pass dt).itt = s.itt := (rfl)
@[simp] theorem State.pass_upd (dt : Nat) : (s.pass dt).upd = s.upd := (rfl)
@[simp] theorem State.pass_jrn (dt : Nat) : (s.pass dt).jrn = s.jrn := (rfl)
@[simp] theorem State.pass_thal (dt : Nat) : (s.pass dt).thal = s.thal := (rfl)
@[simp] theorem State.pass_dmc (dt : Nat) : (s.pass dt).dmc = s.dmc := (rfl)
@[simp] theorem State.pass_pwr (dt : Nat) : (s.pass dt).pwr = s.pwr := (rfl)
@[simp] theorem State.pass_chk (dt : Nat) : (s.pass dt).chk = s.chk := (rfl)
@[simp] theorem State.pass_frn (dt : Nat) : (s.pass dt).frn = s.frn := (rfl)
@[simp] theorem State.pass_rxq (dt : Nat) : (s.pass dt).rxq = s.rxq := (rfl)
@[simp] theorem State.pass_retq (dt : Nat) : (s.pass dt).retq = s.retq := (rfl)
@[simp] theorem State.pass_blk (dt : Nat) : (s.pass dt).blk = s.blk := (rfl)
@[simp] theorem State.pass_seqEvs (dt : Nat) : (s.pass dt).seqEvs = s.seqEvs := (rfl)
@[simp] theorem State.pass_wrHold (dt : Nat) : (s.pass dt).wrHold = s.wrHold := (rfl)
@[simp] theorem State.pass_rdHold (dt : Nat) : (s.pass dt).rdHold = s.rdHold := (rfl)
@[simp] theorem State.pass_linkFails (dt : Nat) : (s.pass dt).linkFails = s.linkFails := (rfl)
@[simp] theorem State.pass_stir (dt : Nat) : (s.pass dt).stir = s.stir := (rfl)

/-! ### State.toRef -/

@[simp] theorem State.toRef_pending (n : Nat) : (s.toRef n).pending = s.pending := (rfl)
@[simp] theorem State.toRef_regs (n : Nat) : (s.toRef n).regs = s.regs := (rfl)
@[simp] theorem State.toRef_freeCtr (n : Nat) : (s.toRef n).freeCtr = s.freeCtr := (rfl)
@[simp] theorem State.toRef_hostRd (n : Nat) : (s.toRef n).hostRd = s.hostRd := (rfl)
@[simp] theorem State.toRef_out (n : Nat) : (s.toRef n).out = s.out := (rfl)
@[simp] theorem State.toRef_bar (n : Nat) : (s.toRef n).bar = s.bar := (rfl)
@[simp] theorem State.toRef_ctx (n : Nat) : (s.toRef n).ctx = s.ctx := (rfl)
@[simp] theorem State.toRef_mlk (n : Nat) : (s.toRef n).mlk = s.mlk := (rfl)
@[simp] theorem State.toRef_acc (n : Nat) : (s.toRef n).acc = s.acc := (rfl)
@[simp] theorem State.toRef_mlkx (n : Nat) : (s.toRef n).mlkx = s.mlkx := (rfl)
@[simp] theorem State.toRef_fld (n : Nat) : (s.toRef n).fld = s.fld := (rfl)
@[simp] theorem State.toRef_clu (n : Nat) : (s.toRef n).clu = s.clu := (rfl)
@[simp] theorem State.toRef_key (n : Nat) : (s.toRef n).key = s.key := (rfl)
@[simp] theorem State.toRef_prs (n : Nat) : (s.toRef n).prs = s.prs := (rfl)
@[simp] theorem State.toRef_eth (n : Nat) : (s.toRef n).eth = s.eth := (rfl)
@[simp] theorem State.toRef_tsk (n : Nat) : (s.toRef n).tsk = s.tsk := (rfl)
@[simp] theorem State.toRef_hif (n : Nat) : (s.toRef n).hif = s.hif := (rfl)
@[simp] theorem State.toRef_ciptx (n : Nat) : (s.toRef n).ciptx = s.ciptx := (rfl)
@[simp] theorem State.toRef_reports (n : Nat) : (s.toRef n).reports = s.reports := (rfl)
@[simp] theorem State.toRef_cipq (n : Nat) : (s.toRef n).cipq = s.cipq := (rfl)
@[simp] theorem State.toRef_mlkq (n : Nat) : (s.toRef n).mlkq = s.mlkq := (rfl)
@[simp] theorem State.toRef_prsq (n : Nat) : (s.toRef n).prsq = s.prsq := (rfl)
@[simp] theorem State.toRef_flt (n : Nat) : (s.toRef n).flt = s.flt := (rfl)
@[simp] theorem State.toRef_rtc (n : Nat) : (s.toRef n).rtc = s.rtc := (rfl)
@[simp] theorem State.toRef_itt (n : Nat) : (s.toRef n).itt = s.itt := (rfl)
@[simp] theorem State.toRef_upd (n : Nat) : (s.toRef n).upd = s.upd := (rfl)
@[simp] theorem State.toRef_jrn (n : Nat) : (s.toRef n).jrn = s.jrn := (rfl)
@[simp] theorem State.toRef_thal (n : Nat) : (s.toRef n).thal = s.thal := (rfl)
@[simp] theorem State.toRef_dmc (n : Nat) : (s.toRef n).dmc = s.dmc := (rfl)
@[simp] theorem State.toRef_pwr (n : Nat) : (s.toRef n).pwr = s.pwr := (rfl)
@[simp] theorem State.toRef_chk (n : Nat) : (s.toRef n).chk = s.chk := (rfl)
@[simp] theorem State.toRef_frn (n : Nat) : (s.toRef n).frn = s.frn := (rfl)
@[simp] theorem State.toRef_rxq (n : Nat) : (s.toRef n).rxq = s.rxq := (rfl)
@[simp] theorem State.toRef_retq (n : Nat) : (s.toRef n).retq = s.retq := (rfl)
@[simp] theorem State.toRef_blk (n : Nat) : (s.toRef n).blk = s.blk := (rfl)
@[simp] theorem State.toRef_seqEvs (n : Nat) : (s.toRef n).seqEvs = s.seqEvs := (rfl)
@[simp] theorem State.toRef_wrHold (n : Nat) : (s.toRef n).wrHold = s.wrHold := (rfl)
@[simp] theorem State.toRef_rdHold (n : Nat) : (s.toRef n).rdHold = s.rdHold := (rfl)
@[simp] theorem State.toRef_linkFails (n : Nat) : (s.toRef n).linkFails = s.linkFails := (rfl)
@[simp] theorem State.toRef_stir (n : Nat) : (s.toRef n).stir = s.stir := (rfl)

/-! ### State.idle -/

@[simp] theorem State.idle_pending : (s.idle).pending = s.pending := by simp [State.idle]
@[simp] theorem State.idle_regs : (s.idle).regs = s.regs := by simp [State.idle]
@[simp] theorem State.idle_freeCtr : (s.idle).freeCtr = s.freeCtr := by simp [State.idle]
@[simp] theorem State.idle_hostRd : (s.idle).hostRd = s.hostRd := by simp [State.idle]
@[simp] theorem State.idle_out : (s.idle).out = s.out := by simp [State.idle]
@[simp] theorem State.idle_bar : (s.idle).bar = s.bar := by simp [State.idle]
@[simp] theorem State.idle_ctx : (s.idle).ctx = s.ctx := by simp [State.idle]
@[simp] theorem State.idle_mlk : (s.idle).mlk = s.mlk := by simp [State.idle]
@[simp] theorem State.idle_acc : (s.idle).acc = s.acc := by simp [State.idle]
@[simp] theorem State.idle_mlkx : (s.idle).mlkx = s.mlkx := by simp [State.idle]
@[simp] theorem State.idle_fld : (s.idle).fld = s.fld := by simp [State.idle]
@[simp] theorem State.idle_clu : (s.idle).clu = s.clu := by simp [State.idle]
@[simp] theorem State.idle_key : (s.idle).key = s.key := by simp [State.idle]
@[simp] theorem State.idle_prs : (s.idle).prs = s.prs := by simp [State.idle]
@[simp] theorem State.idle_eth : (s.idle).eth = s.eth := by simp [State.idle]
@[simp] theorem State.idle_tsk : (s.idle).tsk = s.tsk := by simp [State.idle]
@[simp] theorem State.idle_hif : (s.idle).hif = s.hif := by simp [State.idle]
@[simp] theorem State.idle_ciptx : (s.idle).ciptx = s.ciptx := by simp [State.idle]
@[simp] theorem State.idle_reports : (s.idle).reports = s.reports := by simp [State.idle]
@[simp] theorem State.idle_cipq : (s.idle).cipq = s.cipq := by simp [State.idle]
@[simp] theorem State.idle_mlkq : (s.idle).mlkq = s.mlkq := by simp [State.idle]
@[simp] theorem State.idle_prsq : (s.idle).prsq = s.prsq := by simp [State.idle]
@[simp] theorem State.idle_flt : (s.idle).flt = s.flt := by simp [State.idle]
@[simp] theorem State.idle_rtc : (s.idle).rtc = s.rtc := by simp [State.idle]
@[simp] theorem State.idle_itt : (s.idle).itt = s.itt := by simp [State.idle]
@[simp] theorem State.idle_upd : (s.idle).upd = s.upd := by simp [State.idle]
@[simp] theorem State.idle_jrn : (s.idle).jrn = s.jrn := by simp [State.idle]
@[simp] theorem State.idle_thal : (s.idle).thal = s.thal := by simp [State.idle]
@[simp] theorem State.idle_dmc : (s.idle).dmc = s.dmc := by simp [State.idle]
@[simp] theorem State.idle_pwr : (s.idle).pwr = s.pwr := by simp [State.idle]
@[simp] theorem State.idle_chk : (s.idle).chk = s.chk := by simp [State.idle]
@[simp] theorem State.idle_frn : (s.idle).frn = s.frn := by simp [State.idle]
@[simp] theorem State.idle_rxq : (s.idle).rxq = s.rxq := by simp [State.idle]
@[simp] theorem State.idle_retq : (s.idle).retq = s.retq := by simp [State.idle]
@[simp] theorem State.idle_blk : (s.idle).blk = s.blk := by simp [State.idle]
@[simp] theorem State.idle_seqEvs : (s.idle).seqEvs = s.seqEvs := by simp [State.idle]
@[simp] theorem State.idle_wrHold : (s.idle).wrHold = s.wrHold := by simp [State.idle]
@[simp] theorem State.idle_rdHold : (s.idle).rdHold = s.rdHold := by simp [State.idle]
@[simp] theorem State.idle_linkFails : (s.idle).linkFails = s.linkFails := by simp [State.idle]
@[simp] theorem State.idle_stir : (s.idle).stir = s.stir := by simp [State.idle]

/-! ### State.emit -/

@[simp] theorem State.emit_pending (m : OutMsg) : (s.emit m).pending = s.pending := rfl
@[simp] theorem State.emit_regs (m : OutMsg) : (s.emit m).regs = s.regs := rfl
@[simp] theorem State.emit_ref (m : OutMsg) : (s.emit m).ref = s.ref := rfl
@[simp] theorem State.emit_freeCtr (m : OutMsg) : (s.emit m).freeCtr = s.freeCtr := rfl
@[simp] theorem State.emit_hostRd (m : OutMsg) : (s.emit m).hostRd = s.hostRd := rfl
@[simp] theorem State.emit_bar (m : OutMsg) : (s.emit m).bar = s.bar := rfl
@[simp] theorem State.emit_ctx (m : OutMsg) : (s.emit m).ctx = s.ctx := rfl
@[simp] theorem State.emit_mlk (m : OutMsg) : (s.emit m).mlk = s.mlk := rfl
@[simp] theorem State.emit_acc (m : OutMsg) : (s.emit m).acc = s.acc := rfl
@[simp] theorem State.emit_mlkx (m : OutMsg) : (s.emit m).mlkx = s.mlkx := rfl
@[simp] theorem State.emit_fld (m : OutMsg) : (s.emit m).fld = s.fld := rfl
@[simp] theorem State.emit_clu (m : OutMsg) : (s.emit m).clu = s.clu := rfl
@[simp] theorem State.emit_key (m : OutMsg) : (s.emit m).key = s.key := rfl
@[simp] theorem State.emit_prs (m : OutMsg) : (s.emit m).prs = s.prs := rfl
@[simp] theorem State.emit_eth (m : OutMsg) : (s.emit m).eth = s.eth := rfl
@[simp] theorem State.emit_tsk (m : OutMsg) : (s.emit m).tsk = s.tsk := rfl
@[simp] theorem State.emit_hif (m : OutMsg) : (s.emit m).hif = s.hif := rfl
@[simp] theorem State.emit_ciptx (m : OutMsg) : (s.emit m).ciptx = s.ciptx := rfl
@[simp] theorem State.emit_reports (m : OutMsg) : (s.emit m).reports = s.reports := rfl
@[simp] theorem State.emit_cipq (m : OutMsg) : (s.emit m).cipq = s.cipq := rfl
@[simp] theorem State.emit_mlkq (m : OutMsg) : (s.emit m).mlkq = s.mlkq := rfl
@[simp] theorem State.emit_prsq (m : OutMsg) : (s.emit m).prsq = s.prsq := rfl
@[simp] theorem State.emit_spn (m : OutMsg) : (s.emit m).spn = s.spn := rfl
@[simp] theorem State.emit_flt (m : OutMsg) : (s.emit m).flt = s.flt := rfl
@[simp] theorem State.emit_rtc (m : OutMsg) : (s.emit m).rtc = s.rtc := rfl
@[simp] theorem State.emit_itt (m : OutMsg) : (s.emit m).itt = s.itt := rfl
@[simp] theorem State.emit_upd (m : OutMsg) : (s.emit m).upd = s.upd := rfl
@[simp] theorem State.emit_jrn (m : OutMsg) : (s.emit m).jrn = s.jrn := rfl
@[simp] theorem State.emit_thal (m : OutMsg) : (s.emit m).thal = s.thal := rfl
@[simp] theorem State.emit_dmc (m : OutMsg) : (s.emit m).dmc = s.dmc := rfl
@[simp] theorem State.emit_pwr (m : OutMsg) : (s.emit m).pwr = s.pwr := rfl
@[simp] theorem State.emit_chk (m : OutMsg) : (s.emit m).chk = s.chk := rfl
@[simp] theorem State.emit_frn (m : OutMsg) : (s.emit m).frn = s.frn := rfl
@[simp] theorem State.emit_rxq (m : OutMsg) : (s.emit m).rxq = s.rxq := rfl
@[simp] theorem State.emit_retq (m : OutMsg) : (s.emit m).retq = s.retq := rfl
@[simp] theorem State.emit_blk (m : OutMsg) : (s.emit m).blk = s.blk := rfl
@[simp] theorem State.emit_seqEvs (m : OutMsg) : (s.emit m).seqEvs = s.seqEvs := rfl
@[simp] theorem State.emit_wrHold (m : OutMsg) : (s.emit m).wrHold = s.wrHold := rfl
@[simp] theorem State.emit_rdHold (m : OutMsg) : (s.emit m).rdHold = s.rdHold := rfl
@[simp] theorem State.emit_linkFails (m : OutMsg) : (s.emit m).linkFails = s.linkFails := rfl
@[simp] theorem State.emit_stir (m : OutMsg) : (s.emit m).stir = s.stir := rfl

/-! ### State.toWideHalf -/

@[simp] theorem State.toWideHalf_pending (n : Nat) : (s.toWideHalf n).pending = s.pending := by unfold State.toWideHalf; split <;> simp
@[simp] theorem State.toWideHalf_regs (n : Nat) : (s.toWideHalf n).regs = s.regs := by unfold State.toWideHalf; split <;> simp
@[simp] theorem State.toWideHalf_freeCtr (n : Nat) : (s.toWideHalf n).freeCtr = s.freeCtr := by unfold State.toWideHalf; split <;> simp
@[simp] theorem State.toWideHalf_hostRd (n : Nat) : (s.toWideHalf n).hostRd = s.hostRd := by unfold State.toWideHalf; split <;> simp
@[simp] theorem State.toWideHalf_out (n : Nat) : (s.toWideHalf n).out = s.out := by unfold State.toWideHalf; split <;> simp
@[simp] theorem State.toWideHalf_bar (n : Nat) : (s.toWideHalf n).bar = s.bar := by unfold State.toWideHalf; split <;> simp
@[simp] theorem State.toWideHalf_ctx (n : Nat) : (s.toWideHalf n).ctx = s.ctx := by unfold State.toWideHalf; split <;> simp
@[simp] theorem State.toWideHalf_mlk (n : Nat) : (s.toWideHalf n).mlk = s.mlk := by unfold State.toWideHalf; split <;> simp
@[simp] theorem State.toWideHalf_acc (n : Nat) : (s.toWideHalf n).acc = s.acc := by unfold State.toWideHalf; split <;> simp
@[simp] theorem State.toWideHalf_mlkx (n : Nat) : (s.toWideHalf n).mlkx = s.mlkx := by unfold State.toWideHalf; split <;> simp
@[simp] theorem State.toWideHalf_fld (n : Nat) : (s.toWideHalf n).fld = s.fld := by unfold State.toWideHalf; split <;> simp
@[simp] theorem State.toWideHalf_clu (n : Nat) : (s.toWideHalf n).clu = s.clu := by unfold State.toWideHalf; split <;> simp
@[simp] theorem State.toWideHalf_key (n : Nat) : (s.toWideHalf n).key = s.key := by unfold State.toWideHalf; split <;> simp
@[simp] theorem State.toWideHalf_prs (n : Nat) : (s.toWideHalf n).prs = s.prs := by unfold State.toWideHalf; split <;> simp
@[simp] theorem State.toWideHalf_eth (n : Nat) : (s.toWideHalf n).eth = s.eth := by unfold State.toWideHalf; split <;> simp
@[simp] theorem State.toWideHalf_tsk (n : Nat) : (s.toWideHalf n).tsk = s.tsk := by unfold State.toWideHalf; split <;> simp
@[simp] theorem State.toWideHalf_hif (n : Nat) : (s.toWideHalf n).hif = s.hif := by unfold State.toWideHalf; split <;> simp
@[simp] theorem State.toWideHalf_ciptx (n : Nat) : (s.toWideHalf n).ciptx = s.ciptx := by unfold State.toWideHalf; split <;> simp
@[simp] theorem State.toWideHalf_reports (n : Nat) : (s.toWideHalf n).reports = s.reports := by unfold State.toWideHalf; split <;> simp
@[simp] theorem State.toWideHalf_cipq (n : Nat) : (s.toWideHalf n).cipq = s.cipq := by unfold State.toWideHalf; split <;> simp
@[simp] theorem State.toWideHalf_mlkq (n : Nat) : (s.toWideHalf n).mlkq = s.mlkq := by unfold State.toWideHalf; split <;> simp
@[simp] theorem State.toWideHalf_prsq (n : Nat) : (s.toWideHalf n).prsq = s.prsq := by unfold State.toWideHalf; split <;> simp
@[simp] theorem State.toWideHalf_flt (n : Nat) : (s.toWideHalf n).flt = s.flt := by unfold State.toWideHalf; split <;> simp
@[simp] theorem State.toWideHalf_rtc (n : Nat) : (s.toWideHalf n).rtc = s.rtc := by unfold State.toWideHalf; split <;> simp
@[simp] theorem State.toWideHalf_itt (n : Nat) : (s.toWideHalf n).itt = s.itt := by unfold State.toWideHalf; split <;> simp
@[simp] theorem State.toWideHalf_upd (n : Nat) : (s.toWideHalf n).upd = s.upd := by unfold State.toWideHalf; split <;> simp
@[simp] theorem State.toWideHalf_jrn (n : Nat) : (s.toWideHalf n).jrn = s.jrn := by unfold State.toWideHalf; split <;> simp
@[simp] theorem State.toWideHalf_thal (n : Nat) : (s.toWideHalf n).thal = s.thal := by unfold State.toWideHalf; split <;> simp
@[simp] theorem State.toWideHalf_dmc (n : Nat) : (s.toWideHalf n).dmc = s.dmc := by unfold State.toWideHalf; split <;> simp
@[simp] theorem State.toWideHalf_pwr (n : Nat) : (s.toWideHalf n).pwr = s.pwr := by unfold State.toWideHalf; split <;> simp
@[simp] theorem State.toWideHalf_chk (n : Nat) : (s.toWideHalf n).chk = s.chk := by unfold State.toWideHalf; split <;> simp
@[simp] theorem State.toWideHalf_frn (n : Nat) : (s.toWideHalf n).frn = s.frn := by unfold State.toWideHalf; split <;> simp
@[simp] theorem State.toWideHalf_rxq (n : Nat) : (s.toWideHalf n).rxq = s.rxq := by unfold State.toWideHalf; split <;> simp
@[simp] theorem State.toWideHalf_retq (n : Nat) : (s.toWideHalf n).retq = s.retq := by unfold State.toWideHalf; split <;> simp
@[simp] theorem State.toWideHalf_blk (n : Nat) : (s.toWideHalf n).blk = s.blk := by unfold State.toWideHalf; split <;> simp
@[simp] theorem State.toWideHalf_seqEvs (n : Nat) : (s.toWideHalf n).seqEvs = s.seqEvs := by unfold State.toWideHalf; split <;> simp
@[simp] theorem State.toWideHalf_wrHold (n : Nat) : (s.toWideHalf n).wrHold = s.wrHold := by unfold State.toWideHalf; split <;> simp
@[simp] theorem State.toWideHalf_rdHold (n : Nat) : (s.toWideHalf n).rdHold = s.rdHold := by unfold State.toWideHalf; split <;> simp
@[simp] theorem State.toWideHalf_linkFails (n : Nat) : (s.toWideHalf n).linkFails = s.linkFails := by unfold State.toWideHalf; split <;> simp
@[simp] theorem State.toWideHalf_stir (n : Nat) : (s.toWideHalf n).stir = s.stir := by unfold State.toWideHalf; split <;> simp

/-! ### State.toAbsTick -/

@[simp] theorem State.toAbsTick_pending (n : Nat) : (s.toAbsTick n).pending = s.pending := by simp [State.toAbsTick]
@[simp] theorem State.toAbsTick_regs (n : Nat) : (s.toAbsTick n).regs = s.regs := by simp [State.toAbsTick]
@[simp] theorem State.toAbsTick_freeCtr (n : Nat) : (s.toAbsTick n).freeCtr = s.freeCtr := by simp [State.toAbsTick]
@[simp] theorem State.toAbsTick_hostRd (n : Nat) : (s.toAbsTick n).hostRd = s.hostRd := by simp [State.toAbsTick]
@[simp] theorem State.toAbsTick_out (n : Nat) : (s.toAbsTick n).out = s.out := by simp [State.toAbsTick]
@[simp] theorem State.toAbsTick_bar (n : Nat) : (s.toAbsTick n).bar = s.bar := by simp [State.toAbsTick]
@[simp] theorem State.toAbsTick_ctx (n : Nat) : (s.toAbsTick n).ctx = s.ctx := by simp [State.toAbsTick]
@[simp] theorem State.toAbsTick_mlk (n : Nat) : (s.toAbsTick n).mlk = s.mlk := by simp [State.toAbsTick]
@[simp] theorem State.toAbsTick_acc (n : Nat) : (s.toAbsTick n).acc = s.acc := by simp [State.toAbsTick]
@[simp] theorem State.toAbsTick_mlkx (n : Nat) : (s.toAbsTick n).mlkx = s.mlkx := by simp [State.toAbsTick]
@[simp] theorem State.toAbsTick_fld (n : Nat) : (s.toAbsTick n).fld = s.fld := by simp [State.toAbsTick]
@[simp] theorem State.toAbsTick_clu (n : Nat) : (s.toAbsTick n).clu = s.clu := by simp [State.toAbsTick]
@[simp] theorem State.toAbsTick_key (n : Nat) : (s.toAbsTick n).key = s.key := by simp [State.toAbsTick]
@[simp] theorem State.toAbsTick_prs (n : Nat) : (s.toAbsTick n).prs = s.prs := by simp [State.toAbsTick]
@[simp] theorem State.toAbsTick_eth (n : Nat) : (s.toAbsTick n).eth = s.eth := by simp [State.toAbsTick]
@[simp] theorem State.toAbsTick_tsk (n : Nat) : (s.toAbsTick n).tsk = s.tsk := by simp [State.toAbsTick]
@[simp] theorem State.toAbsTick_hif (n : Nat) : (s.toAbsTick n).hif = s.hif := by simp [State.toAbsTick]
@[simp] theorem State.toAbsTick_ciptx (n : Nat) : (s.toAbsTick n).ciptx = s.ciptx := by simp [State.toAbsTick]
@[simp] theorem State.toAbsTick_reports (n : Nat) : (s.toAbsTick n).reports = s.reports := by simp [State.toAbsTick]
@[simp] theorem State.toAbsTick_cipq (n : Nat) : (s.toAbsTick n).cipq = s.cipq := by simp [State.toAbsTick]
@[simp] theorem State.toAbsTick_mlkq (n : Nat) : (s.toAbsTick n).mlkq = s.mlkq := by simp [State.toAbsTick]
@[simp] theorem State.toAbsTick_prsq (n : Nat) : (s.toAbsTick n).prsq = s.prsq := by simp [State.toAbsTick]
@[simp] theorem State.toAbsTick_flt (n : Nat) : (s.toAbsTick n).flt = s.flt := by simp [State.toAbsTick]
@[simp] theorem State.toAbsTick_rtc (n : Nat) : (s.toAbsTick n).rtc = s.rtc := by simp [State.toAbsTick]
@[simp] theorem State.toAbsTick_itt (n : Nat) : (s.toAbsTick n).itt = s.itt := by simp [State.toAbsTick]
@[simp] theorem State.toAbsTick_upd (n : Nat) : (s.toAbsTick n).upd = s.upd := by simp [State.toAbsTick]
@[simp] theorem State.toAbsTick_jrn (n : Nat) : (s.toAbsTick n).jrn = s.jrn := by simp [State.toAbsTick]
@[simp] theorem State.toAbsTick_thal (n : Nat) : (s.toAbsTick n).thal = s.thal := by simp [State.toAbsTick]
@[simp] theorem State.toAbsTick_dmc (n : Nat) : (s.toAbsTick n).dmc = s.dmc := by simp [State.toAbsTick]
@[simp] theorem State.toAbsTick_pwr (n : Nat) : (s.toAbsTick n).pwr = s.pwr := by simp [State.toAbsTick]
@[simp] theorem State.toAbsTick_chk (n : Nat) : (s.toAbsTick n).chk = s.chk := by simp [State.toAbsTick]
@[simp] theorem State.toAbsTick_frn (n : Nat) : (s.toAbsTick n).frn = s.frn := by simp [State.toAbsTick]
@[simp] theorem State.toAbsTick_rxq (n : Nat) : (s.toAbsTick n).rxq = s.rxq := by simp [State.toAbsTick]
@[simp] theorem State.toAbsTick_retq (n : Nat) : (s.toAbsTick n).retq = s.retq := by simp [State.toAbsTick]
@[simp] theorem State.toAbsTick_blk (n : Nat) : (s.toAbsTick n).blk = s.blk := by simp [State.toAbsTick]
@[simp] theorem State.toAbsTick_seqEvs (n : Nat) : (s.toAbsTick n).seqEvs = s.seqEvs := by simp [State.toAbsTick]
@[simp] theorem State.toAbsTick_wrHold (n : Nat) : (s.toAbsTick n).wrHold = s.wrHold := by simp [State.toAbsTick]
@[simp] theorem State.toAbsTick_rdHold (n : Nat) : (s.toAbsTick n).rdHold = s.rdHold := by simp [State.toAbsTick]
@[simp] theorem State.toAbsTick_linkFails (n : Nat) : (s.toAbsTick n).linkFails = s.linkFails := by simp [State.toAbsTick]
@[simp] theorem State.toAbsTick_stir (n : Nat) : (s.toAbsTick n).stir = s.stir := by simp [State.toAbsTick]

/-! ### State.raiseSrc -/

@[simp] theorem State.raiseSrc_pending (a b c : Nat) : (s.raiseSrc a b c).pending = s.pending := by
  unfold State.raiseSrc
  split
  · split <;> simp
  · rfl
@[simp] theorem State.raiseSrc_ref (a b c : Nat) : (s.raiseSrc a b c).ref = s.ref := by
  unfold State.raiseSrc
  split
  · split <;> simp
  · rfl
@[simp] theorem State.raiseSrc_freeCtr (a b c : Nat) : (s.raiseSrc a b c).freeCtr = s.freeCtr := by
  unfold State.raiseSrc
  split
  · split <;> simp
  · rfl
@[simp] theorem State.raiseSrc_hostRd (a b c : Nat) : (s.raiseSrc a b c).hostRd = s.hostRd := by
  unfold State.raiseSrc
  split
  · split <;> simp
  · rfl
@[simp] theorem State.raiseSrc_out (a b c : Nat) : (s.raiseSrc a b c).out = s.out := by
  unfold State.raiseSrc
  split
  · split <;> simp
  · rfl
@[simp] theorem State.raiseSrc_bar (a b c : Nat) : (s.raiseSrc a b c).bar = s.bar := by
  unfold State.raiseSrc
  split
  · split <;> simp
  · rfl
@[simp] theorem State.raiseSrc_ctx (a b c : Nat) : (s.raiseSrc a b c).ctx = s.ctx := by
  unfold State.raiseSrc
  split
  · split <;> simp
  · rfl
@[simp] theorem State.raiseSrc_mlk (a b c : Nat) : (s.raiseSrc a b c).mlk = s.mlk := by
  unfold State.raiseSrc
  split
  · split <;> simp
  · rfl
@[simp] theorem State.raiseSrc_acc (a b c : Nat) : (s.raiseSrc a b c).acc = s.acc := by
  unfold State.raiseSrc
  split
  · split <;> simp
  · rfl
@[simp] theorem State.raiseSrc_mlkx (a b c : Nat) : (s.raiseSrc a b c).mlkx = s.mlkx := by
  unfold State.raiseSrc
  split
  · split <;> simp
  · rfl
@[simp] theorem State.raiseSrc_fld (a b c : Nat) : (s.raiseSrc a b c).fld = s.fld := by
  unfold State.raiseSrc
  split
  · split <;> simp
  · rfl
@[simp] theorem State.raiseSrc_clu (a b c : Nat) : (s.raiseSrc a b c).clu = s.clu := by
  unfold State.raiseSrc
  split
  · split <;> simp
  · rfl
@[simp] theorem State.raiseSrc_key (a b c : Nat) : (s.raiseSrc a b c).key = s.key := by
  unfold State.raiseSrc
  split
  · split <;> simp
  · rfl
@[simp] theorem State.raiseSrc_prs (a b c : Nat) : (s.raiseSrc a b c).prs = s.prs := by
  unfold State.raiseSrc
  split
  · split <;> simp
  · rfl
@[simp] theorem State.raiseSrc_eth (a b c : Nat) : (s.raiseSrc a b c).eth = s.eth := by
  unfold State.raiseSrc
  split
  · split <;> simp
  · rfl
@[simp] theorem State.raiseSrc_tsk (a b c : Nat) : (s.raiseSrc a b c).tsk = s.tsk := by
  unfold State.raiseSrc
  split
  · split <;> simp
  · rfl
@[simp] theorem State.raiseSrc_hif (a b c : Nat) : (s.raiseSrc a b c).hif = s.hif := by
  unfold State.raiseSrc
  split
  · split <;> simp
  · rfl
@[simp] theorem State.raiseSrc_ciptx (a b c : Nat) : (s.raiseSrc a b c).ciptx = s.ciptx := by
  unfold State.raiseSrc
  split
  · split <;> simp
  · rfl
@[simp] theorem State.raiseSrc_reports (a b c : Nat) : (s.raiseSrc a b c).reports = s.reports := by
  unfold State.raiseSrc
  split
  · split <;> simp
  · rfl
@[simp] theorem State.raiseSrc_cipq (a b c : Nat) : (s.raiseSrc a b c).cipq = s.cipq := by
  unfold State.raiseSrc
  split
  · split <;> simp
  · rfl
@[simp] theorem State.raiseSrc_mlkq (a b c : Nat) : (s.raiseSrc a b c).mlkq = s.mlkq := by
  unfold State.raiseSrc
  split
  · split <;> simp
  · rfl
@[simp] theorem State.raiseSrc_prsq (a b c : Nat) : (s.raiseSrc a b c).prsq = s.prsq := by
  unfold State.raiseSrc
  split
  · split <;> simp
  · rfl
@[simp] theorem State.raiseSrc_spn (a b c : Nat) : (s.raiseSrc a b c).spn = s.spn := by
  unfold State.raiseSrc
  split
  · split <;> simp
  · rfl
@[simp] theorem State.raiseSrc_rtc (a b c : Nat) : (s.raiseSrc a b c).rtc = s.rtc := by
  unfold State.raiseSrc
  split
  · split <;> simp
  · rfl
@[simp] theorem State.raiseSrc_itt (a b c : Nat) : (s.raiseSrc a b c).itt = s.itt := by
  unfold State.raiseSrc
  split
  · split <;> simp
  · rfl
@[simp] theorem State.raiseSrc_upd (a b c : Nat) : (s.raiseSrc a b c).upd = s.upd := by
  unfold State.raiseSrc
  split
  · split <;> simp
  · rfl
@[simp] theorem State.raiseSrc_jrn (a b c : Nat) : (s.raiseSrc a b c).jrn = s.jrn := by
  unfold State.raiseSrc
  split
  · split <;> simp
  · rfl
@[simp] theorem State.raiseSrc_thal (a b c : Nat) : (s.raiseSrc a b c).thal = s.thal := by
  unfold State.raiseSrc
  split
  · split <;> simp
  · rfl
@[simp] theorem State.raiseSrc_dmc (a b c : Nat) : (s.raiseSrc a b c).dmc = s.dmc := by
  unfold State.raiseSrc
  split
  · split <;> simp
  · rfl
@[simp] theorem State.raiseSrc_pwr (a b c : Nat) : (s.raiseSrc a b c).pwr = s.pwr := by
  unfold State.raiseSrc
  split
  · split <;> simp
  · rfl
@[simp] theorem State.raiseSrc_chk (a b c : Nat) : (s.raiseSrc a b c).chk = s.chk := by
  unfold State.raiseSrc
  split
  · split <;> simp
  · rfl
@[simp] theorem State.raiseSrc_frn (a b c : Nat) : (s.raiseSrc a b c).frn = s.frn := by
  unfold State.raiseSrc
  split
  · split <;> simp
  · rfl
@[simp] theorem State.raiseSrc_rxq (a b c : Nat) : (s.raiseSrc a b c).rxq = s.rxq := by
  unfold State.raiseSrc
  split
  · split <;> simp
  · rfl
@[simp] theorem State.raiseSrc_retq (a b c : Nat) : (s.raiseSrc a b c).retq = s.retq := by
  unfold State.raiseSrc
  split
  · split <;> simp
  · rfl
@[simp] theorem State.raiseSrc_blk (a b c : Nat) : (s.raiseSrc a b c).blk = s.blk := by
  unfold State.raiseSrc
  split
  · split <;> simp
  · rfl
@[simp] theorem State.raiseSrc_seqEvs (a b c : Nat) : (s.raiseSrc a b c).seqEvs = s.seqEvs := by
  unfold State.raiseSrc
  split
  · split <;> simp
  · rfl
@[simp] theorem State.raiseSrc_wrHold (a b c : Nat) : (s.raiseSrc a b c).wrHold = s.wrHold := by
  unfold State.raiseSrc
  split
  · split <;> simp
  · rfl
@[simp] theorem State.raiseSrc_rdHold (a b c : Nat) : (s.raiseSrc a b c).rdHold = s.rdHold := by
  unfold State.raiseSrc
  split
  · split <;> simp
  · rfl
@[simp] theorem State.raiseSrc_linkFails (a b c : Nat) : (s.raiseSrc a b c).linkFails = s.linkFails := by
  unfold State.raiseSrc
  split
  · split <;> simp
  · rfl
@[simp] theorem State.raiseSrc_stir (a b c : Nat) : (s.raiseSrc a b c).stir = s.stir := by
  unfold State.raiseSrc
  split
  · split <;> simp
  · rfl

/-! ### State.raiseD -/

@[simp] theorem State.raiseD_pending (f : Fld) (d : Nat) : (s.raiseD f d).pending = s.pending := by unfold State.raiseD; split <;> simp
@[simp] theorem State.raiseD_ref (f : Fld) (d : Nat) : (s.raiseD f d).ref = s.ref := by unfold State.raiseD; split <;> simp
@[simp] theorem State.raiseD_freeCtr (f : Fld) (d : Nat) : (s.raiseD f d).freeCtr = s.freeCtr := by unfold State.raiseD; split <;> simp
@[simp] theorem State.raiseD_hostRd (f : Fld) (d : Nat) : (s.raiseD f d).hostRd = s.hostRd := by unfold State.raiseD; split <;> simp
@[simp] theorem State.raiseD_out (f : Fld) (d : Nat) : (s.raiseD f d).out = s.out := by unfold State.raiseD; split <;> simp
@[simp] theorem State.raiseD_bar (f : Fld) (d : Nat) : (s.raiseD f d).bar = s.bar := by unfold State.raiseD; split <;> simp
@[simp] theorem State.raiseD_ctx (f : Fld) (d : Nat) : (s.raiseD f d).ctx = s.ctx := by unfold State.raiseD; split <;> simp
@[simp] theorem State.raiseD_mlk (f : Fld) (d : Nat) : (s.raiseD f d).mlk = s.mlk := by unfold State.raiseD; split <;> simp
@[simp] theorem State.raiseD_acc (f : Fld) (d : Nat) : (s.raiseD f d).acc = s.acc := by unfold State.raiseD; split <;> simp
@[simp] theorem State.raiseD_mlkx (f : Fld) (d : Nat) : (s.raiseD f d).mlkx = s.mlkx := by unfold State.raiseD; split <;> simp
@[simp] theorem State.raiseD_fld (f : Fld) (d : Nat) : (s.raiseD f d).fld = s.fld := by unfold State.raiseD; split <;> simp
@[simp] theorem State.raiseD_clu (f : Fld) (d : Nat) : (s.raiseD f d).clu = s.clu := by unfold State.raiseD; split <;> simp
@[simp] theorem State.raiseD_key (f : Fld) (d : Nat) : (s.raiseD f d).key = s.key := by unfold State.raiseD; split <;> simp
@[simp] theorem State.raiseD_prs (f : Fld) (d : Nat) : (s.raiseD f d).prs = s.prs := by unfold State.raiseD; split <;> simp
@[simp] theorem State.raiseD_eth (f : Fld) (d : Nat) : (s.raiseD f d).eth = s.eth := by unfold State.raiseD; split <;> simp
@[simp] theorem State.raiseD_tsk (f : Fld) (d : Nat) : (s.raiseD f d).tsk = s.tsk := by unfold State.raiseD; split <;> simp
@[simp] theorem State.raiseD_hif (f : Fld) (d : Nat) : (s.raiseD f d).hif = s.hif := by unfold State.raiseD; split <;> simp
@[simp] theorem State.raiseD_ciptx (f : Fld) (d : Nat) : (s.raiseD f d).ciptx = s.ciptx := by unfold State.raiseD; split <;> simp
@[simp] theorem State.raiseD_reports (f : Fld) (d : Nat) : (s.raiseD f d).reports = s.reports := by unfold State.raiseD; split <;> simp
@[simp] theorem State.raiseD_cipq (f : Fld) (d : Nat) : (s.raiseD f d).cipq = s.cipq := by unfold State.raiseD; split <;> simp
@[simp] theorem State.raiseD_mlkq (f : Fld) (d : Nat) : (s.raiseD f d).mlkq = s.mlkq := by unfold State.raiseD; split <;> simp
@[simp] theorem State.raiseD_prsq (f : Fld) (d : Nat) : (s.raiseD f d).prsq = s.prsq := by unfold State.raiseD; split <;> simp
@[simp] theorem State.raiseD_spn (f : Fld) (d : Nat) : (s.raiseD f d).spn = s.spn := by unfold State.raiseD; split <;> simp
@[simp] theorem State.raiseD_rtc (f : Fld) (d : Nat) : (s.raiseD f d).rtc = s.rtc := by unfold State.raiseD; split <;> simp
@[simp] theorem State.raiseD_itt (f : Fld) (d : Nat) : (s.raiseD f d).itt = s.itt := by unfold State.raiseD; split <;> simp
@[simp] theorem State.raiseD_upd (f : Fld) (d : Nat) : (s.raiseD f d).upd = s.upd := by unfold State.raiseD; split <;> simp
@[simp] theorem State.raiseD_jrn (f : Fld) (d : Nat) : (s.raiseD f d).jrn = s.jrn := by unfold State.raiseD; split <;> simp
@[simp] theorem State.raiseD_thal (f : Fld) (d : Nat) : (s.raiseD f d).thal = s.thal := by unfold State.raiseD; split <;> simp
@[simp] theorem State.raiseD_dmc (f : Fld) (d : Nat) : (s.raiseD f d).dmc = s.dmc := by unfold State.raiseD; split <;> simp
@[simp] theorem State.raiseD_pwr (f : Fld) (d : Nat) : (s.raiseD f d).pwr = s.pwr := by unfold State.raiseD; split <;> simp
@[simp] theorem State.raiseD_chk (f : Fld) (d : Nat) : (s.raiseD f d).chk = s.chk := by unfold State.raiseD; split <;> simp
@[simp] theorem State.raiseD_frn (f : Fld) (d : Nat) : (s.raiseD f d).frn = s.frn := by unfold State.raiseD; split <;> simp
@[simp] theorem State.raiseD_rxq (f : Fld) (d : Nat) : (s.raiseD f d).rxq = s.rxq := by unfold State.raiseD; split <;> simp
@[simp] theorem State.raiseD_retq (f : Fld) (d : Nat) : (s.raiseD f d).retq = s.retq := by unfold State.raiseD; split <;> simp
@[simp] theorem State.raiseD_blk (f : Fld) (d : Nat) : (s.raiseD f d).blk = s.blk := by unfold State.raiseD; split <;> simp
@[simp] theorem State.raiseD_seqEvs (f : Fld) (d : Nat) : (s.raiseD f d).seqEvs = s.seqEvs := by unfold State.raiseD; split <;> simp
@[simp] theorem State.raiseD_wrHold (f : Fld) (d : Nat) : (s.raiseD f d).wrHold = s.wrHold := by unfold State.raiseD; split <;> simp
@[simp] theorem State.raiseD_rdHold (f : Fld) (d : Nat) : (s.raiseD f d).rdHold = s.rdHold := by unfold State.raiseD; split <;> simp
@[simp] theorem State.raiseD_linkFails (f : Fld) (d : Nat) : (s.raiseD f d).linkFails = s.linkFails := by unfold State.raiseD; split <;> simp
@[simp] theorem State.raiseD_stir (f : Fld) (d : Nat) : (s.raiseD f d).stir = s.stir := by unfold State.raiseD; split <;> simp

/-! ### State.raise -/

@[simp] theorem State.raise_pending (f : Fld) : (s.raise f).pending = s.pending := by simp [State.raise]
@[simp] theorem State.raise_ref (f : Fld) : (s.raise f).ref = s.ref := by simp [State.raise]
@[simp] theorem State.raise_freeCtr (f : Fld) : (s.raise f).freeCtr = s.freeCtr := by simp [State.raise]
@[simp] theorem State.raise_hostRd (f : Fld) : (s.raise f).hostRd = s.hostRd := by simp [State.raise]
@[simp] theorem State.raise_out (f : Fld) : (s.raise f).out = s.out := by simp [State.raise]
@[simp] theorem State.raise_bar (f : Fld) : (s.raise f).bar = s.bar := by simp [State.raise]
@[simp] theorem State.raise_ctx (f : Fld) : (s.raise f).ctx = s.ctx := by simp [State.raise]
@[simp] theorem State.raise_mlk (f : Fld) : (s.raise f).mlk = s.mlk := by simp [State.raise]
@[simp] theorem State.raise_acc (f : Fld) : (s.raise f).acc = s.acc := by simp [State.raise]
@[simp] theorem State.raise_mlkx (f : Fld) : (s.raise f).mlkx = s.mlkx := by simp [State.raise]
@[simp] theorem State.raise_fld (f : Fld) : (s.raise f).fld = s.fld := by simp [State.raise]
@[simp] theorem State.raise_clu (f : Fld) : (s.raise f).clu = s.clu := by simp [State.raise]
@[simp] theorem State.raise_key (f : Fld) : (s.raise f).key = s.key := by simp [State.raise]
@[simp] theorem State.raise_prs (f : Fld) : (s.raise f).prs = s.prs := by simp [State.raise]
@[simp] theorem State.raise_eth (f : Fld) : (s.raise f).eth = s.eth := by simp [State.raise]
@[simp] theorem State.raise_tsk (f : Fld) : (s.raise f).tsk = s.tsk := by simp [State.raise]
@[simp] theorem State.raise_hif (f : Fld) : (s.raise f).hif = s.hif := by simp [State.raise]
@[simp] theorem State.raise_ciptx (f : Fld) : (s.raise f).ciptx = s.ciptx := by simp [State.raise]
@[simp] theorem State.raise_reports (f : Fld) : (s.raise f).reports = s.reports := by simp [State.raise]
@[simp] theorem State.raise_cipq (f : Fld) : (s.raise f).cipq = s.cipq := by simp [State.raise]
@[simp] theorem State.raise_mlkq (f : Fld) : (s.raise f).mlkq = s.mlkq := by simp [State.raise]
@[simp] theorem State.raise_prsq (f : Fld) : (s.raise f).prsq = s.prsq := by simp [State.raise]
@[simp] theorem State.raise_spn (f : Fld) : (s.raise f).spn = s.spn := by simp [State.raise]
@[simp] theorem State.raise_rtc (f : Fld) : (s.raise f).rtc = s.rtc := by simp [State.raise]
@[simp] theorem State.raise_itt (f : Fld) : (s.raise f).itt = s.itt := by simp [State.raise]
@[simp] theorem State.raise_upd (f : Fld) : (s.raise f).upd = s.upd := by simp [State.raise]
@[simp] theorem State.raise_jrn (f : Fld) : (s.raise f).jrn = s.jrn := by simp [State.raise]
@[simp] theorem State.raise_thal (f : Fld) : (s.raise f).thal = s.thal := by simp [State.raise]
@[simp] theorem State.raise_dmc (f : Fld) : (s.raise f).dmc = s.dmc := by simp [State.raise]
@[simp] theorem State.raise_pwr (f : Fld) : (s.raise f).pwr = s.pwr := by simp [State.raise]
@[simp] theorem State.raise_chk (f : Fld) : (s.raise f).chk = s.chk := by simp [State.raise]
@[simp] theorem State.raise_frn (f : Fld) : (s.raise f).frn = s.frn := by simp [State.raise]
@[simp] theorem State.raise_rxq (f : Fld) : (s.raise f).rxq = s.rxq := by simp [State.raise]
@[simp] theorem State.raise_retq (f : Fld) : (s.raise f).retq = s.retq := by simp [State.raise]
@[simp] theorem State.raise_blk (f : Fld) : (s.raise f).blk = s.blk := by simp [State.raise]
@[simp] theorem State.raise_seqEvs (f : Fld) : (s.raise f).seqEvs = s.seqEvs := by simp [State.raise]
@[simp] theorem State.raise_wrHold (f : Fld) : (s.raise f).wrHold = s.wrHold := by simp [State.raise]
@[simp] theorem State.raise_rdHold (f : Fld) : (s.raise f).rdHold = s.rdHold := by simp [State.raise]
@[simp] theorem State.raise_linkFails (f : Fld) : (s.raise f).linkFails = s.linkFails := by simp [State.raise]
@[simp] theorem State.raise_stir (f : Fld) : (s.raise f).stir = s.stir := by simp [State.raise]

/-! ### State.raiseIf -/

@[simp] theorem State.raiseIf_pending (c : Bool) (f : Fld) : (s.raiseIf c f).pending = s.pending := by unfold State.raiseIf; split <;> simp
@[simp] theorem State.raiseIf_ref (c : Bool) (f : Fld) : (s.raiseIf c f).ref = s.ref := by unfold State.raiseIf; split <;> simp
@[simp] theorem State.raiseIf_freeCtr (c : Bool) (f : Fld) : (s.raiseIf c f).freeCtr = s.freeCtr := by unfold State.raiseIf; split <;> simp
@[simp] theorem State.raiseIf_hostRd (c : Bool) (f : Fld) : (s.raiseIf c f).hostRd = s.hostRd := by unfold State.raiseIf; split <;> simp
@[simp] theorem State.raiseIf_out (c : Bool) (f : Fld) : (s.raiseIf c f).out = s.out := by unfold State.raiseIf; split <;> simp
@[simp] theorem State.raiseIf_bar (c : Bool) (f : Fld) : (s.raiseIf c f).bar = s.bar := by unfold State.raiseIf; split <;> simp
@[simp] theorem State.raiseIf_ctx (c : Bool) (f : Fld) : (s.raiseIf c f).ctx = s.ctx := by unfold State.raiseIf; split <;> simp
@[simp] theorem State.raiseIf_mlk (c : Bool) (f : Fld) : (s.raiseIf c f).mlk = s.mlk := by unfold State.raiseIf; split <;> simp
@[simp] theorem State.raiseIf_acc (c : Bool) (f : Fld) : (s.raiseIf c f).acc = s.acc := by unfold State.raiseIf; split <;> simp
@[simp] theorem State.raiseIf_mlkx (c : Bool) (f : Fld) : (s.raiseIf c f).mlkx = s.mlkx := by unfold State.raiseIf; split <;> simp
@[simp] theorem State.raiseIf_fld (c : Bool) (f : Fld) : (s.raiseIf c f).fld = s.fld := by unfold State.raiseIf; split <;> simp
@[simp] theorem State.raiseIf_clu (c : Bool) (f : Fld) : (s.raiseIf c f).clu = s.clu := by unfold State.raiseIf; split <;> simp
@[simp] theorem State.raiseIf_key (c : Bool) (f : Fld) : (s.raiseIf c f).key = s.key := by unfold State.raiseIf; split <;> simp
@[simp] theorem State.raiseIf_prs (c : Bool) (f : Fld) : (s.raiseIf c f).prs = s.prs := by unfold State.raiseIf; split <;> simp
@[simp] theorem State.raiseIf_eth (c : Bool) (f : Fld) : (s.raiseIf c f).eth = s.eth := by unfold State.raiseIf; split <;> simp
@[simp] theorem State.raiseIf_tsk (c : Bool) (f : Fld) : (s.raiseIf c f).tsk = s.tsk := by unfold State.raiseIf; split <;> simp
@[simp] theorem State.raiseIf_hif (c : Bool) (f : Fld) : (s.raiseIf c f).hif = s.hif := by unfold State.raiseIf; split <;> simp
@[simp] theorem State.raiseIf_ciptx (c : Bool) (f : Fld) : (s.raiseIf c f).ciptx = s.ciptx := by unfold State.raiseIf; split <;> simp
@[simp] theorem State.raiseIf_reports (c : Bool) (f : Fld) : (s.raiseIf c f).reports = s.reports := by unfold State.raiseIf; split <;> simp
@[simp] theorem State.raiseIf_cipq (c : Bool) (f : Fld) : (s.raiseIf c f).cipq = s.cipq := by unfold State.raiseIf; split <;> simp
@[simp] theorem State.raiseIf_mlkq (c : Bool) (f : Fld) : (s.raiseIf c f).mlkq = s.mlkq := by unfold State.raiseIf; split <;> simp
@[simp] theorem State.raiseIf_prsq (c : Bool) (f : Fld) : (s.raiseIf c f).prsq = s.prsq := by unfold State.raiseIf; split <;> simp
@[simp] theorem State.raiseIf_spn (c : Bool) (f : Fld) : (s.raiseIf c f).spn = s.spn := by unfold State.raiseIf; split <;> simp
@[simp] theorem State.raiseIf_rtc (c : Bool) (f : Fld) : (s.raiseIf c f).rtc = s.rtc := by unfold State.raiseIf; split <;> simp
@[simp] theorem State.raiseIf_itt (c : Bool) (f : Fld) : (s.raiseIf c f).itt = s.itt := by unfold State.raiseIf; split <;> simp
@[simp] theorem State.raiseIf_upd (c : Bool) (f : Fld) : (s.raiseIf c f).upd = s.upd := by unfold State.raiseIf; split <;> simp
@[simp] theorem State.raiseIf_jrn (c : Bool) (f : Fld) : (s.raiseIf c f).jrn = s.jrn := by unfold State.raiseIf; split <;> simp
@[simp] theorem State.raiseIf_thal (c : Bool) (f : Fld) : (s.raiseIf c f).thal = s.thal := by unfold State.raiseIf; split <;> simp
@[simp] theorem State.raiseIf_dmc (c : Bool) (f : Fld) : (s.raiseIf c f).dmc = s.dmc := by unfold State.raiseIf; split <;> simp
@[simp] theorem State.raiseIf_pwr (c : Bool) (f : Fld) : (s.raiseIf c f).pwr = s.pwr := by unfold State.raiseIf; split <;> simp
@[simp] theorem State.raiseIf_chk (c : Bool) (f : Fld) : (s.raiseIf c f).chk = s.chk := by unfold State.raiseIf; split <;> simp
@[simp] theorem State.raiseIf_frn (c : Bool) (f : Fld) : (s.raiseIf c f).frn = s.frn := by unfold State.raiseIf; split <;> simp
@[simp] theorem State.raiseIf_rxq (c : Bool) (f : Fld) : (s.raiseIf c f).rxq = s.rxq := by unfold State.raiseIf; split <;> simp
@[simp] theorem State.raiseIf_retq (c : Bool) (f : Fld) : (s.raiseIf c f).retq = s.retq := by unfold State.raiseIf; split <;> simp
@[simp] theorem State.raiseIf_blk (c : Bool) (f : Fld) : (s.raiseIf c f).blk = s.blk := by unfold State.raiseIf; split <;> simp
@[simp] theorem State.raiseIf_seqEvs (c : Bool) (f : Fld) : (s.raiseIf c f).seqEvs = s.seqEvs := by unfold State.raiseIf; split <;> simp
@[simp] theorem State.raiseIf_wrHold (c : Bool) (f : Fld) : (s.raiseIf c f).wrHold = s.wrHold := by unfold State.raiseIf; split <;> simp
@[simp] theorem State.raiseIf_rdHold (c : Bool) (f : Fld) : (s.raiseIf c f).rdHold = s.rdHold := by unfold State.raiseIf; split <;> simp
@[simp] theorem State.raiseIf_linkFails (c : Bool) (f : Fld) : (s.raiseIf c f).linkFails = s.linkFails := by unfold State.raiseIf; split <;> simp
@[simp] theorem State.raiseIf_stir (c : Bool) (f : Fld) : (s.raiseIf c f).stir = s.stir := by unfold State.raiseIf; split <;> simp

/-! ### State.hostWrote -/

@[simp] theorem State.hostWrote_pending (a : Nat) : (s.hostWrote a).pending = s.pending := rfl
@[simp] theorem State.hostWrote_regs (a : Nat) : (s.hostWrote a).regs = s.regs := rfl
@[simp] theorem State.hostWrote_ref (a : Nat) : (s.hostWrote a).ref = s.ref := rfl
@[simp] theorem State.hostWrote_freeCtr (a : Nat) : (s.hostWrote a).freeCtr = s.freeCtr := rfl
@[simp] theorem State.hostWrote_hostRd (a : Nat) : (s.hostWrote a).hostRd = s.hostRd := rfl
@[simp] theorem State.hostWrote_out (a : Nat) : (s.hostWrote a).out = s.out := rfl
@[simp] theorem State.hostWrote_bar (a : Nat) : (s.hostWrote a).bar = s.bar := rfl
@[simp] theorem State.hostWrote_ctx (a : Nat) : (s.hostWrote a).ctx = s.ctx := rfl
@[simp] theorem State.hostWrote_mlk (a : Nat) : (s.hostWrote a).mlk = s.mlk := rfl
@[simp] theorem State.hostWrote_acc (a : Nat) : (s.hostWrote a).acc = s.acc := rfl
@[simp] theorem State.hostWrote_mlkx (a : Nat) : (s.hostWrote a).mlkx = s.mlkx := rfl
@[simp] theorem State.hostWrote_fld (a : Nat) : (s.hostWrote a).fld = s.fld := rfl
@[simp] theorem State.hostWrote_key (a : Nat) : (s.hostWrote a).key = s.key := rfl
@[simp] theorem State.hostWrote_prs (a : Nat) : (s.hostWrote a).prs = s.prs := rfl
@[simp] theorem State.hostWrote_eth (a : Nat) : (s.hostWrote a).eth = s.eth := rfl
@[simp] theorem State.hostWrote_tsk (a : Nat) : (s.hostWrote a).tsk = s.tsk := rfl
@[simp] theorem State.hostWrote_hif (a : Nat) : (s.hostWrote a).hif = s.hif := rfl
@[simp] theorem State.hostWrote_ciptx (a : Nat) : (s.hostWrote a).ciptx = s.ciptx := rfl
@[simp] theorem State.hostWrote_reports (a : Nat) : (s.hostWrote a).reports = s.reports := rfl
@[simp] theorem State.hostWrote_cipq (a : Nat) : (s.hostWrote a).cipq = s.cipq := rfl
@[simp] theorem State.hostWrote_mlkq (a : Nat) : (s.hostWrote a).mlkq = s.mlkq := rfl
@[simp] theorem State.hostWrote_prsq (a : Nat) : (s.hostWrote a).prsq = s.prsq := rfl
@[simp] theorem State.hostWrote_spn (a : Nat) : (s.hostWrote a).spn = s.spn := rfl
@[simp] theorem State.hostWrote_rtc (a : Nat) : (s.hostWrote a).rtc = s.rtc := rfl
@[simp] theorem State.hostWrote_itt (a : Nat) : (s.hostWrote a).itt = s.itt := rfl
@[simp] theorem State.hostWrote_upd (a : Nat) : (s.hostWrote a).upd = s.upd := rfl
@[simp] theorem State.hostWrote_jrn (a : Nat) : (s.hostWrote a).jrn = s.jrn := rfl
@[simp] theorem State.hostWrote_thal (a : Nat) : (s.hostWrote a).thal = s.thal := rfl
@[simp] theorem State.hostWrote_dmc (a : Nat) : (s.hostWrote a).dmc = s.dmc := rfl
@[simp] theorem State.hostWrote_pwr (a : Nat) : (s.hostWrote a).pwr = s.pwr := rfl
@[simp] theorem State.hostWrote_chk (a : Nat) : (s.hostWrote a).chk = s.chk := rfl
@[simp] theorem State.hostWrote_frn (a : Nat) : (s.hostWrote a).frn = s.frn := rfl
@[simp] theorem State.hostWrote_rxq (a : Nat) : (s.hostWrote a).rxq = s.rxq := rfl
@[simp] theorem State.hostWrote_retq (a : Nat) : (s.hostWrote a).retq = s.retq := rfl
@[simp] theorem State.hostWrote_blk (a : Nat) : (s.hostWrote a).blk = s.blk := rfl
@[simp] theorem State.hostWrote_seqEvs (a : Nat) : (s.hostWrote a).seqEvs = s.seqEvs := rfl
@[simp] theorem State.hostWrote_wrHold (a : Nat) : (s.hostWrote a).wrHold = s.wrHold := rfl
@[simp] theorem State.hostWrote_rdHold (a : Nat) : (s.hostWrote a).rdHold = s.rdHold := rfl
@[simp] theorem State.hostWrote_linkFails (a : Nat) : (s.hostWrote a).linkFails = s.linkFails := rfl
@[simp] theorem State.hostWrote_stir (a : Nat) :
    (s.hostWrote a).stir = (s.stir || (decide (s.get PWR_STAT_STATE = 1) && stirs a)) := rfl

/-! ### State.accessErr -/

@[simp] theorem State.accessErr_pending : (s.accessErr).pending = s.pending := by simp [State.accessErr]
@[simp] theorem State.accessErr_ref : (s.accessErr).ref = s.ref := by simp [State.accessErr]
@[simp] theorem State.accessErr_freeCtr : (s.accessErr).freeCtr = s.freeCtr := by simp [State.accessErr]
@[simp] theorem State.accessErr_hostRd : (s.accessErr).hostRd = s.hostRd := by simp [State.accessErr]
@[simp] theorem State.accessErr_out : (s.accessErr).out = s.out := by simp [State.accessErr]
@[simp] theorem State.accessErr_bar : (s.accessErr).bar = s.bar := by simp [State.accessErr]
@[simp] theorem State.accessErr_ctx : (s.accessErr).ctx = s.ctx := by simp [State.accessErr]
@[simp] theorem State.accessErr_mlk : (s.accessErr).mlk = s.mlk := by simp [State.accessErr]
@[simp] theorem State.accessErr_acc : (s.accessErr).acc = s.acc := by simp [State.accessErr]
@[simp] theorem State.accessErr_mlkx : (s.accessErr).mlkx = s.mlkx := by simp [State.accessErr]
@[simp] theorem State.accessErr_fld : (s.accessErr).fld = s.fld := by simp [State.accessErr]
@[simp] theorem State.accessErr_clu : (s.accessErr).clu = s.clu := by simp [State.accessErr]
@[simp] theorem State.accessErr_key : (s.accessErr).key = s.key := by simp [State.accessErr]
@[simp] theorem State.accessErr_prs : (s.accessErr).prs = s.prs := by simp [State.accessErr]
@[simp] theorem State.accessErr_eth : (s.accessErr).eth = s.eth := by simp [State.accessErr]
@[simp] theorem State.accessErr_tsk : (s.accessErr).tsk = s.tsk := by simp [State.accessErr]
@[simp] theorem State.accessErr_hif : (s.accessErr).hif = s.hif := by simp [State.accessErr]
@[simp] theorem State.accessErr_ciptx : (s.accessErr).ciptx = s.ciptx := by simp [State.accessErr]
@[simp] theorem State.accessErr_reports : (s.accessErr).reports = s.reports := by simp [State.accessErr]
@[simp] theorem State.accessErr_cipq : (s.accessErr).cipq = s.cipq := by simp [State.accessErr]
@[simp] theorem State.accessErr_mlkq : (s.accessErr).mlkq = s.mlkq := by simp [State.accessErr]
@[simp] theorem State.accessErr_prsq : (s.accessErr).prsq = s.prsq := by simp [State.accessErr]
@[simp] theorem State.accessErr_spn : (s.accessErr).spn = s.spn := by simp [State.accessErr]
@[simp] theorem State.accessErr_rtc : (s.accessErr).rtc = s.rtc := by simp [State.accessErr]
@[simp] theorem State.accessErr_itt : (s.accessErr).itt = s.itt := by simp [State.accessErr]
@[simp] theorem State.accessErr_upd : (s.accessErr).upd = s.upd := by simp [State.accessErr]
@[simp] theorem State.accessErr_jrn : (s.accessErr).jrn = s.jrn := by simp [State.accessErr]
@[simp] theorem State.accessErr_thal : (s.accessErr).thal = s.thal := by simp [State.accessErr]
@[simp] theorem State.accessErr_dmc : (s.accessErr).dmc = s.dmc := by simp [State.accessErr]
@[simp] theorem State.accessErr_pwr : (s.accessErr).pwr = s.pwr := by simp [State.accessErr]
@[simp] theorem State.accessErr_chk : (s.accessErr).chk = s.chk := by simp [State.accessErr]
@[simp] theorem State.accessErr_frn : (s.accessErr).frn = s.frn := by simp [State.accessErr]
@[simp] theorem State.accessErr_rxq : (s.accessErr).rxq = s.rxq := by simp [State.accessErr]
@[simp] theorem State.accessErr_retq : (s.accessErr).retq = s.retq := by simp [State.accessErr]
@[simp] theorem State.accessErr_blk : (s.accessErr).blk = s.blk := by simp [State.accessErr]
@[simp] theorem State.accessErr_seqEvs : (s.accessErr).seqEvs = s.seqEvs := by simp [State.accessErr]
@[simp] theorem State.accessErr_wrHold : (s.accessErr).wrHold = s.wrHold := by simp [State.accessErr]
@[simp] theorem State.accessErr_rdHold : (s.accessErr).rdHold = s.rdHold := by simp [State.accessErr]
@[simp] theorem State.accessErr_linkFails : (s.accessErr).linkFails = s.linkFails := by simp [State.accessErr]
@[simp] theorem State.accessErr_stir : (s.accessErr).stir = s.stir := by simp [State.accessErr]

end Sys2Proof.Machine
end

