-- ==== Sys2Proof/Laws/Registers.lean ====
section
/-! SUPPORT. The laws of registers and fields: what is read after a write, of the same field, of another field of the same
register, and of another register; what counting and raising a fault source leave. -/

namespace Sys2Proof.Machine

variable (s : State)

/-! ### Registers -/

@[simp] theorem State.rd_wr_same (a : Nat) (v : Word) : (s.wr a v).rd a = v := by simp [State.rd, State.wr]

theorem State.rd_wr_ne {a b : Nat} (h : a ≠ b) (v : Word) : (s.wr a v).rd b = s.rd b := by
  simp [State.rd, State.wr, SMap.get_set_ne h]

/-- Two states with the same registers read alike. -/
theorem State.rd_congr {s t : State} (h : s.regs = t.regs) (a : Nat) : s.rd a = t.rd a := by simp [State.rd, h]

theorem State.get_congr {s t : State} (h : s.regs = t.regs) (f : Fld) : s.get f = t.get f := by
  simp [State.get, State.rd_congr h]

theorem State.flag_congr {s t : State} (h : s.regs = t.regs) (f : Fld) : s.flag f = t.flag f := by
  simp [State.flag, State.get_congr h]

/-- A field depends on its register alone. -/
theorem State.get_of_rd {s t : State} {f : Fld} (h : s.rd f.addr = t.rd f.addr) : s.get f = t.get f := by
  simp [State.get, h]

theorem State.flag_of_rd {s t : State} {f : Fld} (h : s.rd f.addr = t.rd f.addr) : s.flag f = t.flag f := by
  simp [State.flag, State.get_of_rd h]

/-! ### Fields -/

theorem Fld.mask_bit (f : Fld) (i : Nat) (hi : i < 32) : f.mask.getLsbD i = decide (f.lo ≤ i ∧ i < f.lo + f.w) := by
  simp only [Fld.mask, BitVec.getLsbD_ofNat, hi, decide_true, Bool.true_and, Nat.testBit_mul_two_pow,
    Nat.testBit_two_pow_sub_one]
  by_cases h : f.lo ≤ i
  · simp [h]; omega
  · simp [h]

/-- The field's bits of a word, as the word's extract. -/
theorem fld_extract (x : Word) (lo w : Nat) : x.toNat / 2 ^ lo % 2 ^ w = (x.extractLsb' lo w).toNat := by
  simp [BitVec.extractLsb'_toNat, Nat.shiftRight_eq_div_pow]

/-- A field reads as what was written to it, less the bits it has no room for. -/
theorem State.get_put_same {f : Fld} (hf : f.lo + f.w ≤ 32) (v : Nat) : (s.put f v).get f = v % 2 ^ f.w := by
  simp only [State.get, State.put, State.rd_wr_same, fld_extract]
  rw [show v % 2 ^ f.w = (BitVec.ofNat f.w v).toNat by simp]
  congr 1
  ext i hi
  have hb : f.lo + i < 32 := by omega
  simp only [BitVec.getElem_extractLsb', BitVec.getLsbD_or, BitVec.getLsbD_and, BitVec.getLsbD_not, Fld.mask_bit f _ hb, hb,
    decide_true, Bool.true_and, BitVec.getLsbD_ofNat, Nat.testBit_mul_two_pow]
  rw [← BitVec.getLsbD_eq_getElem, BitVec.getLsbD_ofNat]
  simp [hi]

/-- Writing a field leaves the register's other fields alone. -/
theorem State.get_put_apart {f g : Fld} (v : Nat) (hg : g.lo + g.w ≤ 32)
    (h : f.lo + f.w ≤ g.lo ∨ g.lo + g.w ≤ f.lo) : (s.put f v).get g = s.get g := by
  by_cases ha : f.addr = g.addr
  · simp only [State.get, State.put, ha, State.rd_wr_same, fld_extract]
    congr 1
    ext i hi
    have hb : g.lo + i < 32 := by omega
    simp only [BitVec.getElem_extractLsb', BitVec.getLsbD_or, BitVec.getLsbD_and, BitVec.getLsbD_not, Fld.mask_bit f _ hb, hb,
      decide_true, Bool.true_and]
    have : ¬(f.lo ≤ g.lo + i ∧ g.lo + i < f.lo + f.w) := by omega
    simp [this]
  · exact State.get_of_rd (State.rd_wr_ne s ha _)

/-- Writing a field leaves every other register alone. -/
theorem State.rd_put_ne {f : Fld} {a : Nat} (h : f.addr ≠ a) (v : Nat) : (s.put f v).rd a = s.rd a := State.rd_wr_ne s h _

theorem State.get_put_ne {f g : Fld} (h : f.addr ≠ g.addr) (v : Nat) : (s.put f v).get g = s.get g :=
  State.get_of_rd (State.rd_put_ne s h v)

theorem State.flag_put_ne {f g : Fld} (h : f.addr ≠ g.addr) (v : Nat) : (s.put f v).flag g = s.flag g :=
  State.flag_of_rd (State.rd_put_ne s h v)

theorem State.flag_put_apart {f g : Fld} (v : Nat) (hg : g.lo + g.w ≤ 32)
    (h : f.lo + f.w ≤ g.lo ∨ g.lo + g.w ≤ f.lo) : (s.put f v).flag g = s.flag g := by
  simp [State.flag, State.get_put_apart s v hg h]

/-- A flag reads as it was set. -/
theorem State.flag_put_same {f : Fld} (hf : f.lo + f.w ≤ 32) (v : Nat) : (s.put f v).flag f = (v % 2 ^ f.w != 0) := by
  simp [State.flag, State.get_put_same s hf]

theorem State.flag_putB_same {f : Fld} (hf : f.lo + f.w ≤ 32) (hw : 0 < f.w) (b : Bool) : (s.putB f b).flag f = b := by
  have h2 : 1 % 2 ^ f.w = 1 := Nat.mod_eq_of_lt (Nat.one_lt_two_pow (by omega))
  cases b <;> simp [State.putB, State.flag_put_same s hf, h2]

theorem State.rd_putB_ne {f : Fld} {a : Nat} (h : f.addr ≠ a) (b : Bool) : (s.putB f b).rd a = s.rd a := State.rd_put_ne s h _

/-! ### Counters -/

theorem State.rd_bump_same (a : Nat) : (s.bump a).rd a = BitVec.ofNat 32 (min 0xFFFFFFFF ((s.rd a).toNat + 1)) := by
  simp [State.bump, State.bumpBy]

/-- A counter that has room counts one. -/
theorem State.rd_bump_room {a : Nat} (h : (s.rd a).toNat < 0xFFFFFFFF) : ((s.bump a).rd a).toNat = (s.rd a).toNat + 1 := by
  rw [State.rd_bump_same, BitVec.toNat_ofNat]; omega

theorem State.rd_bump_ne {a b : Nat} (h : a ≠ b) : (s.bump a).rd b = s.rd b := State.rd_wr_ne s h _

theorem State.rd_bumpBy_ne {a b n : Nat} (h : a ≠ b) : (s.bumpBy a n).rd b = s.rd b := State.rd_wr_ne s h _

/-! ### Raising a fault source -/

/-- Raising a source changes no register but the collector's own overflow count and flag. -/
theorem State.rd_raiseSrc {a : Nat} (b c d : Nat) (h1 : FLT_CNT_OVERFLOW ≠ a) (h2 : FLT_FLAG_OVERFLOW.addr ≠ a) :
    (s.raiseSrc b c d).rd a = s.rd a := by
  unfold State.raiseSrc
  split
  · split
    · rfl
    · rw [State.rd_put_ne _ h2, State.rd_bump_ne _ h1]
  · rfl

/-- Raising a field's source changes no register but the field's own and the collector's overflow count and flag. -/
theorem State.rd_raiseD {f : Fld} {a : Nat} (d : Nat) (h0 : f.addr ≠ a) (h1 : FLT_CNT_OVERFLOW ≠ a)
    (h2 : FLT_FLAG_OVERFLOW.addr ≠ a) : (s.raiseD f d).rd a = s.rd a := by
  unfold State.raiseD
  split
  · rw [State.rd_raiseSrc _ _ _ _ h1 h2, State.rd_put_ne _ h0]
  · exact State.rd_put_ne _ h0 _

theorem State.rd_raise {f : Fld} {a : Nat} (h0 : f.addr ≠ a) (h1 : FLT_CNT_OVERFLOW ≠ a)
    (h2 : FLT_FLAG_OVERFLOW.addr ≠ a) : (s.raise f).rd a = s.rd a := State.rd_raiseD s 0 h0 h1 h2

/-- The bit of a raised source is set. -/
theorem State.flag_raiseD {f : Fld} (d : Nat) (hf : f.lo + f.w ≤ 32) (hw : 0 < f.w) (h1 : FLT_CNT_OVERFLOW ≠ f.addr)
    (h2 : FLT_FLAG_OVERFLOW.addr ≠ f.addr) : (s.raiseD f d).flag f = true := by
  have h3 : 1 % 2 ^ f.w = 1 := Nat.mod_eq_of_lt (Nat.one_lt_two_pow (by omega))
  have h4 : (s.put f 1).flag f = true := by simp [State.flag_put_same s hf, h3]
  unfold State.raiseD
  split
  · rw [State.flag_of_rd (State.rd_raiseSrc _ _ _ _ h1 h2)]; exact h4
  · exact h4

theorem State.flag_raise {f : Fld} (hf : f.lo + f.w ≤ 32) (hw : 0 < f.w) (h1 : FLT_CNT_OVERFLOW ≠ f.addr)
    (h2 : FLT_FLAG_OVERFLOW.addr ≠ f.addr) : (s.raise f).flag f = true := State.flag_raiseD s 0 hf hw h1 h2

/-- With the collector enabled and room in its queue, a raised source's event waits there. -/
theorem State.queue_raiseSrc {src c d : Nat} (he : s.flag FLT_CTL_EN = true) (hq : s.flt.queue.length < 64) :
    ∃ e ∈ (s.raiseSrc src c d).flt.queue, e.src = src ∧ e.code = c ∧ e.detail = d := by
  have mem : ∀ (e : FltEvent) (l : List FltEvent), e ∈ fltPlace e l := by
    intro e l
    induction l with
    | nil => simp [fltPlace]
    | cons h t ih =>
      unfold fltPlace
      split
      · simp
      · simp [ih]
  simp only [State.raiseSrc, he, hq, if_true]
  exact ⟨_, mem _ _, rfl, rfl, rfl⟩

end Sys2Proof.Machine
end

