-- ==== Sys2Proof/WellFormed.lean ====
section
/-! DEFINITION. Which commands are well formed: operands that the spec's formats admit. The machine runs any command; what
a command outside these does says nothing about the part. -/

namespace Sys2Proof

/-- A host access of one word is naturally aligned (R8). -/
def wordAligned (a : BitVec 26) : Bool := decide (a.toNat % 4 = 0)

/-- The numbers of Chuck's owners (R244): 0 to 11. -/
def isOwner (own : BitVec 4) : Bool := decide (own.toNat ≤ 11)

/-- A WRITE frame carries COUNT words, 1 to 256 (R410). -/
def frameWords (data : List Word) : Bool := decide (1 ≤ data.length ∧ data.length ≤ 256)

/-- Standard multi-link setup adds at most two links, each on a radio of the part and no radio twice (R128). -/
def setupLinks (l : List SetupLink) : Bool := decide (l.length ≤ 2) && l.all (fun x => decide (x.lid.toNat < 3)) && decide (l.map (·.lid)).Nodup

/-- A DIR message carries at most 48 records (R182). -/
def dirRecords (l : List DirRecord) : Bool := decide (l.length ≤ 48)

/-- A traffic identifier, or 8 for frames without one (R102, R195). -/
def pathId (tid : BitVec 4) : Bool := decide (tid.toNat ≤ 8)

/-- A descriptor's buffer gives no more bytes than its length (R403). -/
def descFits (d : TxDesc) : Bool := decide (d.data.length ≤ d.len.toNat)

/-- A PPDU is detected by a chain at least (R84). -/
def stamped (p : RxPpdu) : Bool := p.stampA.isSome || p.stampB.isSome || p.stampC.isSome || p.stampD.isSome

/-- The command is well formed. -/
def Instr.wf : Instr → Bool
  | .registerWrite _ a _ => wordAligned a
  | .badWidthAccess _ _ => true
  | .unassignedAccess _ a _ => wordAligned a
  | .pairLowRead _ a => wordAligned a
  | .pairHighRead _ a => wordAligned a && decide (4 ≤ a.toNat)
  | .pairLowWrite _ a _ => wordAligned a
  | .pairHighWrite _ a _ => wordAligned a && decide (4 ≤ a.toNat)
  | .rcRead _ a => wordAligned a
  | .w1cWrite _ a _ _ => wordAligned a
  | .flitCrcFail _ _ => true
  | .turnStrobe _ => true
  | .supplyMonitorChange _ => true
  | .spindleEnable _ => true
  | .spindleDisable _ => true
  | .epochCommit _ => true
  | .domainSwitchRequest => true
  | .ptpSample _ _ _ _ _ => true
  | .ptmDialogDone _ _ _ => true
  | .ptmDialogStart => true
  | .ppsEdge _ => true
  | .ppsLabelWrite _ => true
  | .turnStart _ _ _ _ _ _ => true
  | .lossTimeout => true
  | .holdoverLimit => true
  | .stepAccept => true
  | .stepLoad => true
  | .nowCapture => true
  | .turnLatchCapture => true
  | .triggerArm _ _ _ => true
  | .triggerPulse _ => true
  | .triggerPulseEnd _ => true
  | .frnEnable _ _ _ => true
  | .frnDisable _ _ _ => true
  | .frnRunSet _ _ _ => true
  | .frnRunClear _ _ _ => true
  | .halt _ => true
  | .sync _ => true
  | .waitAt _ _ _ => true
  | .waitRel _ _ _ => true
  | .seqWaitEnd _ _ => true
  | .sleep _ _ => true
  | .wake _ _ _ => true
  | .prep _ _ _ _ => true
  | .hop _ _ => true
  | .rxwin _ _ _ _ _ => true
  | .txq _ _ _ _ _ _ => true
  | .txtpl _ _ _ _ _ _ => true
  | .bgcal _ _ _ _ _ => true
  | .event _ _ _ => true
  | .jump _ _ _ => true
  | .jcyc _ _ _ _ _ => true
  | .synthCalDone _ _ _ _ => true
  | .lockLoss _ _ => true
  | .tempDrift _ _ => true
  | .ppduReceived _ p => stamped p
  | .ppduTxEnd _ _ => true
  | .responseReceived _ _ _ => true
  | .responseTimeout _ _ => true
  | .seqMismatch _ => true
  | .seqAutoRestart _ _ => true
  | .channelEntryWrite _ _ _ _ => true
  | .programWordCommit _ _ _ _ => true
  | .coastStart _ _ => true
  | .coastEnd _ _ => true
  | .coastLimit _ => true
  | .associationRequest _ _ _ _ others _ _ _ _ _ _ _ => setupLinks others
  | .ctxRead _ => true
  | .ctxWrite _ => true
  | .ctxFree _ => true
  | .ctxFlush _ => true
  | .contextFetchDone _ => true
  | .stationFrameRx => true
  | .stationDormant _ => true
  | .planArm _ _ _ _ => true
  | .planCancel _ _ _ => true
  | .planSwap _ => true
  | .generateHalf _ _ _ => true
  | .genDeadline _ => true
  | .accCtlWrite _ _ => true
  | .stationEnqueue _ tid _ _ _ _ _ _ => pathId tid
  | .frondQueueFill _ tid _ => pathId tid
  | .frameLifetimeExpiry _ tid => pathId tid
  | .beaconBuild _ _ _ => true
  | .wokeExpiry _ => true
  | .uplinkBeacon _ _ _ _ => true
  | .uplinkMiss => true
  | .uplinkHoldExpiry => true
  | .uplinkSearchExpiry => true
  | .uplinkAssociated _ => true
  | .suspend _ => true
  | .resume _ => true
  | .remove _ => true
  | .braidRead _ => true
  | .addbaRequest _ _ _ _ _ => true
  | .agreementEnd _ _ _ _ => true
  | .reorderRx => true
  | .blockAckRequestRx _ _ _ _ => true
  | .holeTimerExpiry _ _ => true
  | .holeSettleEnd _ _ => true
  | .cipherDropNotice _ _ _ _ => true
  | .floodFrameRx => true
  | .sorusSettleEnd => true
  | .carryFrameRx _ _ _ _ _ _ _ _ _ => true
  | .floodEnqueue _ _ _ _ => true
  | .floodLifetimeExpiry _ => true
  | .fcntReset _ => true
  | .tagReset _ => true
  | .sorusFlush _ => true
  | .sorusAging => true
  | .clusterEnable => true
  | .clusterDisable => true
  | .syncSend => true
  | .syncRx _ _ => true
  | .syncSlotMiss => true
  | .deputyTakeover => true
  | .hbSend => true
  | .hbRx _ _ => true
  | .deviceAbsent _ => true
  | .dirReportRx _ rs => dirRecords rs
  | .dirUpdateRx _ _ rs => dirRecords rs
  | .dirFullRx _ _ _ _ rs => dirRecords rs
  | .didChange => true
  | .planSend _ _ _ => true
  | .planRx _ _ _ _ _ _ _ ws => decide (ws.length ≤ 64)
  | .actSend _ _ => true
  | .actReady => true
  | .actDeadline => true
  | .actWithdrawCmd _ _ => true
  | .actRx _ _ _ _ _ => true
  | .actWithdrawRx _ _ _ _ _ => true
  | .imgRx _ _ _ _ _ data => decide (data.length ≤ 1024)
  | .handReqCmd _ => true
  | .handAbortCmd => true
  | .handReqRx _ _ => true
  | .handAcceptRx _ _ => true
  | .handCut _ => true
  | .handSettleEnd _ => true
  | .handCtxRx _ _ body => decide (body.length = 416)
  | .handFrameRx _ _ tid _ _ _ _ _ => pathId tid
  | .handEndRx _ _ _ _ _ => true
  | .handAbortRx _ _ _ => true
  | .handTimeout _ => true
  | .packetEntry _ => true
  | .tableRead _ _ => true
  | .tableWrite _ => true
  | .tableInsert _ => true
  | .tableDelete _ _ => true
  | .emMaskWrite _ _ => true
  | .hprofWrite _ _ _ _ => true
  | .slotRelease _ _ _ _ => true
  | .robAgeExpiry _ => true
  | .ethFrameRx _ _ _ => true
  | .pauseEnd _ => true
  | .linkUp _ _ _ => true
  | .linkDown _ _ _ _ => true
  | .ethCfgWrite _ _ => true
  | .ethCtlWrite _ _ => true
  | .ethFrameTx _ _ _ => true
  | .lpiEntry _ => true
  | .lpiWake _ => true
  | .snap _ => true
  | .bufferAlloc own _ => isOwner own
  | .bufferRelease own _ => isOwner own
  | .referenceAdd own _ => isOwner own
  | .booksSnap => true
  | .frondLinkReturn _ _ _ => true
  | .taskEnqueue _ => true
  | .taskPost _ => true
  | .taskDispatch => true
  | .add _ _ _ => true
  | .sub _ _ _ => true
  | .and _ _ _ => true
  | .or _ _ _ => true
  | .xor _ _ _ => true
  | .shl _ _ _ => true
  | .shr _ _ _ => true
  | .sar _ _ _ => true
  | .ldh _ _ _ => true
  | .br _ _ _ => true
  | .call _ _ _ => true
  | .ret _ _ _ => true
  | .ldl _ _ _ => true
  | .stl _ _ _ => true
  | .ldp _ _ _ => true
  | .stp _ _ _ => true
  | .adj _ _ _ => true
  | .tld _ _ _ => true
  | .tst _ _ _ => true
  | .tlkp _ _ _ => true
  | .tins _ _ _ => true
  | .tdel _ _ _ => true
  | .cadd _ _ _ => true
  | .cswp _ _ _ => true
  | .pnew _ _ _ => true
  | .spawn _ _ _ => true
  | .tmr _ _ _ => true
  | .ctxr _ _ _ => true
  | .ctxw _ _ _ => true
  | .time _ _ _ => true
  | .trace _ _ _ => true
  | .nop _ _ _ => true
  | .endTask _ _ _ => true
  | .engineFault _ _ code => decide (code ≠ 0)
  | .timerFire _ => true
  | .engineEnable _ _ _ => true
  | .reload _ _ _ => true
  | .reloadDone _ _ => true
  | .drainDone _ => true
  | .fullBoot _ => true
  | .openSession _ => true
  | .abortSession _ => true
  | .commit _ => true
  | .turnover _ => true
  | .blockWrite _ _ => true
  | .sessionReclaim => true
  | .submit => true
  | .tokenCheckDone => true
  | .confirm => true
  | .revert => true
  | .confirmExpiry => true
  | .handoverStart => true
  | .turnoverCoreReset _ _ _ => true
  | .turnoverBoot _ _ _ _ => true
  | .cipherFrame _ _ _ _ _ => true
  | .install _ => true
  | .erase _ => true
  | .info _ => true
  | .wipe _ => true
  | .keyCommandDone _ => true
  | .trainingStep step _ _ => decide (step.toNat ≤ 5)
  | .mrRead _ _ _ _ _ => true
  | .mrWrite _ _ _ _ => true
  | .patternWrite => true
  | .patternCompare => true
  | .patternAbort _ _ => true
  | .patternDone _ _ => true
  | .refreshDue _ => true
  | .mr4Poll _ _ => true
  | .trackingRun _ _ => true
  | .panicEntry _ => true
  | .panicEnd _ _ _ _ => true
  | .targetSleep _ => true
  | .targetDeep _ => true
  | .targetOff _ => true
  | .targetRun => true
  | .autoIdleEntry => true
  | .idleExit => true
  | .entryComplete _ => true
  | .wakeN => true
  | .timedWake => true
  | .deepExit _ => true
  | .powerOnReset _ _ => true
  | .pinReset _ _ => true
  | .resetNGlitch _ _ _ => true
  | .hostReset _ => true
  | .railFailure => true
  | .railRetry => true
  | .rtcEdge => true
  | .oscStop => true
  | .vbatSwitch => true
  | .aonQualified => true
  | .dipLatch => true
  | .vbatCompare _ => true
  | .rtcSecRead => true
  | .rtcYearRead => true
  | .freezeTimeout => true
  | .calendarWrite _ _ => true
  | .set _ => true
  | .discard _ => true
  | .holdTimeout => true
  | .shift _ => true
  | .faultEvent => true
  | .faultWindowExpiry _ => true
  | .quietExpiry _ => true
  | .clear => true
  | .ringRdWrite _ => true
  | .pulse _ _ => true
  | .errnPulseEnd ns => decide (ns.toNat ≤ 2000)
  | .ittStepStart _ => true
  | .ittStepDone _ _ => true
  | .ittRoundStart => true
  | .starved => true
  | .rtcFreqDone _ => true
  | .hostRxDelivery _ _ => true
  | .rxHoldTimeout _ => true
  | .rxTailWrite _ _ => true
  | .txTailWrite _ _ => true
  | .queueCfgWrite _ _ => true
  | .txRingRead descs => descs.all descFits
  | .irqModerationExpiry _ _ => true
  | .dmaError _ _ => true
  | .pcieLinkLoss => true
  | .flr => true
  | .heartbeatWrite => true
  | .heartbeatTimeout => true
  | .hspRead op _ _ _ _ => decide (op ≠ 2)
  | .hspWrite op _ data _ _ => decide (op ≠ 1) && frameWords data
  | .pcieLinkUp _ _ => true
  | .partnerLpiChange _ _ => true
  | .classifyDone => true
  | .exitComplete _ _ _ => true
  | .imgAckRx _ _ _ _ _ => true
  | .blockWriteDone => true
  | .tableCommandDone => true
  | .planSendDone => true
  | .servicePeriodEnd _ => true

end Sys2Proof
end

