-- ==== Sys2Proof/Tests/Slice0.lean ====
section
/-! SUPPORT. Small tests: worked examples of the spec, ill-formed commands, and for every statement with hypotheses a
theorem that shows states and operands which meet the hypotheses of each of its clauses. -/

/-- `n` bytes of memory from `a` hold `v`, least significant first. -/
def Sys2Proof.Machine.State.putMem (s : State) (a n v : Nat) : State := s.memPut a ((List.range n).map (fun i => BitVec.ofNat 8 (v / 256 ^ i)))

namespace Sys2Proof.Tests

open Sys2Proof Sys2Proof.Machine

-- one theorem after another: each takes the kernel some memory
set_option Elab.async false

/-! ### Facts that help the kernel to evaluate some hypotheses -/

theorem gets_of {s : State} {i op : Nat} {w : ActWord} {x : Thread}
    (h : s.thread i = some x ∧ s.clockOn = true ∧ s.inTurn i = true ∧ x.pc ≠ 0 ∧ s.fetchWord x.pc = actBytesOf w op ∧
      badEnc (actBytesOf w op) = false) : s.gets i op w x := h

theorem issues_of {s : State} {i op : Nat} {w : ActWord} {x : Thread}
    (h : (decide (s.thread i = some x ∧ s.clockOn = true ∧ s.inTurn i = true ∧ x.pc ≠ 0 ∧ s.fetchWord x.pc = actBytesOf w op ∧
        badEnc (actBytesOf w op) = false) &&
      (match s.taskOf x.desc with
       | some k => decide (s.get (TSK_CLASS_BUDGET k.cls) = 0 ∨ x.words + 1 < 16 * s.get (TSK_CLASS_BUDGET k.cls))
       | none => false)) = true) : s.issues i op w x := by
  obtain ⟨h1, h2⟩ := (Bool.and_eq_true _ _).mp h
  refine ⟨gets_of (of_decide_eq_true h1), ?_⟩
  split at h2
  · exact ⟨_, ‹_›, of_decide_eq_true h2⟩
  · cases h2

theorem ok_of {α : Type} [DecidableEq α] {e : Except Nat α} {v : α}
    (h : (match e with | .ok a => decide (a = v) | .error _ => false) = true) : e = .ok v := by
  split at h
  · exact congrArg _ (of_decide_eq_true h)
  · cases h

theorem not_ok_of {α : Type} {e : Except Nat α} (h : (match e with | .ok _ => false | .error _ => true) = true) :
    ∀ r, e ≠ .ok r := by
  rintro r rfl
  cases h

theorem fitPool_of {s : State} (hb : s.buffers = []) (hf : 16 ≤ s.get MLK_STAT_RB_FREE) :
    s.fitPool 12 16 = some (16, s.draw % 8192 * 16) := by
  have h : gapAt [] 16 (s.draw % 8192 * 16) = true := by simp [gapAt]; omega
  unfold State.fitPool
  simp [hf, State.poolGap, hb, h]

theorem error_of {α : Type} {e : Except Nat α} (h : (match e with | .ok _ => false | .error _ => true) = true) :
    ∃ c, e = .error c := by
  split at h
  · cases h
  · exact ⟨_, rfl⟩

theorem pair_of {α β : Type} {p : α × β} {v : β} (h : p.2 = v) : p = (p.1, v) := by
  rw [← h]

/-! ### States -/

/-- The core running: SERVING, in RUN. -/
def up : State := { State.reset with pwr := { phase := .run }, regs := [(0x60000, 3#32)] }
def spnOn : State := (up.put SPN_CTL_EN 1)
def spnAcq : State := (((up.put SPN_CTL_EN 1).put SPN_SRC_SRC_A 1).put SPN_STAT_STATE spnAcquire)
def timed (s : State) : State := { s with spn := { s.spn with hasTime := true, wideU := 10 ^ 20 } }
def dualOn : State :=
  let s := timed ((((((spnAcq.put SPN_CTL_MODE 1).put SPN_SRC_SRC_B 2).put SPN_STAT_STATE spnLocked)).wr SPN_OFS_A 5).wr SPN_OFS_B 6)
  { s with spn := { s.spn with domA := { lastOfs := some 5, lastTurn := some 0 }, domB := { lastOfs := some 6, lastTurn := some 0 } } }
def ones : Blank := { radio := List.replicate 512 1 }
/-- Radio 0 on, its pair in MAIN at word 5, the turn at tick 11470848, SY0 active and locked on channel 3. -/
def radioOn : State :=
  let s := timed ((up.put SPN_CTL_EN 1).put SYS_DIE_STAT_FRN_UP 1)
  let s := { s with blk := some ones }
  let s := (((s.put (FRN_CTL_EN 0) 1).put (FRN_CTL_RUN 0) 1).put (FRN_STAT_SEQ 0) 1).put (FRN_STAT_STATE 0) 3
  let s := (s.put (FRN_SEQ_PC_PC 0) 5).put (FRN_STAT_ACT_LOCK 0) 1
  let s := ((s.put (synActive 0 false) 1).put (synLocked 0 false) 1).put (synCh 0 false) 3
  let s := s.setFr 0 { (s.fr 0) with syn0 := { khz := 2412000, bw := 5, group := 1 } }
  ((((s.putMem (chanAddr 0 3) 4 2412000).putMem (chanAddr 0 3 + 4) 1 5).putMem (chanAddr 0 3 + 5) 1 1).putMem (chanAddr 0 3 + 7) 1 3)
def radioDown : State := radioOn.put SYS_DIE_STAT_FRN_UP 0
def phy0 : Phy := ⟨.dsss, 5, 0, 1, 0, false, false, false, false, false⟩
def air0 : AirTime := ⟨100, 0, 160, 300, phy0, .su, false, []⟩
/-- A word stands at the pair's address. -/
def prog (s : State) (w : Nat) : State := s.putMem (progAddr 0 5) 8 w
def frame0 : TxFrame := { fid := 1, chain := 0, aid := 5, kind := .data, tid := 0, len := 60, air := air0, turn := 0 }
def withFr (s : State) (f : FrnState → FrnState) : State := s.setFr 0 (f (s.fr 0))
def ang (d : Nat) : BitVec 24 := BitVec.ofNat 24 (11470848 + d)
def airFrame0 : AirFrame := ⟨.qos, 0xA1, 0, 3, 9, 0, false, false, false, false, true, false, 0, 400, 0, false, false, false, 0xB1, 0xC1, List.replicate 20 7, none⟩
def ppdu0 : RxPpdu := ⟨phy0, false, none, some 2038432369, some 2038432374, none, 47, 3000, 0, 160, 0, phy0, 100, [airFrame0]⟩
/-- Listening; the stamps of ppdu0 name the turn's first ticks. -/
def listening : State := (withFr radioOn (fun f => { f with wait := .rx 700000000 900000000 15 0 }))
/-- Station 5 associated on radio 0 with address 0xA1. -/
def withSta (s : State) : State :=
  (((s.cxSet 5 0 2 5).cxSet 5 2 1 1).cxSet 5 4 6 0xA1).addMember 5 ⟨0, 0xA1, 0, 0xFF⟩
def sta : State := withSta radioOn
/-- A window at `a`. -/
def putWin (s : State) (a start end_ kind chidx wg flags slots profile param : Nat) : State :=
  ((((((((s.putMem a 4 start).putMem (a + 4) 4 end_).putMem (a + 8) 1 kind).putMem (a + 9) 1 chidx).putMem (a + 10) 2 wg).putMem
    (a + 12) 1 flags).putMem (a + 13) 1 slots).putMem (a + 14) 1 profile).putMem (a + 15) 1 param
/-- Radio 0 runs a plan of one window over the first 0xF00000 ticks of every turn. -/
def plannedAt (start kind flags : Nat) : State :=
  let s := sta.put ACC_WIN_BASE_START 0x18
  putWin (s.put (ACC_PLAN_STAT_RUNNING 0) 1) 0x180000 start 0xF00000 kind 3 0 flags 0 0 0
def planned (kind flags : Nat) : State := plannedAt 0 kind flags
def rx0 : RxItem := ⟨0, airFrame0, .dsss, 3, some 800000000, 0, 0, 1, 200, 0⟩
def st5 : RxStage := { item := rx0, aid := 5 }
/-- The state a command leaves. -/
def after (c : Instr) (s : State) : State :=
  match exec c s with
  | .next t => t
  | _ => s
def ff0 : FloodFrame := ⟨1, 0x88B6, false, 0x11, 0x33, 0, 0, 0, 0xB0, 0xFF, 7, 40, 80, true, []⟩
def floodOn (s : State) : State := ((s.put FLD_CTL_EN 1).wr FLD_GROUP_LO 1).put (FLD_KEY_SLOT_VALID 0) 1
/-- Device 2 of cluster 7 in a state of the cluster unit, its manager device 1. -/
def clu (st : Nat) : State :=
  let s := ((radioOn.put SYS_ADDR_CID 7).put SYS_ADDR_DID 2).put CLU_CTL_EN 1
  let s := { s with key := { s.key with slots := [(5, some ⟨9, 0, 0, 0, 0⟩)] } }
  (((s.put CLU_STAT_STATE st).put CLU_STAT_MGR (if st = cluLead then 2 else 1)).put CLU_STAT_DEP_NONE 0).put CLU_STAT_DEPUTY 2
def lsec : LinkSec := ⟨5, 9, true, 0, 0, 0⟩
def af (typ : BitVec 4) : Afette := ⟨true, lsec, true, 1, typ, 1, 2, false, 7, 0, 0, 0xD1, 0⟩
/-- Port 0 is the backbone, up, and device 1 is known by its address. -/
def onLine (s : State) : State :=
  let s := { s with blk := some { ones with hdr := List.replicate 27 0 ++ [2] }, clu := { s.clu with devs := [(0xD9, some 1)] } }
  ((s.put (ETH_CTL_EN 0) 1).put (ETH_CTL_TX_EN 0) 1).put (ETH_STAT_LINK 0) 1
/-- The state in which an Afette frame of a type is taken up. -/
def inn (s : State) (typ : Nat) : State := (s.afetteIn (af (BitVec.ofNat 4 typ)) typ).1
def atTurn (s : State) : State := { s with spn := { s.spn with turnRef := s.ref } }
def x0 : Thread := { desc := 3, pc := 5, regs := ((Vector.replicate 16 0).set 1 0xF0).set 2 3, loc := List.replicate 512 7 }
def k0 : Task := { desc := 3, order := 0, cls := 31, src := srcEvt, st := .run 63 }
def classEntries : List Byte := List.replicate 248 0 ++ [0, 0, 0, 0, 0x40, 0, 0, 0]
/-- Engines 14 and 15 run class 31, which has a budget of 16 words and an entry. -/
def gge : State :=
  let s := ((up.wr (TSK_CLASS 31) 0x18C000).put (GGE_STAT_STATE 14) 0).put (GGE_STAT_STATE 15) 0
  { s with blk := some { classes := classEntries } }
def withTask (s : State) (k : Task) (x : Thread) : State :=
  ({ s with tsk := { s.tsk with tasks := [k] } }).setThread 63 (some x)
/-- Thread 3 of engine 15 runs `x`. -/
def running (x : Thread) : State := withTask gge k0 x
/-- The word that the thread points at. -/
def putWord (s : State) (w : ActWord) (op : Nat) : State := { s with tsk := { s.tsk with store := List.replicate 40 0 ++ actBytesOf w op } }
def wd (d a b x imm : Nat) : ActWord := ⟨BitVec.ofNat 4 d, BitVec.ofNat 4 a, BitVec.ofNat 4 b, 0, BitVec.ofNat 8 x, BitVec.ofNat 32 imm⟩
def tblRow (t kind key ent n : Nat) : List Byte := leBytes 1 t ++ leBytes 1 kind ++ [0, 0] ++ leBytes 2 ent ++ leBytes 2 key ++ leBytes 4 n ++ leBytes 4 0
def tabled (s : State) : State :=
  { s with blk := some { classes := classEntries, tables := tblRow 2 0 0 24 8 ++ tblRow 3 1 16 32 8 ++ tblRow 63 2 0 8 8 } }
/-- Every slot of table 3 used. -/
def fullTab (s : State) : State := (List.range 8).foldl (fun s i => s.tblPut 3 (i * 56 + 48) (leBytes 8 1)) s
def key3 : List Byte := List.replicate 16 7
/-- The key is in table 3. -/
def keyedT (s : State) : State := s.hashPut 3 ⟨1, 32, 16, 8, false⟩ ((candidates (crc32c key3) 2).getD 3 0) key3 (List.replicate 32 9)
def d3 : TblDef := ⟨1, 32, 16, 8, false⟩
/-- Nothing may be queued: no descriptor free for the host, events and timers. -/
def noQuota (s : State) : State := (((s.put (TSK_QUOTA_QUOTA 1) 0).put (TSK_QUOTA_QUOTA 2) 0).put (TSK_QUOTA_QUOTA 3) 0).put (TSK_QUOTA_QUOTA 4) 0
def ev0 : TaskEvent := ⟨31, 5, 6, false⟩
def evq (s : State) (e : TaskEvent) : State := { s with tsk := { s.tsk with evq := [e] } }
/-- The task of thread 63 is about packet 5, in a live slot. -/
def routed (st : SlotSt) : State :=
  let s := { gge with chk := { gge.chk with nextId := 1, chains := [⟨0, [2 ^ 23 + 4], 14, List.replicate 14 7, [ownRob]⟩] } }
  let s := { s with prs := { s.prs with slots := [{ seq := 5, pkt := { chain := 0, src := 1, port := 0, bytes := List.replicate 14 7 }, len := 14, parse := {}, flow := some 9, st := st }] } }
  withTask s { k0 with slot := some 5 } { x0 with pkt := some (List.replicate 20 8) }

def stepped : State := timed (spnAcq.put SPN_SRC_SRC_A 2)
def farAhead : BitVec 80 := BitVec.ofNat 80 (stepped.wideNs + 1000000)
def dueStep : State := { timed (up.put SPN_CTL_EN 1) with spn := { (timed up).spn with sched := some (-1000) } }

/-- Frond runs on alone, two ticks after its epoch. -/
def alone0 : State := { up with spn := { up.spn with frond := { up.spn.frond with free := some (250000000000, 0) } } }

def accOn : State := let s := sta.put PWR_STAT_STATE 0; (((s.put ACC_CTL_EN 1).put ACC_CTL_LINK_EN 1).put (ACC_GEN_CFG_BASE 0) 64).put (ACC_GEN_CFG_HALF 0) 16
def uplinkOn (st : Nat) : State := ((radioOn.put ACC_UP_CFG_RADIO 0).put ACC_UP_STAT_STATE st)
def upPlan (st : Nat) : State := ((planned 7 7).put ACC_UP_CFG_RADIO 0).put ACC_UP_STAT_STATE st
def upFed : State := let s := upPlan 1; { s with acc := { s.acc with upBi := 1638400, upTbtt := 801000000 } }
def usedCells (l : List Nat) : List Host.Cell := l.map (fun i => (256 * (i + 1) + 2, 1))
/-- The AIDs that follow those of a list are in use, by stations without an address. -/
def ctxFull (l : List Nat) : State := { radioOn with ctx := usedCells l }
theorem get_usedCells (l : List Nat) (a : Nat) (h : a % 256 ≠ 2) : SMap.get zeroByte (usedCells l) a = 0 := by
  induction l with
  | nil => rfl
  | cons b l ih => exact (if_neg (by omega)).trans ih
theorem mac_ctxFull (l : List Nat) (a : Nat) : (ctxFull l).mac a = 0 := by
  simp only [State.mac, State.cx, leGet, ctxFull]
  rw [get_usedCells l _ (by omega), get_usedCells l _ (by omega), get_usedCells l _ (by omega), get_usedCells l _ (by omega),
    get_usedCells l _ (by omega), get_usedCells l _ (by omega)]
  rfl
theorem aids_ctxFull (l : List Nat) : (ctxFull l).aids.length = l.length := by
  have : (usedCells l).filter (fun e => e.1 % 256 == 2) = usedCells l := by
    apply List.filter_eq_self.mpr
    intro e he
    obtain ⟨i, -, rfl⟩ := List.mem_map.mp he
    simp only [beq_iff_eq]
    omega
  rw [State.aids, ctxFull, this, List.length_map, usedCells, List.length_map]

def two : State :=
  let s := ((sta.addMember 5 ⟨1, 0xA2, 2, 0xFF⟩).put MLK_CMD_SEL_AID 5).put SYS_DIE_STAT_FRN_UP 0
  withFr s (fun f => { f with queues := f.queues.set 1 [frame0, { frame0 with fid := 2, aid := 6 }] })
/-- Station 5 with a Block Ack agreement on TID 3 from 4090, 16 wide. -/
def agreed : State :=
  ((((sta.mrSet 5 (rxr 3) 2 4090).mrSet 5 (rxr 3 + 2) 2 16).mrSet 5 (rxr 3 + 4) 4 0).mrSet 5 (rxr 3 + 10) 1 9).cxPutBit 5 194 3 true
def holed : State := agreed.setRflag 5 3 1 true
def protSt : RxStage := { st5 with item := { rx0 with frame := { airFrame0 with prot := true, pn := 100 } } }
def fl0 : RxItem := { rx0 with frame := { airFrame0 with kind := .flood, flood := some ff0 } }
def fwin : Window := { start := 0, end_ := 0xF00000, kind := 8, chidx := 3, wg := 0, flags := 7, slots := 0, profile := 0, param := 0 }
def fplan : State := floodOn (planned 8 7)
def wait0 : FloodWait := ⟨ff0, 800000000, 0, 0, 9, 0, []⟩
def waiting (s : State) : State := { s with fld := { s.fld with waiting := [wait0] } }
def sorus0 : Sorus := ⟨0xB0, 7, 0, 40, 0, 1, 790000000, 15⟩
def homed : State := (sta.cxSet 5 4 6 0xB0)
def keyed : State := { (floodOn radioOn) with key := { radioOn.key with slots := [(0, some { suite := 10, key := 3 }), (5, some { suite := 9, key := 4 })] } }
def keyedIn (s : State) (c : LinkSec) : State := (s.linkIn c false).1

def clOff : State := ((radioOn.put SYS_ADDR_CID 7).put SYS_ADDR_DID 2)
def sync0 : SyncMsg := ⟨0, 0, 0, 0, true, 0, 0, 5, 0, 0, 0, 0⟩
/-- The clock stands ten ticks into SYNC slot 762. -/
def inSlot (s : State) : State := { s with spn := { s.spn with wideU := 799014922 * 125 * 1000000000 } }
def syncAf : Afette := { af 0 with tick := BitVec.ofNat 64 (packTick 799014912) }
def mem2 : State := inSlot (clu cluMember)
/-- A member that has followed device 2 under term 9, and hears a lower term from device 1. -/
def rejClu : State := (mem2.wr CLU_TERM 9).put CLU_STAT_MGR 2
def ad (d a : Nat) : Nat := packAddr 7 d a
def dr0 : DirRecord := ⟨0, 0xAB, BitVec.ofNat 64 (ad 3 9), BitVec.ofNat 64 (packTick 700000000)⟩
def de0 : DirEntry := { addr := ad 4 9, tick := packTick 790000000 }
def de1 : DirEntry := { addr := ad 4 9, tick := packTick 700000000 + 1 }
def listed (s : State) (m : Nat) (e : DirEntry) : State := { s with clu := { s.clu with dir := [(m, some e)] } }
def act1 : Activation := ⟨1, 0, 3, 50⟩
def acting (s : State) (st m : Nat) : State := { (s.wr CLU_ACT_STAT (BitVec.ofNat 32 st)) with clu := { s.clu with act := some (act1, m) } }
/-- A waiting activation of a far turn. -/
def actingFar (s : State) (m : Nat) (a : Activation) : State := { (s.wr CLU_ACT_STAT 1) with clu := { s.clu with act := some (a, m) } }
def hm0 : HandMsg := ⟨0, 0xA1, BitVec.ofNat 64 (ad 2 5), BitVec.ofNat 64 (ad 3 9), BitVec.ofNat 64 (packTick 900000000), 77, 4⟩
def hm1 : HandMsg := { hm0 with src := BitVec.ofNat 64 (ad 3 5), dst := BitVec.ofNat 64 (ad 2 9) }
def hs : Handoff := { part := 1, mac := 0xA1, src := ad 2 5, dst := ad 3 9, cut := 900000000, hid := 77, tkey := 4, aid := 5 }
def ht : Handoff := { part := 2, mac := 0xA1, src := ad 3 5, dst := ad 2 9, cut := 900000000, hid := 77, tkey := 4, aid := 9 }
def handing (s : State) (h : Handoff) : State := { s with clu := { s.clu with hands := [h] } }
def cluSta (st : Nat) : State := withSta (clu st)
def reqLead : State :=
  let s := (listed (clu cluLead) 0xAB { de0 with addr := ad 3 9 })
  ((s.wr CLU_HAND_MAC_LO 0xAB).put CLU_HAND_CFG_DST 4).wr CLU_HAND_CUT_HI (BitVec.ofNat 32 (packTick 900000000 / 2 ^ 32)) |>.wr CLU_HAND_CUT_LO (BitVec.ofNat 32 (packTick 900000000))
def unloaded : State := { (((handing (cluSta cluMember) hs).cxSet 5 2 1 2).put SYS_DIE_STAT_FRN_UP 0) with frn := (withFr radioOn (fun f => { f with queues := f.queues.set 1 [frame0] })).frn }
/-- The target of a handoff, to whose context a member belongs. -/
def taking : State := (handing (clu cluMember) ht).addMember 9 ⟨0, 0xA2, 1, 0xFF⟩

def rtr : State := up.put PRS_CTL_EN 1
def pk0 : Packet := { chain := 0, src := 1, port := 0, bytes := List.replicate 14 7 }
def slot0 : Slot := { seq := 5, pkt := pk0, len := 14, parse := {} }
def withSlot (s : State) (x : Slot) : State := { s with prs := { s.prs with slots := [x] } }
def flowed (st : SlotSt) (o : List Output) : Slot := { slot0 with flow := some 9, st := st, outs := o }
/-- One chain holds packet 0. -/
def chained (s : State) : State := (s.alloc ownRob 14 pk0.bytes).1
def res (disp eport prog cls : Nat) : Nat := disp + 2 ^ 8 * eport + 2 ^ 24 * cls + 2 ^ 64 * prog
def emWith (s : State) (v : Nat) : State :=
  { s with prs := { s.prs with em := [((candidates (crc32c []) 32768).headD 0, some ([], v))] } }
def cmdOn (op : Nat) (ex : Bool) (i : Nat) (d : List Byte) : State :=
  let s := rtr.put PRS_TBL_STAT_BUSY 1
  { s with prs := { s.prs with cmd := some ⟨op, ex, i, d⟩ } }
def ent (v : Nat) : List Byte := List.replicate 96 3 ++ leBytes 16 v ++ List.replicate 16 0
def entE (v : Nat) : List Byte := List.replicate 48 3 ++ leBytes 16 v ++ List.replicate 64 0
def k3 : List Byte := rtr.emKey (List.replicate 48 3)
/-- The packet at the front of a source, with its chain fitted to it. -/
def fitted (s : State) (q : Nat) (k : Packet) : State × Bool := ((s.setIngress q []).moveRef k.chain k.owner ownRob).refit ownRob k.chain k.bytes
def looped (s : State) (k : Packet) : State := { s with prs := { s.prs with loopq := [k] } }
/-- A packet of 4,000 bytes on one buffer, and none free. -/
def tooBig : State := (looped (chained rtr) { pk0 with bytes := List.replicate 4000 7 }).wr CHK_TIER 0xFFF |> (·.wr CHK_FREE_ODIE 0)
/-- One chain of two buffers. -/
def held2 (own : List Nat) : State := { rtr with chk := { rtr.chk with nextId := 1, chains := [⟨0, [1 + 2 ^ 22, 4 + 2 ^ 22], 4000, [], own⟩] } }

def ethUp : State := (((up.put (ETH_CTL_EN 1) 1).put (ETH_CTL_TX_EN 1) 1).put (ETH_CTL_RX_EN 1) 1).put (ETH_STAT_LINK 1) 1
def fx : List Byte := List.replicate 100 7
def pausing : List Byte := List.replicate 12 1 ++ [0x88, 0x08, 0, 1, 0, 9] ++ List.replicate 50 0
def tx0 : EthTx := ⟨some 4, List.replicate 80 9, 0, none, false, false, none⟩
def queued (s : State) : State := s.setPort 1 { (s.port 1) with txq := [tx0], timing := [{ tx0 with chain := some 5, bytes := List.replicate 46 1 }] }
def longq (s : State) : State := s.setPort 1 { (s.port 1) with txq := [tx0] }
def syncTx : EthTx := { tx0 with txw := 16, sync := true }
def synced (s : State) : State := s.setPort 1 { (s.port 1) with timing := [syncTx] }
def full256 (s : State) : State := s.setPort 1 { (s.port 1) with ingress := List.replicate 256 { chain := 0, src := 1, port := 1, bytes := [] } }

def owned (own : List Nat) : State := { up.wr CHK_DRAM_CNT 5 with chk := { up.chk with nextId := 1, chains := [⟨0, [1 + 2 ^ 22, 4], 4000, [], own⟩] } }

def still : State := up.put SYS_MOTION_STATE 1
def sessIn (st src : Nat) : State :=
  let s := ((still.put UPD_STAT_SESS st).put UPD_STAT_SRC src).wr UPD_SESS_ID 9
  { s with upd := { s.upd with total := 6291456 } }
def jr (s : State) (a b : ImgSlot) : State := { s with jrn := { s.jrn with slotA := a, slotB := b } }
def blkAt (ofs next : Nat) (s : State) : State := (s.wr UPD_BLK_OFS (BitVec.ofNat 32 ofs)).wr UPD_SESS_NEXT (BitVec.ofNat 32 next)
def locked (s : State) : State := s.put SPN_STAT_STATE spnLocked
def trialRun (byTov : Bool) : State :=
  let s := locked (timed (jr (up.put SPN_CTL_EN 1) .confirmed .trial))
  { (s.put UPD_STAT_UP 1) with upd := { s.upd with byTurnover := byTov } }
def env0 : BootEnv := ⟨0, false, false, 0, 0, 0, 0, [], 0⟩
def tok0 : List Byte := List.replicate 128 3
def ready : State := { locked (timed ((sessIn sessReady 1).put SPN_CTL_EN 1)) with blk := some {} }
def arm (s : State) (f : Bool) (n : Nat) : State := { s.put UPD_STAT_TOV 1 with upd := { s.upd with armed := some ⟨n, false, f⟩ } }
def ho0 : Handover := { slot := none, session := 9, turn := 5, regs := [], shown := [], acc := [], freq := 0, spnStat := 0, wideU := 0, refAt := 0, old := {}, oldSlot := true, drops := 3, chk := {}, owners := [], accS := {}, mlkx := {}, fld := {}, clu := {}, wc := [], em := [], tables := [], flight := ⟨[], [], [], [], [], [], []⟩ }
def mem2u : State := { (clu cluMember) with spn := { (clu cluMember).spn with wideU := 799014922 * 125 * 1000000000 } }
def imgSt : State :=
  let s := (((mem2u.put SYS_MOTION_STATE 1).put UPD_STAT_SESS sessOpen).put UPD_STAT_SRC 3).wr UPD_SESS_ID 9
  { s.wr UPD_SESS_NEXT 100 with upd := { s.upd with total := 6291456 } }
def up' : State := ready.put UPD_STAT_SESS 0

def calOf (s : State) (c : Calendar) : State := { s with rtc := { s.rtc with held := some c, heldAt := 700 } }
def leapDay : Calendar := { sec := 0x59, min := 0x59, hour := 0x23, wday := 6, date := 0x29, month := 2, century := 0x20, year := 0x24 }
def rtcOn : State := up.put RTC_STAT_SRC 1

def fe : FltEvent := { src := 191, code := 3, detail := 9, tick := 0, cycle := 100 }
def fltOn (l : List FltEvent) : State := { up.put FLT_CTL_EN 1 with flt := { up.flt with queue := l } }
/-- A policy entry: source, N, window, quiet time, reactions to MINOR and MAJOR. -/
def pol (src n win quiet minor major : Nat) : List Byte :=
  leBytes 2 src ++ leBytes 2 n ++ leBytes 2 win ++ leBytes 2 quiet ++ leBytes 1 minor ++ leBytes 1 major ++ leBytes 6 0
def pols (s : State) (b : List Byte) : State := { s with blk := some { faultpol := b } }
def srcAt (s : State) (k : Nat) (x : FltSource) : State := s.setSrc k x
def ittUp : State :=
  let s := (plannedAt 0 9 0).put ITT_CTL_EN 1
  { (s.put PWR_STAT_STATE 0) with itt := { s.itt with going := true, round := some 3 } }
def win9 : Option (Window × Nat × Nat) := ittUp.windowOf 0 ittUp.absTick

def ho1 : HostOut := { q := 31, chain := 0, bytes := List.replicate 700 7, seq := 5, tag := 0, exc := none, status := [], held := none }
def held1 : HostOut := { ho1 with held := some 3 }
def waitingOut (l : List HostOut) : State := { up with hif := { up.hif with wait := l } }
def hifUp : State := up.put HIF_STAT_PHASE 3
def desc (len flags : Nat) : TxDesc := ⟨BitVec.ofNat 16 len, BitVec.ofNat 8 flags, false, 0, 0, [7]⟩
def rtrOn : State := up.put PRS_CTL_EN 1
/-- No slot of the reorder buffer is free. -/
def filled (s : State) : State := { s with prs := { s.prs with slots := List.replicate 8192 { seq := 5, pkt := { chain := 0, src := 1, port := 0, bytes := [] }, len := 14, parse := {} } } }
def alone1 : State := { up with spn := { up.spn with frond := { up.spn.frond with free := some (0, 0) } } }
def txOn : State := (((rtrOn.put (HIF_Q_CFG_TX_EN 31) 1).wr (HIF_Q_TX_TAIL 31) 4))

def keySel (slot su : Nat) : State := (up.put KEY_SEL_SLOT slot).put KEY_SEL_SUITE su
def slot9 (tx rx : Nat) : KeySlot := { suite := 9, key := 5, txPn := tx, rxPn := rx }
def keyIn (s : State) (k : Nat) (e : KeySlot) : State := { s with key := { s.key with slots := [(k, some e)] } }
def running' (c : KeyCmd) : State := let s := keyIn up 0x3FFF (slot9 1 2); { s with key := { s.key with cmd := some c, data := 7 } }
def lanes (s : State) : State := (s.wr CIP_CTL 8).put SYS_DIE_STAT_KEY_UP 1
def stage0 : RxStage := { item := rx0, aid := 5 }
def cipSta : State := { (sta.cxSet 5 24 2 0x8000) with cipq := [stage0] }
/-- A protected frame waits for its lane at the backbone port. -/
def secTx : EthTx := { chain := none, bytes := List.replicate 70 9, txw := 0, sec := true }
def sending (s : State) : State := (onLine s).setPort 0 { ((onLine s).port 0) with txq := [secTx] }
/-- A protected frame with packet number 5 has come. -/
def secRx : Packet := { chain := 0, src := 1, port := 0, bytes := List.replicate 12 1 ++ [0x88, 0xE5, 0, 0, 0, 0, 0, 5] ++ List.replicate 60 7, sec := true }
def coming (s : State) : State := (onLine s).setPort 0 { ((onLine s).port 0) with ingress := [secRx] }

def dmcAt (n : Nat) : State := up.put DMC_STAT_STATE n
def ittMap : List Byte := [0, 0, 1] ++ List.replicate 13 0 ++ [7, 0, 0, 0] ++ leBytes 4 512 ++ leBytes 4 256
/-- A blank whose ITT region is 256 MiB from 512 MiB. -/
def ittBlank (s : State) : State := { s with blk := some { memmap := ittMap } }
def patReady : State := ((ittBlank (dmcAt dmcReady)).wr DMC_PAT_ADDR 0x800000).wr DMC_PAT_LEN 0x400000
def panicOn (s : State) : State := (s.put DMC_CTL_PANIC_EN 1).wr DMC_RT_STAT 4
def withDmc (s : State) (f : DmcState → DmcState) : State := { s with dmc := f s.dmc }
def dl : Delays := ⟨1, 2, 3, 127⟩
def p0 : PatRun := ⟨false, false, 0x800000, 2, 0, false, 5⟩
def pc0 : PatRun := { p0 with cmp := true }
def patOn (p : PatRun) : State := withDmc patReady (fun d => { d with pat := some p })
/-- What the run wrote lies there, and is compared. -/
def written : State := (patOn pc0).patWrite p0 2

def pwrAt (st : Nat) : State := up.put PWR_STAT_STATE st
def moving (st tgt : Nat) : State := ((pwrAt st).put PWR_STAT_TRANS 1).put PWR_STAT_TARGET tgt
def entering (tgt : Nat) : State := moving 0 tgt
def woken (s : State) : State := { s with pwr := { s.pwr with wake := some 15 } }
def phaseAt (p : PwrPhase) : State := { up with pwr := { phase := p } }
def deepSaved : State := { phaseAt .deepExit with pwr := { phase := .deepExit, saved := some { hasTime := true, regs := [(SPN_CTL, 1)] } }, jrn := { slotB := .confirmed } }

/-! ### Worked examples of the spec; every expected value is the spec's own -/

/-- A spindle of epoch zero at the start of a turn. -/
def inTurn (n : Nat) : State :=
  { up.put SPN_CTL_EN 1 with spn := { up.spn with hasTime := true, wideU := n * turnNs * 2000000000 } }

-- spec/00_scope.md, "placing a window on the spindle"
theorem test_window_wide_times :
    (up.wideOfTick (1204 * turnTicks + 0x400000), up.wideOfTick (1204 * turnTicks + 0x420000)) =
      (1262747648000, 1262755840000) := by decide +kernel

-- spec/02_spindle_time.md, "extending a stamp that crossed a narrow wrap"
theorem test_stamp_extension :
    (inTurn 1205).extendStamp 0x01A00000 0xB4 = some (1204 * turnTicks + 0x400000) := by decide +kernel

theorem test_stamp_wide_time : up.wideOfTick (1204 * turnTicks + 0x400000) = 1262747648000 := by decide +kernel

-- spec/02_spindle_time.md, "a yard gateway wakes after two hours"
theorem test_wake_bound : estBound 0x0E101000 20 = 0x232BF9 := by decide +kernel

/-- The wake of the example: the latch of turn 1,000,000, angle 0x10_0000, and two hours of raw counts. -/
def wakeLatch : SpnSaved :=
  { f := 1000000000, raw := 0, wideU := 1048576065536000 * 2000000000, hasTime := true, regs := [(SPN_CTL, 1)] }
def wokenSpindle : State :=
  { (up.put SPN_EST_PPM_PPM 20).put RTC_FLAG_OSF 0 with rtc := { up.rtc with raw := 0x0E101000 } }.spnRestore wakeLatch

theorem test_wake_spindle : (wokenSpindle.turn, wokenSpindle.angle, wokenSpindle.wideNs) = (1006866, 0xA30480, 1055776190536000) := by
  decide +kernel

theorem test_wake_status :
    (wokenSpindle.get SPN_STAT_STATE, wokenSpindle.get SPN_STAT_EST, wokenSpindle.rd SPN_EST_ERR) = (5, 1, 0x232BF9) := by
  decide +kernel

-- spec/03_frond_radios.md, "a yard radio that hops between tags and cameras": the words of its program
theorem test_seq_words :
    [0x0000000000000001, 0x000001000100030A, 0x0000000000000906, 0x0000001F08000008, 0x0000000000000007, 0x2F10000008020009,
      0x000000000000200D].map decodeOp =
      [some .sync, some (.txtpl 3 0x100 1), some (.prep 9 false), some (.rxwin 0x80000 15 1), some .hop,
        some (.txq 0x80200 0x100000 15 2), some (.jump 0x20)] := by decide +kernel

theorem test_seq_reserved_word : decodeOp 0x0F = none := by decide +kernel

-- spec/16_dram.md, "where a station context lies", and the DMC_STAT of its example configuration
theorem test_dram_place : dramPlace 2 17 0 0x20057A00 = ⟨0, 0, 0x400A, 5, 0x280⟩ := by decide +kernel

theorem test_dram_next_line : dramPlace 2 17 0 (0x20057A00 + 64) = ⟨1, 0, 0x400A, 5, 0x280⟩ := by decide +kernel

theorem test_dram_third_line : dramPlace 2 17 0 (0x20057A00 + 128) = ⟨0, 0, 0x400A, 5, 0x2A0⟩ := by decide +kernel

theorem test_dram_order_zero_bank : (dramPlace 0 17 0 0x20057A00).bank = 7 := by decide +kernel

-- spec/18_rtc.md, "29 February written for a year without one"
theorem test_rtc_29_february :
    Calendar.tick ⟨0x59, 0x59, 0x23, 6, 0x29, 2, 0x20, 0x26⟩ false = ⟨0, 0, 0, 7, 0x30, 2, 0x20, 0x26⟩ := by decide +kernel

theorem test_rtc_31_february :
    Calendar.tick ⟨0x59, 0x59, 0x23, 1, 0x31, 2, 0x20, 0x26⟩ false = ⟨0, 0, 0, 2, 1, 3, 0x20, 0x26⟩ := by decide +kernel

theorem test_rtc_set_accepts_29_february : Calendar.ok ⟨0x50, 0x59, 0x23, 6, 0x29, 2, 0x20, 0x26⟩ = true := by decide +kernel

-- spec/09_router_pipeline.md, "a crane telemetry frame with a bad IPv4 length"
/-- The example's graph: nodes 3, 8, 9 and the entries 0 to 3; HDR_ID 1 and 2 for ETH and VLAN. -/
def craneGraph : State :=
  let s := rtr.memPut (rtr.prsBase + 64 * 3) [1, 1, 14, 0, 0, 0, 0, 0, 0, 0, 0, 0, 0, 0, 0, 0x80, 12, 0, 16, 0, 0, 0, 2, 0]
  let s := s.memPut (s.prsBase + 64 * 8) [2, 1, 4, 0, 0, 0, 0, 0, 0, 0, 0, 0, 0, 0, 0, 0x80, 2, 0, 16, 0, 2, 0, 1, 0]
  let s := s.memPut (s.prsBase + 0x240)
    [0x04, 0x07, 0x14, 0x04, 0x00, 0x08, 0x04, 0x00, 0x02, 0x00, 0x10, 0x00, 0x00, 0x00, 0x00, 0x80, 0x08, 0x00, 0x08, 0x00,
      0x03, 0x00, 0x01, 0x00]
  s.memPut (s.prsBase + 0x4000)
    [0x00, 0x81, 0xFF, 0xFF, 8, 0, 0, 0, 0x00, 0x08, 0xFF, 0xFF, 9, 0, 0, 0, 0x00, 0x08, 0xFF, 0xFF, 9, 0, 0, 0,
      0x11, 0, 0xFF, 0, 10, 0, 0, 0]

/-- The example's frame: 90 bytes, its IPv4 header at byte 18 with total length 80. -/
def craneFrame : List Byte :=
  List.replicate 12 1 ++ [0x81, 0x00, 0, 5, 0x08, 0x00, 0x45, 0, 0, 80] ++ List.replicate 5 0 ++ [17] ++ List.replicate 62 0

set_option maxRecDepth 100000 in
theorem test_parse_bad_length :
    (fun (r : ParseRes) => (craneFrame.length, r.status, r.depth, r.lastHdr, r.key.take 4)) (craneGraph.parse 3 0 0 craneFrame) =
      (90, 2, 2, 2, [3, 2, 2, 2]) := by decide +kernel

set_option maxRecDepth 100000 in
/-- The same frame with a total length that fits walks on to node 10. -/
theorem test_parse_udp :
    (match craneGraph.header (craneFrame.set 21 60) 90 18 (craneGraph.pnode 9) with
      | .ok r => decide (r = (38, 78, 10))
      | .error _ => false) = true := by decide +kernel

-- spec/10_ethernet.md, "jumbo frames on a yard camera port"
theorem test_eth_jumbo_accepted :
    let t := after (.ethFrameRx 1 (List.replicate 9018 7) true) (ethUp.put (ETH_MAXLEN_MAX 1) 0x233A)
    (t.rd (ETH_CNT_RX_OK 1), t.rd (ETH_CNT_RX_BYTES_LO 1), (t.rd (ETH_EVT 1))) = (1, 0x233A, 0) := by decide +kernel

-- spec/11_buffers_credits_order.md, "a mirrored camera frame in the books"
/-- Between steps 3 and 4: one frame of 3,000 bytes, held by ETH1 and by the host. -/
def mirrored : State :=
  { ((((inTurn 5).wr CHK_DRAM_CNT 0x40000).wr CHK_FREE_DRAM 0x40000).wr CHK_FREE_ODIE 2046) with
    chk := { up.chk with nextId := 1, chains := [⟨0, [2 ^ 23 + 4, 2 ^ 23 + 9], 3000, [], [1, 2]⟩] } }

theorem test_books_page :
    let t := after .booksSnap mirrored
    (t.rd CHK_BK_FREE_ODIE, t.rd CHK_BK_FREE_DRAM, t.rd CHK_BK_EXTRA, t.rd (CHK_BK_OWN 1), t.rd (CHK_BK_OWN 2)) =
      (0x7FE, 0x40000, 2, 2, 2) := by decide +kernel

theorem test_books_rob : (after .booksSnap mirrored).rd CHK_BK_ROB = 0x2000 := by decide +kernel

-- spec/19_faults_test.md, "a cipher lane that mismatches three times"
def laneEvent (angle : Nat) : FltEvent := { src := 151, code := 2, detail := 0, tick := packTick (7000 * turnTicks + angle), cycle := 0, est := false }

theorem test_fault_record :
    recMerge (recMerge (recBytes (laneEvent 0x100000) 1 1 1 false false) (laneEvent 0x180000) 1 1) (laneEvent 0x200000) 2 0x0D =
      [0x58, 0x1B, 0, 0, 0, 0, 0, 0x10, 0x58, 0x1B, 0, 0, 0, 0, 0, 0x20, 0x97, 0x06, 0x0D, 0, 3, 0, 2, 0, 0, 0, 0, 0, 1, 0, 0, 0] := by
  decide +kernel

/-- The policy entry of the example. -/
def lanePolicy : State :=
  pols up [0x97, 0x00, 0x03, 0x00, 0x64, 0x00, 0x88, 0x13, 0x01, 0x0D, 0x00, 0x00, 0x00, 0x00, 0x00, 0x00]

theorem test_fault_policy : lanePolicy.policy 151 = ⟨3, 100, 5000, 1, 13, 0⟩ := by decide +kernel

theorem test_fault_source_of_lane_mismatch :
    ((up.put FLT_CTL_EN 1).raise (mismatchFld 2)).flt.queue.map (fun (e : FltEvent) => (e.src, e.code)) = [(151, 2)] := by
  decide +kernel

-- spec/15_cipher_keys.md, "a new pairwise key for the crane handset"
theorem test_key_info :
    let t := after (.info 0) (keyIn ((keySel 0x512 1).put KEY_STAT_READY 1) 0x512 { suite := 1, key := 5, rxPn := 1 })
    (t.rd KEY_STAT, t.rd KEY_INFO, t.rd KEY_INFO_RXPN_LO, t.rd KEY_INFO_TXPN_LO) = (2, 1, 1, 0) := by decide +kernel

/-! ### The opcode table gives no bits -/

theorem test_no_word_spells_a_command : decodeTableWord 0 0 = none := rfl

theorem test_no_word_is_queued : (State.reset.withFetchWord 0 0).pending = [] := rfl

/-! ### Ill-formed commands, one for each check, and the check refuses them -/

def okDir : DirRecord := ⟨0, 0, 0, 0⟩
def okDesc : TxDesc := ⟨64, 3, false, 0, 0, []⟩

theorem test_wf_unaligned_write : (Instr.registerWrite .pcie 0x60001 0).wf = false := by decide +kernel
theorem test_wf_aligned_write : (Instr.registerWrite .pcie 0x60000 0).wf = true := by decide +kernel
theorem test_wf_unaligned_others :
    [(Instr.unassignedAccess .pcie 2 none).wf, (Instr.pairLowRead .pcie 1).wf, (Instr.pairLowWrite .pcie 3 0).wf,
      (Instr.rcRead .pcie 2).wf, (Instr.w1cWrite .pcie 2 0 0).wf] = List.replicate 5 false := by decide +kernel
theorem test_wf_high_word_without_low :
    [(Instr.pairHighRead .pcie 0).wf, (Instr.pairHighWrite .pcie 0 0).wf] = [false, false] := by decide +kernel
theorem test_wf_undetected_ppdu :
    (Instr.ppduReceived 0 { ppdu0 with stampA := none, stampB := none, stampC := none, stampD := none }).wf = false := by
  decide +kernel
theorem test_wf_two_links_on_one_radio :
    (Instr.associationRequest 1 0 0 0xFF [⟨0, 1, 0, 0xFF⟩, ⟨0, 2, 0, 0xFF⟩] 0 0 0 0 0 0 []).wf = false := by decide +kernel
theorem test_wf_path_id :
    [(Instr.stationEnqueue 1 9 0 false false false air0 []).wf, (Instr.frondQueueFill 0 9 air0).wf,
      (Instr.frameLifetimeExpiry 1 9).wf, (Instr.handFrameRx (af 0) hm0 9 0 false 0 air0 []).wf] = List.replicate 4 false := by
  decide +kernel
theorem test_wf_directory_records :
    [(Instr.dirReportRx (af 0) (List.replicate 49 okDir)).wf, (Instr.dirUpdateRx (af 0) 0 (List.replicate 49 okDir)).wf,
      (Instr.dirFullRx (af 0) 0 0 0 (List.replicate 49 okDir)).wf] = List.replicate 3 false := by decide +kernel
theorem test_wf_plan_windows : (Instr.planRx (af 0) 0 0 0 0 0 0 (List.replicate 65 0)).wf = false := by decide +kernel
theorem test_wf_image_piece : (Instr.imgRx (af 0) 0 0 0 false (List.replicate 1025 0)).wf = false := by decide +kernel
theorem test_wf_context_body : (Instr.handCtxRx (af 0) hm0 (List.replicate 415 0)).wf = false := by decide +kernel
theorem test_wf_owner :
    [(Instr.bufferAlloc 12 0).wf, (Instr.bufferRelease 12 0).wf, (Instr.referenceAdd 12 0).wf] = List.replicate 3 false := by
  decide +kernel
theorem test_wf_engine_fault_code : (Instr.engineFault 0 0 0).wf = false := by decide +kernel
theorem test_wf_training_step : (Instr.trainingStep 6 3 ⟨0, 0, 0, 0, 0⟩).wf = false := by decide +kernel
theorem test_wf_pulse_length : (Instr.errnPulseEnd 2001).wf = false := by decide +kernel
theorem test_wf_descriptor_data : (Instr.txRingRead [{ okDesc with len := 0, data := [7] }]).wf = false := by decide +kernel
theorem test_wf_hsp_opcodes :
    [(Instr.hspRead 2 0 0 true .none).wf, (Instr.hspWrite 1 0 [0] true false).wf, (Instr.hspWrite 2 0 [] true false).wf] =
      List.replicate 3 false := by decide +kernel

/-! ### Words of a program are command operands, so an action's witness must also meet the stop of a word -/

theorem witness_RegisterActions_words :
    (∃ (s : State) (e : Fin 16) (n : Fin 4), s.thread (thr e n) = none) ∧
    (∃ (s : State) (e : Fin 16) (n : Fin 4) (x : Thread), s.thread (thr e n) = some x ∧ x.pc = 0) ∧
    (∃ (s : State) (e : Fin 16) (n : Fin 4) (x : Thread) (w : ActWord), s.thread (thr e n) = some x ∧ w.res ≠ 0) :=
  ⟨⟨up, 15, 3, by decide +kernel⟩, ⟨running { x0 with pc := 0 }, 15, 3, { x0 with pc := 0 }, by decide +kernel⟩,
   ⟨running x0, 15, 3, x0, { wd 0 0 0 0 0 with res := 1 }, by decide +kernel⟩⟩

/-- The pattern's bytes stand where its run wrote them, whatever `Config.patByte` gives. -/
theorem written_reads : ∀ i < pc0.len, written.dramCell (written.patPlace pc0 i).cell = some (pc0.bytes i) := by
  intro i hi
  have h2 : i < 2 := hi
  match i, h2 with
  | 0, _ => rfl
  | 1, _ => rfl

/-! ### Witnesses: each clause of a statement, in the order of its hypotheses -/

theorem witness_StepRunsFront :
    (∃ (s : State), s.pending = []) :=
  ⟨up, by decide +kernel⟩

theorem witness_StepKeepsForm :
    (∃ (s : State) (t : State), s.mapsWf ∧ s.steps t) :=
  ⟨up, up.idle,
  ⟨by decide +kernel, by decide +kernel, by decide +kernel, by decide +kernel, by decide +kernel, by decide +kernel, fun _ h => nomatch h⟩,
  rfl⟩

theorem witness_Frames :
    (∃ (c : Instr) (s : State) (t : State) (p : _), exec c s = .next t ∧ p ∉ (footprint c).parts) ∧
    (∃ (c : Instr) (s : State) (t : State) (bs : _) (a : _), exec c s = .next t ∧ (footprint c).blocks = some bs ∧
    a / 0x10000 ∉ bs ∧ reporting a = false) :=
  ⟨⟨.time 0 0 (wd 0 0 0 0 0), up, after (.time 0 0 (wd 0 0 0 0 0)) up, .ctx, rfl, by decide +kernel⟩,
   ⟨.time 0 0 (wd 0 0 0 0 0), up, after (.time 0 0 (wd 0 0 0 0 0)) up, [0xA, 0xB, 0xC, 0xE], SPN_CTL, rfl, by decide +kernel⟩⟩

theorem witness_SpindleControl :
    (∃ (s : State), s.reach none SPN_CTL = .made ∧ s.flag SPN_CTL_EN = false ∧ isSource (s.get SPN_SRC_SRC_A) = false) ∧
    (∃ (s : State), s.reach none SPN_CTL = .made ∧ s.flag SPN_CTL_EN = false ∧ isSource (s.get SPN_SRC_SRC_A) = true) ∧
    (∃ (s : State), s.reach none SPN_CTL = .made ∧ s.flag SPN_CTL_EN = true) ∧
    (∃ (s : State), s.reach none SPN_EPOCH_SEC_HI = .made ∧ s.flag SPN_CTL_EN = false ∧
    (s.spn.heldNs.getD (s.rd SPN_EPOCH_NS)).toNat < 1000000000) ∧
    (∃ (s : State), s.reach none SPN_EPOCH_SEC_HI = .made ∧
    (s.flag SPN_CTL_EN = true ∨ 1000000000 ≤ (s.spn.heldNs.getD (s.rd SPN_EPOCH_NS)).toNat)) ∧
    (∃ (s : State), s.reach none SPN_EPOCH_SEC_HI = .made ∧
    (s.flag SPN_CTL_EN = true ∨ 1000000000 ≤ (s.spn.heldNs.getD (s.rd SPN_EPOCH_NS)).toNat)) ∧
    (∃ (s : State), s.reach none SPN_CTL = .made ∧ s.switchOk = true) ∧
    (∃ (s : State), s.reach none SPN_CTL = .made ∧ s.switchOk = false) ∧
    (∃ (s : State), s.reach none SPN_STEP_CMD = .made ∧ s.flag SPN_STAT_STEP_PEND = true) ∧
    (∃ (s : State), s.reach none SPN_STEP_CMD = .made ∧ s.flag SPN_STAT_STEP_PEND = false) ∧
    (∃ (s : State), s.reach none SPN_STEP_CMD = .made) ∧
    (∃ (s : State), s.reach none SPN_NOW_NS = .made ∧ s.spn.hasTime = true) ∧
    (∃ (s : State), s.reach none SPN_TL_NS = .made) ∧
    (∃ (s : State), s.reach none SPN_PPS_LABEL_HI = .made) :=
  ⟨⟨up, by decide +kernel⟩,
   ⟨(up.put SPN_SRC_SRC_A 1), by decide +kernel⟩,
   ⟨spnAcq, by decide +kernel⟩,
   ⟨(up.wr SPN_EPOCH_NS 999999999), by decide +kernel⟩,
   ⟨spnOn, by decide +kernel⟩,
   ⟨{ up with spn := { up.spn with heldNs := some 1000000000 } }, by decide +kernel⟩,
   ⟨dualOn, by decide +kernel⟩,
   ⟨spnAcq, by decide +kernel⟩,
   ⟨{ (up.put SPN_STAT_STEP_PEND 1) with spn := { up.spn with pendOfs := -5 } }, by decide +kernel⟩,
   ⟨up, by decide +kernel⟩,
   ⟨(up.wr SPN_STEP_PEND 0xFFFFFFFF), by decide +kernel⟩,
   ⟨timed spnAcq, by decide +kernel⟩,
   ⟨up, by decide +kernel⟩,
   ⟨up, by decide +kernel⟩⟩

theorem witness_SpindleSamples :
    (∃ (s : State) (port : Fin 2) (n : BitVec 8), s.awake = true ∧ n.toNat ≤ 16 ∧ s.flag SPN_CTL_MODE = false ∧
    s.get SPN_SRC_SRC_A = port.val + 1 ∧ s.spnSt = spnAcquire ∧ s.spn.hasTime = false) ∧
    (∃ (s : State) (port : Fin 2) (ext : BitVec 80) (n : BitVec 8), s.awake = true ∧ n.toNat ≤ 16 ∧
    s.flag SPN_CTL_MODE = false ∧ s.get SPN_SRC_SRC_A = port.val + 1 ∧ (s.spnSt = spnAcquire ∨ s.spnSt = spnLocked) ∧
    s.spn.hasTime = true ∧ beyond ((ext.toNat : Int) - s.wideNs) (s.rd SPN_JUMP_THR).toNat = true) ∧
    (∃ (s : State) (port : Fin 2) (ext : BitVec 80) (n : BitVec 8), s.awake = true ∧ n.toNat ≤ 16 ∧
    s.flag SPN_CTL_MODE = false ∧ s.get SPN_SRC_SRC_A = port.val + 1 ∧ (s.spnSt = spnAcquire ∨ s.spnSt = spnLocked) ∧
    s.spn.hasTime = true ∧ beyond ((ext.toNat : Int) - s.wideNs) (s.rd SPN_JUMP_THR).toNat = true) ∧
    (∃ (s : State) (port : Fin 2) (ext : BitVec 80) (n : BitVec 8) (o : Int) (dt : Nat), s.awake = true ∧ n.toNat ≤ 16 ∧
    s.flag SPN_CTL_MODE = false ∧ s.get SPN_SRC_SRC_A = port.val + 1 ∧ s.spnSt = spnAcquire ∧ s.spn.hasTime = true ∧
    o = (ext.toNat : Int) - s.wideNs ∧ beyond o (s.rd SPN_JUMP_THR).toNat = false ∧
    dt = (match s.spn.domA.lastRef with | some r => s.ref - r | none => 2000000000)) ∧
    (∃ (n : BitVec 8) (ord : Bool), (ord = false ∨ 16 < n.toNat)) ∧
    (∃ (s : State), s.awake = true ∧ s.flag SPN_CTL_EN = true ∧ s.usesSource 3 = true) ∧
    (∃ (s : State), s.spn.ptmBusy = true) ∧
    (∃ (s : State) (rt : BitVec 32), s.awake = true ∧ s.spn.ptmBusy = true ∧ rt.toNat < 10000 ∧ s.flag SPN_CTL_MODE = false ∧
    s.get SPN_SRC_SRC_A = 3 ∧ s.spnSt = spnAcquire ∧ s.spn.hasTime = false) ∧
    (∃ (s : State) (after : BitVec 32) (sec : Nat) (n : Nat), s.flag SPN_CTL_EN = true ∧ s.usesSource 4 = true ∧
    s.spn.pps = some (sec, n) ∧ s.ref + 2 * after.toNat - n < 1998000000) ∧
    (∃ (s : State) (after : BitVec 32) (sec : Nat) (n : Nat), s.flag SPN_CTL_EN = true ∧ s.usesSource 4 = true ∧
    s.spn.pps = some (sec, n) ∧ s.flag SPN_PPS_CFG_LBL_VALID = false ∧ 1998000000 ≤ s.ref + 2 * after.toNat - n ∧
    s.ref + 2 * after.toNat - n ≤ 2002000000) ∧
    (∃ (s : State) (after : BitVec 32) (sec : Nat) (n : Nat), s.flag SPN_CTL_EN = true ∧ s.usesSource 4 = true ∧
    s.spn.pps = some (sec, n) ∧ s.flag SPN_PPS_CFG_LBL_VALID = false ∧ 1998000000 ≤ s.ref + 2 * after.toNat - n ∧
    s.ref + 2 * after.toNat - n ≤ 2002000000) ∧
    (∃ (s : State), s.flag SPN_CTL_EN = true ∧ s.usesSource 4 = true ∧ s.spn.pps = none ∧ s.flag SPN_PPS_CFG_LBL_VALID = true) ∧
    (∃ (s : State), s.running = true ∧ s.flag SPN_STAT_HELD = false ∧ s.spn.turnRef = s.ref ∧ s.flag SPN_CTL_MODE = false ∧
    (s.spn.domA.lastTurn = none ∨ ∃ k, s.spn.domA.lastTurn = some k ∧ atLeast1 (s.get SPN_LOCK_CFG_LOSS_TMO) ≤ s.turn - k - 1) ∧
    (s.spnSt = spnAcquire ∨ s.spnSt = spnLocked)) ∧
    (∃ (s : State), s.spnSt = spnHoldover ∧ 0 < s.get SPN_HOLD_PPB_PPB) :=
  ⟨⟨spnAcq, 0, 16, by decide +kernel⟩,
   ⟨timed spnAcq, 0, 10000000801, 0, by decide +kernel⟩,
   ⟨timed (spnAcq.put SPN_STAT_STATE spnLocked), 0, 99991999, 3, by decide +kernel⟩,
   ⟨timed spnAcq, 0, 50000000016, 16, (50000000016 : Int) - (timed spnAcq).wideNs, 2000000000, by decide +kernel⟩,
   ⟨17, true, by decide +kernel⟩,
   ⟨(spnOn.put SPN_SRC_SRC_A 3), by decide +kernel⟩,
   ⟨{ (spnOn.put SPN_SRC_SRC_A 3) with spn := { spnOn.spn with ptmBusy := true } }, by decide +kernel⟩,
   ⟨{ ((spnOn.put SPN_SRC_SRC_A 3).put SPN_STAT_STATE spnAcquire) with spn := { spnOn.spn with ptmBusy := true } }, 9999,
   by decide +kernel⟩,
   ⟨{ (spnOn.put SPN_SRC_SRC_A 4) with spn := { spnOn.spn with pps := some (5, 0) } }, 998999999, 5, 0, by decide +kernel⟩,
   ⟨{ (spnOn.put SPN_SRC_SRC_A 4) with spn := { spnOn.spn with pps := some (5, 0) } }, 999000000, 5, 0, by decide +kernel⟩,
   ⟨{ ((spnOn.put SPN_SRC_SRC_A 4).put SPN_STAT_STATE spnAcquire) with spn := { spnOn.spn with pps := some (5, 0) } },
   1001000000, 5, 0, by decide +kernel⟩,
   ⟨((spnOn.put SPN_SRC_SRC_A 4).put SPN_PPS_CFG_LBL_VALID 1), by decide +kernel⟩,
   ⟨timed spnAcq, by decide +kernel, by decide +kernel, by decide +kernel, by decide +kernel, .inl (by decide +kernel),
   by decide +kernel⟩,
   ⟨(spnOn.put SPN_STAT_STATE spnHoldover), by decide +kernel⟩⟩

theorem witness_TurnsAndTriggers :
    (∃ (s : State) (u : State), s.flag SPN_CTL_EN = true ∧ s.spn.hasTime = true ∧ s.spn.sched = none ∧
    u = s.toWideHalf (2 * (s.epochNs + s.nextTurn * turnNs))) ∧
    (∃ (s : State) (u : State) (d : Int), s.flag SPN_CTL_EN = true ∧ s.spn.hasTime = true ∧ s.spn.sched = some d ∧
    u = s.toWideHalf (2 * (s.epochNs + s.nextTurn * turnNs))) ∧
    (∃ (s : State) (u : State) (d : Int), s.flag SPN_CTL_EN = true ∧ s.spn.hasTime = true ∧ s.spn.sched = some d ∧
    u = s.toWideHalf (2 * (s.epochNs + s.nextTurn * turnNs))) ∧
    (∃ (s : State), (s.flag SPN_CTL_EN = false ∨ s.spn.hasTime = false) ∧ s.spn.frond.free = none) ∧
    (∃ (s : State) (u : State), (s.flag SPN_CTL_EN = false ∨ s.spn.hasTime = false) ∧ s.spn.frond.free.isSome = true ∧
    u = s.toFrnTick ((s.frnTick / turnTicks + 1) * turnTicks)) ∧
    (∃ (s : State) (n : Fin 4) (p : Nat) (w : Nat), s.reach none (SPN_TTO_CTL n) = .made ∧ s.flag (SPN_TTO_CTL_EN n) = false ∧
    p = max 16 (s.rd (SPN_TTO_PERIOD n)).toNat ∧ w = atLeast1 (s.rd (SPN_TTO_WIDTH n)).toNat ∧
    (s.rd (SPN_TTO_PERIOD n)).toNat ≠ 0) ∧
    (∃ (s : State) (n : Fin 4) (p : Nat) (w : Nat), s.reach none (SPN_TTO_CTL n) = .made ∧ s.flag (SPN_TTO_CTL_EN n) = false ∧
    p = max 16 (s.rd (SPN_TTO_PERIOD n)).toNat ∧ w = atLeast1 (s.rd (SPN_TTO_WIDTH n)).toNat ∧
    (s.rd (SPN_TTO_PERIOD n)).toNat ≠ 0) ∧
    (∃ (s : State) (n : Fin 4), s.reach none (SPN_TTO_CTL n) = .made ∧ s.flag (SPN_TTO_CTL_EN n) = false ∧
    (s.rd (SPN_TTO_PERIOD n)).toNat = 0 ∧ s.spn.hasTime = true ∧
    2 * (((s.rd (SPN_TTO_START_SEC_LO n)).toNat + 2 ^ 32 * (s.rd (SPN_TTO_START_SEC_HI n)).toNat) * 1000000000 + (s.rd (SPN_TTO_START_NS n)).toNat) < s.wideHalf + 125 * 32) ∧
    (∃ (s : State) (n : Fin 4), (s.trig n).armed = true ∧ s.spn.hasTime = true ∧ s.flag SPN_CTL_EN = true ∧
    (s.flag (SPN_TTO_CTL_GATE n) = false ∨ s.spnSt = spnLocked)) ∧
    (∃ (s : State) (n : Fin 4), (s.trig n).armed = true ∧ s.spn.hasTime = true ∧ s.flag SPN_CTL_EN = true ∧
    (s.flag (SPN_TTO_CTL_GATE n) = false ∨ s.spnSt = spnLocked)) ∧
    (∃ (s : State) (n : Fin 4), (s.trig n).armed = true ∧ s.spn.hasTime = true ∧ s.flag SPN_CTL_EN = true ∧
    s.flag (SPN_TTO_CTL_GATE n) = true ∧ s.spnSt ≠ spnLocked) ∧
    (∃ (s : State) (n : Fin 4), (s.trig n).armed = true ∧ s.spn.hasTime = true ∧ s.flag SPN_CTL_EN = true ∧
    s.flag (SPN_TTO_CTL_GATE n) = true ∧ s.spnSt ≠ spnLocked) ∧
    (∃ (s : State) (n : Fin 4) (e : Nat), (s.trig n).pulseEnd = some e) ∧
    (∃ (s : State) (n : Fin 4), (s.trig n).pulseEnd = none) :=
  ⟨⟨timed spnAcq, (timed spnAcq).toWideHalf (2 * ((timed spnAcq).epochNs + (timed spnAcq).nextTurn * turnNs)),
   by decide +kernel, by decide +kernel, by decide +kernel, congrArg (State.toWideHalf _) (by decide +kernel)⟩,
   ⟨(let s := timed spnAcq; { s with spn := { s.spn with sched := some (-3) } }),
   (let s := timed spnAcq; let s := { s with spn := { s.spn with sched := some (-3) } }; s.toWideHalf (2 * (s.epochNs + s.nextTurn * turnNs))),
   -3, by decide +kernel, by decide +kernel, by decide +kernel, congrArg (State.toWideHalf _) (by decide +kernel)⟩,
   ⟨(let s := timed spnAcq; { s with spn := { s.spn with sched := some 300 } }),
   (let s := timed spnAcq; let s := { s with spn := { s.spn with sched := some 300 } }; s.toWideHalf (2 * (s.epochNs + s.nextTurn * turnNs))),
   300, by decide +kernel, by decide +kernel, by decide +kernel, congrArg (State.toWideHalf _) (by decide +kernel)⟩,
   ⟨spnAcq, by decide +kernel⟩,
   ⟨alone0, alone0.toFrnTick ((alone0.frnTick / turnTicks + 1) * turnTicks), by decide +kernel, by decide +kernel,
   congrArg (State.toFrnTick _) (by decide +kernel)⟩,
   ⟨((up.wr (SPN_TTO_PERIOD 3) 3).wr (SPN_TTO_WIDTH 3) 0), 3, 16, 1, by decide +kernel⟩,
   ⟨((up.wr (SPN_TTO_PERIOD 0) 20).wr (SPN_TTO_WIDTH 0) 50), 0, 20, 50, by decide +kernel⟩,
   ⟨timed spnAcq, 1, by decide +kernel⟩,
   ⟨(let s := (timed spnAcq).put (SPN_TTO_CTL_EN 2) 1; s.setTrig 2 { armed := true, start := 60000000000, width := 3 }), 2,
   by decide +kernel⟩,
   ⟨(let s := (timed spnAcq).put (SPN_TTO_CTL_EN 2) 1; s.setTrig 2 { armed := true, start := 60000000000, period := 16, width := 3, next := 5 }),
   2, by decide +kernel⟩,
   ⟨(let s := ((timed spnAcq).put (SPN_TTO_CTL_EN 2) 1).put (SPN_TTO_CTL_GATE 2) 1; s.setTrig 2 { armed := true, start := 60000000000, period := 16, width := 3, next := 5 }),
   2, by decide +kernel⟩,
   ⟨(let s := ((timed spnAcq).put (SPN_TTO_CTL_EN 2) 1).put (SPN_TTO_CTL_GATE 2) 1; s.setTrig 2 { armed := true, start := 60000000000, width := 3 }),
   2, by decide +kernel⟩,
   ⟨(timed spnAcq).setTrig 1 { pulseEnd := some 100, pin := some true }, 1, 100, by decide +kernel⟩,
   ⟨timed spnAcq, 3, by decide +kernel⟩⟩

theorem witness_StepScheduled :
    (∃ (s : State), s.reach none SPN_STEP_CMD = .made ∧ s.flag SPN_STAT_STEP_PEND = true) ∧
    (∃ (s : State), s.reach none SPN_STEP_CMD = .made ∧ s.flag SPN_STAT_STEP_PEND = true) ∧
    (∃ (s : State), s.reach none SPN_STEP_CMD = .made ∧ s.flag SPN_STAT_STEP_PEND = false) ∧
    (∃ (s : State), s.reach none SPN_STEP_CMD = .made ∧ s.flag SPN_STAT_STEP_PEND = false) ∧
    (∃ (s : State), s.reach none SPN_STEP_CMD = .made) ∧
    (∃ (s : State), s.reach none SPN_STEP_CMD = .made) ∧
    (∃ (s : State) (port : Fin 2) (ext : BitVec 80) (n : BitVec 8) (o : Int), s.awake = true ∧ n.toNat ≤ 16 ∧
    s.flag SPN_CTL_MODE = false ∧ s.get SPN_SRC_SRC_A = port.val + 1 ∧ (s.spnSt = spnAcquire ∨ s.spnSt = spnLocked) ∧
    s.spn.hasTime = true ∧ o = (ext.toNat : Int) - s.wideNs ∧ beyond o (s.rd SPN_JUMP_THR).toNat = true) ∧
    (∃ (s : State) (port : Fin 2) (ext : BitVec 80) (n : BitVec 8) (o : Int), s.awake = true ∧ n.toNat ≤ 16 ∧
    s.flag SPN_CTL_MODE = false ∧ s.get SPN_SRC_SRC_A = port.val + 1 ∧ (s.spnSt = spnAcquire ∨ s.spnSt = spnLocked) ∧
    s.spn.hasTime = true ∧ o = (ext.toNat : Int) - s.wideNs ∧ beyond o (s.rd SPN_JUMP_THR).toNat = true) ∧
    (∃ (s : State) (port : Fin 2) (ext : BitVec 80) (n : BitVec 8) (o : Int), s.awake = true ∧ n.toNat ≤ 16 ∧
    s.flag SPN_CTL_MODE = false ∧ s.get SPN_SRC_SRC_A = port.val + 1 ∧ (s.spnSt = spnAcquire ∨ s.spnSt = spnLocked) ∧
    s.spn.hasTime = true ∧ o = (ext.toNat : Int) - s.wideNs ∧ beyond o (s.rd SPN_JUMP_THR).toNat = true) ∧
    (∃ (s : State) (u : State) (d : Int), s.flag SPN_CTL_EN = true ∧ s.spn.hasTime = true ∧ s.spn.sched = some d ∧
    u = s.toWideHalf (2 * (s.epochNs + s.nextTurn * turnNs))) ∧
    (∃ (s : State) (u : State) (d : Int), s.flag SPN_CTL_EN = true ∧ s.spn.hasTime = true ∧ s.spn.sched = some d ∧
    u = s.toWideHalf (2 * (s.epochNs + s.nextTurn * turnNs))) :=
  ⟨⟨up.put SPN_STAT_STEP_PEND 1, by decide +kernel⟩,
   ⟨{ (up.put SPN_STAT_STEP_PEND 1) with spn := { up.spn with pendOfs := -5, sched := some 7 } }, by decide +kernel⟩,
   ⟨up, by decide +kernel⟩,
   ⟨up, by decide +kernel⟩,
   ⟨up, by decide +kernel⟩,
   ⟨(up.wr SPN_STEP_PEND 0x80000000), by decide +kernel⟩,
   ⟨(stepped.wr SPN_JUMP_THR 5).put SPN_SRC_DOM_A 0x80, 1, farAhead, 16, 1000000, by decide +kernel⟩,
   ⟨timed spnAcq, 0, 10000000801, 0, (10000000801 : Int) - 50000000000, by decide +kernel⟩,
   ⟨timed spnAcq, 0, 50000800001, 0, 800001, by decide +kernel⟩,
   ⟨dueStep, dueStep.toWideHalf (2 * (dueStep.epochNs + dueStep.nextTurn * turnNs)), -1000, by decide +kernel,
   by decide +kernel, by decide +kernel, congrArg (State.toWideHalf _) (by decide +kernel)⟩,
   ⟨(let s := timed spnAcq; { s with spn := { s.spn with sched := some (-3) } }),
   (let s := timed spnAcq; let s := { s with spn := { s.spn with sched := some (-3) } }; s.toWideHalf (2 * (s.epochNs + s.nextTurn * turnNs))),
   -3, by decide +kernel, by decide +kernel, by decide +kernel, congrArg (State.toWideHalf _) (by decide +kernel)⟩⟩

theorem witness_RadioControl :
    (∃ (s : State) (r : Fin 3) (run : Bool), s.reach none (FRN_CTL r) = .made ∧ s.flag (FRN_CTL_EN r) = false ∧
    (s.rflag r 0 || s.rflag r 1) = true ∧ s.flag (FRN_CTL_RUN r) = run ∧ s.retq = []) ∧
    (∃ (s : State) (r : Fin 3) (run : Bool), s.reach none (FRN_CTL r) = .made ∧ s.flag (FRN_CTL_EN r) = true ∧
    s.flag (FRN_CTL_RUN r) = run ∧ s.retq = [] ∧ (s.fr r).ppdu = none) ∧
    (∃ (s : State) (r : Fin 3) (en : Bool), s.reach none (FRN_CTL r) = .made ∧ s.flag (FRN_CTL_EN r) = en ∧
    s.flag (FRN_CTL_RUN r) = false ∧ s.retq = []) ∧
    (∃ (s : State) (r : Fin 3) (en : Bool), s.reach none (FRN_CTL r) = .made ∧ s.flag (FRN_CTL_EN r) = en ∧
    s.flag (FRN_CTL_RUN r) = true ∧ s.retq = [] ∧ (s.fr r).ppdu = none ∧ (s.fr r).rxEnd = none) ∧
    (∃ (s : State) (r : Fin 3) (en : Bool) (p : TxPpdu), s.reach none (FRN_CTL r) = .made ∧ s.flag (FRN_CTL_EN r) = en ∧
    s.flag (FRN_CTL_RUN r) = true ∧ s.retq = [] ∧ (s.fr r).ppdu = some p ∧ p.start ≤ s.frnTick) ∧
    (∃ (s : State) (r : Fin 3) (idx : BitVec 8), s.reach none (chanAddr r idx.toNat) = .made) ∧
    (∃ (s : State) (r : Fin 3) (idx : BitVec 8), s.reach none (chanAddr r idx.toNat) = .made) ∧
    (∃ (s : State) (r : Fin 3) (idx : BitVec 8), s.reach none (chanAddr r idx.toNat) = .made) ∧
    (∃ (s : State) (i : Iface) (r : Fin 3) (a : BitVec 12), s.reach (some i) (progAddr r a.toNat) = .made) ∧
    (∃ (s : State) (r : Fin 3) (k : Bool), s.flag (synCalib r k) = true ∧ (s.fr r).wait = .none ∧ s.retq = []) ∧
    (∃ (s : State) (r : Fin 3) (k : Bool), s.flag (synCalib r k) = true ∧ s.retq = [] ∧
    ((s.syn r k).full = false ∨ (s.syn r k).fails = 0)) ∧
    (∃ (s : State) (r : Fin 3) (k : Bool), s.flag (synCalib r k) = true ∧ s.retq = [] ∧
    ((s.syn r k).full = false ∨ (s.syn r k).fails = 0)) ∧
    (∃ (s : State) (r : Fin 3) (k : Bool), s.flag (synCalib r k) = true ∧ s.retq = [] ∧ (s.syn r k).full = true ∧
    (s.syn r k).fails ≠ 0 ∧ (s.fr r).wait = .none ∧ s.activeSyn r ≠ some k) ∧
    (∃ (s : State) (r : Fin 3) (k : Bool), s.activeSyn r = some k ∧ s.flag (synLocked r k) = true ∧ (s.fr r).ppdu = none ∧
    (s.fr r).wait = .none ∧ s.retq = []) :=
  ⟨⟨(let s := { up with blk := some ones }; s), 0, false, by decide +kernel⟩,
   ⟨radioOn, 0, true, by decide +kernel⟩,
   ⟨(radioOn.put (FRN_CTL_RUN 0) 0), 0, true, by decide +kernel⟩,
   ⟨radioOn, 0, true, by decide +kernel⟩,
   ⟨withFr radioOn (fun f => { f with ppdu := some ⟨800000000, 800000100, [], 1, none, false, false, 0⟩ }), 0, true,
   ⟨800000000, 800000100, [], 1, none, false, false, 0⟩, by decide +kernel⟩,
   ⟨up, 2, 255, by decide +kernel⟩,
   ⟨radioOn, 0, 3, by decide +kernel⟩,
   ⟨radioOn, 0, 3, by decide +kernel⟩,
   ⟨up, .pcie, 2, 4095, by decide +kernel⟩,
   ⟨(radioOn.put (synCalib 0 true) 1), 0, true, by decide +kernel⟩,
   ⟨(radioOn.put (synCalib 0 true) 1), 0, true, by decide +kernel⟩,
   ⟨withFr (radioOn.put (synCalib 0 true) 1) (fun f => { f with syn1 := { f.syn1 with full := true } }), 0, true,
   by decide +kernel⟩,
   ⟨withFr (radioOn.put (synCalib 0 true) 1) (fun f => { f with syn1 := { f.syn1 with full := true, fails := 1 } }), 0, true,
   by decide +kernel⟩,
   ⟨radioOn, 0, false, by decide +kernel⟩⟩

theorem witness_SequencerOperations :
    (∃ (s : State) (r : Fin 3), s.canExec r .halt = true) ∧
    (∃ (s : State) (r : Fin 3), s.canExec r .sync = true) ∧
    (∃ (s : State) (r : Fin 3) (ang : BitVec 24) (u : Nat), s.canExec r (.waitAt ang.toNat) = true ∧
    s.resolve ang.toNat = some u ∧ u ≠ s.frnTick) ∧
    (∃ (s : State) (r : Fin 3) (ang : BitVec 24), s.canExec r (.waitAt ang.toNat) = true ∧ s.resolve ang.toNat = none) ∧
    (∃ (s : State) (r : Fin 3) (n : BitVec 24), s.canExec r (.waitRel n.toNat) = true) ∧
    (∃ (s : State) (r : Fin 3) (n : BitVec 24), s.canExec r (.waitRel n.toNat) = true) ∧
    (∃ (s : State) (r : Fin 3) (u : Nat) (e : Ecc), s.frnGo = true ∧ (s.fr r).wait = .until_ u ∧
    s.fetches r ((s.pc r + 1) % 4096) e = true) ∧
    (∃ (s : State) (r : Fin 3) (u : Nat) (e : Ecc), s.frnGo = true ∧ (s.fr r).wait = .until_ u ∧
    (s.seqSt r = 1 ∨ s.seqSt r = 2) ∧ s.fetches r ((s.pc r + 1) % 4096) e = false) ∧
    (∃ (s : State) (r : Fin 3) (u : Nat) (e : Ecc), s.frnGo = true ∧ (s.fr r).wait = .hopDone u ∧
    s.fetches r ((s.pc r + 1) % 4096) e = true) ∧
    (∃ (s : State) (r : Fin 3) (e : Ecc), s.canExec r .sleep = true ∧ s.frnSt r ≠ 1 ∧
    s.fetches r ((s.pc r + 1) % 4096) e = true) ∧
    (∃ (s : State) (r : Fin 3) (ang : BitVec 24) (u : Nat), s.canExec r (.wake ang.toNat) = true ∧ s.frnSt r = 1 ∧
    s.resolve ang.toNat = some u ∧ s.frnTick + 0x280 ≤ u) ∧
    (∃ (s : State) (r : Fin 3) (idx : BitVec 8) (recal : Bool) (e : Ecc), s.canExec r (.prep idx.toNat recal) = true ∧
    s.fetches r ((s.pc r + 1) % 4096) e = true ∧ 2 ≤ s.frnSt r ∧ s.chValid r idx.toNat = true ∧
    ¬(s.get (synCh r (s.idleSyn r)) = idx.toNat ∧ (s.flag (synLocked r (s.idleSyn r)) || s.flag (synCalib r (s.idleSyn r))) = true)) ∧
    (∃ (s : State) (r : Fin 3) (idx : BitVec 8) (recal : Bool) (e : Ecc), s.canExec r (.prep idx.toNat recal) = true ∧
    s.fetches r ((s.pc r + 1) % 4096) e = true ∧ 2 ≤ s.frnSt r ∧ s.chValid r idx.toNat = false) ∧
    (∃ (s : State) (r : Fin 3) (idx : BitVec 8) (recal : Bool) (e : Ecc), s.canExec r (.prep idx.toNat recal) = true ∧
    s.fetches r ((s.pc r + 1) % 4096) e = true ∧ 2 ≤ s.frnSt r ∧ s.chValid r idx.toNat = false) ∧
    (∃ (s : State) (r : Fin 3), s.canExec r .hop = true ∧ 2 ≤ s.frnSt r ∧ s.flag (synFailed r (s.idleSyn r)) = false ∧
    s.get (synCh r (s.idleSyn r)) ≠ 0xFF) ∧
    (∃ (s : State) (r : Fin 3), s.canExec r .hop = true ∧ 2 ≤ s.frnSt r ∧ s.flag (synFailed r (s.idleSyn r)) = false ∧
    s.get (synCh r (s.idleSyn r)) ≠ 0xFF) ∧
    (∃ (s : State) (r : Fin 3), s.canExec r .hop = true ∧ 2 ≤ s.frnSt r ∧ s.flag (synFailed r (s.idleSyn r)) = false ∧
    s.get (synCh r (s.idleSyn r)) = 0xFF) ∧
    (∃ (s : State) (r : Fin 3) (ang : BitVec 24) (u : Nat), s.canExec r (.bgcal 4 ang.toNat) = true ∧
    s.resolve ang.toNat = some u ∧ s.frnTick + 0x10 < u) ∧
    (∃ (s : State) (r : Fin 3) (ang : BitVec 24) (u : Nat), s.canExec r (.bgcal 4 ang.toNat) = true ∧
    s.resolve ang.toNat = some u ∧ u ≤ s.frnTick + 0x10) ∧
    (∃ (s : State) (r : Fin 3) (kind : BitVec 3) (ang : BitVec 24), s.canExec r (.bgcal kind.toNat ang.toNat) = true ∧
    5 ≤ kind.toNat) ∧
    (∃ (s : State) (r : Fin 3) (code : BitVec 8), s.canExec r (.event code.toNat) = true) ∧
    (∃ (s : State) (r : Fin 3) (target : BitVec 12), s.canExec r (.jump target.toNat) = true) ∧
    (∃ (s : State) (r : Fin 3) (target : BitVec 12) (len : BitVec 8) (pos : BitVec 8), s.canExec r (.jcyc target.toNat len.toNat pos.toNat) = true) ∧
    (∃ (s : State) (r : Fin 3) (target : BitVec 12) (len : BitVec 8) (pos : BitVec 8), s.canExec r (.jcyc target.toNat len.toNat pos.toNat) = true) ∧
    (∃ (s : State) (r : Fin 3) (ang : BitVec 24) (ch : BitVec 4) (prof : BitVec 4) (u : Nat), s.canExec r (.rxwin ang.toNat ch.toNat prof.toNat) = true ∧
    3 ≤ s.frnSt r ∧ s.rxProfile r prof.toNat 4 % 2 = 1 ∧ s.resolve ang.toNat = some u ∧ u ≠ s.frnTick) ∧
    (∃ (s : State) (r : Fin 3) (ang : BitVec 24) (ch : BitVec 4) (prof : BitVec 4) (u : Nat), s.canExec r (.rxwin ang.toNat ch.toNat prof.toNat) = true ∧
    3 ≤ s.frnSt r ∧ s.rxProfile r prof.toNat 4 % 2 = 1 ∧ s.resolve ang.toNat = some u ∧ u = s.frnTick) ∧
    (∃ (s : State) (r : Fin 3) (ang : BitVec 24) (ch : BitVec 4) (prof : BitVec 4), s.canExec r (.rxwin ang.toNat ch.toNat prof.toNat) = true ∧
    s.rxProfile r prof.toNat 4 % 2 = 0) ∧
    (∃ (s : State) (r : Fin 3) (dl : BitVec 24) (en : BitVec 24) (ch : BitVec 4) (q : BitVec 4), s.canExec r (.txq dl.toNat en.toNat ch.toNat q.toNat) = true ∧
    (s.mayTake r q.toNat).1 = []) ∧
    (∃ (s : State) (r : Fin 3) (dl : BitVec 24) (en : BitVec 24) (ch : BitVec 4) (q : BitVec 4) (d : Nat) (u : Nat) (f : TxFrame) (l : List TxFrame) (b : List TxFrame), s.canExec r (.txq dl.toNat en.toNat ch.toNat q.toNat) = true ∧
    s.retq = [] ∧ (s.fr r).ppdu = none ∧ s.mayTake r q.toNat = (f :: l, b) ∧ s.resolve dl.toNat = some d ∧
    s.resolve en.toNat = some u ∧ 3 ≤ s.frnSt r ∧ s.txOk r = true ∧ s.headSends r f = true ∧
    s.flag (FRN_STAT_ACT_LOCK r) = true ∧ s.frnTick + s.txBudget r < d) ∧
    (∃ (s : State) (r : Fin 3) (dl : BitVec 24) (en : BitVec 24) (ch : BitVec 4) (q : BitVec 4) (d : Nat) (u : Nat) (f : TxFrame) (l : List TxFrame) (b : List TxFrame), s.canExec r (.txq dl.toNat en.toNat ch.toNat q.toNat) = true ∧
    s.flag SYS_DIE_STAT_FRN_UP = false ∧ (s.fr r).ppdu = none ∧ s.mayTake r q.toNat = (f :: l, b) ∧
    s.resolve dl.toNat = some d ∧ s.resolve en.toNat = some u ∧ 3 ≤ s.frnSt r ∧ s.txOk r = true ∧ s.headSends r f = true ∧
    d ≤ s.frnTick + s.txBudget r) ∧
    (∃ (s : State) (r : Fin 3) (dl : BitVec 24) (en : BitVec 24) (ch : BitVec 4) (q : BitVec 4) (f : TxFrame) (l : List TxFrame) (b : List TxFrame), s.canExec r (.txq dl.toNat en.toNat ch.toNat q.toNat) = true ∧
    s.flag SYS_DIE_STAT_FRN_UP = false ∧ (s.fr r).ppdu = none ∧ s.mayTake r q.toNat = (f :: l, b) ∧
    (s.txOk r = false ∨ s.headSends r f = false)) ∧
    (∃ (s : State) (r : Fin 3) (dl : BitVec 24) (en : BitVec 24) (ch : BitVec 4) (q : BitVec 4) (f : TxFrame) (l : List TxFrame) (b : List TxFrame), s.canExec r (.txq dl.toNat en.toNat ch.toNat q.toNat) = true ∧
    s.flag SYS_DIE_STAT_FRN_UP = false ∧ (s.fr r).ppdu = none ∧ s.mayTake r q.toNat = (f :: l, b) ∧
    (s.txOk r = false ∨ s.headSends r f = false)) ∧
    (∃ (s : State) (r : Fin 3) (tpl : BitVec 8) (dl : BitVec 24) (ch : BitVec 4) (u : Nat) (prof : Nat) (len : Nat), s.canExec r (.txtpl tpl.toNat dl.toNat ch.toNat) = true ∧
    s.retq = [] ∧ (s.fr r).ppdu = none ∧ s.mem (tplAddr r + 8 * tpl.toNat + 6) 1 % 2 = 1 ∧
    len = s.mem (tplAddr r + 8 * tpl.toNat + 2) 2 ∧ s.mem (tplAddr r + 8 * tpl.toNat) 2 + len ≤ 0xF800 ∧
    prof = s.mem (tplAddr r + 8 * tpl.toNat + 4) 1 ∧ s.txProfile r prof 6 % 2 = 1 ∧ s.resolve dl.toNat = some u ∧
    s.phyOk r (s.tplPhy r tpl.toNat prof) (len + (s.tplTail r tpl.toNat).getD 0 + 4) = true ∧
    (s.tplPhy r tpl.toNat prof).fmt ≠ .wur ∧ 3 ≤ s.frnSt r ∧ s.txOk r = true ∧ s.flag (FRN_STAT_ACT_LOCK r) = true ∧
    s.frnTick + s.txBudget r < u) ∧
    (∃ (s : State) (r : Fin 3) (tpl : BitVec 8) (dl : BitVec 24) (ch : BitVec 4), s.canExec r (.txtpl tpl.toNat dl.toNat ch.toNat) = true ∧
    s.retq = [] ∧ s.mem (tplAddr r + 8 * tpl.toNat + 6) 1 % 2 = 0 ∧ (s.fr r).ppdu = none) ∧
    (∃ (s : State) (r : Fin 3), (s.seqSt r = 1 ∨ s.seqSt r = 2) ∧ (s.fr r).ppdu = none ∧ s.retq = []) ∧
    (∃ (s : State) (r : Fin 3) (e : Ecc), (s.fr r).restart = true ∧ s.frnRuns = true ∧ s.spn.turnRef = s.ref ∧ s.awake = true ∧
    s.entering = false ∧ (s.fr r).coastFrom = none ∧ s.fetches r (s.get (FRN_SEQ_ENTRY_MAIN r)) e = true) :=
  ⟨⟨prog radioOn 0, 0, by decide +kernel⟩,
   ⟨prog radioOn 1, 0, by decide +kernel⟩,
   ⟨prog radioOn (2 + 256 * (11470848 + 5306368)), 0, ang 5306368, 805306368, by decide +kernel⟩,
   ⟨prog radioOn (2 + 256 * 11470847), 0, ang 0xFFFFFF, by decide +kernel⟩,
   ⟨prog radioOn 3, 0, 0, by decide +kernel⟩,
   ⟨prog radioOn 0xFFFFFF03, 0, 0xFFFFFF, by decide +kernel⟩,
   ⟨withFr radioOn (fun f => { f with wait := .until_ 800000001 }), 0, 800000001, .single, by decide +kernel⟩,
   ⟨withFr radioOn (fun f => { f with wait := .until_ 800000001 }), 0, 800000001, .double, by decide +kernel⟩,
   ⟨(let s := (radioOn.put (synLocked 0 true) 1).put (synCh 0 true) 4; withFr s (fun f => { f with wait := .hopDone 800000009 })),
   0, 800000009, .ok, by decide +kernel⟩,
   ⟨prog radioOn 4, 0, .ok, by decide +kernel⟩,
   ⟨prog (radioOn.put (FRN_STAT_STATE 0) 1) (5 + 256 * (11470848 + 0x280)), 0, ang 0x280, 800000640, by decide +kernel⟩,
   ⟨prog radioOn 0x306, 0, 3, false, .ok, by decide +kernel⟩,
   ⟨prog radioOn 0x10406, 0, 4, true, .ok, by decide +kernel⟩,
   ⟨prog radioOn 0x1FF06, 0, 255, true, .ok, by decide +kernel⟩,
   ⟨prog (radioOn.put (synCh 0 true) 4) 7, 0, by decide +kernel⟩,
   ⟨prog ((radioOn.put (synCh 0 true) 4).put (synLocked 0 true) 1) 7, 0, by decide +kernel⟩,
   ⟨prog radioOn 7, 0, by decide +kernel⟩,
   ⟨prog radioOn (0x40B + 2 ^ 16 * (11470848 + 0x11)), 0, ang 0x11, 800000017, by decide +kernel⟩,
   ⟨prog radioOn (0x40B + 2 ^ 16 * (11470848 + 0x10)), 0, ang 0x10, 800000016, by decide +kernel⟩,
   ⟨prog radioOn (0x70B + 2 ^ 16 * (11470848 + 5)), 0, 7, ang 5, by decide +kernel⟩,
   ⟨prog radioOn 0xFF0C, 0, 255, by decide +kernel⟩,
   ⟨prog radioOn 0xFFF0D, 0, 4095, by decide +kernel⟩,
   ⟨prog radioOn 0x70E, 0, 7, 0, 0, by decide +kernel⟩,
   ⟨prog radioOn 0x20050070E, 0, 7, 5, 32, by decide +kernel⟩,
   ⟨prog radioOn (8 + 256 * (11470848 + 500) + 0xF * 2 ^ 32), 0, ang 500, 0xF, 0, 800000500, by decide +kernel⟩,
   ⟨prog radioOn (8 + 256 * 11470848 + 0xF * 2 ^ 32), 0, ang 0, 0xF, 0, 800000000, by decide +kernel⟩,
   ⟨prog { radioOn with blk := none } (8 + 256 * (11470848 + 500) + 0xFF * 2 ^ 32), 0, ang 500, 0xF, 15, by decide +kernel⟩,
   ⟨prog radioOn (9 + 256 * (11470848 + 500) + 2 ^ 32 * (11470848 + 900) + 0xF1 * 2 ^ 56), 0, ang 500, ang 900, 1, 15,
   by decide +kernel⟩,
   ⟨prog (withFr radioOn (fun f => { f with queues := f.queues.set 0 [frame0] })) (9 + 256 * (11470848 + 129) + 2 ^ 32 * (11470848 + 9000) + 2 ^ 56),
   0, ang 129, ang 9000, 1, 0, 800000129, 800009000, frame0, [], [], by decide +kernel⟩,
   ⟨prog (withFr radioDown (fun f => { f with queues := f.queues.set 0 [frame0] })) (9 + 256 * (11470848 + 128) + 2 ^ 32 * (11470848 + 9000) + 2 ^ 56),
   0, ang 128, ang 9000, 1, 0, 800000128, 800009000, frame0, [], [], by decide +kernel⟩,
   ⟨prog (withFr (radioDown.putMem (chanAddr 0 3 + 7) 1 1) (fun f => { f with queues := f.queues.set 0 [frame0] })) (9 + 256 * (11470848 + 129) + 2 ^ 32 * (11470848 + 9000) + 2 ^ 56),
   0, ang 129, ang 9000, 1, 0, frame0, [], [], by decide +kernel⟩,
   ⟨prog (withFr radioDown (fun f => { f with queues := f.queues.set 0 [{ frame0 with air := { air0 with phy := { phy0 with fmt := .s1g } } }] })) (9 + 256 * (11470848 + 129) + 2 ^ 32 * (11470848 + 9000) + 2 ^ 56),
   0, ang 129, ang 9000, 1, 0, { frame0 with air := { air0 with phy := { phy0 with fmt := .s1g } } }, [], [], by decide +kernel⟩,
   ⟨(let s := { radioOn with blk := some { radio := List.replicate 256 1 ++ [0, 0, 1, 5, 0, 0, 1, 0] } }; let s := s.putMem (tplAddr 0 + 16 + 6) 1 1; prog (s.putMem (tplAddr 0 + 16 + 4) 1 0) (0x20A + 2 ^ 16 * (11470848 + 200) + 2 ^ 40)),
   0, 2, ang 200, 1, 800000200, 0, 0, by decide +kernel⟩,
   ⟨prog radioOn (0x20A + 2 ^ 16 * (11470848 + 200) + 2 ^ 40), 0, 2, ang 200, 1, by decide +kernel⟩,
   ⟨radioOn, 0, by decide +kernel⟩,
   ⟨atTurn (withFr (radioOn.put (FRN_SEQ_ENTRY_MAIN 0) 9) (fun f => { f with restart := true })), 0, .ok, by decide +kernel⟩⟩

theorem witness_AirEventsAndCoasting :
    (∃ (s : State) (r : Fin 3) (p : RxPpdu) (n : BitVec 32) (c : Nat) (u : Nat) (k : Bool) (ms : List AirFrame), s.earliest r p = some (n, c) ∧
    s.activeSyn r = some k ∧ s.extendStamp n p.tag = some u ∧ s.hears r p k u = true ∧ s.get UPD_STAT_TOV ≠ 2 ∧
    s.flag SYS_DIE_STAT_FRN_UP = true ∧ s.retq = [] ∧ ms = p.frames.filter (fun m => !oversize p.phy.fmt m && m.fcsOk)) ∧
    (∃ (s : State) (r : Fin 3) (p : RxPpdu) (n : BitVec 32) (c : Nat) (u : Nat) (k : Bool) (ms : List AirFrame), s.earliest r p = some (n, c) ∧
    s.activeSyn r = some k ∧ s.extendStamp n p.tag = some u ∧ s.hears r p k u = true ∧ s.seqSt r = 2 ∧
    s.flag SYS_DIE_STAT_FRN_UP = false ∧ ms = p.frames.filter (fun m => !oversize p.phy.fmt m && m.fcsOk && !toBaseband m) ∧
    (s.fr r).coastBytes + (ms.map (fun m => m.len.toNat)).sum ≤ 262144) ∧
    (∃ (s : State) (r : Fin 3) (p : TxPpdu), (s.fr r).ppdu = some p ∧ p.await = none ∧ p.barred = false ∧
    (∀ a, p.air = some a → a.resp = 0) ∧ s.flag SYS_DIE_STAT_FRN_UP = false) ∧
    (∃ (s : State) (r : Fin 3) (p : TxPpdu), (s.fr r).ppdu = some p ∧ p.await = none ∧ p.barred = false ∧
    (∀ a, p.air = some a → a.resp = 0) ∧ s.flag SYS_DIE_STAT_FRN_UP = false) ∧
    (∃ (s : State) (r : Fin 3) (p : TxPpdu), (s.fr r).ppdu = some p ∧ p.barred = true ∧ s.flag SYS_DIE_STAT_FRN_UP = false) ∧
    (∃ (s : State) (r : Fin 3) (p : TxPpdu) (a : AirTime), (s.fr r).ppdu = some p ∧ p.await = none ∧ p.barred = false ∧
    p.air = some a ∧ a.resp ≠ 0 ∧ s.retq = []) ∧
    (∃ (s : State) (r : Fin 3) (p : TxPpdu) (a : AirTime) (n : Nat), (s.fr r).ppdu = some p ∧ p.await = some n ∧
    p.air = some a ∧ s.flag SYS_DIE_STAT_FRN_UP = false ∧ (s.fr r).deaf ≤ p.end_ + a.sifs.toNat) ∧
    (∃ (s : State) (r : Fin 3) (p : TxPpdu) (a : AirTime) (n : Nat), (s.fr r).ppdu = some p ∧ p.await = some n ∧
    p.air = some a ∧ s.flag SYS_DIE_STAT_FRN_UP = false) ∧
    (∃ (s : State) (r : Fin 3) (e : Ecc), (s.fr r).coastAt = some s.frnTurnNo ∧ s.spn.turnRef = s.ref ∧ s.seqSt r = 1 ∧
    s.fetches r (s.get (FRN_SEQ_ENTRY_COAST r)) e = true) ∧
    (∃ (s : State) (r : Fin 3) (e : Ecc), (s.fr r).coastEnd = some s.frnTurnNo ∧ s.spn.turnRef = s.ref ∧ s.seqSt r = 2 ∧
    s.upd.coastLoad.contains r = false ∧ s.fetches r (s.get (FRN_SEQ_ENTRY_MAIN r)) e = true) ∧
    (∃ (s : State) (r : Fin 3) (n : Nat), (s.fr r).coastFrom = some n ∧
    (s.seqSt r = 2 ∨ s.seqSt r = 3 ∧ (s.fr r).coastRan = true) ∧ (s.fr r).coastEnd = none) ∧
    (∃ (s : State) (r : Fin 3), (s.fr r).coastEnd.isSome = true) ∧
    (∃ (s : State), s.flag SYS_DIE_STAT_FRN_UP = false ∧ s.upd.area = none) ∧
    (∃ (s : State), s.flag SYS_DIE_STAT_FRN_UP = true) :=
  ⟨⟨listening, 0, ppdu0, 2038432369, 1, 788529162, false, [airFrame0], by decide +kernel⟩,
   ⟨((listening.put SYS_DIE_STAT_FRN_UP 0).put (FRN_STAT_SEQ 0) 2), 0, ppdu0, 2038432369, 1, 788529162, false, [airFrame0],
   by decide +kernel⟩,
   ⟨withFr radioDown (fun f => { f with ppdu := some ⟨800000000, 800000100, [.frame { frame0 with air := { air0 with resp := 0 } }], 1, none, false, false, 0⟩ }),
   0, ⟨800000000, 800000100, [.frame { frame0 with air := { air0 with resp := 0 } }], 1, none, false, false, 0⟩,
   by decide +kernel⟩,
   ⟨withFr radioDown (fun f => { f with ppdu := some ⟨800000000, 800000100, [.tpl 3], 1, none, false, false, 0⟩ }), 0,
   ⟨800000000, 800000100, [.tpl 3], 1, none, false, false, 0⟩, by decide +kernel⟩,
   ⟨withFr radioDown (fun f => { f with ppdu := some ⟨800000000, 800000100, [.frame frame0], 1, none, false, true, 0⟩ }), 0,
   ⟨800000000, 800000100, [.frame frame0], 1, none, false, true, 0⟩, by decide +kernel⟩,
   ⟨withFr radioOn (fun f => { f with ppdu := some ⟨800000000, 800000100, [.frame { frame0 with air := { air0 with resp := 5 } }], 1, none, false, false, 0⟩ }),
   0, ⟨800000000, 800000100, [.frame { frame0 with air := { air0 with resp := 5 } }], 1, none, false, false, 0⟩,
   { air0 with resp := 5 }, by decide +kernel⟩,
   ⟨withFr radioDown (fun f => { f with ppdu := some ⟨800000000, 800000100, [.frame frame0, .frame { frame0 with fid := 2 }], 1, some 800000400, false, false, 0⟩ }),
   0, ⟨800000000, 800000100, [.frame frame0, .frame { frame0 with fid := 2 }], 1, some 800000400, false, false, 0⟩, air0,
   800000400, by decide +kernel⟩,
   ⟨withFr radioDown (fun f => { f with ppdu := some ⟨800000000, 800000100, [.frame frame0, .frame { frame0 with fid := 2 }], 1, some 800000400, false, false, 0⟩ }),
   0, ⟨800000000, 800000100, [.frame frame0, .frame { frame0 with fid := 2 }], 1, some 800000400, false, false, 0⟩, air0,
   800000400, by decide +kernel⟩,
   ⟨atTurn (withFr radioOn (fun f => { f with coastAt := some 47 })), 0, .ok, by decide +kernel⟩,
   ⟨atTurn (withFr (radioOn.put (FRN_STAT_SEQ 0) 2) (fun f => { f with coastEnd := some 47, coastFrom := some 5 })), 0, .ok,
   by decide +kernel⟩,
   ⟨withFr (radioOn.put (FRN_STAT_SEQ 0) 2) (fun f => { f with coastFrom := some 800000000, ppdu := some ⟨800000000, 800000100, [.frame frame0], 1, none, false, false, 0⟩ }),
   0, 800000000, by decide +kernel⟩,
   ⟨withFr (radioOn.put (FRN_STAT_SEQ 0) 2) (fun f => { f with coastFrom := some 800000000, coastEnd := some 48 }), 0,
   by decide +kernel⟩,
   ⟨withFr radioDown (fun f => { f with queues := f.queues.set 3 [frame0], ppdu := some ⟨800000000, 800000100, [.frame frame0], 1, none, false, false, 0⟩ }),
   by decide +kernel⟩,
   ⟨radioOn, by decide +kernel⟩⟩

theorem witness_StationContexts :
    (∃ (s : State) (r : Fin 3) (mac : BitVec 48) (k : Bool), s.clockOn = true ∧ s.get CLU_STAT_STATE = 0 ∧ s.rflag r 0 = true ∧
    s.activeSyn r = some k ∧ s.upPeers = [] ∧ s.aids.find? (fun a => decide (s.mac a = mac.toNat)) = none ∧
    s.aids.length < 8191) ∧
    (∃ (s : State) (r : Fin 3) (mac : BitVec 48) (k : Bool), s.clockOn = true ∧ s.get CLU_STAT_STATE = 0 ∧ s.rflag r 0 = true ∧
    s.activeSyn r = some k ∧ s.aids.find? (fun a => decide (s.mac a = mac.toNat)) = none ∧ 8191 ≤ s.aids.length) ∧
    (∃ (s : State), s.reach none ACC_CTX_CMD = .made ∧ s.get CLU_STAT_STATE = 0 ∧ s.get ACC_CTX_SEL_AID ≠ 0) ∧
    (∃ (s : State) (a : Nat), s.reach none ACC_CTX_CMD = .made ∧ s.get CLU_STAT_STATE = 0 ∧ a = s.get ACC_CTX_SEL_AID ∧ a ≠ 0 ∧
    intervalOk (s.mem (ctxData + 72) 6) = true ∧ s.mem (ctxData + 88) 4 % 16 = 0) ∧
    (∃ (s : State) (a : Nat), s.reach none ACC_CTX_CMD = .made ∧ s.get CLU_STAT_STATE = 0 ∧ a = s.get ACC_CTX_SEL_AID ∧ a ≠ 0 ∧
    s.cxState a ≠ 0) ∧
    (∃ (s : State), s.reach none ACC_CTX_CMD = .made ∧ s.get CLU_STAT_STATE = 0 ∧ s.get ACC_CTX_SEL_AID ≠ 0) ∧
    (∃ (s : State), s.reach none ACC_CTX_CMD = .made ∧ s.get CLU_STAT_STATE = 0 ∧ s.get ACC_CTX_SEL_AID = 0) ∧
    (∃ (s : State) (aid : BitVec 13), s.clockOn = true ∧ s.atTurnStart = true ∧ s.cxState aid.toNat = 1 ∧
    atLeast1 (s.get ACC_STA_CFG_DORMANT_TURNS) ≤ s.turn - max (SMap.get (fun _ => 0) s.acc.assocTurn aid.toNat) (unpackTick (s.cx aid.toNat 52 8) / turnTicks)) ∧
    (∃ (s : State), s.atTurnStart = false) ∧
    (∃ (s : State) (aid : BitVec 13) (a : Nat), s.clockOn = true ∧ s.placing = true ∧ a = aid.toNat ∧ s.cx a 72 6 ≠ 0 ∧
    s.cxState a ≠ 0) ∧
    (∃ (s : State) (aid : BitVec 13), s.clockOn = true ∧ s.placing = true ∧ s.cxBit aid.toNat 11 4 = true ∧
    s.cx aid.toNat 88 4 ≠ 0) ∧
    (∃ (s : State) (aid : BitVec 13), (s.cxBit aid.toNat 11 4 = false ∨ s.placing = false)) ∧
    (∃ (s : State), s.placing = false) :=
  ⟨⟨radioOn, 0, 0xA1, false, by decide +kernel⟩,
   ⟨ctxFull (List.range 8191), 0, 0xA1, false, by decide +kernel, by decide +kernel, by decide +kernel, by decide +kernel,
   List.find?_eq_none.mpr (fun a _ => by rw [mac_ctxFull]; decide), by simp [aids_ctxFull]⟩,
   ⟨(sta.put ACC_CTX_SEL_AID 5), by decide +kernel⟩,
   ⟨(let s := (sta.put ACC_CTX_SEL_AID 6).putMem (ctxData + 2) 1 1; s.putMem (ctxData + 72) 6 (16 * 65535 * 2)), 6,
   by decide +kernel⟩,
   ⟨{ (sta.put ACC_CTX_SEL_AID 5) with acc := { sta.acc with cache := [5] } }, 5, by decide +kernel⟩,
   ⟨(sta.put ACC_CTX_SEL_AID 8191), by decide +kernel⟩,
   ⟨sta, by decide +kernel⟩,
   ⟨atTurn (((sta.put ACC_STA_CFG_DORMANT_TURNS 47))), 5, by decide +kernel⟩,
   ⟨{ sta with ref := 5 }, by decide +kernel⟩,
   ⟨(sta.cxSet 5 72 6 1600).cxSet 5 64 8 (packTick 800000000), 5, 5, by decide +kernel⟩,
   ⟨(sta.cxPutBit 5 11 4 true).cxSet 5 88 4 160, 5, by decide +kernel⟩,
   ⟨sta, 5, by decide +kernel⟩,
   ⟨sta.put SPN_STAT_HELD 1, by decide +kernel⟩⟩

theorem witness_PlansAndHalves :
    (∃ (s : State) (r : Fin 3) (bank : Bool) (len : BitVec 8) (turn : Nat), s.reach none ACC_PLAN_CMD = .made ∧
    turn = (s.rd ACC_PLAN_TURN_LO).toNat + 2 ^ 32 * ((s.rd ACC_PLAN_TURN_HI).toNat % 256) ∧
    s.bankBad r.val bank (len.toNat + 1) = false) ∧
    (∃ (s : State) (r : Fin 3) (bank : Bool) (len : BitVec 8) (turn : Nat), s.reach none ACC_PLAN_CMD = .made ∧
    turn = (s.rd ACC_PLAN_TURN_LO).toNat + 2 ^ 32 * ((s.rd ACC_PLAN_TURN_HI).toNat % 256) ∧
    s.bankBad r.val bank (len.toNat + 1) = false) ∧
    (∃ (s : State) (r : Fin 3) (bank : Bool) (len : BitVec 8), s.reach none ACC_PLAN_CMD = .made ∧
    s.bankBad r.val bank (len.toNat + 1) = true) ∧
    (∃ (s : State), s.reach none ACC_PLAN_CMD = .made) ∧
    (∃ (s : State), s.reach none ACC_PLAN_CMD = .made) ∧
    (∃ (s : State) (r : Fin 3) (a : PlanArm), s.clockOn = true ∧ s.acc.arms[r] = some a ∧ s.atTurnStart = true ∧
    a.turn ≤ s.turn ∧ s.turn % a.len = 0 ∧ 1 ≤ a.len ∧ a.len ≤ 256) ∧
    (∃ (s : State) (r : Fin 3), (s.acc.arms[r] = none ∨ s.atTurnStart = false)) ∧
    (∃ (s : State) (r : Fin 3) (took : BitVec 24) (h : Nat), s.clockOn = true ∧ s.flag SYS_DIE_STAT_FRN_UP = true ∧
    s.flag ACC_CTL_EN = true ∧ s.placing = true ∧ s.serving = true ∧ 16 ≤ s.genHalf r ∧ s.genBase r + 2 * s.genHalf r ≤ 4096 ∧
    s.get CLU_STAT_STATE ≠ 5 ∧ s.get ACC_CTL_LINK_EN / 2 ^ r.val % 2 = 1 ∧ h = s.genBase r + (s.turn + 1) % 2 * s.genHalf r ∧
    s.angle + took.toNat < (s.rd ACC_GEN_DONE).toNat % 2 ^ 24) ∧
    (∃ (s : State) (r : Fin 3) (took : BitVec 24) (h : Nat), s.clockOn = true ∧ s.flag SYS_DIE_STAT_FRN_UP = true ∧
    s.flag ACC_CTL_EN = true ∧ s.placing = true ∧ s.serving = true ∧ 16 ≤ s.genHalf r ∧ s.genBase r + 2 * s.genHalf r ≤ 4096 ∧
    s.get CLU_STAT_STATE ≠ 5 ∧ s.get ACC_CTL_LINK_EN / 2 ^ r.val % 2 = 1 ∧ h = s.genBase r + (s.turn + 1) % 2 * s.genHalf r ∧
    s.angle + took.toNat < (s.rd ACC_GEN_DONE).toNat % 2 ^ 24) ∧
    (∃ (s : State) (r : Fin 3), s.clockOn = true ∧ s.flag ACC_CTL_EN = true ∧ s.placing = true ∧ s.serving = true ∧
    16 ≤ s.genHalf r ∧ s.genBase r + 2 * s.genHalf r ≤ 4096 ∧ s.get CLU_STAT_STATE ≠ 5 ∧
    s.get ACC_CTL_LINK_EN / 2 ^ r.val % 2 = 0) ∧
    (∃ (s : State), (s.flag ACC_CTL_EN = false ∨ s.placing = false ∨ s.serving = false ∨ s.get CLU_STAT_STATE = 5)) ∧
    (∃ (s : State), (s.flag ACC_CTL_EN = false ∨ s.placing = false ∨ s.serving = false ∨ s.get CLU_STAT_STATE = 5)) ∧
    (∃ (s : State), (s.get CLU_STAT_STATE = 5 ∨ s.placing = false)) ∧
    (∃ (s : State) (r : Fin 3), s.clockOn = true ∧ s.flag ACC_CTL_EN = true ∧ s.placing = true ∧ s.get CLU_STAT_STATE ≠ 5 ∧
    s.get ACC_CTL_LINK_EN / 2 ^ r.val % 2 = 1 ∧ 16 ≤ s.genHalf r ∧ s.genBase r + 2 * s.genHalf r ≤ 4096) ∧
    (∃ (s : State) (r : Fin 3), s.clockOn = true ∧ s.flag ACC_CTL_EN = true ∧ s.placing = true ∧ s.get CLU_STAT_STATE ≠ 5 ∧
    s.get ACC_CTL_LINK_EN / 2 ^ r.val % 2 = 1 ∧ 16 ≤ s.genHalf r ∧ s.genBase r + 2 * s.genHalf r ≤ 4096) ∧
    (∃ (s : State), s.reach none ACC_CTL = .made) ∧
    (∃ (s : State), s.reach none ACC_CTL = .made) ∧
    (∃ (s : State) (u : State) (r : Fin 3) (air : BitVec 24) (x : Window × Nat × Nat) (a : Nat) (room : Nat) (b : List Byte), s.clockOn = true ∧
    s.placing = true ∧ s.nextBeacon r = some x ∧ u = s.toAbsTick (x.2.1 - (s.rd ACC_BCN_LEAD).toNat % 2 ^ 24) ∧
    b = (u.beaconOf r x.1 x.2.1 (x.2.1 + air.toNat)).2.bytes ∧ s.tplEnd r x.1.param = (a, room) ∧
    s.flag SYS_DIE_STAT_FRN_UP = true) ∧
    (∃ (s : State) (u : State) (r : Fin 3) (air : BitVec 24) (x : Window × Nat × Nat) (a : Nat) (room : Nat) (b : List Byte), s.clockOn = true ∧
    s.placing = true ∧ s.nextBeacon r = some x ∧ u = s.toAbsTick (x.2.1 - (s.rd ACC_BCN_LEAD).toNat % 2 ^ 24) ∧
    b = (u.beaconOf r x.1 x.2.1 (x.2.1 + air.toNat)).2.bytes ∧ s.tplEnd r x.1.param = (a, room)) ∧
    (∃ (s : State) (u : State) (r : Fin 3) (air : BitVec 24) (x : Window × Nat × Nat) (a : Nat) (room : Nat) (b : List Byte), s.clockOn = true ∧
    s.placing = true ∧ s.nextBeacon r = some x ∧ u = s.toAbsTick (x.2.1 - (s.rd ACC_BCN_LEAD).toNat % 2 ^ 24) ∧
    b = (u.beaconOf r x.1 x.2.1 (x.2.1 + air.toNat)).2.bytes ∧ s.tplEnd r x.1.param = (a, room) ∧
    s.flag SYS_DIE_STAT_FRN_UP = false) ∧
    (∃ (s : State) (r : Fin 3), (s.placing = false ∨ s.nextBeacon r = none)) ∧
    (∃ (s : State) (r : Fin 3), (s.placing = false ∨ s.nextBeacon r = none)) :=
  ⟨⟨planned 3 7, 0, false, 0, 0, by decide +kernel⟩,
   ⟨up, 2, true, 255, 0, by decide +kernel⟩,
   ⟨planned 10 7, 0, false, 0, by decide +kernel⟩,
   ⟨up, by decide +kernel⟩,
   ⟨up, by decide +kernel⟩,
   ⟨(let s := atTurn (planned 3 7); { s with acc := { s.acc with arms := s.acc.arms.set 0 (some ⟨true, 1, 47⟩) } }), 0,
   ⟨true, 1, 47⟩, by decide +kernel⟩,
   ⟨planned 3 7, 0, by decide +kernel⟩,
   ⟨accOn, 0, 0, 64, by decide +kernel⟩,
   ⟨(accOn.put (ACC_GEN_CFG_BASE 0) 4064), 0, 100, 4064, by decide +kernel⟩,
   ⟨(accOn.put ACC_CTL_LINK_EN 6), 0, by decide +kernel⟩,
   ⟨sta, by decide +kernel⟩,
   ⟨(accOn.put CLU_STAT_STATE 5), by decide +kernel⟩,
   ⟨(accOn.put CLU_STAT_STATE 5), by decide +kernel⟩,
   ⟨accOn, 0, by decide +kernel⟩,
   ⟨{ accOn with acc := { accOn.acc with genTurn := accOn.acc.genTurn.set 0 (some 48) } }, 0, by decide +kernel⟩,
   ⟨accOn, by decide +kernel⟩,
   ⟨accOn, by decide +kernel⟩,
   ⟨planned 1 7, (planned 1 7).toAbsTick (805306368 - 65536), 0, 100,
   ({ start := 0, end_ := 0xF00000, kind := 1, chidx := 3, wg := 0, flags := 7, slots := 0, profile := 0, param := 0 }, 805306368, 821035008),
   2492416, 63488,
   (((planned 1 7).toAbsTick (805306368 - 65536)).beaconOf 0 ({ start := 0, end_ := 0xF00000, kind := 1, chidx := 3, wg := 0, flags := 7, slots := 0, profile := 0, param := 0 }, 805306368, 821035008).1 805306368 805306468).2.bytes,
   by decide +kernel, by decide +kernel, by decide +kernel, congrArg (State.toAbsTick _) (by decide +kernel), by decide +kernel⟩,
   ⟨planned 1 7, (planned 1 7).toAbsTick (805306368 - 65536), 0, 100,
   ({ start := 0, end_ := 0xF00000, kind := 1, chidx := 3, wg := 0, flags := 7, slots := 0, profile := 0, param := 0 }, 805306368, 821035008),
   2492416, 63488,
   (((planned 1 7).toAbsTick (805306368 - 65536)).beaconOf 0 ({ start := 0, end_ := 0xF00000, kind := 1, chidx := 3, wg := 0, flags := 7, slots := 0, profile := 0, param := 0 }, 805306368, 821035008).1 805306368 805306468).2.bytes,
   by decide +kernel, by decide +kernel, by decide +kernel, congrArg (State.toAbsTick _) (by decide +kernel), by decide +kernel⟩,
   ⟨(planned 1 7).put SYS_DIE_STAT_FRN_UP 0, ((planned 1 7).put SYS_DIE_STAT_FRN_UP 0).toAbsTick (805306368 - 65536), 0, 100,
   ({ start := 0, end_ := 0xF00000, kind := 1, chidx := 3, wg := 0, flags := 7, slots := 0, profile := 0, param := 0 }, 805306368, 821035008),
   2492416, 63488,
   ((((planned 1 7).put SYS_DIE_STAT_FRN_UP 0).toAbsTick (805306368 - 65536)).beaconOf 0 ({ start := 0, end_ := 0xF00000, kind := 1, chidx := 3, wg := 0, flags := 7, slots := 0, profile := 0, param := 0 }, 805306368, 821035008).1 805306368 805306468).2.bytes,
   by decide +kernel, by decide +kernel, by decide +kernel, congrArg (State.toAbsTick _) (by decide +kernel), by decide +kernel⟩,
   ⟨planned 3 7, 0, by decide +kernel⟩,
   ⟨up, 0, by decide +kernel⟩⟩

theorem witness_StationFramesAndUplink :
    (∃ (s : State) (x : RxItem) (l : List RxItem), s.clockOn = true ∧ s.rxq = x :: l ∧ x.frame.kind ≠ .flood ∧
    s.handedOut = none ∧ s.rxAid x.radio.val x.frame = none) ∧
    (∃ (s : State) (x : RxItem) (l : List RxItem) (aid : Nat), s.clockOn = true ∧ s.rxq = x :: l ∧ x.frame.kind ≠ .flood ∧
    s.handedOut = none ∧ s.rxAid x.radio.val x.frame = some aid ∧ s.acc.cache.contains aid = false ∧
    s.acc.fetching.any (fun w => w.1 == aid) = false) ∧
    (∃ (s : State) (x : RxItem) (l : List RxItem) (aid : Nat), s.clockOn = true ∧ s.rxq = x :: l ∧ x.frame.kind ≠ .flood ∧
    x.frame.kind ≠ .ctrl ∧ s.handedOut = none ∧ s.rxAid x.radio.val x.frame = some aid ∧ s.acc.cache.contains aid = true ∧
    s.acc.fetching.any (fun w => w.1 == aid) = false ∧ s.cx aid (128 + 4 * dupEntry x.frame) 4 / 2 ^ 18 % 2 = 0) ∧
    (∃ (s : State) (aid : BitVec 13), s.clockOn = true ∧ s.acc.fetching.any (fun w => w.1 == aid.toNat) = true) ∧
    (∃ (s : State) (aid : BitVec 13), s.acc.fetching.any (fun w => w.1 == aid.toNat) = false) ∧
    (∃ (s : State) (aid : BitVec 13) (tid : BitVec 4) (len : BitVec 14) (mg : Bool) (data : List Byte) (id : Nat) (a : Nat) (q : Nat), s.clockOn = true ∧
    (s.alloc ownAcc len.toNat data).2 = some id ∧ a = s.braidAid aid.toNat ∧ a ≠ 0 ∧ s.cxState a ≠ 0 ∧
    len.toNat ≤ s.mpduLimit a [0, 1, 2] ∧ q = (if mg then 8 else min tid.toNat 8)) ∧
    (∃ (s : State) (aid : BitVec 13) (len : BitVec 14) (data : List Byte) (id : Nat) (a : Nat), s.clockOn = true ∧
    (s.alloc ownAcc len.toNat data).2 = some id ∧ a = s.braidAid aid.toNat ∧ a ≠ 0 ∧ s.cxState a ≠ 0 ∧
    s.mpduLimit a [0, 1, 2] < len.toNat) ∧
    (∃ (s : State) (r : Fin 3) (tid : BitVec 4) (air : AirTime) (w : Window) (a : Nat) (b : Nat) (p : Nat) (f : TxFrame), s.clockOn = true ∧
    s.flag SYS_DIE_STAT_FRN_UP = true ∧ s.retq = [] ∧ s.placing = true ∧
    (s.windowOf r (s.absTick + 0x80)).orElse (fun _ => s.windowOf r s.absTick) = some (w, a, b) ∧ w.kind ≠ 8 ∧ w.kind ≠ 7 ∧
    w.tx = true ∧ s.placementNow r w a = some p ∧
    ((s.serveOrder r w a p).filter (fun x => s.nstrFree r x.aid)).findSome? (s.nextOf r tid.toNat w b p air) = some f ∧
    f.isBar = false ∧ f.pn = none ∧ f.aid ≠ 0 ∧ s.cx f.aid 24 2 / 2 ^ 15 ≠ 1) ∧
    (∃ (s : State), s.retq = [] ∧ (s.flag SYS_DIE_STAT_FRN_UP = false ∨ s.placing = false)) ∧
    (∃ (s : State), s.clockOn = true) ∧
    (∃ (s : State) (dt : BitVec 24) (x : Nat × Nat), s.clockOn = true ∧ s.upWindow (s.absTick + dt.toNat) = some x ∧
    (s.get ACC_UP_STAT_STATE = 2 ∨ s.get ACC_UP_STAT_STATE = 1 ∧ s.acc.upBi = 0)) ∧
    (∃ (s : State) (dt : BitVec 24) (x : Nat × Nat), s.clockOn = true ∧ s.upWindow (s.absTick + dt.toNat) = some x ∧
    (s.get ACC_UP_STAT_STATE = 2 ∨ s.get ACC_UP_STAT_STATE = 1 ∧ s.acc.upBi = 0)) ∧
    (∃ (s : State) (dt : BitVec 24), s.clockOn = true ∧ s.upWindow (s.absTick + dt.toNat) = none) ∧
    (∃ (s : State) (n : Nat), s.clockOn = true ∧ s.placing = true ∧ s.get ACC_UP_STAT_STATE = 1 ∧ s.acc.upBi ≠ 0 ∧
    s.upNext = some n) ∧
    (∃ (s : State) (n : Nat), s.clockOn = true ∧ s.placing = true ∧ s.get ACC_UP_STAT_STATE = 1 ∧ s.acc.upBi ≠ 0 ∧
    s.upNext = some n) ∧
    (∃ (s : State), s.retq = [] ∧ (s.placing = false ∨ s.upNext = none)) ∧
    (∃ (s : State), s.retq = [] ∧ (s.placing = false ∨ s.upNext = none)) ∧
    (∃ (s : State), s.clockOn = true ∧ s.get ACC_UP_STAT_STATE = 2) ∧
    (∃ (s : State), s.get ACC_UP_STAT_STATE ≠ 2) ∧
    (∃ (s : State), s.clockOn = true ∧ s.get ACC_UP_CFG_RADIO < 3 ∧ (s.get ACC_UP_STAT_STATE = 0 ∨ s.get ACC_UP_STAT_STATE = 3)) ∧
    (∃ (s : State), (s.get ACC_UP_STAT_STATE = 1 ∨ s.get ACC_UP_STAT_STATE = 2)) :=
  ⟨⟨{ radioOn with rxq := [rx0] }, rx0, [], by decide +kernel⟩,
   ⟨{ sta with rxq := [rx0] }, rx0, [], 5, by decide +kernel⟩,
   ⟨{ sta with rxq := [rx0], acc := { sta.acc with cache := [5] } }, rx0, [], 5, by decide +kernel⟩,
   ⟨{ sta with acc := { sta.acc with fetching := [(5, rx0)] } }, 5, by decide +kernel⟩,
   ⟨sta, 5, by decide +kernel⟩,
   ⟨sta, 5, 3, 100, false, [1, 2, 3], 0, 5, 3, by decide +kernel⟩,
   ⟨sta, 5, 8000, [1, 2, 3], 0, 5, by decide +kernel⟩,
   ⟨(let s := plannedAt 11470960 3 7; { s with acc := { s.acc with placed := s.acc.placed.set 0 [⟨800000112, [800000112], [⟨5, 800000112, none⟩]⟩], queues := [(16 * 5 + 3, [{ frame0 with tid := 3 }])] } }),
   0, 3, air0,
   { start := 11470960, end_ := 0xF00000, kind := 3, chidx := 3, wg := 0, flags := 7, slots := 0, profile := 0, param := 0 },
   800000112, 804257792, 800000112, { frame0 with tid := 3 }, by decide +kernel⟩,
   ⟨radioDown, by decide +kernel⟩,
   ⟨sta, by decide +kernel⟩,
   ⟨upPlan 2, 0, (788529152, 804257792), by decide +kernel⟩,
   ⟨upPlan 1, 7, (788529152, 804257792), by decide +kernel⟩,
   ⟨uplinkOn 1, 0, by decide +kernel⟩,
   ⟨upFed, 801000000, by decide +kernel⟩,
   ⟨(upFed.put ACC_UP_STAT_MISS 2), 801000000, by decide +kernel⟩,
   ⟨(upPlan 1).put SPN_STAT_HELD 1, by decide +kernel⟩,
   ⟨up, by decide +kernel⟩,
   ⟨uplinkOn 2, by decide +kernel⟩,
   ⟨uplinkOn 1, by decide +kernel⟩,
   ⟨uplinkOn 0, by decide +kernel⟩,
   ⟨uplinkOn 2, by decide +kernel⟩⟩

theorem witness_BraidedLinks :
    (∃ (s : State) (l : Fin 3) (a : Nat), s.reach none MLK_CMD = .made ∧ s.flag SYS_DIE_STAT_FRN_UP = false ∧
    a = s.get MLK_CMD_SEL_AID ∧ a ≠ 0 ∧ s.get MLK_CMD_SEL_LID = l.val ∧ s.member a l.val = true ∧ 1 < s.memberCount a) ∧
    (∃ (s : State), s.reach none MLK_CMD = .made ∧ s.flag SYS_DIE_STAT_FRN_UP = false ∧ s.get MLK_CMD_SEL_AID ≠ 0) ∧
    (∃ (s : State), s.reach none MLK_CMD = .made ∧ s.flag SYS_DIE_STAT_FRN_UP = false ∧ s.get MLK_CMD_SEL_AID = 0) ∧
    (∃ (s : State) (r : Fin 3) (ta : BitVec 48) (tid : BitVec 3) (size : BitVec 12) (a : Nat) (lim : Nat) (req : Nat) (want : Nat) (n : Nat) (e : Nat), s.clockOn = true ∧
    s.aidOf r.val ta = some a ∧ s.cxBit a 194 tid.toNat = false ∧ lim = s.baLimit a ∧
    req = (if size = 0 then lim else size.toNat) ∧ want = (if req < 16 then 16 else min req lim / 16 * 16) ∧
    s.fitPool 12 want = some (n, e)) ∧
    (∃ (s : State) (r : Fin 3) (ta : BitVec 48) (tid : BitVec 3) (size : BitVec 12) (a : Nat) (lim : Nat) (req : Nat) (want : Nat) (n : Nat) (e : Nat), s.clockOn = true ∧
    s.aidOf r.val ta = some a ∧ s.cxBit a 194 tid.toNat = false ∧ lim = s.baLimit a ∧
    req = (if size = 0 then lim else size.toNat) ∧ want = (if req < 16 then 16 else min req lim / 16 * 16) ∧
    s.fitPool 12 want = some (n, e)) ∧
    (∃ (s : State) (r : Fin 3) (ta : BitVec 48), s.aidOf r.val ta = none) ∧
    (∃ (s : State) (r : Fin 3) (ta : BitVec 48) (a : Nat), s.clockOn = true ∧ s.aidOf r.val ta = some a) ∧
    (∃ (s : State) (r : Fin 3) (ta : BitVec 48) (tid : BitVec 3) (a : Nat), s.clockOn = true ∧ s.aidOf r.val ta = some a ∧
    s.cxBit a 194 tid.toNat = true) ∧
    (∃ (s : State) (x : RxStage) (l : List RxStage) (y : RxItem), s.clockOn = true ∧ s.mlkq = x :: l ∧
    (s.cluSt = cluLead → s.reports = []) ∧
    (s.flag MLK_CTL_EN = true ∧ s.underBa x.aid x.item.frame = false ∨ s.flag MLK_CTL_EN = false ∧ s.memberCount x.aid ≤ 1) ∧
    (x.item.frame.kind = .qos → x.item.frame.prot = true → (x.unchecked = true ∨ s.rflagBit x.aid x.item.frame.tid.toNat 3 = true) → s.lastPn x.aid x.item.frame.tid.toNat < x.item.frame.pn.toNat) ∧
    (s.reassemble x.aid x.item).2 = some y ∧
    (y.frame.body = x.item.frame.body ∨ (s.refit ownMlk y.chain y.frame.body).2 = true) ∧ x.item.frame.kind ≠ .leave) ∧
    (∃ (s : State) (x : RxStage) (l : List RxStage) (y : RxItem), s.clockOn = true ∧ s.mlkq = x :: l ∧
    (s.cluSt = cluLead → s.reports = []) ∧
    (s.flag MLK_CTL_EN = true ∧ s.underBa x.aid x.item.frame = false ∨ s.flag MLK_CTL_EN = false ∧ s.memberCount x.aid ≤ 1) ∧
    (x.item.frame.kind = .qos → x.item.frame.prot = true → (x.unchecked = true ∨ s.rflagBit x.aid x.item.frame.tid.toNat 3 = true) → s.lastPn x.aid x.item.frame.tid.toNat < x.item.frame.pn.toNat) ∧
    (s.reassemble x.aid x.item).2 = some y ∧
    (y.frame.body = x.item.frame.body ∨ (s.refit ownMlk y.chain y.frame.body).2 = true) ∧ x.item.frame.kind ≠ .leave) ∧
    (∃ (s : State) (x : RxStage) (l : List RxStage) (y : RxItem), s.clockOn = true ∧ s.mlkq = x :: l ∧
    (s.cluSt = cluLead → s.reports = []) ∧
    (s.flag MLK_CTL_EN = true ∧ s.underBa x.aid x.item.frame = false ∨ s.flag MLK_CTL_EN = false ∧ s.memberCount x.aid ≤ 1) ∧
    (x.item.frame.kind = .qos → x.item.frame.prot = true → (x.unchecked = true ∨ s.rflagBit x.aid x.item.frame.tid.toNat 3 = true) → s.lastPn x.aid x.item.frame.tid.toNat < x.item.frame.pn.toNat) ∧
    (s.reassemble x.aid x.item).2 = some y ∧
    (y.frame.body = x.item.frame.body ∨ (s.refit ownMlk y.chain y.frame.body).2 = true) ∧ x.item.frame.kind ≠ .leave) ∧
    (∃ (s : State) (x : RxStage) (l : List RxStage), s.clockOn = true ∧ s.mlkq = x :: l ∧ (s.cluSt = cluLead → s.reports = []) ∧
    s.flag MLK_CTL_EN = true ∧ s.underBa x.aid x.item.frame = false ∧ x.item.frame.kind = .qos ∧ x.item.frame.prot = true ∧
    x.unchecked = true ∧ x.item.frame.pn.toNat ≤ s.lastPn x.aid x.item.frame.tid.toNat) ∧
    (∃ (s : State) (x : RxStage) (l : List RxStage) (a : Nat) (k : Nat) (tid : Nat), s.clockOn = true ∧ s.mlkq = x :: l ∧
    (s.cluSt = cluLead → s.reports = []) ∧ s.flag MLK_CTL_EN = true ∧ a = x.aid ∧ tid = x.item.frame.tid.toNat ∧
    s.underBa a x.item.frame = true ∧ s.settleOf a tid = none ∧ k = (x.item.frame.sn.toNat + 4096 - s.wstart a tid) % 4096 ∧
    1 ≤ k ∧ k < s.wsize a tid ∧ k < 2048 ∧ s.held a tid < 65535 ∧ s.poolGet (s.entryIdx a tid x.item.frame.sn.toNat) = none ∧
    s.poolGet (s.entryIdx a tid (s.wstart a tid)) = none) ∧
    (∃ (s : State) (x : RxStage) (l : List RxStage) (tid : Nat), s.clockOn = true ∧ s.mlkq = x :: l ∧
    (s.cluSt = cluLead → s.reports = []) ∧ s.flag MLK_CTL_EN = true ∧ tid = x.item.frame.tid.toNat ∧
    s.underBa x.aid x.item.frame = true ∧ s.settleOf x.aid tid = none ∧
    2048 ≤ (x.item.frame.sn.toNat + 4096 - s.wstart x.aid tid) % 4096) ∧
    (∃ (s : State) (r : Fin 3) (ta : BitVec 48) (tid : BitVec 3) (ssn : BitVec 12) (a : Nat) (k : Nat), s.clockOn = true ∧
    s.aidOf r.val ta = some a ∧ s.cxBit a 194 tid.toNat = true ∧ k = (ssn.toNat + 4096 - s.wstart a tid.toNat) % 4096 ∧ 1 ≤ k ∧
    k ≤ 2047 ∧ s.mlkx.pool = []) ∧
    (∃ (s : State) (aid : BitVec 13) (tid : BitVec 3), s.clockOn = true ∧ s.rflagBit aid.toNat tid.toNat 1 = true ∧
    s.settleOf aid.toNat tid.toNat = none) ∧
    (∃ (s : State) (aid : BitVec 13) (tid : BitVec 3), s.rflagBit aid.toNat tid.toNat 1 = false) ∧
    (∃ (s : State), s.clockOn = true) ∧
    (∃ (s : State) (aid : BitVec 13) (tid : BitVec 3) (sn : BitVec 12) (k : Nat), s.clockOn = true ∧
    s.rflagBit aid.toNat tid.toNat 0 = true ∧ k = (sn.toNat + 4096 - s.wstart aid.toNat tid.toNat) % 4096 ∧
    k < s.wsize aid.toNat tid.toNat ∧ s.poolGet (s.entryIdx aid.toNat tid.toNat sn.toNat) = none) ∧
    (∃ (s : State) (aid : BitVec 13) (tid : BitVec 3) (sn : BitVec 12), s.wsize aid.toNat tid.toNat ≤ (sn.toNat + 4096 - s.wstart aid.toNat tid.toNat) % 4096) :=
  ⟨⟨(two.put MLK_CMD_SEL_LID 1), 1, 5, by decide +kernel⟩,
   ⟨two, by decide +kernel⟩,
   ⟨(two.put MLK_CMD_SEL_AID 0), by decide +kernel⟩,
   ⟨sta, 0, 0xA1, 3, 16, 5, sta.baLimit 5, 16, 16, 16, sta.draw % 8192 * 16, by decide +kernel, by decide +kernel,
   by decide +kernel, by decide +kernel, by decide +kernel, by decide +kernel,
   fitPool_of (by decide +kernel) (by decide +kernel)⟩,
   ⟨sta, 0, 0xA1, 3, 5, 5, sta.baLimit 5, 5, 16, 16, sta.draw % 8192 * 16, by decide +kernel, by decide +kernel,
   by decide +kernel, by decide +kernel, by decide +kernel, by decide +kernel,
   fitPool_of (by decide +kernel) (by decide +kernel)⟩,
   ⟨radioOn, 0, 0xA1, by decide +kernel⟩,
   ⟨agreed, 0, 0xA1, 5, by decide +kernel⟩,
   ⟨agreed, 0, 0xA1, 3, 5, by decide +kernel⟩,
   ⟨{ (sta.put MLK_CTL_EN 1) with mlkq := [st5] }, st5, [], rx0, by decide +kernel⟩,
   ⟨{ (sta.put MLK_CTL_EN 1) with mlkq := [{ protSt with unchecked := true }] }, { protSt with unchecked := true }, [],
   protSt.item, by decide +kernel⟩,
   ⟨{ (sta.put MLK_CTL_EN 0) with mlkq := [protSt] }, protSt, [], protSt.item, by decide +kernel⟩,
   ⟨{ ((sta.put MLK_CTL_EN 1).mrSet 5 (rxr 3 + 16) 6 100) with mlkq := [{ protSt with unchecked := true }] },
   { protSt with unchecked := true }, [], by decide +kernel⟩,
   ⟨{ agreed with mlkq := [st5] }, st5, [], 5, 15, 3, by decide +kernel⟩,
   ⟨{ agreed with mlkq := [{ st5 with item := { rx0 with frame := { airFrame0 with sn := 2042 } } }] },
   { st5 with item := { rx0 with frame := { airFrame0 with sn := 2042 } } }, [], 3, by decide +kernel⟩,
   ⟨agreed, 0, 0xA1, 3, 2041, 5, 2047, by decide +kernel⟩,
   ⟨holed, 5, 3, by decide +kernel⟩,
   ⟨agreed, 5, 3, by decide +kernel⟩,
   ⟨{ agreed with mlkx := { agreed.mlkx with settling := [⟨5, 3, 7, []⟩] } }, by decide +kernel⟩,
   ⟨agreed, 5, 3, 9, 15, by decide +kernel⟩,
   ⟨agreed, 5, 3, 10, by decide +kernel⟩⟩

set_option maxRecDepth 100000 in
theorem witness_FloodRelay :
    (∃ (s : State) (x : RxItem) (l : List RxItem) (f : FloodFrame) (k : Nat) (w : Window) (b : Nat × Nat), s.clockOn = true ∧
    s.rxq = x :: l ∧ x.frame.kind = .flood ∧ x.frame.flood = some f ∧ s.fldOn = true ∧
    f.a1.toNat = s.addr48 FLD_GROUP_LO FLD_GROUP_HI ∧ f.etype.toNat = s.get FLD_CFG_ETYPE ∧ x.tick = some k ∧
    s.windowOf x.radio.val k = some (w, b) ∧ w.rx = true ∧ w.kind = 8 ∧ w.chidx = x.chan ∧ s.floodBad f = false) ∧
    (∃ (s : State) (x : RxItem) (l : List RxItem) (f : FloodFrame) (k : Nat) (w : Window) (b : Nat × Nat), s.clockOn = true ∧
    s.rxq = x :: l ∧ x.frame.kind = .flood ∧ x.frame.flood = some f ∧ s.fldOn = true ∧
    f.a1.toNat = s.addr48 FLD_GROUP_LO FLD_GROUP_HI ∧ f.etype.toNat = s.get FLD_CFG_ETYPE ∧ x.tick = some k ∧
    s.windowOf x.radio.val k = some (w, b) ∧ w.rx = true ∧ w.kind = 8 ∧ w.chidx = x.chan ∧ s.floodBad f = true) ∧
    (∃ (s : State) (x : RxItem) (l : List RxItem), s.rxq = x :: l ∧ x.frame.kind ≠ .flood) ∧
    (∃ (s : State) (w : FloodWait) (i : Nat) (v : Sorus), s.clockOn = true ∧ s.fld.waiting = [w] ∧
    s.floodInFlight w.tick = false ∧ s.sorusFind w.f = some (i, v)) ∧
    (∃ (s : State) (w : FloodWait) (a : Nat) (rx : Nat) (map : Nat), s.clockOn = true ∧ s.fld.waiting = [w] ∧
    s.floodInFlight w.tick = false ∧ s.sorusFind w.f = none ∧ ffType w.f = 1 ∧ s.floodHome w.f.orig.toNat = none ∧
    s.aidOfMac w.f.orig.toNat = some a ∧
    replayCheck (s.cxBit a 232 0) (s.cx a 224 4) (s.cx a 228 4) w.f.fcnt.toNat = some (rx, map)) ∧
    (∃ (s : State) (w : FloodWait) (a : Nat), s.clockOn = true ∧ s.fld.waiting = [w] ∧ s.floodInFlight w.tick = false ∧
    s.sorusFind w.f = none ∧ ffType w.f = 1 ∧ s.floodHome w.f.orig.toNat = none ∧ s.aidOfMac w.f.orig.toNat = some a ∧
    replayCheck (s.cxBit a 232 0) (s.cx a 224 4) (s.cx a 228 4) w.f.fcnt.toNat = none) ∧
    (∃ (s : State), s.fld.waiting = []) ∧
    (∃ (s : State) (u : State) (sec : LinkSec), s.clockOn = true ∧ s.linkIn sec false = (u, .dropped)) ∧
    (∃ (s : State) (u : State) (sec : LinkSec), s.clockOn = true ∧ s.linkIn sec false = (u, .badIcv)) ∧
    (∃ (s : State) (u : State) (sec : LinkSec), s.clockOn = true ∧ s.linkIn sec false = (u, .passed) ∧ u.fldOn = false) ∧
    (∃ (s : State) (w : State) (v : State) (u : State) (sec : LinkSec) (f : FloodFrame) (body : List Byte) (e : KeySlot) (id : Nat) (m : BitVec 2), s.clockOn = true ∧
    s.linkIn sec false = (w, .passed) ∧ w.fldOn = true ∧ w.floodBad f = false ∧
    w.takeLane sec.held sec.urgentHeld false m.toNat = (v, .done) ∧
    v.keyFetch (v.get (FLD_KEY_SLOT_SLOT (ffKeyid f))) suitesFlood = (v, some e) ∧ f.micOk = true ∧ v.floodForeign f = false ∧
    v.alloc ownFld (f.len.toNat + 32) body = (u, some id) ∧ u.sorusFind f = none ∧ ffType f = 1 ∧
    u.floodHome f.orig.toNat = none ∧ u.aidOfMac f.orig.toNat = none) ∧
    (∃ (s : State) (r : Fin 3) (payload : List Byte) (id : Nat), s.clockOn = true ∧ (s.fldQueue r).length < 64 ∧
    payload.length ≤ 1024 ∧ (s.alloc ownFld payload.length payload).2 = some id) ∧
    (∃ (s : State) (r : Fin 3), s.clockOn = true ∧ 64 ≤ (s.fldQueue r).length) ∧
    (∃ (s : State), s.clockOn = true) ∧
    (∃ (s : State) (r : Fin 3) (w : Window) (a : Nat) (b : Nat), s.clockOn = true ∧ s.flag SYS_DIE_STAT_FRN_UP = true ∧
    s.retq = [] ∧ s.placing = true ∧
    (s.windowOf r (s.absTick + 0x80)).orElse (fun _ => s.windowOf r s.absTick) = some (w, a, b) ∧ w.kind = 8 ∧ w.tx = true ∧
    s.fldOn = true ∧ s.fld.servedAt[r] ≠ some a ∧ (b - a) / s.fldSlot r < 2) ∧
    (∃ (s : State), s.reach none FLD_CMD = .made ∧
    s.fld.keysWritten.contains (s.get (FLD_KEY_SLOT_SLOT (s.get FLD_TX_KEY_KEYID))) = true) ∧
    (∃ (s : State), s.reach none FLD_CMD = .made ∧
    s.fld.keysWritten.contains (s.get (FLD_KEY_SLOT_SLOT (s.get FLD_TX_KEY_KEYID))) = false) ∧
    (∃ (s : State) (a : Nat), s.reach none FLD_CMD = .made ∧ a = (s.rd FLD_CMD_AID).toNat % 8192) ∧
    (∃ (s : State) (a : Nat), s.reach none FLD_CMD = .made ∧ a = (s.rd FLD_CMD_AID).toNat % 8192) ∧
    (∃ (s : State), s.reach none FLD_CMD = .made) ∧
    (∃ (s : State), s.clockOn = true) :=
  ⟨⟨{ fplan with rxq := [fl0] }, fl0, [], ff0, 800000000, fwin, (788529152, 804257792), by decide +kernel⟩,
   ⟨{ fplan with rxq := [{ fl0 with frame := { fl0.frame with flood := some { ff0 with msdu := 81 } } }] },
   { fl0 with frame := { fl0.frame with flood := some { ff0 with msdu := 81 } } }, [], { ff0 with msdu := 81 }, 800000000, fwin,
   (788529152, 804257792), by decide +kernel⟩,
   ⟨{ sta with rxq := [rx0] }, rx0, [], by decide +kernel⟩,
   ⟨(let s := waiting (floodOn radioOn); { s with fld := { s.fld with sorus := [(9, some sorus0)] } }), wait0, 9, sorus0,
   by decide +kernel⟩,
   ⟨waiting (floodOn homed), wait0, 5, 7, 0, by decide +kernel⟩,
   ⟨waiting (floodOn ((homed.cxPutBit 5 232 0 true).cxSet 5 224 4 7)), wait0, 5, by decide +kernel⟩,
   ⟨sta, by decide +kernel⟩,
   ⟨keyed, keyedIn keyed { lsec with pn := 0 }, { lsec with pn := 0 }, by decide +kernel, Prod.ext rfl (by decide +kernel)⟩,
   ⟨keyed, keyedIn keyed { lsec with icvOk := false }, { lsec with icvOk := false }, by decide +kernel,
   Prod.ext rfl (by decide +kernel)⟩,
   ⟨(keyed.put FLD_CTL_EN 0), keyedIn (keyed.put FLD_CTL_EN 0) lsec, lsec, by decide +kernel, Prod.ext rfl (by decide +kernel),
   by decide +kernel⟩,
   ⟨keyed, keyedIn keyed lsec, keyedIn keyed lsec, ((keyedIn keyed lsec).alloc ownFld 72 [1]).1, lsec, ff0, [1],
   { suite := 10, key := 3 }, 0, 0, by decide +kernel, Prod.ext rfl (by decide +kernel), by decide +kernel, by decide +kernel,
   by decide +kernel, by decide +kernel, by decide +kernel, by decide +kernel, Prod.ext rfl (by decide +kernel),
   by decide +kernel⟩,
   ⟨floodOn radioOn, 2, [1, 2], 0, by decide +kernel⟩,
   ⟨{ radioOn with fld := { radioOn.fld with queues := radioOn.fld.queues.set 2 (List.replicate 64 frame0) } }, 2,
   by decide +kernel⟩,
   ⟨{ radioOn with fld := { radioOn.fld with queues := radioOn.fld.queues.set 2 [frame0, { frame0 with turn := 47 }] } },
   by decide +kernel⟩,
   ⟨(let s := floodOn (plannedAt 0xEFFF00 8 7); { s with spn := { s.spn with wideU := 804257472 * 125 * 1000000000 } }), 0,
   { fwin with start := 0xEFFF00 }, 804257536, 804257792, by decide +kernel⟩,
   ⟨{ up with fld := { up.fld with keysWritten := [0] } }, by decide +kernel⟩,
   ⟨up, by decide +kernel⟩,
   ⟨up, 0, by decide +kernel⟩,
   ⟨((homed.cxPutBit 5 232 0 true).wr FLD_CMD_AID 5), 5, by decide +kernel⟩,
   ⟨{ up with fld := { up.fld with sorus := [(9, some sorus0)] } }, by decide +kernel⟩,
   ⟨{ radioOn with fld := { radioOn.fld with sorus := [(9, some sorus0), (10, some { sorus0 with turn := 39 })] } },
   by decide +kernel⟩⟩

set_option maxRecDepth 100000 in
theorem witness_ClusterUnit :
    (∃ (s : State), s.reach none CLU_CTL = .made ∧ s.cluSt = cluOff ∧ s.cid ≠ 0) ∧
    (∃ (s : State), s.reach none CLU_CTL = .made ∧ s.cluSt = cluOff ∧ s.cid ≠ 0) ∧
    (∃ (s : State), s.reach none CLU_CTL = .made) ∧
    (∃ (s : State), s.cluSt = cluLead ∧ s.cid ≠ 0 ∧ s.awake = true ∧ s.running = true ∧ s.flag SPN_STAT_HELD = false) ∧
    (∃ (s : State), s.cluSt = cluLead ∧ s.cid ≠ 0 ∧ s.awake = true ∧ s.running = true ∧ s.flag SPN_STAT_HELD = false) ∧
    (∃ (s : State), s.cluSt ≠ cluLead) ∧
    (∃ (s : State) (u : State) (h : Afette) (m : SyncMsg) (k : Nat), s.afetteIn h 0 = (u, true) ∧ u.clu.taken = [] ∧
    m.actKind = 0 ∧ (u.cluSt = cluJoin ∨ (u.cluSt = cluMember ∨ u.cluSt = cluHoldover) ∧ u.syncOk h = true) ∧
    k = unpackTick h.tick.toNat / slotLen ∧ k / 16 = u.turn ∧ k * slotLen ≤ u.afetteTick ∧
    u.afetteTick < k * slotLen + (u.rd CLU_SYNC_TOL).toNat % 2 ^ 24 ∧ m.epochNs = u.rd SPN_EPOCH_NS ∧
    m.epochSec.toNat * 1000000000 + m.epochNs.toNat = u.epochNs) ∧
    (∃ (s : State) (u : State) (h : Afette) (m : SyncMsg) (k : Nat), s.afetteIn h 0 = (u, true) ∧ u.clu.taken = [] ∧
    m.actKind = 0 ∧ (u.cluSt = cluJoin ∨ (u.cluSt = cluMember ∨ u.cluSt = cluHoldover) ∧ u.syncOk h = true) ∧
    k = unpackTick h.tick.toNat / slotLen ∧ k / 16 = u.turn ∧ k * slotLen ≤ u.afetteTick ∧
    u.afetteTick < k * slotLen + (u.rd CLU_SYNC_TOL).toNat % 2 ^ 24 ∧ m.epochNs = u.rd SPN_EPOCH_NS ∧
    m.epochSec.toNat * 1000000000 + m.epochNs.toNat = u.epochNs) ∧
    (∃ (s : State) (u : State) (h : Afette) (m : SyncMsg), s.afetteIn h 0 = (u, true) ∧
    (u.cluSt = cluMember ∨ u.cluSt = cluHoldover) ∧ u.syncOk h = false ∧ m.epochNs = u.rd SPN_EPOCH_NS ∧
    m.epochSec.toNat * 1000000000 + m.epochNs.toNat = u.epochNs) ∧
    (∃ (s : State) (u : State) (h : Afette) (m : SyncMsg), s.afetteIn h 0 = (u, true) ∧
    (u.cluSt = cluJoin ∨ u.cluSt = cluMember ∨ u.cluSt = cluHoldover) ∧ m.epochNs ≠ u.rd SPN_EPOCH_NS) ∧
    (∃ (s : State) (u : State) (h : Afette), s.afetteIn h 0 = (u, true) ∧ u.cluSt = cluLead ∧
    (u.rd CLU_TERM).toNat < h.term.toNat) ∧
    (∃ (s : State) (u : State) (h : Afette), s.afetteIn h 0 = (u, true) ∧ u.cluSt = cluLead ∧
    (u.rd CLU_TERM).toNat < h.term.toNat) ∧
    (∃ (s : State), s.listening = true ∧ s.awake = true ∧ s.running = true ∧ s.flag SPN_STAT_HELD = false) ∧
    (∃ (s : State), s.listening = true ∧ s.awake = true ∧ s.running = true ∧ s.flag SPN_STAT_HELD = false) ∧
    (∃ (s : State), s.cluSt = cluHoldover ∧ s.cid ≠ 0 ∧ s.get SYS_ROLE_ROLE = 3 ∧ s.flag CLU_STAT_DEP_NONE = false ∧
    s.get CLU_STAT_DEPUTY = s.did ∧ 16 ≤ s.clu.run ∧ s.spnSt ≠ spnFree ∧ s.spnSt ≠ spnEstimated ∧ s.spnSt ≠ spnStopped ∧
    s.running = true ∧ s.flag SPN_STAT_HELD = false ∧ s.awake = true) ∧
    (∃ (s : State), s.spnSt ≠ spnFree ∧ s.spnSt ≠ spnEstimated ∧ s.spnSt ≠ spnStopped ∧
    (s.running = false ∨ s.flag SPN_STAT_HELD = true)) ∧
    (∃ (s : State), s.cluSt = cluHoldover ∧ s.get SYS_ROLE_ROLE = 3 ∧ s.flag CLU_STAT_DEP_NONE = false ∧
    s.get CLU_STAT_DEPUTY = s.did ∧ 16 ≤ s.clu.run ∧ (s.spnSt = spnFree ∨ s.spnSt = spnEstimated ∨ s.spnSt = spnStopped) ∧
    s.clu.takeHeld = false) ∧
    (∃ (s : State), (s.cluSt = cluMember ∨ s.cluSt = cluHoldover) ∧ s.cid ≠ 0 ∧ s.awake = true ∧ s.running = true ∧
    s.flag SPN_STAT_HELD = false ∧ s.reports = [] ∧ s.sess ≠ sessReady) ∧
    (∃ (s : State), (s.cluSt = cluMember ∨ s.cluSt = cluHoldover) ∧ s.cid ≠ 0 ∧ s.awake = true ∧ s.running = true ∧
    s.flag SPN_STAT_HELD = false ∧ s.reports = [] ∧ s.sess ≠ sessReady) ∧
    (∃ (s : State) (u : State) (h : Afette), s.afetteIn h 1 = (u, true) ∧ u.cluSt = cluLead ∧
    (u.devOf h.srcMac.toNat = none ∨ u.devOf h.srcMac.toNat = some h.from_.toNat)) ∧
    (∃ (s : State) (u : State) (h : Afette) (b : Nat), s.afetteIn h 1 = (u, true) ∧ u.cluSt = cluLead ∧
    u.devOf h.srcMac.toNat = some b ∧ b ≠ h.from_.toNat) ∧
    (∃ (s : State) (h : Afette), s.cid ≠ 0 ∧ s.cluSt ≠ cluOff ∧ s.clockOn = true ∧ h.prot = false) ∧
    (∃ (s : State) (u : State) (h : Afette) (use : LinkUse), s.clockOn = true ∧ h.prot = true ∧
    (s.toAbsTick (s.absTick + h.dt.toNat)).linkIn h.sec false = (u, use) ∧ use = .passed ∧ u.cid ≠ 0 ∧ u.cluSt ≠ cluOff ∧
    h.ver = 1 ∧ h.typ = 1 ∧ h.lenOk = true ∧ (h.all = true ∨ h.to_.toNat = u.did) ∧ h.cid.toNat ≠ u.cid) ∧
    (∃ (s : State) (u : State) (h : Afette) (use : LinkUse), s.clockOn = true ∧ h.prot = true ∧
    (s.toAbsTick (s.absTick + h.dt.toNat)).linkIn h.sec false = (u, use) ∧ use = .badIcv ∧ u.cid ≠ 0 ∧ u.cluSt ≠ cluOff) ∧
    (∃ (s : State) (u : State) (h : Afette) (use : LinkUse), s.clockOn = true ∧ h.prot = true ∧
    (s.toAbsTick (s.absTick + h.dt.toNat)).linkIn h.sec false = (u, use) ∧ use = .dropped) ∧
    (∃ (s : State) (d : BitVec 5) (n : Nat), s.clockOn = true ∧ SMap.get (fun _ => none) s.clu.hbSeen d.toNat = some n ∧
    s.cluSt = cluLead ∧ s.placing = true) :=
  ⟨⟨clOff, by decide +kernel⟩,
   ⟨(clOff.put SYS_ROLE_ROLE 1), by decide +kernel⟩,
   ⟨clu cluMember, by decide +kernel⟩,
   ⟨clu cluLead, by decide +kernel⟩,
   ⟨onLine (clu cluLead), by decide +kernel⟩,
   ⟨clu cluMember, by decide +kernel⟩,
   ⟨mem2, (State.afetteIn (mem2) (syncAf) 0).1, syncAf, sync0, 762, Prod.ext rfl (by decide +kernel), by decide +kernel⟩,
   ⟨(mem2.put CLU_STAT_STATE cluHoldover), (State.afetteIn ((mem2.put CLU_STAT_STATE cluHoldover)) (syncAf) 0).1, syncAf, sync0,
   762, Prod.ext rfl (by decide +kernel), by decide +kernel⟩,
   ⟨rejClu, (State.afetteIn (rejClu) (syncAf) 0).1, syncAf, sync0, Prod.ext rfl (by decide +kernel), by decide +kernel⟩,
   ⟨mem2, (State.afetteIn (mem2) (syncAf) 0).1, syncAf, { sync0 with epochNs := 1 }, Prod.ext rfl (by decide +kernel),
   by decide +kernel⟩,
   ⟨clu cluLead, (State.afetteIn (clu cluLead) ({ af 0 with term := 1 }) 0).1, { af 0 with term := 1 },
   Prod.ext rfl (by decide +kernel), by decide +kernel⟩,
   ⟨((clu cluLead).put (ACC_GEN_CFG_HALF 0) 16),
   (State.afetteIn (((clu cluLead).put (ACC_GEN_CFG_HALF 0) 16)) ({ af 0 with term := 1 }) 0).1, { af 0 with term := 1 },
   Prod.ext rfl (by decide +kernel), by decide +kernel⟩,
   ⟨clu cluMember, by decide +kernel⟩,
   ⟨((clu cluMember).put CLU_STAT_MISS 2), by decide +kernel⟩,
   ⟨(let s := ((clu cluHoldover).put SYS_ROLE_ROLE 3).put SPN_STAT_STATE spnHoldover; { s with clu := { s.clu with run := 16 } }),
   by decide +kernel⟩,
   ⟨up.put SPN_STAT_STATE spnHoldover, by decide +kernel⟩,
   ⟨(let s := ((clu cluHoldover).put SYS_ROLE_ROLE 3).put SPN_STAT_STATE spnFree; { s with clu := { s.clu with run := 16 } }),
   by decide +kernel⟩,
   ⟨clu cluMember, by decide +kernel⟩,
   ⟨onLine (clu cluMember), by decide +kernel⟩,
   ⟨clu cluLead, (State.afetteIn (clu cluLead) (af 1) 1).1, af 1, Prod.ext rfl (by decide +kernel), by decide +kernel⟩,
   ⟨{ (clu cluLead) with clu := { (clu cluLead).clu with devs := [(0xD1, some 9)] } },
   (State.afetteIn ({ (clu cluLead) with clu := { (clu cluLead).clu with devs := [(0xD1, some 9)] } }) (af 1) 1).1, af 1, 9,
   Prod.ext rfl (by decide +kernel), by decide +kernel⟩,
   ⟨clu cluLead, { af 1 with prot := false }, by decide +kernel⟩,
   ⟨clu cluLead,
   (((clu cluLead : State).toAbsTick ((clu cluLead : State).absTick + ({ af 1 with cid := 8, all := true } : Afette).dt.toNat)).linkIn ({ af 1 with cid := 8, all := true } : Afette).sec false).1,
   { af 1 with cid := 8, all := true }, .passed, by decide +kernel, by decide +kernel, pair_of (by decide +kernel),
   by decide +kernel⟩,
   ⟨clu cluLead,
   (((clu cluLead : State).toAbsTick ((clu cluLead : State).absTick + ({ af 1 with sec := { lsec with icvOk := false } } : Afette).dt.toNat)).linkIn ({ af 1 with sec := { lsec with icvOk := false } } : Afette).sec false).1,
   { af 1 with sec := { lsec with icvOk := false } }, .badIcv, by decide +kernel, by decide +kernel,
   pair_of (by decide +kernel), by decide +kernel⟩,
   ⟨clu cluLead,
   (((clu cluLead : State).toAbsTick ((clu cluLead : State).absTick + ({ af 1 with sec := { lsec with pn := 0 } } : Afette).dt.toNat)).linkIn ({ af 1 with sec := { lsec with pn := 0 } } : Afette).sec false).1,
   { af 1 with sec := { lsec with pn := 0 } }, .dropped, by decide +kernel, by decide +kernel, pair_of (by decide +kernel),
   by decide +kernel⟩,
   ⟨{ ((clu cluLead).wr CLU_PRESENT 0xFFFFFFFF) with clu := { (clu cluLead).clu with hbSeen := [(31, some 5)] } }, 31, 5,
   by decide +kernel⟩⟩

set_option maxRecDepth 100000 in
theorem witness_ClusterDirectory :
    (∃ (s : State) (u : State) (h : Afette) (r : DirRecord), s.afetteIn h 2 = (u, true) ∧ u.cluSt = cluLead ∧ u.reports = [] ∧
    u.clu.hands = [] ∧ r.kind = 0 ∧ addrBad r.addr.toNat = false ∧ u.dirGet r.mac.toNat = none ∧ u.clu.dir.length < 262144 ∧
    u.aidOfMac r.mac.toNat = none) ∧
    (∃ (s : State) (u : State) (h : Afette) (r : DirRecord) (e : DirEntry), s.afetteIn h 2 = (u, true) ∧ u.cluSt = cluLead ∧
    u.reports = [] ∧ u.clu.hands = [] ∧ r.kind = 0 ∧ u.dirGet r.mac.toNat = some e ∧ addrBad r.addr.toNat = false ∧
    unpackTick r.tick.toNat < unpackTick e.tick) ∧
    (∃ (s : State) (u : State) (h : Afette) (seq : BitVec 32) (r : DirRecord), s.afetteIn h 2 = (u, true) ∧ u.follows h = true ∧
    u.clu.held = [] ∧ u.clu.hands = [] ∧ r.kind = 0 ∧ addrBad r.addr.toNat = false ∧ u.clu.dir.length < 262144 ∧
    seq.toNat = (u.rd CLU_DSEQ).toNat + 1) ∧
    (∃ (s : State) (u : State) (h : Afette) (seq : BitVec 32), s.afetteIn h 2 = (u, true) ∧ u.follows h = true ∧
    u.clu.hands = [] ∧ seq.toNat ≤ (u.rd CLU_DSEQ).toNat) ∧
    (∃ (s : State) (u : State) (h : Afette) (seq : BitVec 32), s.afetteIn h 2 = (u, true) ∧ u.follows h = true ∧
    u.clu.hands = [] ∧ (u.rd CLU_DSEQ).toNat + 1 < seq.toNat ∧ seq.toNat ≤ (u.rd CLU_DSEQ).toNat + 1 + 1024 ∧
    u.clu.held.length < 1024 ∧ u.clu.held.any (fun g => g.1 == seq.toNat) = false) ∧
    (∃ (s : State) (u : State) (h : Afette), s.afetteIn h 2 = (u, true) ∧ u.follows h = true ∧ u.clu.full = none ∧
    u.clu.held = [] ∧ u.clu.hands = []) ∧
    (∃ (s : State) (u : State) (h : Afette) (total : BitVec 32), s.afetteIn h 2 = (u, true) ∧ u.follows h = true ∧
    u.clu.full = none ∧ u.clu.hands = [] ∧ 1 < total.toNat) ∧
    (∃ (s : State) (d : Nat), s.clockOn = true ∧ s.devOf Config.backboneMac.toNat = some d ∧ s.atTurnStart = true ∧ d ≠ s.did ∧
    d < 32 ∧ s.aids = []) ∧
    (∃ (s : State) (d : Nat), s.clockOn = true ∧ s.devOf Config.backboneMac.toNat = some d ∧ s.atTurnStart = true ∧ d ≠ s.did ∧
    d < 32 ∧ s.aids ≠ []) ∧
    (∃ (s : State), s.devOf Config.backboneMac.toNat = none) :=
  ⟨⟨clu cluLead, (State.afetteIn (clu cluLead) (af 2) 2).1, af 2, dr0, Prod.ext rfl (by decide +kernel), by decide +kernel⟩,
   ⟨listed (clu cluLead) 0xAB de1, (State.afetteIn (listed (clu cluLead) 0xAB de1) (af 2) 2).1, af 2, dr0, de1,
   Prod.ext rfl (by decide +kernel), by decide +kernel⟩,
   ⟨(cluSta cluMember), (State.afetteIn ((cluSta cluMember)) (af 2) 2).1, af 2, 1, { dr0 with mac := 0xA1 },
   Prod.ext rfl (by decide +kernel), by decide +kernel⟩,
   ⟨(clu cluMember), (State.afetteIn ((clu cluMember)) (af 2) 2).1, af 2, 0, Prod.ext rfl (by decide +kernel),
   by decide +kernel⟩,
   ⟨(clu cluMember), (State.afetteIn ((clu cluMember)) (af 2) 2).1, af 2, 1025, Prod.ext rfl (by decide +kernel),
   by decide +kernel⟩,
   ⟨listed (clu cluMember) 0xAB de0, (State.afetteIn (listed (clu cluMember) 0xAB de0) (af 2) 2).1, af 2,
   Prod.ext rfl (by decide +kernel), by decide +kernel⟩,
   ⟨(clu cluMember), (State.afetteIn ((clu cluMember)) (af 2) 2).1, af 2, 2, Prod.ext rfl (by decide +kernel),
   by decide +kernel⟩,
   ⟨atTurn { (clu cluMember) with clu := { (clu cluMember).clu with devs := [(Config.backboneMac.toNat, some 31)] } }, 31,
   by decide +kernel, by simp [State.devOf, SMap.get, atTurn], by decide +kernel⟩,
   ⟨atTurn { (cluSta cluMember) with clu := { (clu cluMember).clu with devs := [(Config.backboneMac.toNat, some 31)] } }, 31,
   by decide +kernel, by simp [State.devOf, SMap.get, atTurn], by decide +kernel⟩,
   ⟨clu cluMember, by decide +kernel⟩⟩

set_option maxRecDepth 100000 in
theorem witness_PlansAndActivations :
    (∃ (s : State) (d : BitVec 5) (r : Fin 3) (n : Nat), s.reach none CLU_PLAN_CMD = .made ∧ s.cluSt = cluLead ∧ s.cid ≠ 0 ∧
    s.flag CLU_PLAN_STAT_BUSY = false ∧ d.toNat ≠ s.did ∧ (s.rd CLU_PRESENT).getLsbD d.toNat = true ∧
    n = (s.windowsFrom (s.planOut d.toNat r.val) 1024).length) ∧
    (∃ (s : State) (d : BitVec 5) (r : Fin 3) (n : Nat), s.reach none CLU_PLAN_CMD = .made ∧ s.cluSt = cluLead ∧ s.cid ≠ 0 ∧
    s.flag CLU_PLAN_STAT_BUSY = false ∧ d.toNat ≠ s.did ∧ (s.rd CLU_PRESENT).getLsbD d.toNat = true ∧
    n = (s.windowsFrom (s.planOut d.toNat r.val) 1024).length) ∧
    (∃ (s : State) (d : BitVec 5) (radio : BitVec 2), s.reach none CLU_PLAN_CMD = .made ∧ s.cluSt = cluLead ∧ radio.toNat < 3 ∧
    d.toNat ≠ s.did ∧ (s.rd CLU_PRESENT).getLsbD d.toNat = false) ∧
    (∃ (s : State) (d : BitVec 5) (r : Fin 3), s.reach none CLU_PLAN_CMD = .made ∧ s.cluSt = cluLead ∧
    s.flag CLU_PLAN_STAT_BUSY = false ∧ d.toNat = s.did ∧ s.flag (ACC_PLAN_STAT_ARMED r) = false) ∧
    (∃ (s : State), s.clockOn = true) ∧
    (∃ (s : State) (u : State) (h : Afette) (r : Fin 3), s.afetteIn h 3 = (u, true) ∧ u.cluSt ≠ cluLead ∧ u.cluSt ≠ cluDeposed ∧
    u.flag (ACC_PLAN_STAT_ARMED r) = false ∧ u.clu.planRx[r] = none) ∧
    (∃ (s : State) (u : State) (h : Afette) (r : Fin 3), s.afetteIn h 3 = (u, true) ∧ u.cluSt ≠ cluLead ∧ u.cluSt ≠ cluDeposed ∧
    u.flag (ACC_PLAN_STAT_ARMED r) = true) ∧
    (∃ (s : State) (kind : BitVec 2), s.reach none CLU_ACT_CMD = .made ∧ s.cluSt = cluLead ∧ (kind = 1 ∨ kind = 2) ∧
    (s.rd CLU_ACT_STAT).toNat % 4 ≠ 2) ∧
    (∃ (s : State), s.reach none CLU_ACT_CMD = .made ∧ s.cluSt ≠ cluLead) ∧
    (∃ (s : State) (a : Activation) (m : Nat), s.clockOn = true ∧ s.clu.act = some (a, m) ∧ (s.rd CLU_ACT_STAT).toNat % 4 = 1 ∧
    s.cluSt = cluLead ∧ s.cid ≠ 0 ∧ (∀ d < 32, m / 2 ^ d % 2 = 1 → s.didReady a d = true) ∧ a.kind = 1 ∧ a.map % 8 = 0 ∧
    s.actClose a = false ∧ s.clu.taken = [] ∧ s.clu.withdrawn = []) ∧
    (∃ (s : State) (a : Activation) (m : Nat), s.clockOn = true ∧ s.clu.act = some (a, m) ∧ (s.rd CLU_ACT_STAT).toNat % 4 = 1 ∧
    s.cluSt = cluLead ∧ s.cid ≠ 0 ∧ (∀ d < 32, m / 2 ^ d % 2 = 1 → s.didReady a d = true) ∧ a.kind = 1 ∧ a.map % 8 = 0 ∧
    s.actClose a = false ∧ s.clu.taken = [] ∧ s.clu.withdrawn = []) ∧
    (∃ (s : State) (a : Activation) (m : Nat), s.clockOn = true ∧ s.clu.act = some (a, m) ∧ (s.rd CLU_ACT_STAT).toNat % 4 = 1 ∧
    s.actClose a = true) ∧
    (∃ (s : State) (a : Activation) (m : Nat) (d : Nat), s.clu.act = some (a, m) ∧ d < 32 ∧ m / 2 ^ d % 2 = 1 ∧
    s.didReady a d = false ∧ s.actClose a = false) ∧
    (∃ (s : State) (a : Activation) (m : Nat), s.clockOn = true ∧ s.clu.act = some (a, m) ∧ (s.rd CLU_ACT_STAT).toNat % 4 = 1 ∧
    s.placing = true) ∧
    (∃ (s : State) (kind : BitVec 2) (a : Activation) (m : Nat), s.reach none CLU_ACT_CMD = .made ∧ s.clu.act = some (a, m) ∧
    (kind = 1 ∨ kind = 2) ∧ (s.rd CLU_ACT_STAT).toNat % 4 = 1) ∧
    (∃ (s : State) (kind : BitVec 2) (a : Activation) (m : Nat), s.reach none CLU_ACT_CMD = .made ∧ s.clu.act = some (a, m) ∧
    (kind = 1 ∨ kind = 2) ∧ (s.rd CLU_ACT_STAT).toNat % 4 = 2 ∧ a.turn ≤ s.turn + atLeast1 ((s.rd CLU_ACT_MIN).toNat % 256)) ∧
    (∃ (s : State) (u : State) (h : Afette) (map : BitVec 8) (id : BitVec 32) (turn : BitVec 40), s.afetteIn h 6 = (u, true) ∧
    u.follows h = true ∧ u.clu.taken = [] ∧ u.turn < turn.toNat ∧
    (∀ r : Fin 3, map.getLsbD r.val = true → u.clu.staged[r].1 = id.toNat ∧ id ≠ 0)) ∧
    (∃ (s : State) (u : State) (h : Afette) (turn : BitVec 40), s.afetteIn h 6 = (u, true) ∧ u.follows h = true ∧
    u.clu.taken = [] ∧ turn.toNat ≤ u.turn) ∧
    (∃ (s : State) (u : State) (h : Afette) (m2 : BitVec 8) (id : BitVec 32) (turn : BitVec 40), s.afetteIn h 6 = (u, true) ∧
    u.follows h = true ∧ u.clu.taken = [⟨1, m2.toNat, id.toNat, turn.toNat⟩] ∧ u.turn < turn.toNat) ∧
    (∃ (s : State) (u : State) (h : Afette), s.afetteIn h 5 = (u, true) ∧ u.cluSt = cluLead) :=
  ⟨⟨((clu cluLead).wr CLU_PRESENT 8), 3, 0, 0, by decide +kernel⟩,
   ⟨(let s := ((clu cluLead).wr CLU_PRESENT 8).wr CLU_PLAN_BASE 0x40; s), 3, 2, 0, by decide +kernel⟩,
   ⟨clu cluLead, 3, 2, by decide +kernel⟩,
   ⟨clu cluLead, 2, 1, by decide +kernel⟩,
   ⟨clu cluLead, by decide +kernel⟩,
   ⟨clu cluMember, (State.afetteIn (clu cluMember) (af 3) 3).1, af 3, 1, Prod.ext rfl (by decide +kernel), by decide +kernel⟩,
   ⟨((clu cluMember).put (ACC_PLAN_STAT_ARMED 1) 1),
   (State.afetteIn (((clu cluMember).put (ACC_PLAN_STAT_ARMED 1) 1)) (af 3) 3).1, af 3, 1, Prod.ext rfl (by decide +kernel),
   by decide +kernel⟩,
   ⟨(clu cluLead).wr CLU_ACT_MASK 6, 1, by decide +kernel⟩,
   ⟨clu cluMember, by decide +kernel⟩,
   ⟨actingFar (clu cluLead) 4 { act1 with turn := 200 }, { act1 with turn := 200 }, 4, by decide +kernel⟩,
   ⟨onLine (actingFar (clu cluLead) 4 { act1 with turn := 200 }), { act1 with turn := 200 }, 4, by decide +kernel⟩,
   ⟨acting (clu cluLead) 1 4 |> fun s => { s with clu := { s.clu with act := some ({ act1 with turn := 48 }, 4) } },
   { act1 with turn := 48 }, 4, by decide +kernel⟩,
   ⟨actingFar (clu cluLead) 8 { act1 with turn := 200, map := 1 }, { act1 with turn := 200, map := 1 }, 8, 3, by decide +kernel⟩,
   ⟨acting (clu cluLead) 1 4, act1, 4, by decide +kernel⟩,
   ⟨acting (clu cluLead) 1 4, 1, act1, 4, by decide +kernel⟩,
   ⟨acting (clu cluLead) 2 4, 1, act1, 4, by decide +kernel⟩,
   ⟨(clu cluMember), (State.afetteIn ((clu cluMember)) (af 6) 6).1, af 6, 0, 3, 50, Prod.ext rfl (by decide +kernel),
   by decide +kernel⟩,
   ⟨(clu cluMember), (State.afetteIn ((clu cluMember)) (af 6) 6).1, af 6, 47, Prod.ext rfl (by decide +kernel),
   by decide +kernel⟩,
   ⟨(let s := clu cluMember; { s with clu := { s.clu with taken := [act1] } }),
   (State.afetteIn ((let s := clu cluMember; { s with clu := { s.clu with taken := [act1] } })) (af 6) 6).1, af 6, 0, 3, 50,
   Prod.ext rfl (by decide +kernel), by decide +kernel⟩,
   ⟨clu cluLead, (State.afetteIn (clu cluLead) (af 5) 5).1, af 5, Prod.ext rfl (by decide +kernel), by decide +kernel⟩⟩

set_option maxRecDepth 100000 in
theorem witness_StationHandoff :
    (∃ (s : State) (e : DirEntry) (mac : Nat) (cut : Nat), s.reach none CLU_HAND_CMD = .made ∧ s.cluSt = cluLead ∧ s.cid ≠ 0 ∧
    mac = s.addr48 CLU_HAND_MAC_LO CLU_HAND_MAC_HI ∧ cut = unpackTick (s.rd64 CLU_HAND_CUT_LO) ∧ s.dirGet mac = some e ∧
    s.absTick + (s.rd CLU_HAND_LEAD).toNat % 2 ^ 24 ≤ cut ∧ s.clu.hands.any (fun h => h.part == 0 && h.mac == mac) = false ∧
    addrDid e.addr ≠ s.did ∧ s.get CLU_HAND_CFG_DST ≠ s.did) ∧
    (∃ (s : State), s.reach none CLU_HAND_CMD = .made ∧ s.cluSt = cluLead ∧
    s.dirGet (s.addr48 CLU_HAND_MAC_LO CLU_HAND_MAC_HI) = none) ∧
    (∃ (s : State) (h : Handoff), s.reach none CLU_HAND_CMD = .made ∧ s.clu.hands = [h] ∧ h.part = 0) ∧
    (∃ (s : State), s.reach none CLU_HAND_CMD = .made ∧ s.clu.hands = []) ∧
    (∃ (s : State) (u : State) (h : Afette) (m : HandMsg) (a : Nat), s.afetteIn h 4 = (u, true) ∧ u.cluSt = cluMember ∧
    h.from_.toNat = u.get CLU_STAT_MGR ∧ addrBad m.src.toNat = false ∧ addrBad m.dst.toNat = false ∧
    addrDid m.src.toNat = u.did ∧ u.aidOfMac m.mac.toNat = some a) ∧
    (∃ (s : State) (u : State) (h : Afette) (m : HandMsg) (a : Nat), s.afetteIn h 4 = (u, true) ∧ u.cluSt = cluMember ∧
    h.from_.toNat = u.get CLU_STAT_MGR ∧ addrBad m.src.toNat = false ∧ addrBad m.dst.toNat = false ∧
    addrDid m.src.toNat ≠ u.did ∧ addrDid m.dst.toNat = u.did ∧ u.spnSt = spnLocked ∧ u.clu.hands = [] ∧
    a = addrAid m.dst.toNat ∧ a ≠ 0 ∧ u.cxState a = 0) ∧
    (∃ (s : State) (u : State) (h : Afette), s.afetteIn h 4 = (u, true) ∧ u.cluSt = cluHoldover) ∧
    (∃ (s : State) (u : State) (h : Afette) (m : HandMsg), s.afetteIn h 4 = (u, true) ∧
    (addrBad m.src.toNat = true ∨ addrBad m.dst.toNat = true)) ∧
    (∃ (s : State) (u : State) (h : Afette) (m : HandMsg), s.afetteIn h 4 = (u, true) ∧
    (addrBad m.src.toNat = true ∨ addrBad m.dst.toNat = true)) ∧
    (∃ (s : State) (u : State) (h : Afette) (m : HandMsg), s.afetteIn h 4 = (u, true) ∧
    (addrBad m.src.toNat = true ∨ addrBad m.dst.toNat = true)) ∧
    (∃ (s : State) (u : State) (h : Afette) (m : HandMsg), s.afetteIn h 4 = (u, true) ∧
    (addrBad m.src.toNat = true ∨ addrBad m.dst.toNat = true)) ∧
    (∃ (s : State) (u : State) (h : Afette) (m : HandMsg), s.afetteIn h 4 = (u, true) ∧
    (addrBad m.src.toNat = true ∨ addrBad m.dst.toNat = true)) ∧
    (∃ (s : State) (u : State) (h : Afette) (m : HandMsg), s.afetteIn h 4 = (u, true) ∧
    (addrBad m.src.toNat = true ∨ addrBad m.dst.toNat = true) ∧ u.reports = [] ∧ u.clu.hands = []) ∧
    (∃ (s : State) (u : State) (h : Afette) (m : HandMsg) (g : Handoff), s.afetteIn h 4 = (u, true) ∧
    u.hand 1 m.hid.toNat = some g ∧ addrBad m.src.toNat = false ∧ addrBad m.dst.toNat = false ∧ u.afetteTick < g.cut ∧
    u.cxState g.aid = 1 ∧ u.mac g.aid = g.mac) ∧
    (∃ (s : State) (u : State) (h : Afette) (m : HandMsg) (g : Handoff), s.afetteIn h 4 = (u, true) ∧
    u.hand 1 m.hid.toNat = some g ∧ addrBad m.src.toNat = false ∧ addrBad m.dst.toNat = false ∧ u.cxState g.aid ≠ 2 ∧
    g.loaded = false ∧ (g.cut ≤ u.afetteTick ∨ u.cxState g.aid ≠ 1 ∨ u.mac g.aid ≠ g.mac)) ∧
    (∃ (s : State) (hid : BitVec 32) (h : Handoff), s.clockOn = true ∧ s.hand 1 hid.toNat = some h ∧ h.loaded = false ∧
    h.aid ≠ 0 ∧ s.cxState h.aid = 2 ∧ s.flag SYS_DIE_STAT_FRN_UP = false) ∧
    (∃ (s : State) (hid : BitVec 32) (h : Handoff), s.clockOn = true ∧ s.hand 1 hid.toNat = some h ∧ h.loaded = true) ∧
    (∃ (s : State) (hid : BitVec 32), s.hand 1 hid.toNat = none ∧ s.retq = []) ∧
    (∃ (s : State) (u : State) (h : Afette) (m : HandMsg) (body : List Byte) (g : Handoff), s.afetteIn h 4 = (u, true) ∧
    addrBad m.src.toNat = false ∧ addrBad m.dst.toNat = false ∧ u.hand 2 m.hid.toNat = some g ∧ 256 ≤ body.length) ∧
    (∃ (s : State) (u : State) (v : State) (h : Afette) (m : HandMsg) (g : Handoff) (len : BitVec 14) (data : List Byte) (id : Nat), s.afetteIn h 4 = (u, true) ∧
    u.hand 2 m.hid.toNat = some g ∧ u.overLimit g.aid len.toNat = false ∧ addrBad m.src.toNat = false ∧
    addrBad m.dst.toNat = false ∧ u.alloc ownAcc len.toNat data = (v, some id)) ∧
    (∃ (s : State) (u : State) (h : Afette) (m : HandMsg) (g : Handoff) (len : BitVec 14), s.afetteIn h 4 = (u, true) ∧
    u.hand 2 m.hid.toNat = some g ∧ addrBad m.src.toNat = false ∧ addrBad m.dst.toNat = false ∧
    u.overLimit g.aid len.toNat = true) ∧
    (∃ (s : State) (u : State) (h : Afette) (m : HandMsg) (g : Handoff), s.afetteIn h 4 = (u, true) ∧
    addrBad m.src.toNat = false ∧ addrBad m.dst.toNat = false ∧ u.cluSt = cluMember ∧ u.hand 2 m.hid.toNat = some g) ∧
    (∃ (s : State) (u : State) (h : Afette) (m : HandMsg) (g : Handoff), s.afetteIn h 4 = (u, true) ∧
    addrBad m.src.toNat = false ∧ addrBad m.dst.toNat = false ∧ u.hand 0 m.hid.toNat = none ∧ u.hand 1 m.hid.toNat = none ∧
    u.hand 2 m.hid.toNat = some g ∧ u.cxState g.aid = 2) ∧
    (∃ (s : State) (hid : BitVec 32) (g : Handoff), s.clockOn = true ∧ s.hand 2 hid.toNat = some g) ∧
    (∃ (s : State) (hid : BitVec 32), s.hand 2 hid.toNat = none) :=
  ⟨⟨reqLead, { de0 with addr := ad 3 9 }, 0xAB, 900000000, by decide +kernel⟩,
   ⟨clu cluLead, by decide +kernel⟩,
   ⟨handing (clu cluLead) { hs with part := 0 }, { hs with part := 0 }, by decide +kernel⟩,
   ⟨clu cluLead, by decide +kernel⟩,
   ⟨cluSta cluMember, (State.afetteIn (cluSta cluMember) (af 4) 4).1, af 4, hm0, 5, Prod.ext rfl (by decide +kernel),
   by decide +kernel⟩,
   ⟨((clu cluMember).put SPN_STAT_STATE spnLocked),
   (State.afetteIn (((clu cluMember).put SPN_STAT_STATE spnLocked)) (af 4) 4).1, af 4, hm1, 9, Prod.ext rfl (by decide +kernel),
   by decide +kernel⟩,
   ⟨clu cluHoldover, (State.afetteIn (clu cluHoldover) (af 4) 4).1, af 4, Prod.ext rfl (by decide +kernel), by decide +kernel⟩,
   ⟨cluSta cluMember, (State.afetteIn (cluSta cluMember) (af 4) 4).1, af 4, { hm0 with src := 2 ^ 34 },
   Prod.ext rfl (by decide +kernel), by decide +kernel⟩,
   ⟨cluSta cluMember, (State.afetteIn (cluSta cluMember) (af 4) 4).1, af 4, { hm0 with src := 2 ^ 34 },
   Prod.ext rfl (by decide +kernel), by decide +kernel⟩,
   ⟨cluSta cluMember, (State.afetteIn (cluSta cluMember) (af 4) 4).1, af 4, { hm0 with dst := 2 ^ 63 },
   Prod.ext rfl (by decide +kernel), by decide +kernel⟩,
   ⟨cluSta cluMember, (State.afetteIn (cluSta cluMember) (af 4) 4).1, af 4, { hm0 with src := 2 ^ 34 },
   Prod.ext rfl (by decide +kernel), by decide +kernel⟩,
   ⟨cluSta cluMember, (State.afetteIn (cluSta cluMember) (af 4) 4).1, af 4, { hm0 with dst := 2 ^ 63 },
   Prod.ext rfl (by decide +kernel), by decide +kernel⟩,
   ⟨cluSta cluMember, (State.afetteIn (cluSta cluMember) (af 4) 4).1, af 4, { hm0 with src := 2 ^ 34 },
   Prod.ext rfl (by decide +kernel), by decide +kernel⟩,
   ⟨handing (cluSta cluMember) hs, (State.afetteIn (handing (cluSta cluMember) hs) (af 4) 4).1, af 4, hm0, hs,
   Prod.ext rfl (by decide +kernel), by decide +kernel⟩,
   ⟨handing (cluSta cluMember) { hs with mac := 0xA2 },
   (State.afetteIn (handing (cluSta cluMember) { hs with mac := 0xA2 }) (af 4) 4).1, af 4, hm0, { hs with mac := 0xA2 },
   Prod.ext rfl (by decide +kernel), by decide +kernel⟩,
   ⟨unloaded, 77, hs, by decide +kernel⟩,
   ⟨handing ((cluSta cluMember).cxSet 5 2 1 2) { hs with loaded := true }, 77, { hs with loaded := true }, by decide +kernel⟩,
   ⟨clu cluMember, 77, by decide +kernel⟩,
   ⟨handing (clu cluMember) ht, (State.afetteIn (handing (clu cluMember) ht) (af 4) 4).1, af 4, hm1, List.replicate 300 7, ht,
   Prod.ext rfl (by decide +kernel), by decide +kernel⟩,
   ⟨taking, (State.afetteIn (taking) (af 4) 4).1, ((inn taking 4).alloc ownAcc 3 [1, 2, 3]).1, af 4, hm1, ht, 3, [1, 2, 3], 0,
   Prod.ext rfl (by decide +kernel), by decide +kernel, by decide +kernel, by decide +kernel, by decide +kernel,
   Prod.ext rfl (by decide +kernel)⟩,
   ⟨taking, (State.afetteIn (taking) (af 4) 4).1, af 4, hm1, ht, 16383, Prod.ext rfl (by decide +kernel), by decide +kernel⟩,
   ⟨handing (clu cluMember) ht, (State.afetteIn (handing (clu cluMember) ht) (af 4) 4).1, af 4, hm1, ht,
   Prod.ext rfl (by decide +kernel), by decide +kernel⟩,
   ⟨handing ((clu cluMember).cxSet 9 2 1 2) ht, (State.afetteIn (handing ((clu cluMember).cxSet 9 2 1 2) ht) (af 4) 4).1, af 4,
   hm1, ht, Prod.ext rfl (by decide +kernel), by decide +kernel⟩,
   ⟨handing (clu cluMember) ht, 77, ht, by decide +kernel⟩,
   ⟨clu cluMember, 77, by decide +kernel⟩⟩

theorem witness_PacketEntry :
    (∃ (s : State) (u : State) (q : BitVec 2) (k : Packet) (l : List Packet) (r : ParseRes), s.clockOn = true ∧
    s.serving = true ∧ s.ingressOf q.toNat = k :: l ∧ k.sec = false ∧ s.flag PRS_CTL_EN = true ∧ s.prs.slots.length < 8192 ∧
    ((s.setIngress q.toNat l).moveRef k.chain k.owner ownRob).refit ownRob k.chain k.bytes = (u, true) ∧
    r = s.parse k.iport (if k.iport < 3 then k.aid else 0) (if k.iport < 3 then k.tid else 0) k.bytes) ∧
    (∃ (s : State) (u : State) (q : BitVec 2) (k : Packet) (l : List Packet) (r : ParseRes), s.clockOn = true ∧
    s.serving = true ∧ s.ingressOf q.toNat = k :: l ∧ k.sec = false ∧ s.flag PRS_CTL_EN = true ∧ s.prs.slots.length < 8192 ∧
    ((s.setIngress q.toNat l).moveRef k.chain k.owner ownRob).refit ownRob k.chain k.bytes = (u, true) ∧
    r = s.parse k.iport (if k.iport < 3 then k.aid else 0) (if k.iport < 3 then k.tid else 0) k.bytes) ∧
    (∃ (s : State) (q : BitVec 2) (k : Packet) (l : List Packet), s.clockOn = true ∧ s.serving = true ∧
    s.ingressOf q.toNat = k :: l ∧ k.sec = false ∧ s.flag PRS_CTL_EN = false) ∧
    (∃ (s : State) (q : BitVec 2) (k : Packet) (l : List Packet), s.clockOn = true ∧ s.serving = true ∧
    s.ingressOf q.toNat = k :: l ∧ k.sec = false ∧ s.flag PRS_CTL_EN = true ∧ 8192 ≤ s.prs.slots.length ∧ k.waited = true) ∧
    (∃ (s : State) (q : BitVec 2) (k : Packet) (l : List Packet), s.clockOn = true ∧ s.serving = true ∧
    s.ingressOf q.toNat = k :: l ∧ k.sec = false ∧ s.flag PRS_CTL_EN = true ∧ 8192 ≤ s.prs.slots.length ∧ k.waited = false) ∧
    (∃ (s : State) (u : State) (q : BitVec 2) (k : Packet) (l : List Packet), s.clockOn = true ∧ s.serving = true ∧
    s.ingressOf q.toNat = k :: l ∧ k.sec = false ∧ s.flag PRS_CTL_EN = true ∧ s.prs.slots.length < 8192 ∧
    ((s.setIngress q.toNat l).moveRef k.chain k.owner ownRob).refit ownRob k.chain k.bytes = (u, false)) ∧
    (∃ (s : State) (q : BitVec 2), (s.serving = false ∨ s.ingressOf q.toNat = [] ∨ ∃ k l, s.ingressOf q.toNat = k :: l ∧ k.sec = true)) ∧
    (∃ (s : State) (own : BitVec 4) (len : BitVec 24), s.clockOn = true ∧ own.toNat ≤ 11 ∧ 1 ≤ len.toNat ∧
    (s.rd CHK_TIER).getLsbD own.toNat = true ∧ (len.toNat + 2047) / 2048 ≤ (s.rd CHK_FREE_ODIE).toNat ∧
    s.chain? s.chk.nextId = none) ∧
    (∃ (s : State) (own : BitVec 4) (len : BitVec 24), s.clockOn = true ∧ own.toNat ≤ 11 ∧ 1 ≤ len.toNat ∧
    (s.rd CHK_TIER).getLsbD own.toNat = true ∧ (len.toNat + 2047) / 2048 ≤ (s.rd CHK_FREE_ODIE).toNat ∧
    s.chain? s.chk.nextId = none) ∧
    (∃ (s : State) (own : BitVec 4) (h : BitVec 24) (c : Chain), s.clockOn = true ∧ s.badHandle h.toNat = false ∧
    s.chainOf h.toNat = some c ∧ s.chain? c.id = some c ∧ own.toNat ∈ c.owners) ∧
    (∃ (s : State) (own : BitVec 4) (h : BitVec 24) (c : Chain), s.clockOn = true ∧ s.badHandle h.toNat = false ∧
    s.chainOf h.toNat = some c ∧ s.chain? c.id = some c ∧ own.toNat ∈ c.owners) ∧
    (∃ (s : State) (h : BitVec 24) (c : Chain), s.clockOn = true ∧ s.badHandle h.toNat = false ∧ s.chainOf h.toNat = some c ∧
    s.chain? c.id = some c ∧ c.owners.length < 4) ∧
    (∃ (s : State), s.reach none CHK_BOOK_CMD = .made) :=
  ⟨⟨looped (chained rtr) pk0, (fitted (looped (chained rtr) pk0) 3 pk0).1, 3, pk0, [],
   (looped (chained rtr) pk0).parse pk0.iport 0 0 pk0.bytes, by decide +kernel, by decide +kernel, by decide +kernel,
   by decide +kernel, by decide +kernel, by decide +kernel, Prod.ext rfl (by decide +kernel), by decide +kernel⟩,
   ⟨({ chained rtr with prsq := [{ pk0 with src := 0, aid := 5, tid := 3 }] } : State),
   (fitted ({ chained rtr with prsq := [{ pk0 with src := 0, aid := 5, tid := 3 }] } : State) 0 { pk0 with src := 0, aid := 5, tid := 3 }).1,
   0, { pk0 with src := 0, aid := 5, tid := 3 }, [],
   (({ chained rtr with prsq := [{ pk0 with src := 0, aid := 5, tid := 3 }] } : State)).parse 0 5 3 pk0.bytes,
   by decide +kernel, by decide +kernel, by decide +kernel, by decide +kernel, by decide +kernel, by decide +kernel,
   Prod.ext rfl (by decide +kernel), by decide +kernel⟩,
   ⟨{ up with prs := { up.prs with loopq := [pk0] } }, 3, pk0, [], by decide +kernel⟩,
   ⟨{ rtr with prs := { rtr.prs with loopq := [{ pk0 with waited := true }], slots := List.replicate 8192 slot0 } }, 3,
   { pk0 with waited := true }, [], by decide +kernel⟩,
   ⟨{ rtr with prs := { rtr.prs with loopq := [pk0], slots := List.replicate 8192 slot0 } }, 3, pk0, [], by decide +kernel⟩,
   ⟨tooBig,
   ((((tooBig : State).setIngress (3 : BitVec 2).toNat ([] : List Packet)).moveRef ({ pk0 with bytes := List.replicate 4000 7 } : Packet).chain ({ pk0 with bytes := List.replicate 4000 7 } : Packet).owner ownRob).refit ownRob ({ pk0 with bytes := List.replicate 4000 7 } : Packet).chain ({ pk0 with bytes := List.replicate 4000 7 } : Packet).bytes).1,
   3, { pk0 with bytes := List.replicate 4000 7 }, [], by decide +kernel, by decide +kernel, by decide +kernel,
   by decide +kernel, by decide +kernel, by decide +kernel, pair_of (by decide +kernel)⟩,
   ⟨rtr, 2, .inr (.inl (by decide +kernel))⟩,
   ⟨up.wr CHK_TIER 0x800, 11, 4097, by decide +kernel⟩,
   ⟨(up.wr CHK_TIER 1).wr CHK_FREE_ODIE 1, 0, 2048, by decide +kernel⟩,
   ⟨held2 [3, 5], 5, 4 + 2 ^ 22, ⟨0, [1 + 2 ^ 22, 4 + 2 ^ 22], 4000, [], [3, 5]⟩, by decide +kernel⟩,
   ⟨held2 [5], 5, 1 + 2 ^ 22, ⟨0, [1 + 2 ^ 22, 4 + 2 ^ 22], 4000, [], [5]⟩, by decide +kernel⟩,
   ⟨held2 [5, 5, 5], 1 + 2 ^ 22, ⟨0, [1 + 2 ^ 22, 4 + 2 ^ 22], 4000, [], [5, 5, 5]⟩, by decide +kernel⟩,
   ⟨held2 [5], by decide +kernel⟩⟩

theorem witness_Classification :
    (∃ (s : State) (x : Slot) (v : Nat), s.clockOn = true ∧ s.prs.slots.find? (fun y => y.flow.isNone) = some x ∧
    x.st = .pending ∧ x.exc = none ∧ (s.emLookup x.parse.key = some v ∨ s.emLookup x.parse.key = none ∧ x.wc = some v) ∧
    resProg v = 0 ∧ resDisp v ≠ 0) ∧
    (∃ (s : State) (x : Slot) (v : Nat), s.clockOn = true ∧ s.prs.slots.find? (fun y => y.flow.isNone) = some x ∧
    x.st = .pending ∧ x.exc = none ∧ (s.emLookup x.parse.key = some v ∨ s.emLookup x.parse.key = none ∧ x.wc = some v) ∧
    resProg v = 0 ∧ resDisp v ≠ 0) ∧
    (∃ (s : State) (x : Slot) (v : Nat), s.clockOn = true ∧ s.prs.slots.find? (fun y => y.flow.isNone) = some x ∧
    x.st = .pending ∧ x.exc = none ∧ (s.emLookup x.parse.key = some v ∨ s.emLookup x.parse.key = none ∧ x.wc = some v) ∧
    resProg v = 0 ∧ resDisp v = 0) ∧
    (∃ (s : State) (x : Slot) (v : Nat), s.clockOn = true ∧ s.prs.slots.find? (fun y => y.flow.isNone) = some x ∧
    x.st = .pending ∧ x.exc = none ∧ s.emLookup x.parse.key = some v ∧ (resProg v = 0 ∨ s.canQueue srcPkt (resTclass v) = true)) ∧
    (∃ (s : State) (x : Slot) (v : Nat), s.clockOn = true ∧ s.prs.slots.find? (fun y => y.flow.isNone) = some x ∧
    x.st = .pending ∧ x.exc = none ∧ s.emLookup x.parse.key = some v ∧ (resProg v = 0 ∨ s.canQueue srcPkt (resTclass v) = true)) ∧
    (∃ (s : State) (x : Slot) (v : Nat), s.clockOn = true ∧ s.prs.slots.find? (fun y => y.flow.isNone) = some x ∧
    x.st = .pending ∧ s.slotOf? x.seq = some x ∧ x.exc = none ∧
    (s.emLookup x.parse.key = some v ∨ s.emLookup x.parse.key = none ∧ x.wc = some v) ∧ resProg v ≠ 0 ∧
    s.canQueue srcPkt (resTclass v) = true) ∧
    (∃ (s : State) (x : Slot) (v : Nat), s.clockOn = true ∧ s.prs.slots.find? (fun y => y.flow.isNone) = some x ∧
    x.st = .pending ∧ s.slotOf? x.seq = some x ∧ x.exc = none ∧
    (s.emLookup x.parse.key = some v ∨ s.emLookup x.parse.key = none ∧ x.wc = some v) ∧ resProg v ≠ 0 ∧
    s.canQueue srcPkt (resTclass v) = false ∧ x.held = false) ∧
    (∃ (s : State) (x : Slot) (v : Nat), s.clockOn = true ∧ s.prs.slots.find? (fun y => y.flow.isNone) = some x ∧
    x.st = .pending ∧ s.slotOf? x.seq = some x ∧ x.exc = none ∧
    (s.emLookup x.parse.key = some v ∨ s.emLookup x.parse.key = none ∧ x.wc = some v) ∧ resProg v ≠ 0 ∧
    s.canQueue srcPkt (resTclass v) = false ∧ x.held = true) ∧
    (∃ (s : State) (x : Slot) (c : Nat) (q : _), s.clockOn = true ∧ s.prs.slots.find? (fun y => y.flow.isNone) = some x ∧
    x.st = .pending ∧ x.exc = some (c, some q)) ∧
    (∃ (s : State) (x : Slot) (c : Nat), s.clockOn = true ∧ s.prs.slots.find? (fun y => y.flow.isNone) = some x ∧
    x.st = .pending ∧ x.exc = some (c, none)) ∧
    (∃ (s : State) (x : Slot), s.clockOn = true ∧ s.prs.slots.find? (fun y => y.flow.isNone) = some x ∧ x.st = .pending ∧
    x.exc = none ∧ s.emLookup x.parse.key = none ∧ x.wc = none ∧ s.flag (PRS_EXC_CFG_TO_HOST 0) = false) ∧
    (∃ (s : State) (x : Slot), s.clockOn = true ∧ s.prs.slots.find? (fun y => y.flow.isNone) = some x ∧
    s.slotOf? x.seq = some x ∧ x.st ≠ .pending) ∧
    (∃ (s : State), s.prs.slots.find? (fun y => y.flow.isNone) = none) ∧
    (∃ (s : State) (p : BitVec 4) (hi : Bool), s.reach none (if hi then PRS_HPROF_HI p.toNat else PRS_HPROF_LO p.toNat) = .made ∧
    s.flag PRS_CTL_EN = false) ∧
    (∃ (s : State) (p : BitVec 4) (hi : Bool), s.reach none (if hi then PRS_HPROF_HI p.toNat else PRS_HPROF_LO p.toNat) = .made ∧
    s.flag PRS_CTL_EN = true) ∧
    (∃ (s : State), s.reach none ROB_CFG = .made ∧ s.flag PRS_CTL_EN = false) ∧
    (∃ (s : State), s.reach none ROB_CFG = .made ∧ s.flag PRS_CTL_EN = true) :=
  ⟨⟨emWith (withSlot rtr slot0) (res 2 0 0 0), slot0, res 2 0 0 0, by decide +kernel⟩,
   ⟨withSlot rtr { slot0 with wc := some (res 1 3 0 0) }, { slot0 with wc := some (res 1 3 0 0) }, res 1 3 0 0,
   by decide +kernel⟩,
   ⟨emWith (withSlot (chained rtr) slot0) (res 0 0 0 0), slot0, res 0 0 0 0, by decide +kernel⟩,
   ⟨emWith (withSlot rtr slot0) (res 2 0 0 0), slot0, res 2 0 0 0, by decide +kernel⟩,
   ⟨emWith (withSlot (rtr.put (TSK_CLASS_VALID 31) 1) slot0) (res 2 0 1 31), slot0, res 2 0 1 31, by decide +kernel⟩,
   ⟨emWith (withSlot (rtr.put (TSK_CLASS_VALID 31) 1) slot0) (res 3 0 8191 31), slot0, res 3 0 8191 31, by decide +kernel⟩,
   ⟨emWith (withSlot rtr slot0) (res 3 0 1 31), slot0, res 3 0 1 31, by decide +kernel⟩,
   ⟨emWith (withSlot rtr { slot0 with held := true }) (res 3 0 1 31), { slot0 with held := true }, res 3 0 1 31,
   by decide +kernel⟩,
   ⟨withSlot rtr { slot0 with exc := some (5, some 31) }, { slot0 with exc := some (5, some 31) }, 5, 31, by decide +kernel⟩,
   ⟨withSlot (chained rtr) { slot0 with exc := some (7, none) }, { slot0 with exc := some (7, none) }, 7, by decide +kernel⟩,
   ⟨(let s := withSlot (chained rtr) slot0; s.put (PRS_EXC_CFG_TO_HOST 0) 0), slot0, by decide +kernel⟩,
   ⟨withSlot (chained rtr) { slot0 with st := .hole }, { slot0 with st := .hole }, by decide +kernel⟩,
   ⟨rtr, by decide +kernel⟩,
   ⟨up, 15, true, by decide +kernel⟩,
   ⟨rtr, 15, false, by decide +kernel⟩,
   ⟨up, by decide +kernel⟩,
   ⟨rtr, by decide +kernel⟩⟩

theorem witness_RuleTables :
    (∃ (s : State), s.reach none PRS_TBL_CMD = .made ∧ s.flag PRS_TBL_STAT_BUSY = false) ∧
    (∃ (s : State), s.reach none PRS_TBL_CMD = .made ∧ s.flag PRS_TBL_STAT_BUSY = true) ∧
    (∃ (s : State) (i : Nat) (d : List Byte) (v : Nat), s.clockOn = true ∧ s.prs.cmd = some ⟨1, false, i, d⟩ ∧
    v = leNum ((d.drop 96).take 16) ∧ resInvalid v = false) ∧
    (∃ (s : State) (i : Nat) (d : List Byte) (v : Nat), s.clockOn = true ∧ s.prs.cmd = some ⟨1, false, i, d⟩ ∧
    v = leNum ((d.drop 96).take 16) ∧ resInvalid v = true) ∧
    (∃ (s : State) (i : Nat) (d : List Byte), s.clockOn = true ∧ s.prs.cmd = some ⟨2, false, i, d⟩) ∧
    (∃ (s : State) (i : Nat) (d : List Byte) (e : WcEntry), s.clockOn = true ∧ s.prs.cmd = some ⟨0, false, i, d⟩ ∧
    s.wcGet i = some e ∧ e.value.length = 48 ∧ e.mask.length = 48) ∧
    (∃ (s : State) (i : Nat) (d : List Byte) (k : List Byte) (v : Nat), s.clockOn = true ∧ s.prs.cmd = some ⟨1, true, i, d⟩ ∧
    k = s.emKey ((d.drop 0).take 48) ∧ v = leNum ((d.drop 48).take 16) ∧ resInvalid v = false ∧
    (s.emFind k ≠ none ∨ ∃ j ∈ candidates (crc32c k) 32768, s.emGet j = none)) ∧
    (∃ (s : State) (i : Nat) (d : List Byte) (k : List Byte) (v : Nat), s.clockOn = true ∧ s.prs.cmd = some ⟨1, true, i, d⟩ ∧
    k = s.emKey ((d.drop 0).take 48) ∧ v = leNum ((d.drop 48).take 16) ∧ resInvalid v = false ∧ s.emFind k = none ∧
    (∀ j ∈ candidates (crc32c k) 32768, s.emGet j ≠ none)) ∧
    (∃ (s : State) (i : Nat) (d : List Byte) (k : List Byte) (v : Nat), s.clockOn = true ∧ s.prs.cmd = some ⟨1, true, i, d⟩ ∧
    k = s.emKey ((d.drop 0).take 48) ∧ v = leNum ((d.drop 48).take 16) ∧ resInvalid v = true) ∧
    (∃ (s : State) (i : Nat) (d : List Byte) (k : List Byte) (j : _) (v : _), s.clockOn = true ∧
    s.prs.cmd = some ⟨2, true, i, d⟩ ∧ k = s.emKey ((d.drop 0).take 48) ∧ s.emFind k = some (j, v)) ∧
    (∃ (s : State) (i : Nat) (d : List Byte) (k : List Byte), s.clockOn = true ∧ s.prs.cmd = some ⟨2, true, i, d⟩ ∧
    k = s.emKey ((d.drop 0).take 48) ∧ s.emFind k = none) ∧
    (∃ (s : State) (i : Nat) (d : List Byte) (k : List Byte), s.clockOn = true ∧ s.prs.cmd = some ⟨0, true, i, d⟩ ∧
    k = s.emKey ((d.drop 0).take 48)) ∧
    (∃ (s : State), s.prs.cmd = none) ∧
    (∃ (s : State) (hi : Bool), s.reach none (if hi then PRS_EM_MASK_HI else PRS_EM_MASK_LO) = .made ∧
    s.get PRS_EM_STAT_USED = 0) ∧
    (∃ (s : State) (hi : Bool), s.reach none (if hi then PRS_EM_MASK_HI else PRS_EM_MASK_LO) = .made ∧
    s.get PRS_EM_STAT_USED ≠ 0) :=
  ⟨⟨rtr, by decide +kernel⟩,
   ⟨(rtr.put PRS_TBL_STAT_BUSY 1), by decide +kernel⟩,
   ⟨cmdOn 1 false 4095 (ent (res 1 4 0 0)), 4095, ent (res 1 4 0 0), res 1 4 0 0, by decide +kernel⟩,
   ⟨cmdOn 1 false 4095 (ent (res 3 0 0 0)), 4095, ent (res 3 0 0 0), res 3 0 0 0, by decide +kernel⟩,
   ⟨cmdOn 2 false 7 [], 7, [], by decide +kernel⟩,
   ⟨(let s := cmdOn 0 false 7 []; { s with prs := { s.prs with wc := [(7, some ⟨List.replicate 48 1, List.replicate 48 2, 3⟩)] } }),
   7, [], ⟨List.replicate 48 1, List.replicate 48 2, 3⟩, by decide +kernel⟩,
   ⟨cmdOn 1 true 0 (entE (res 2 0 0 0)), 0, entE (res 2 0 0 0), k3, res 2 0 0 0, by decide +kernel, by decide +kernel,
   by decide +kernel, by decide +kernel, by decide +kernel, .inr (by decide +kernel)⟩,
   ⟨(let s := cmdOn 1 true 0 (entE (res 2 0 0 0)); { s with prs := { s.prs with em := (candidates (crc32c k3) 32768).map (fun j => (j, some ([1], 5))) } }),
   0, entE (res 2 0 0 0), k3, res 2 0 0 0, by decide +kernel⟩,
   ⟨cmdOn 1 true 0 (entE (res 1 5 0 0)), 0, entE (res 1 5 0 0), k3, res 1 5 0 0, by decide +kernel⟩,
   ⟨(let s := cmdOn 2 true 0 (entE 0); { s with prs := { s.prs with em := [((candidates (crc32c k3) 32768).getD 5 0, some (k3, 5))] } }),
   0, entE 0, k3, ((candidates (crc32c k3) 32768).getD 5 0), 5, by decide +kernel⟩,
   ⟨cmdOn 2 true 0 (entE 0), 0, entE 0, k3, by decide +kernel⟩,
   ⟨cmdOn 0 true 0 (entE 0), 0, entE 0, k3, by decide +kernel⟩,
   ⟨rtr, by decide +kernel⟩,
   ⟨up, true, by decide +kernel⟩,
   ⟨(up.put PRS_EM_STAT_USED 1), false, by decide +kernel⟩⟩

theorem witness_SlotRelease :
    (∃ (s : State) (flow : BitVec 12) (x : Slot), s.clockOn = true ∧ s.slotsOver = false ∧
    s.prs.slots.find? (fun y => y.flow == some flow.toNat) = some x ∧ (x.st = .pending ∨ x.st = .redisp)) ∧
    (∃ (s : State) (flow : BitVec 12) (x : Slot), s.clockOn = true ∧ s.slotsOver = false ∧
    s.prs.slots.find? (fun y => y.flow == some flow.toNat) = some x ∧ (x.st = .dropped ∨ x.st = .hole)) ∧
    (∃ (s : State) (flow : BitVec 12) (x : Slot), s.clockOn = true ∧ s.slotsOver = false ∧
    s.prs.slots.find? (fun y => y.flow == some flow.toNat) = some x ∧ x.st = .done ∧ x.outs = [] ∧ s.hif.wait = []) ∧
    (∃ (s : State) (flow : BitVec 12) (x : Slot) (q : _), s.clockOn = true ∧ s.slotsOver = false ∧
    s.prs.slots.find? (fun y => y.flow == some flow.toNat) = some x ∧ x.st = .done ∧ x.outs = [{ port := 2, queue := q }] ∧
    s.hif.wait = [] ∧ x.exc = none ∧ s.hostFate (q % 32) (s.dataOf x.pkt.chain).length = .ready) ∧
    (∃ (s : State) (flow : BitVec 12) (full : BitVec 2) (x : Slot) (p : Fin 2) (o : Output), s.clockOn = true ∧
    s.slotsOver = false ∧ s.prs.slots.find? (fun y => y.flow == some flow.toNat) = some x ∧ x.st = .done ∧ x.outs = [o] ∧
    o.port = p.val ∧ s.ethTakes p o.txw (full.getLsbD p.val) = false) ∧
    (∃ (s : State) (flow : BitVec 12) (x : Slot) (o : Output), s.clockOn = true ∧ s.slotsOver = false ∧
    s.prs.slots.find? (fun y => y.flow == some flow.toNat) = some x ∧ x.st = .done ∧ x.outs = [o] ∧ o.port = 3 ∧
    s.airOk (o.dst % 8192) = false ∧ s.clu.forward = [] ∧ s.hif.wait = []) ∧
    (∃ (s : State) (flow : BitVec 12), (s.slotsOver = true ∨ s.prs.slots.find? (fun y => y.flow == some flow.toNat) = none)) :=
  ⟨⟨withSlot rtr (flowed .redisp []), 9, flowed .redisp [], by decide +kernel⟩,
   ⟨withSlot (chained rtr) (flowed .hole []), 9, flowed .hole [], by decide +kernel⟩,
   ⟨withSlot (chained rtr) (flowed .done []), 9, flowed .done [], by decide +kernel⟩,
   ⟨(let s := withSlot (chained ((rtr.put (HIF_Q_CFG_RX_EN 31) 1).wr (HIF_Q_RX_TAIL 31) 4)) (flowed .done [{ port := 2, queue := 31 }]); { s with hif := s.hif }),
   9, flowed .done [{ port := 2, queue := 31 }], 31, by decide +kernel⟩,
   ⟨withSlot (chained (((rtr.put (ETH_CTL_EN 1) 1).put (ETH_CTL_TX_EN 1) 1).put (ETH_STAT_LINK 1) 1)) (flowed .done [{ port := 1 }]),
   9, 2, flowed .done [{ port := 1 }], 1, { port := 1 }, by decide +kernel⟩,
   ⟨withSlot (chained rtr) (flowed .done [{ port := 3, dst := 8 }]), 9, flowed .done [{ port := 3, dst := 8 }],
   { port := 3, dst := 8 }, by decide +kernel⟩,
   ⟨rtr, 9, by decide +kernel⟩⟩

theorem witness_EthernetReceive :
    (∃ (s : State) (p : Fin 2), (s.clockOn = false ∨ s.flag (ETH_CTL_EN p) = false ∨ s.flag (ETH_CTL_RX_EN p) = false ∨ s.flag (ETH_STAT_LINK p) = false)) ∧
    (∃ (s : State) (p : Fin 2) (data : List Byte), s.clockOn = true ∧ s.flag (ETH_CTL_EN p) = true ∧
    s.flag (ETH_CTL_RX_EN p) = true ∧ s.flag (ETH_STAT_LINK p) = true ∧ data.length < 64) ∧
    (∃ (s : State) (u : State) (p : Fin 2) (data : List Byte) (b : List Byte), s.clockOn = true ∧ s.flag (ETH_CTL_EN p) = true ∧
    s.flag (ETH_CTL_RX_EN p) = true ∧ s.flag (ETH_STAT_LINK p) = true ∧ 64 ≤ data.length ∧
    b = data.take (min data.length (s.ethMax p) - 4) ∧
    (atLeast1 ((s.rd (ETH_RX_QUOTA p)).toNat % 2 ^ 21) < s.rxHeld p + (b.length + 2047) / 2048 ∨ s.alloc (ownEth p) b.length b = (u, none))) ∧
    (∃ (s : State) (u : State) (p : Fin 2) (data : List Byte) (b : List Byte) (id : Nat), s.clockOn = true ∧
    s.flag (ETH_CTL_EN p) = true ∧ s.flag (ETH_CTL_RX_EN p) = true ∧ s.flag (ETH_STAT_LINK p) = true ∧ 64 ≤ data.length ∧
    b = data.take (min data.length (s.ethMax p) - 4) ∧
    s.rxHeld p + (b.length + 2047) / 2048 ≤ atLeast1 ((s.rd (ETH_RX_QUOTA p)).toNat % 2 ^ 21) ∧
    s.alloc (ownEth p) b.length b = (u, some id) ∧ s.ethMax p < data.length) ∧
    (∃ (s : State) (u : State) (p : Fin 2) (data : List Byte) (b : List Byte) (good : Bool) (id : Nat), s.clockOn = true ∧
    s.flag (ETH_CTL_EN p) = true ∧ s.flag (ETH_CTL_RX_EN p) = true ∧ s.flag (ETH_STAT_LINK p) = true ∧ 64 ≤ data.length ∧
    b = data.take (min data.length (s.ethMax p) - 4) ∧
    s.rxHeld p + (b.length + 2047) / 2048 ≤ atLeast1 ((s.rd (ETH_RX_QUOTA p)).toNat % 2 ^ 21) ∧
    s.alloc (ownEth p) b.length b = (u, some id) ∧ data.length ≤ s.ethMax p ∧ good = false) ∧
    (∃ (s : State) (u : State) (p : Fin 2) (data : List Byte) (b : List Byte) (good : Bool) (id : Nat) (n : _), s.clockOn = true ∧
    s.flag (ETH_CTL_EN p) = true ∧ s.flag (ETH_CTL_RX_EN p) = true ∧ s.flag (ETH_STAT_LINK p) = true ∧ 64 ≤ data.length ∧
    b = data.take (min data.length (s.ethMax p) - 4) ∧
    s.rxHeld p + (b.length + 2047) / 2048 ≤ atLeast1 ((s.rd (ETH_RX_QUOTA p)).toNat % 2 ^ 21) ∧
    s.alloc (ownEth p) b.length b = (u, some id) ∧ data.length ≤ s.ethMax p ∧ good = true ∧ s.flag (ETH_CTL_PAUSE_RX p) = true ∧
    pauseTime b = some n) ∧
    (∃ (s : State) (u : State) (p : Fin 2) (data : List Byte) (b : List Byte) (good : Bool) (id : Nat), s.clockOn = true ∧
    s.flag (ETH_CTL_EN p) = true ∧ s.flag (ETH_CTL_RX_EN p) = true ∧ s.flag (ETH_STAT_LINK p) = true ∧ 64 ≤ data.length ∧
    b = data.take (min data.length (s.ethMax p) - 4) ∧
    s.rxHeld p + (b.length + 2047) / 2048 ≤ atLeast1 ((s.rd (ETH_RX_QUOTA p)).toNat % 2 ^ 21) ∧
    s.alloc (ownEth p) b.length b = (u, some id) ∧ data.length ≤ s.ethMax p ∧ good = true ∧
    (s.flag (ETH_CTL_PAUSE_RX p) = false ∨ pauseTime b = none) ∧ (s.port p).ingress.length < 256) ∧
    (∃ (s : State) (u : State) (p : Fin 2) (data : List Byte) (b : List Byte) (good : Bool) (id : Nat), s.clockOn = true ∧
    s.flag (ETH_CTL_EN p) = true ∧ s.flag (ETH_CTL_RX_EN p) = true ∧ s.flag (ETH_STAT_LINK p) = true ∧ 64 ≤ data.length ∧
    b = data.take (min data.length (s.ethMax p) - 4) ∧
    s.rxHeld p + (b.length + 2047) / 2048 ≤ atLeast1 ((s.rd (ETH_RX_QUOTA p)).toNat % 2 ^ 21) ∧
    s.alloc (ownEth p) b.length b = (u, some id) ∧ data.length ≤ s.ethMax p ∧ good = true ∧
    (s.flag (ETH_CTL_PAUSE_RX p) = false ∨ pauseTime b = none) ∧ 256 ≤ (s.port p).ingress.length) ∧
    (∃ (s : State) (p : Fin 2) (n : Nat), (s.port p).pauseEnd = some n) ∧
    (∃ (s : State) (p : Fin 2), (s.port p).pauseEnd = none) :=
  ⟨⟨up, 1, by decide +kernel⟩,
   ⟨ethUp, 1, List.replicate 63 7, by decide +kernel⟩,
   ⟨(ethUp.put (ETH_MAXLEN_MAX 1) 9600).wr (ETH_RX_QUOTA 1) 1, ethUp, 1, List.replicate 2053 7, List.replicate 2049 7,
   by decide +kernel⟩,
   ⟨(ethUp.put (ETH_MAXLEN_MAX 1) 64).wr (ETH_RX_QUOTA 1) 1,
   (((ethUp.put (ETH_MAXLEN_MAX 1) 64).wr (ETH_RX_QUOTA 1) 1).alloc (ownEth 1) 60 (List.replicate 60 7)).1, 1,
   List.replicate 65 7, List.replicate 60 7, 0, by decide +kernel, by decide +kernel, by decide +kernel, by decide +kernel,
   by decide +kernel, by decide +kernel, by decide +kernel, Prod.ext rfl (by decide +kernel), by decide +kernel⟩,
   ⟨(ethUp.wr (ETH_RX_QUOTA 1) 1), ((ethUp.wr (ETH_RX_QUOTA 1) 1).alloc (ownEth 1) 60 (List.replicate 60 7)).1, 1,
   List.replicate 64 7, List.replicate 60 7, false, 0, by decide +kernel, by decide +kernel, by decide +kernel,
   by decide +kernel, by decide +kernel, by decide +kernel, by decide +kernel, Prod.ext rfl (by decide +kernel),
   by decide +kernel⟩,
   ⟨(ethUp.wr (ETH_RX_QUOTA 1) 1).put (ETH_CTL_PAUSE_RX 1) 1,
   (((ethUp.wr (ETH_RX_QUOTA 1) 1).put (ETH_CTL_PAUSE_RX 1) 1).alloc (ownEth 1) 64 (pausing.take 64)).1, 1, pausing,
   pausing.take 64, true, 0, 9, by decide +kernel, by decide +kernel, by decide +kernel, by decide +kernel, by decide +kernel,
   by decide +kernel, by decide +kernel, Prod.ext rfl (by decide +kernel), by decide +kernel⟩,
   ⟨(ethUp.wr (ETH_RX_QUOTA 1) 1), ((ethUp.wr (ETH_RX_QUOTA 1) 1).alloc (ownEth 1) 60 (List.replicate 60 7)).1, 1,
   List.replicate 64 7, List.replicate 60 7, true, 0, by decide +kernel, by decide +kernel, by decide +kernel,
   by decide +kernel, by decide +kernel, by decide +kernel, by decide +kernel, Prod.ext rfl (by decide +kernel),
   by decide +kernel⟩,
   ⟨full256 (ethUp.wr (ETH_RX_QUOTA 1) 1),
   ((full256 (ethUp.wr (ETH_RX_QUOTA 1) 1)).alloc (ownEth 1) 60 (List.replicate 60 7)).1, 1, List.replicate 64 7,
   List.replicate 60 7, true, 0, by decide +kernel, by decide +kernel, by decide +kernel, by decide +kernel, by decide +kernel,
   by decide +kernel, by decide +kernel, Prod.ext rfl (by decide +kernel), by decide +kernel⟩,
   ⟨ethUp.setPort 1 { pauseEnd := some 700 }, 1, 700, by decide +kernel⟩,
   ⟨ethUp, 1, by decide +kernel⟩⟩

theorem witness_EthernetTransmit :
    (∃ (s : State) (p : Fin 2), (s.clockOn = false ∨ s.ethLive p = false ∨ s.flag (ETH_STAT_LPI_TX p) = true ∨ (∃ n, (s.port p).pauseEnd = some n ∧ s.ref < n) ∨ (s.port p).pop = none ∨ ∃ f e, (s.port p).pop = some (f, e) ∧ f.unsealed = true)) ∧
    (∃ (s : State) (p : Fin 2), (s.clockOn = false ∨ s.ethLive p = false ∨ s.flag (ETH_STAT_LPI_TX p) = true ∨ (∃ n, (s.port p).pauseEnd = some n ∧ s.ref < n) ∨ (s.port p).pop = none ∨ ∃ f e, (s.port p).pop = some (f, e) ∧ f.unsealed = true)) ∧
    (∃ (s : State) (p : Fin 2) (f : EthTx) (e : EthPort), s.clockOn = true ∧ s.ethLive p = true ∧
    s.flag (ETH_STAT_LPI_TX p) = false ∧ (s.port p).pauseEnd = none ∧ (s.port p).pop = some (f, e) ∧ f.unsealed = false ∧
    f.txw = 0 ∧ f.host = none ∧ f.sync = false) ∧
    (∃ (s : State) (p : Fin 2) (f : EthTx) (e : EthPort), s.clockOn = true ∧ s.ethLive p = true ∧
    s.flag (ETH_STAT_LPI_TX p) = false ∧ (s.port p).pauseEnd = none ∧ (s.port p).pop = some (f, e) ∧ f.unsealed = false ∧
    f.txw = 16 ∧ f.host = none ∧ f.sync = true ∧ 60 ≤ f.bytes.length) ∧
    (∃ (s : State) (p : Fin 2) (f : EthTx) (e : EthPort) (after : BitVec 14) (b : List Byte), s.clockOn = true ∧
    s.ethLive p = true ∧ s.flag (ETH_STAT_LPI_TX p) = false ∧ (s.port p).pauseEnd = none ∧ (s.port p).pop = some (f, e) ∧
    f.unsealed = false ∧ f.txw = 0 ∧ f.host = none ∧ f.sync = false ∧
    b = f.bytes ++ List.replicate (60 - f.wire f.bytes.length) 0 ∧ s.ethThr p < s.ethMax p ∧ s.ethThr p ≤ after.toNat ∧
    after.toNat < b.length) ∧
    (∃ (s : State) (p : Fin 2) (f : EthTx) (e : EthPort) (after : BitVec 14) (b : List Byte), s.clockOn = true ∧
    s.ethLive p = true ∧ s.flag (ETH_STAT_LPI_TX p) = false ∧ (s.port p).pauseEnd = none ∧ (s.port p).pop = some (f, e) ∧
    f.unsealed = false ∧ f.txw = 0 ∧ f.host = none ∧ f.sync = false ∧
    b = f.bytes ++ List.replicate (60 - f.wire f.bytes.length) 0 ∧ s.ethThr p < s.ethMax p ∧ s.ethThr p ≤ after.toNat ∧
    after.toNat < b.length) ∧
    (∃ (s : State) (p : Fin 2), s.awake = true ∧ s.flag (ETH_STAT_LINK p) = true ∧ s.flag (ETH_CTL_EN p) = true ∧
    s.flag (ETH_CTL_LPI_EN p) = true ∧ s.flag (ETH_STAT_LPI_TX p) = false ∧ (s.port p).pop = none ∧ (s.port p).pauseEnd = none) ∧
    (∃ (s : State) (p : Fin 2), (s.awake = false ∨ s.flag (ETH_STAT_LINK p) = false ∨ s.flag (ETH_CTL_EN p) = false ∨ s.flag (ETH_CTL_LPI_EN p) = false ∨ (s.port p).pop ≠ none)) ∧
    (∃ (s : State) (p : Fin 2), (s.awake = false ∨ s.flag (ETH_STAT_LINK p) = false ∨ s.flag (ETH_CTL_EN p) = false ∨ s.flag (ETH_CTL_LPI_EN p) = false ∨ (s.port p).pop ≠ none)) ∧
    (∃ (s : State) (p : Fin 2), s.flag (ETH_STAT_LPI_TX p) = true ∧ (s.port p).pop ≠ none) ∧
    (∃ (s : State) (p : Fin 2), (s.flag (ETH_STAT_LPI_TX p) = false ∨ (s.port p).pop = none)) ∧
    (∃ (s : State) (p : Fin 2), (s.flag (ETH_STAT_LPI_TX p) = false ∨ (s.port p).pop = none)) :=
  ⟨⟨up, 1, .inr (.inl (by decide +kernel))⟩,
   ⟨queued (ethUp.put (ETH_STAT_LPI_TX 1) 1), 1, .inr (.inr (.inl (by decide +kernel)))⟩,
   ⟨queued ethUp, 1, { tx0 with chain := some 5, bytes := List.replicate 46 1 }, { ethUp.port 1 with txq := [tx0] },
   by decide +kernel⟩,
   ⟨synced ethUp, 1, syncTx, {}, by decide +kernel⟩,
   ⟨(longq ((ethUp.put (ETH_MAXLEN_MAX 1) 1518).put (ETH_TX_THR_THR 1) 64)).put (ETH_TX_THR_AUTO 1) 1, 1, tx0, {}, 64,
   List.replicate 80 9, by decide +kernel⟩,
   ⟨(longq (ethUp.put (ETH_MAXLEN_MAX 1) 9600)).put (ETH_TX_THR_THR 1) 79, 1, tx0, {}, 79, List.replicate 80 9,
   by decide +kernel⟩,
   ⟨ethUp.put (ETH_CTL_LPI_EN 1) 1, 1, by decide +kernel⟩,
   ⟨up, 1, by decide +kernel⟩,
   ⟨queued (ethUp.put (ETH_CTL_LPI_EN 1) 1), 1, by decide +kernel⟩,
   ⟨queued ((ethUp.put (ETH_CTL_LPI_EN 1) 1).put (ETH_STAT_LPI_TX 1) 1), 1, by decide +kernel⟩,
   ⟨queued ethUp, 1, by decide +kernel⟩,
   ⟨ethUp.put (ETH_STAT_LPI_TX 1) 1, 1, by decide +kernel⟩⟩

theorem witness_EthernetControl :
    (∃ (s : State) (p : Fin 2), s.flag (ETH_STAT_LINK p) = false) ∧
    (∃ (s : State) (p : Fin 2), s.flag (ETH_STAT_LINK p) = false) ∧
    (∃ (s : State) (p : Fin 2), s.flag (ETH_STAT_LINK p) = true) ∧
    (∃ (s : State) (p : Fin 2), s.flag (ETH_STAT_LINK p) = true) ∧
    (∃ (s : State) (p : Fin 2) (v : Word), s.reach none (ETH_CFG p) = .made ∧ s.flag (ETH_CTL_EN p) = false ∧ v.toNat % 8 < 6 ∧
    (v.toNat % 8 = 5 → p = 0) ∧ (v.getLsbD 4 = true ∨ modeHasRate (v.toNat % 8) (v.toNat / 256 % 8) = true)) ∧
    (∃ (s : State) (p : Fin 2) (v : Word), s.reach none (ETH_CFG p) = .made ∧ s.flag (ETH_CTL_EN p) = false ∧ v.toNat % 8 < 6 ∧
    (v.toNat % 8 = 5 → p = 0) ∧ (v.getLsbD 4 = true ∨ modeHasRate (v.toNat % 8) (v.toNat / 256 % 8) = true)) ∧
    (∃ (s : State) (p : Fin 2) (v : Word), s.reach none (ETH_CFG p) = .made ∧ s.flag (ETH_CTL_EN p) = false ∧ v.toNat % 8 < 6 ∧
    (v.toNat % 8 = 5 → p = 0) ∧ (v.getLsbD 4 = true ∨ modeHasRate (v.toNat % 8) (v.toNat / 256 % 8) = true)) ∧
    (∃ (s : State) (p : Fin 2) (v : Word), s.reach none (ETH_CFG p) = .made ∧
    (s.flag (ETH_CTL_EN p) = true ∨ 6 ≤ v.toNat % 8 ∨ v.toNat % 8 = 5 ∧ p = 1)) ∧
    (∃ (s : State) (p : Fin 2) (v : Word), s.reach none (ETH_CFG p) = .made ∧
    (s.flag (ETH_CTL_EN p) = true ∨ 6 ≤ v.toNat % 8 ∨ v.toNat % 8 = 5 ∧ p = 1)) ∧
    (∃ (s : State) (p : Fin 2) (v : Word), s.reach none (ETH_CFG p) = .made ∧
    (s.flag (ETH_CTL_EN p) = true ∨ 6 ≤ v.toNat % 8 ∨ v.toNat % 8 = 5 ∧ p = 1)) ∧
    (∃ (s : State) (p : Fin 2), s.reach none (ETH_CTL p) = .made) ∧
    (∃ (s : State) (p : Fin 2), s.reach none (ETH_CTL p) = .made) ∧
    (∃ (s : State) (p : Fin 2), s.reach none (ETH_SNAP_CMD p) = .made) :=
  ⟨⟨up, 1, by decide +kernel⟩,
   ⟨(up.put (ETH_CFG_MODE 0) 5).put (ETH_CFG_AN_EN 0) 1, 0, by decide +kernel⟩,
   ⟨queued (full256 ethUp), 1, by decide +kernel⟩,
   ⟨queued (full256 ethUp), 1, by decide +kernel⟩,
   ⟨up, 0, 0x15, by decide +kernel⟩,
   ⟨up, 1, 0x214, by decide +kernel⟩,
   ⟨up, 1, 0x010, by decide +kernel⟩,
   ⟨up, 1, 0x15, by decide +kernel⟩,
   ⟨up, 1, 0x16, by decide +kernel⟩,
   ⟨ethUp, 1, 0x214, by decide +kernel⟩,
   ⟨queued ethUp, 1, by decide +kernel⟩,
   ⟨queued ethUp, 1, by decide +kernel⟩,
   ⟨ethUp.wr (ETH_CNT_RX_OK 1) 7, 1, by decide +kernel⟩⟩

theorem witness_BuffersAndBooks :
    (∃ (s : State) (own : BitVec 4) (len : BitVec 24), s.clockOn = true ∧ own.toNat ≤ 11 ∧ 1 ≤ len.toNat ∧ len.toNat ≤ 2048 ∧
    (s.rd CHK_TIER).getLsbD own.toNat = true ∧ 0 < (s.rd CHK_FREE_ODIE).toNat ∧ s.chk.chains = []) ∧
    (∃ (s : State) (own : BitVec 4) (len : BitVec 24), s.clockOn = true ∧ own.toNat ≤ 11 ∧ 1 ≤ len.toNat ∧ len.toNat ≤ 2048 ∧
    (s.rd CHK_TIER).getLsbD own.toNat = true ∧ 0 < (s.rd CHK_FREE_ODIE).toNat ∧ s.chk.chains = []) ∧
    (∃ (s : State) (own : BitVec 4) (len : BitVec 24), s.clockOn = true ∧ own.toNat ≤ 11 ∧ 1 ≤ len.toNat ∧ len.toNat ≤ 2048 ∧
    (s.rd CHK_TIER).getLsbD own.toNat = false ∧ (own.toNat ≤ 2 → (s.rd CHK_RSV).toNat < (s.rd CHK_FREE_DRAM).toNat) ∧
    0 < (s.rd CHK_FREE_DRAM).toNat ∧ (s.rd CHK_DRAM_CNT).toNat ≤ 2 ^ 20 ∧ s.chk.chains = []) ∧
    (∃ (s : State) (own : BitVec 4) (len : BitVec 24), s.clockOn = true ∧ own.toNat ≤ 11 ∧ 1 ≤ len.toNat ∧ len.toNat ≤ 2048 ∧
    (s.rd CHK_TIER).getLsbD own.toNat = false ∧ (own.toNat ≤ 2 → (s.rd CHK_RSV).toNat < (s.rd CHK_FREE_DRAM).toNat) ∧
    0 < (s.rd CHK_FREE_DRAM).toNat ∧ (s.rd CHK_DRAM_CNT).toNat ≤ 2 ^ 20 ∧ s.chk.chains = []) ∧
    (∃ (s : State) (own : BitVec 4) (len : BitVec 24), s.clockOn = true ∧ own.toNat ≤ 11 ∧ 1 ≤ len.toNat ∧ len.toNat ≤ 2048 ∧
    s.chain? s.chk.nextId = none ∧ ((s.rd CHK_TIER).getLsbD own.toNat = false ∨ s.rd CHK_FREE_ODIE = 0) ∧
    (own.toNat ≤ 2 ∧ (s.rd CHK_FREE_DRAM).toNat ≤ (s.rd CHK_RSV).toNat ∨ s.rd CHK_FREE_DRAM = 0)) ∧
    (∃ (s : State) (own : BitVec 4) (len : BitVec 24), s.clockOn = true ∧ own.toNat ≤ 11 ∧ 1 ≤ len.toNat ∧ len.toNat ≤ 2048 ∧
    s.chain? s.chk.nextId = none ∧ ((s.rd CHK_TIER).getLsbD own.toNat = false ∨ s.rd CHK_FREE_ODIE = 0) ∧
    (own.toNat ≤ 2 ∧ (s.rd CHK_FREE_DRAM).toNat ≤ (s.rd CHK_RSV).toNat ∨ s.rd CHK_FREE_DRAM = 0)) ∧
    (∃ (s : State) (own : BitVec 4) (h : BitVec 24) (c : Chain), s.clockOn = true ∧ s.badHandle h.toNat = false ∧
    s.chainOf h.toNat = some c ∧ s.chain? c.id = some c ∧ own.toNat ∈ c.owners ∧ 2 ≤ c.owners.length) ∧
    (∃ (s : State) (own : BitVec 4) (h : BitVec 24) (c : Chain), s.clockOn = true ∧ s.badHandle h.toNat = false ∧
    s.chainOf h.toNat = some c ∧ s.chain? c.id = some c ∧ own.toNat ∈ c.owners ∧ c.owners.length = 1) ∧
    (∃ (s : State) (h : BitVec 24), s.clockOn = true ∧ (s.badHandle h.toNat = true ∨ s.chainOf h.toNat = none)) ∧
    (∃ (s : State) (h : BitVec 24), s.clockOn = true ∧ (s.badHandle h.toNat = true ∨ s.chainOf h.toNat = none)) ∧
    (∃ (s : State) (h : BitVec 24) (c : Chain), s.clockOn = true ∧ s.badHandle h.toNat = false ∧ s.chainOf h.toNat = some c ∧
    s.chain? c.id = some c ∧ c.owners.length < 4) ∧
    (∃ (s : State) (h : BitVec 24) (c : Chain), s.clockOn = true ∧ s.badHandle h.toNat = false ∧ s.chainOf h.toNat = some c ∧
    s.chain? c.id = some c ∧ 4 ≤ c.owners.length) ∧
    (∃ (s : State), s.reach none CHK_BOOK_CMD = .made) :=
  ⟨⟨up.wr CHK_TIER 0x800, 11, 2048, by decide +kernel⟩,
   ⟨up.wr CHK_TIER 1, 0, 1, by decide +kernel⟩,
   ⟨((up.wr CHK_TIER 0xFFE).wr CHK_FREE_DRAM 0x1001).wr CHK_RSV 0x1000 |> (·.wr CHK_DRAM_CNT 0x100000), 0, 2048,
   by decide +kernel⟩,
   ⟨((up.wr CHK_TIER 0).wr CHK_FREE_DRAM 1).wr CHK_DRAM_CNT 1, 11, 1, by decide +kernel⟩,
   ⟨((up.wr CHK_TIER 0).wr CHK_FREE_DRAM 5).wr CHK_RSV 5, 2, 2048, by decide +kernel⟩,
   ⟨((up.wr CHK_TIER 0xFFF).wr CHK_FREE_ODIE 0).wr CHK_FREE_DRAM 0, 11, 1, by decide +kernel⟩,
   ⟨owned [3, 5], 5, 4, ⟨0, [1 + 2 ^ 22, 4], 4000, [], [3, 5]⟩, by decide +kernel⟩,
   ⟨owned [5], 5, 4, ⟨0, [1 + 2 ^ 22, 4], 4000, [], [5]⟩, by decide +kernel⟩,
   ⟨owned [5], 2 ^ 23 + 2048, by decide +kernel⟩,
   ⟨owned [5], 3, by decide +kernel⟩,
   ⟨owned [3, 5, 7], 4, ⟨0, [1 + 2 ^ 22, 4], 4000, [], [3, 5, 7]⟩, by decide +kernel⟩,
   ⟨owned [3, 5, 7, 7], 4, ⟨0, [1 + 2 ^ 22, 4], 4000, [], [3, 5, 7, 7]⟩, by decide +kernel⟩,
   ⟨owned [3, 5], by decide +kernel⟩⟩

theorem witness_TasksAndTimers :
    (∃ (s : State) (cls : BitVec 5), s.reach none TSK_POST_CMD = .made ∧ s.canQueue srcHost cls.toNat = true) ∧
    (∃ (s : State) (cls : BitVec 5), s.reach none TSK_POST_CMD = .made ∧ s.canQueue srcHost cls.toNat = false) ∧
    (∃ (s : State) (cls : BitVec 5), s.reach none TSK_POST_CMD = .made ∧ s.canQueue srcHost cls.toNat = false) ∧
    (∃ (s : State) (e : TaskEvent) (l : List TaskEvent), s.clockOn = true ∧ s.tsk.evq = e :: l ∧ s.canQueue srcEvt e.cls = true) ∧
    (∃ (s : State) (e : TaskEvent) (l : List TaskEvent), s.clockOn = true ∧ s.tsk.evq = e :: l ∧
    s.canQueue srcEvt e.cls = false ∧ e.waited = false) ∧
    (∃ (s : State) (e : TaskEvent) (l : List TaskEvent), s.clockOn = true ∧ s.tsk.evq = e :: l ∧
    s.canQueue srcEvt e.cls = false ∧ e.waited = true) ∧
    (∃ (s : State), s.tsk.evq = []) ∧
    (∃ (s : State) (n : BitVec 8) (c : Nat) (a : DWord) (w : Bool), s.clockOn = true ∧
    (s.timer n.toNat).fired = some (c, a, w) ∧ s.canQueue srcTmr c = true) ∧
    (∃ (s : State) (n : BitVec 8) (c : Nat) (a : DWord) (w : Bool), s.clockOn = true ∧
    (s.timer n.toNat).fired = some (c, a, w) ∧ s.canQueue srcTmr c = false ∧ w = false) ∧
    (∃ (s : State) (n : BitVec 8) (c : Nat) (a : DWord) (w : Bool), s.clockOn = true ∧
    (s.timer n.toNat).fired = some (c, a, w) ∧ s.canQueue srcTmr c = false ∧ w = true) ∧
    (∃ (s : State) (n : BitVec 8), (s.timer n.toNat).fired = none) ∧
    (∃ (s : State) (n : BitVec 8) (at_ : Nat) (x : Timer), s.clockOn = true ∧ s.timer n.toNat = x ∧ x.at_ = some at_ ∧
    x.fired = none ∧ s.canQueue srcTmr x.cls = true) ∧
    (∃ (s : State) (n : BitVec 8) (at_ : Nat) (x : Timer), s.clockOn = true ∧ s.timer n.toNat = x ∧ x.at_ = some at_ ∧
    x.fired ≠ none) ∧
    (∃ (s : State) (n : BitVec 8), (s.timer n.toNat).at_ = none) ∧
    (∃ (s : State) (k : Task) (e : Nat), s.clockOn = true ∧ s.flag TSK_CTL_EN = true ∧ s.get PWR_STAT_STATE = 0 ∧
    s.nextTask = some (k, e)) ∧
    (∃ (s : State) (k : Task) (e : Nat), s.clockOn = true ∧ s.flag TSK_CTL_EN = true ∧ s.get PWR_STAT_STATE = 0 ∧
    s.nextTask = some (k, e)) ∧
    (∃ (s : State), (s.flag TSK_CTL_EN = false ∨ s.get PWR_STAT_STATE ≠ 0 ∨ s.nextTask = none)) ∧
    (∃ (s : State), (s.flag TSK_CTL_EN = false ∨ s.get PWR_STAT_STATE ≠ 0 ∨ s.nextTask = none)) :=
  ⟨⟨gge.wr TSK_POST_ARG0_LO 9, 31, by decide +kernel⟩,
   ⟨gge, 30, by decide +kernel⟩,
   ⟨noQuota gge, 31, by decide +kernel⟩,
   ⟨evq gge ev0, ev0, [], by decide +kernel⟩,
   ⟨evq (noQuota gge) ev0, ev0, [], by decide +kernel⟩,
   ⟨evq (noQuota gge) { ev0 with waited := true }, { ev0 with waited := true }, [], by decide +kernel⟩,
   ⟨gge, by decide +kernel⟩,
   ⟨gge.setTimer 255 { fired := some (31, 7, true) }, 255, 31, 7, true, by decide +kernel⟩,
   ⟨(noQuota gge).setTimer 255 { fired := some (31, 7, false) }, 255, 31, 7, false, by decide +kernel⟩,
   ⟨(noQuota gge).setTimer 255 { fired := some (31, 7, true) }, 255, 31, 7, true, by decide +kernel⟩,
   ⟨gge, 255, by decide +kernel⟩,
   ⟨gge.setTimer 255 { at_ := some 500, cls := 31, arg0 := 4 }, 255, 500, { at_ := some 500, cls := 31, arg0 := 4 },
   by decide +kernel⟩,
   ⟨gge.setTimer 255 { at_ := some 500, cls := 31, fired := some (31, 7, true) }, 255, 500,
   { at_ := some 500, cls := 31, fired := some (31, 7, true) }, by decide +kernel⟩,
   ⟨gge, 255, by decide +kernel⟩,
   ⟨(let s := gge.put TSK_CTL_EN 1; { s with tsk := { s.tsk with tasks := [{ k0 with st := .ready }] } }),
   { k0 with st := .ready }, 14, by decide +kernel⟩,
   ⟨(let s := (routed .redisp).setThread 63 none; let s := s.put TSK_CTL_EN 1; { s with tsk := { s.tsk with tasks := [{ k0 with st := .redisp 14, slot := some 5 }] } }),
   { k0 with st := .redisp 14, slot := some 5 }, 15, by decide +kernel⟩,
   ⟨gge, by decide +kernel⟩,
   ⟨gge.put TSK_CTL_EN 1, by decide +kernel⟩⟩

theorem witness_EnginesAndFaults :
    (∃ (s : State) (e : Fin 16) (n : Fin 4), s.thread (4 * e.val + n.val) = none) ∧
    (∃ (s : State) (e : Fin 16) (n : Fin 4), s.thread (4 * e.val + n.val) = none) ∧
    (∃ (s : State) (e : Fin 16) (n : Fin 4), s.clockOn = true ∧ s.thread (4 * e.val + n.val) ≠ none) ∧
    (∃ (s : State) (e : Fin 16) (n : Fin 4) (code : BitVec 3) (x : Thread) (k : Task), s.clockOn = true ∧
    s.thread (4 * e.val + n.val) = some x ∧ 2 ≤ code.toNat ∧ s.taskOf x.desc = some k ∧ k.attempt = 0 ∧
    (s.onlineOf k.cls).any (fun j => j != e.val) = true ∧ (k.slot = none ∨ ∃ q, k.slot = some q ∧ s.liveSlot q = true)) ∧
    (∃ (s : State) (e : Fin 16) (n : Fin 4) (code : BitVec 3) (x : Thread) (k : Task), s.clockOn = true ∧
    s.thread (4 * e.val + n.val) = some x ∧ 2 ≤ code.toNat ∧ s.taskOf x.desc = some k ∧ k.attempt = 0 ∧
    (s.onlineOf k.cls).any (fun j => j != e.val) = true ∧ (k.slot = none ∨ ∃ q, k.slot = some q ∧ s.liveSlot q = true)) ∧
    (∃ (s : State) (e : Fin 16) (n : Fin 4) (code : BitVec 3) (x : Thread) (k : Task), s.clockOn = true ∧
    s.thread (4 * e.val + n.val) = some x ∧ 2 ≤ code.toNat ∧ s.taskOf x.desc = some k ∧
    (k.attempt ≠ 0 ∨ (s.onlineOf k.cls).any (fun j => j != e.val) = false) ∧ k.slot = none) ∧
    (∃ (s : State) (e : Fin 16) (n : Fin 4) (code : BitVec 3) (x : Thread) (k : Task), s.clockOn = true ∧
    s.thread (4 * e.val + n.val) = some x ∧ 2 ≤ code.toNat ∧ s.taskOf x.desc = some k ∧
    (k.attempt ≠ 0 ∨ (s.onlineOf k.cls).any (fun j => j != e.val) = false) ∧ k.slot = none) ∧
    (∃ (s : State) (e : Fin 16) (n : Fin 4) (code : BitVec 3) (x : Thread) (k : Task) (q : _), s.clockOn = true ∧
    s.thread (4 * e.val + n.val) = some x ∧ 2 ≤ code.toNat ∧ s.taskOf x.desc = some k ∧
    (k.attempt ≠ 0 ∨ (s.onlineOf k.cls).any (fun j => j != e.val) = false) ∧ k.slot = some q ∧ s.liveSlot q = true) ∧
    (∃ (s : State) (e : Fin 16) (n : Fin 4) (x : Thread), s.clockOn = true ∧ s.thread (4 * e.val + n.val) = some x) ∧
    (∃ (s : State) (e : Fin 16) (n : Fin 4) (x : Thread), s.clockOn = true ∧ s.thread (4 * e.val + n.val) = some x) ∧
    (∃ (s : State) (e : Fin 16) (n : Fin 4) (x : Thread), s.clockOn = true ∧ s.thread (4 * e.val + n.val) = some x) ∧
    (∃ (s : State) (e : Fin 16), s.reach none (GGE_CTL e) = .made) ∧
    (∃ (s : State) (e : Fin 16), s.reach none (GGE_CTL e) = .made) ∧
    (∃ (s : State) (e : Fin 16), s.reach none (GGE_CTL e) = .made) ∧
    (∃ (s : State) (e : Fin 16), s.reach none (GGE_CTL e) = .made ∧ s.get (GGE_STAT_STATE e) = 2) ∧
    (∃ (s : State) (e : Fin 16), s.clockOn = true ∧ s.get (GGE_STAT_STATE e) = 3) ∧
    (∃ (s : State) (e : Fin 16), s.clockOn = true ∧ s.get (GGE_STAT_STATE e) = 3) ∧
    (∃ (s : State) (e : Fin 16), s.get (GGE_STAT_STATE e) ≠ 3) ∧
    (∃ (s : State) (e : Fin 16), s.clockOn = true ∧ s.get (GGE_STAT_STATE e) = 1 ∧ s.busyThreads e = []) ∧
    (∃ (s : State) (e : Fin 16), (s.get (GGE_STAT_STATE e) ≠ 1 ∨ s.busyThreads e ≠ [])) ∧
    (∃ (s : State) (e : Fin 16), (s.get (GGE_STAT_STATE e) ≠ 1 ∨ s.busyThreads e ≠ [])) :=
  ⟨⟨gge, 15, 3, by decide +kernel⟩,
   ⟨gge, 0, 0, by decide +kernel⟩,
   ⟨running x0, 15, 3, by decide +kernel⟩,
   ⟨running x0, 15, 3, 7, x0, k0, by decide +kernel, by decide +kernel, by decide +kernel, by decide +kernel, by decide +kernel,
   by decide +kernel, .inl (by decide +kernel)⟩,
   ⟨routed .pending, 15, 3, 2, { x0 with pkt := some (List.replicate 20 8) }, { k0 with slot := some 5 }, by decide +kernel,
   by decide +kernel, by decide +kernel, by decide +kernel, by decide +kernel, by decide +kernel, .inr (by decide +kernel)⟩,
   ⟨(running x0).put (GGE_STAT_STATE 14) 1, 15, 3, 7, x0, k0, by decide +kernel⟩,
   ⟨withTask gge { k0 with attempt := 1 } x0, 15, 3, 7, x0, { k0 with attempt := 1 }, by decide +kernel⟩,
   ⟨(routed .pending).put (GGE_STAT_STATE 14) 1, 15, 3, 7, { x0 with pkt := some (List.replicate 20 8) },
   { k0 with slot := some 5 }, 5, by decide +kernel⟩,
   ⟨running x0, 15, 3, x0, by decide +kernel⟩,
   ⟨(running x0).put (GGE_CTL_AUTO_RELOAD 15) 1, 15, 3, x0, by decide +kernel⟩,
   ⟨(routed .pending).put (GGE_CTL_AUTO_RELOAD 15) 1, 15, 3, { x0 with pkt := some (List.replicate 20 8) }, by decide +kernel⟩,
   ⟨running x0, 15, by decide +kernel⟩,
   ⟨(running x0).put (GGE_STAT_STATE 15) 1, 15, by decide +kernel⟩,
   ⟨(gge.put (GGE_STAT_STATE 15) 2).put (GGE_STAT_STORE_OK 15) 1, 15, by decide +kernel⟩,
   ⟨gge.put (GGE_STAT_STATE 15) 2, 15, by decide +kernel⟩,
   ⟨(gge.put (GGE_STAT_STATE 15) 3).put (GGE_CTL_EN 15) 1, 15, by decide +kernel⟩,
   ⟨(gge.put (GGE_STAT_STATE 15) 3).put (GGE_CTL_EN 15) 1, 15, by decide +kernel⟩,
   ⟨gge, 15, by decide +kernel⟩,
   ⟨gge.put (GGE_STAT_STATE 15) 1, 15, by decide +kernel⟩,
   ⟨(running x0).put (GGE_STAT_STATE 15) 1, 15, by decide +kernel⟩,
   ⟨gge, 15, by decide +kernel⟩⟩

theorem witness_RegisterActions :
    (∃ (s : State) (e : Fin 16) (n : Fin 4) (w : ActWord) (x : Thread), s.issues (thr e n) 0x01 w x) ∧
    (∃ (s : State) (e : Fin 16) (n : Fin 4) (w : ActWord) (x : Thread), s.issues (thr e n) 0x01 w x) ∧
    (∃ (s : State) (e : Fin 16) (n : Fin 4) (w : ActWord) (x : Thread), s.issues (thr e n) 0x02 w x) ∧
    (∃ (s : State) (e : Fin 16) (n : Fin 4) (w : ActWord) (x : Thread), s.issues (thr e n) 0x02 w x) ∧
    (∃ (s : State) (e : Fin 16) (n : Fin 4) (w : ActWord) (x : Thread), s.issues (thr e n) 0x03 w x) ∧
    (∃ (s : State) (e : Fin 16) (n : Fin 4) (w : ActWord) (x : Thread), s.issues (thr e n) 0x03 w x) ∧
    (∃ (s : State) (e : Fin 16) (n : Fin 4) (w : ActWord) (x : Thread), s.issues (thr e n) 0x04 w x) ∧
    (∃ (s : State) (e : Fin 16) (n : Fin 4) (w : ActWord) (x : Thread), s.issues (thr e n) 0x04 w x) ∧
    (∃ (s : State) (e : Fin 16) (n : Fin 4) (w : ActWord) (x : Thread), s.issues (thr e n) 0x05 w x) ∧
    (∃ (s : State) (e : Fin 16) (n : Fin 4) (w : ActWord) (x : Thread), s.issues (thr e n) 0x05 w x) ∧
    (∃ (s : State) (e : Fin 16) (n : Fin 4) (w : ActWord) (x : Thread), s.issues (thr e n) 0x06 w x) ∧
    (∃ (s : State) (e : Fin 16) (n : Fin 4) (w : ActWord) (x : Thread), s.issues (thr e n) 0x06 w x) ∧
    (∃ (s : State) (e : Fin 16) (n : Fin 4) (w : ActWord) (x : Thread), s.issues (thr e n) 0x07 w x) ∧
    (∃ (s : State) (e : Fin 16) (n : Fin 4) (w : ActWord) (x : Thread), s.issues (thr e n) 0x07 w x) ∧
    (∃ (s : State) (e : Fin 16) (n : Fin 4) (w : ActWord) (x : Thread), s.issues (thr e n) 0x08 w x) ∧
    (∃ (s : State) (e : Fin 16) (n : Fin 4) (w : ActWord) (x : Thread), s.issues (thr e n) 0x08 w x) ∧
    (∃ (s : State) (e : Fin 16) (n : Fin 4) (w : ActWord) (x : Thread), s.issues (thr e n) 0x09 w x) ∧
    (∃ (s : State) (e : Fin 16) (n : Fin 4) (w : ActWord) (x : Thread), s.issues (thr e n) 0x09 w x) ∧
    (∃ (w : ActWord) (op : Nat), op < 256 ∧
    (opX op = none ∨ w.res ≠ 0 ∨ (∃ m, opX op = some m ∧ w.x.toNat ||| m ≠ m) ∨ (0x18 ≤ op ∧ op ≤ 0x1B ∧ 8 ≤ w.x.toNat) ∨ (op = 0x10 ∧ (w.x.toNat / 2 % 8 = 7 ∨ 2 ^ 13 ≤ w.imm.toNat)))) ∧
    (∃ (w : ActWord) (op : Nat), op < 256 ∧
    (opX op = none ∨ w.res ≠ 0 ∨ (∃ m, opX op = some m ∧ w.x.toNat ||| m ≠ m) ∨ (0x18 ≤ op ∧ op ≤ 0x1B ∧ 8 ≤ w.x.toNat) ∨ (op = 0x10 ∧ (w.x.toNat / 2 % 8 = 7 ∨ 2 ^ 13 ≤ w.imm.toNat)))) ∧
    (∃ (w : ActWord) (op : Nat), op < 256 ∧
    (opX op = none ∨ w.res ≠ 0 ∨ (∃ m, opX op = some m ∧ w.x.toNat ||| m ≠ m) ∨ (0x18 ≤ op ∧ op ≤ 0x1B ∧ 8 ≤ w.x.toNat) ∨ (op = 0x10 ∧ (w.x.toNat / 2 % 8 = 7 ∨ 2 ^ 13 ≤ w.imm.toNat)))) ∧
    (∃ (w : ActWord) (op : Nat), op < 256 ∧
    (opX op = none ∨ w.res ≠ 0 ∨ (∃ m, opX op = some m ∧ w.x.toNat ||| m ≠ m) ∨ (0x18 ≤ op ∧ op ≤ 0x1B ∧ 8 ≤ w.x.toNat) ∨ (op = 0x10 ∧ (w.x.toNat / 2 % 8 = 7 ∨ 2 ^ 13 ≤ w.imm.toNat)))) ∧
    (∃ (b : Blank) (r : List Byte) (pc : Nat), b.programs = r ∧ pc < r.length / 8) :=
  ⟨⟨putWord (running x0) (wd 0 1 2 0 0) 0x01, 15, 3, wd 0 1 2 0 0, x0, issues_of (by decide +kernel)⟩,
   ⟨putWord (running x0) (wd 15 1 2 1 0x80000000) 0x01, 15, 3, wd 15 1 2 1 0x80000000, x0, issues_of (by decide +kernel)⟩,
   ⟨putWord (running x0) (wd 0 1 2 0 0) 0x02, 15, 3, wd 0 1 2 0 0, x0, issues_of (by decide +kernel)⟩,
   ⟨putWord (running x0) (wd 15 1 2 1 0x80000000) 0x02, 15, 3, wd 15 1 2 1 0x80000000, x0, issues_of (by decide +kernel)⟩,
   ⟨putWord (running x0) (wd 0 1 2 0 0) 0x03, 15, 3, wd 0 1 2 0 0, x0, issues_of (by decide +kernel)⟩,
   ⟨putWord (running x0) (wd 15 1 2 1 0x80000000) 0x03, 15, 3, wd 15 1 2 1 0x80000000, x0, issues_of (by decide +kernel)⟩,
   ⟨putWord (running x0) (wd 0 1 2 0 0) 0x04, 15, 3, wd 0 1 2 0 0, x0, issues_of (by decide +kernel)⟩,
   ⟨putWord (running x0) (wd 15 1 2 1 0x80000000) 0x04, 15, 3, wd 15 1 2 1 0x80000000, x0, issues_of (by decide +kernel)⟩,
   ⟨putWord (running x0) (wd 0 1 2 0 0) 0x05, 15, 3, wd 0 1 2 0 0, x0, issues_of (by decide +kernel)⟩,
   ⟨putWord (running x0) (wd 15 1 2 1 0x80000000) 0x05, 15, 3, wd 15 1 2 1 0x80000000, x0, issues_of (by decide +kernel)⟩,
   ⟨putWord (running x0) (wd 0 1 2 0 0) 0x06, 15, 3, wd 0 1 2 0 0, x0, issues_of (by decide +kernel)⟩,
   ⟨putWord (running x0) (wd 15 1 2 1 0x80000000) 0x06, 15, 3, wd 15 1 2 1 0x80000000, x0, issues_of (by decide +kernel)⟩,
   ⟨putWord (running x0) (wd 0 1 2 0 0) 0x07, 15, 3, wd 0 1 2 0 0, x0, issues_of (by decide +kernel)⟩,
   ⟨putWord (running x0) (wd 15 1 2 1 0x80000000) 0x07, 15, 3, wd 15 1 2 1 0x80000000, x0, issues_of (by decide +kernel)⟩,
   ⟨putWord (running x0) (wd 0 1 2 0 0) 0x08, 15, 3, wd 0 1 2 0 0, x0, issues_of (by decide +kernel)⟩,
   ⟨putWord (running x0) (wd 15 1 2 1 0x80000000) 0x08, 15, 3, wd 15 1 2 1 0x80000000, x0, issues_of (by decide +kernel)⟩,
   ⟨putWord (running x0) (wd 0 1 2 0 0) 0x09, 15, 3, wd 0 1 2 0 0, x0, issues_of (by decide +kernel)⟩,
   ⟨putWord (running x0) (wd 15 1 2 0 0x80000000) 0x09, 15, 3, wd 15 1 2 0 0x80000000, x0, issues_of (by decide +kernel)⟩,
   ⟨wd 0 1 2 8 0, 0x18, by decide +kernel, .inr (.inr (.inr (.inl (by decide +kernel))))⟩,
   ⟨wd 0 1 2 0 0, 0xFF, by decide +kernel, .inl (by decide +kernel)⟩,
   ⟨wd 0 1 2 14 0, 0x10, by decide +kernel, .inr (.inr (.inr (.inr (by decide +kernel))))⟩,
   ⟨{ wd 0 1 2 0 0 with res := 1 }, 1, by decide +kernel, .inr (.inl (by decide +kernel))⟩,
   ⟨{ programs := List.replicate 24 5 }, List.replicate 24 5, 2, by decide +kernel⟩⟩

theorem witness_ControlAndMemoryActions :
    (∃ (s : State) (e : Fin 16) (n : Fin 4) (w : ActWord) (x : Thread) (c : Bool), s.issues (thr e n) 0x10 w x ∧
    brTaken (w.x.toNat / 2 % 8) (x.reg w.a) (x.reg w.b) = some c) ∧
    (∃ (s : State) (e : Fin 16) (n : Fin 4) (w : ActWord) (x : Thread) (c : Bool), s.issues (thr e n) 0x10 w x ∧
    brTaken (w.x.toNat / 2 % 8) (x.reg w.a) (x.reg w.b) = some c) ∧
    (∃ (s : State) (e : Fin 16) (n : Fin 4) (w : ActWord) (x : Thread), x.stack.length < 8 ∧ s.issues (thr e n) 0x11 w x) ∧
    (∃ (s : State) (e : Fin 16) (n : Fin 4) (w : ActWord) (x : Thread), 8 ≤ x.stack.length ∧ s.issues (thr e n) 0x11 w x) ∧
    (∃ (s : State) (e : Fin 16) (n : Fin 4) (w : ActWord) (x : Thread) (a : _) (l : _), x.stack = a :: l ∧
    s.issues (thr e n) 0x12 w x) ∧
    (∃ (s : State) (e : Fin 16) (n : Fin 4) (w : ActWord) (x : Thread), x.stack = [] ∧ s.issues (thr e n) 0x12 w x) ∧
    (∃ (s : State) (e : Fin 16) (n : Fin 4) (w : ActWord) (x : Thread), s.issues (thr e n) 0x3E w x) ∧
    (∃ (s : State) (e : Fin 16) (n : Fin 4) (w : ActWord) (x : Thread) (a : Nat), w.x.toNat < 8 ∧
    a = actAddr (x.reg w.a) (w.imm.toNat % 512) ∧ a + w.x.toNat + 1 ≤ 512 ∧ s.issues (thr e n) 0x18 w x) ∧
    (∃ (s : State) (e : Fin 16) (n : Fin 4) (w : ActWord) (x : Thread) (a : Nat), w.x.toNat < 8 ∧
    a = actAddr (x.reg w.a) (w.imm.toNat % 512) ∧ a + w.x.toNat + 1 ≤ 512 ∧ s.issues (thr e n) 0x19 w x) ∧
    (∃ (s : State) (e : Fin 16) (n : Fin 4) (w : ActWord) (x : Thread) (a : Nat), w.x.toNat < 8 ∧
    a = actAddr (x.reg w.a) (w.imm.toNat % 512) ∧ 512 < a + w.x.toNat + 1 ∧ s.issues (thr e n) 0x18 w x) ∧
    (∃ (s : State) (e : Fin 16) (n : Fin 4) (w : ActWord) (x : Thread) (a : Nat), w.x.toNat < 8 ∧
    a = actAddr (x.reg w.a) (w.imm.toNat % 512) ∧ 512 < a + w.x.toNat + 1 ∧ s.issues (thr e n) 0x19 w x) ∧
    (∃ (s : State) (e : Fin 16) (n : Fin 4) (w : ActWord) (x : Thread) (a : Nat) (b : List Byte), w.x.toNat < 8 ∧
    a = actAddr (x.reg w.a) (w.imm.toNat % 65536) ∧ x.pkt = some b ∧ a + w.x.toNat + 1 ≤ b.length ∧ s.issues (thr e n) 0x1A w x) ∧
    (∃ (s : State) (e : Fin 16) (n : Fin 4) (w : ActWord) (x : Thread) (a : Nat) (b : List Byte), w.x.toNat < 8 ∧
    a = actAddr (x.reg w.a) (w.imm.toNat % 65536) ∧ x.pkt = some b ∧ a + w.x.toNat + 1 ≤ b.length ∧ s.issues (thr e n) 0x1B w x) ∧
    (∃ (s : State) (e : Fin 16) (n : Fin 4) (w : ActWord) (x : Thread) (a : Nat) (b : List Byte), w.x.toNat < 8 ∧
    a = actAddr (x.reg w.a) (w.imm.toNat % 65536) ∧ x.pkt = some b ∧ b.length < a + w.x.toNat + 1 ∧ s.issues (thr e n) 0x1A w x) ∧
    (∃ (s : State) (e : Fin 16) (n : Fin 4) (w : ActWord) (x : Thread) (a : Nat) (b : List Byte), w.x.toNat < 8 ∧
    a = actAddr (x.reg w.a) (w.imm.toNat % 65536) ∧ x.pkt = some b ∧ b.length < a + w.x.toNat + 1 ∧ s.issues (thr e n) 0x1B w x) ∧
    (∃ (s : State) (e : Fin 16) (n : Fin 4) (w : ActWord) (x : Thread) (b : List Byte) (m : Int), s.issues (thr e n) 0x1C w x ∧
    x.pkt = some b ∧ m = w.imm.toInt ∧ m ≤ b.length ∧ w.x.getLsbD 0 = false ∧ x.head - m ≤ 64 ∧ x.tail ≤ 64) ∧
    (∃ (s : State) (e : Fin 16) (n : Fin 4) (w : ActWord) (x : Thread) (b : List Byte) (m : Int), s.issues (thr e n) 0x1C w x ∧
    x.pkt = some b ∧ m = w.imm.toInt ∧ m ≤ b.length ∧ w.x.getLsbD 0 = false ∧ x.head - m ≤ 64 ∧ x.tail ≤ 64) ∧
    (∃ (s : State) (e : Fin 16) (n : Fin 4) (w : ActWord) (x : Thread) (b : List Byte) (m : Int), s.issues (thr e n) 0x1C w x ∧
    x.pkt = some b ∧ m = w.imm.toInt ∧ m ≤ b.length ∧ w.x.getLsbD 0 = true ∧ x.tail - m ≤ 64 ∧ x.head ≤ 64) ∧
    (∃ (s : State) (e : Fin 16) (n : Fin 4) (w : ActWord) (x : Thread) (b : List Byte) (m : Int), s.issues (thr e n) 0x1C w x ∧
    x.pkt = some b ∧ m = w.imm.toInt ∧ m ≤ b.length ∧ w.x.getLsbD 0 = true ∧ x.tail - m ≤ 64 ∧ x.head ≤ 64) ∧
    (∃ (s : State) (e : Fin 16) (n : Fin 4) (w : ActWord) (x : Thread), s.issues (thr e n) 0x35 w x) ∧
    (∃ (s : State) (e : Fin 16) (n : Fin 4) (w : ActWord) (x : Thread), s.issues (thr e n) 0x35 w x) ∧
    (∃ (s : State) (e : Fin 16) (n : Fin 4) (w : ActWord) (x : Thread), s.issues (thr e n) 0x35 w x) ∧
    (∃ (s : State) (e : Fin 16) (n : Fin 4) (w : ActWord) (x : Thread) (k : Task), s.gets (thr e n) 0x3E w x ∧
    s.taskOf x.desc = some k ∧ s.get (TSK_CLASS_BUDGET k.cls) ≠ 0 ∧ 16 * s.get (TSK_CLASS_BUDGET k.cls) ≤ x.words + 1) :=
  ⟨⟨putWord (running x0) (wd 0 1 2 2 0x1FFF) 0x10, 15, 3, wd 0 1 2 2 0x1FFF, x0, false, issues_of (by decide +kernel),
   by decide +kernel⟩,
   ⟨putWord (running x0) (wd 0 1 2 12 0x1FFF) 0x10, 15, 3, wd 0 1 2 12 0x1FFF, x0, true, issues_of (by decide +kernel),
   by decide +kernel⟩,
   ⟨putWord (running { x0 with stack := [1, 2, 3, 4, 5, 6, 7] }) (wd 0 1 2 0 0xFFFFFFFF) 0x11, 15, 3, wd 0 1 2 0 0xFFFFFFFF,
   { x0 with stack := [1, 2, 3, 4, 5, 6, 7] }, by decide +kernel, issues_of (by decide +kernel)⟩,
   ⟨putWord (running { x0 with stack := [1, 2, 3, 4, 5, 6, 7, 8] }) (wd 0 1 2 0 0x1FFF) 0x11, 15, 3, wd 0 1 2 0 0x1FFF,
   { x0 with stack := [1, 2, 3, 4, 5, 6, 7, 8] }, by decide +kernel, issues_of (by decide +kernel)⟩,
   ⟨putWord (running { x0 with stack := [8191] }) (wd 0 1 2 0 0x1FFF) 0x12, 15, 3, wd 0 1 2 0 0x1FFF,
   { x0 with stack := [8191] }, 8191, [], by decide +kernel, issues_of (by decide +kernel)⟩,
   ⟨putWord (running x0) (wd 0 1 2 0 0x2000) 0x12, 15, 3, wd 0 1 2 0 0x2000, x0, by decide +kernel,
   issues_of (by decide +kernel)⟩,
   ⟨putWord (running x0) (wd 0 1 2 0 0x1FFF) 0x3E, 15, 3, wd 0 1 2 0 0x1FFF, x0, issues_of (by decide +kernel)⟩,
   ⟨putWord (running x0) (wd 3 1 2 7 (512 - 248)) 0x18, 15, 3, wd 3 1 2 7 (512 - 248), x0, 504, by decide +kernel,
   by decide +kernel, by decide +kernel, issues_of (by decide +kernel)⟩,
   ⟨putWord (running x0) (wd 3 1 2 7 (512 - 248)) 0x19, 15, 3, wd 3 1 2 7 (512 - 248), x0, 504, by decide +kernel,
   by decide +kernel, by decide +kernel, issues_of (by decide +kernel)⟩,
   ⟨putWord (running x0) (wd 3 1 2 7 (512 - 247)) 0x18, 15, 3, wd 3 1 2 7 (512 - 247), x0, 505, by decide +kernel,
   by decide +kernel, by decide +kernel, issues_of (by decide +kernel)⟩,
   ⟨putWord (running x0) (wd 3 1 2 7 (512 - 247)) 0x19, 15, 3, wd 3 1 2 7 (512 - 247), x0, 505, by decide +kernel,
   by decide +kernel, by decide +kernel, issues_of (by decide +kernel)⟩,
   ⟨putWord (running { x0 with pkt := some (List.replicate 250 9) }) (wd 3 1 2 7 2) 0x1A, 15, 3, wd 3 1 2 7 2,
   { x0 with pkt := some (List.replicate 250 9) }, 242, List.replicate 250 9, by decide +kernel, by decide +kernel,
   by decide +kernel, by decide +kernel, issues_of (by decide +kernel)⟩,
   ⟨putWord (running { x0 with pkt := some (List.replicate 250 9) }) (wd 3 1 2 7 2) 0x1B, 15, 3, wd 3 1 2 7 2,
   { x0 with pkt := some (List.replicate 250 9) }, 242, List.replicate 250 9, by decide +kernel, by decide +kernel,
   by decide +kernel, by decide +kernel, issues_of (by decide +kernel)⟩,
   ⟨putWord (running { x0 with pkt := some (List.replicate 250 9) }) (wd 3 1 2 7 3) 0x1A, 15, 3, wd 3 1 2 7 3,
   { x0 with pkt := some (List.replicate 250 9) }, 243, List.replicate 250 9, by decide +kernel, by decide +kernel,
   by decide +kernel, by decide +kernel, issues_of (by decide +kernel)⟩,
   ⟨putWord (running { x0 with pkt := some (List.replicate 250 9) }) (wd 3 1 2 7 3) 0x1B, 15, 3, wd 3 1 2 7 3,
   { x0 with pkt := some (List.replicate 250 9) }, 243, List.replicate 250 9, by decide +kernel, by decide +kernel,
   by decide +kernel, by decide +kernel, issues_of (by decide +kernel)⟩,
   ⟨putWord (running { x0 with pkt := some (List.replicate 250 9) }) (wd 3 1 2 0 0xFFFFFFC0) 0x1C, 15, 3, wd 3 1 2 0 0xFFFFFFC0,
   { x0 with pkt := some (List.replicate 250 9) }, List.replicate 250 9, -64, issues_of (by decide +kernel), by decide +kernel⟩,
   ⟨putWord (running { x0 with pkt := some (List.replicate 250 9) }) (wd 3 1 2 0 250) 0x1C, 15, 3, wd 3 1 2 0 250,
   { x0 with pkt := some (List.replicate 250 9) }, List.replicate 250 9, 250, issues_of (by decide +kernel), by decide +kernel⟩,
   ⟨putWord (running { x0 with pkt := some (List.replicate 250 9) }) (wd 3 1 2 1 0xFFFFFFC0) 0x1C, 15, 3, wd 3 1 2 1 0xFFFFFFC0,
   { x0 with pkt := some (List.replicate 250 9) }, List.replicate 250 9, -64, issues_of (by decide +kernel), by decide +kernel⟩,
   ⟨putWord (running { x0 with pkt := some (List.replicate 250 9) }) (wd 3 1 2 1 250) 0x1C, 15, 3, wd 3 1 2 1 250,
   { x0 with pkt := some (List.replicate 250 9) }, List.replicate 250 9, 250, issues_of (by decide +kernel), by decide +kernel⟩,
   ⟨putWord (running x0) (wd 0 1 2 0 0x1FFF) 0x35, 15, 3, wd 0 1 2 0 0x1FFF, x0, issues_of (by decide +kernel)⟩,
   ⟨putWord (timed (running x0)) (wd 3 1 2 1 0) 0x35, 15, 3, wd 3 1 2 1 0, x0, issues_of (by decide +kernel)⟩,
   ⟨putWord (timed (running x0)) (wd 3 1 2 0 0) 0x35, 15, 3, wd 3 1 2 0 0, x0, issues_of (by decide +kernel)⟩,
   ⟨putWord (running { x0 with words := 15 }) (wd 3 1 2 0 0) 0x3E, 15, 3, wd 3 1 2 0 0, { x0 with words := 15 }, k0,
   gets_of (by decide +kernel), by decide +kernel⟩⟩

theorem witness_TableActions :
    (∃ (s : State) (e : Fin 16) (n : Fin 4) (w : ActWord) (x : Thread) (b : List Byte), s.issues (thr e n) 0x20 w x ∧
    s.tldRead (actTbl w) (x.reg w.a) = .ok b ∧ keyOfs w + b.length ≤ 512) ∧
    (∃ (s : State) (e : Fin 16) (n : Fin 4) (w : ActWord) (x : Thread) (d : TblDef) (o : Nat), s.issues (thr e n) 0x21 w x ∧
    s.actEntry (actTbl w) 0 (x.reg w.a) = .ok (d, o) ∧ keyOfs w + d.ent ≤ 512 ∧ x.loc.length = 512) ∧
    (∃ (s : State) (e : Fin 16) (n : Fin 4) (w : ActWord) (x : Thread) (r : Option (List Byte)), s.issues (thr e n) 0x22 w x ∧
    s.actFind w x = .ok r ∧ r = none) ∧
    (∃ (s : State) (e : Fin 16) (n : Fin 4) (w : ActWord) (x : Thread) (r : Option (List Byte)), s.issues (thr e n) 0x22 w x ∧
    s.actFind w x = .ok r ∧ r = none) ∧
    (∃ (s : State) (e : Fin 16) (n : Fin 4) (w : ActWord) (x : Thread) (r : Option (List Byte)) (b : _), s.issues (thr e n) 0x22 w x ∧
    s.actFind w x = .ok r ∧ r = some b ∧ resOfs w + b.length ≤ 512) ∧
    (∃ (s : State) (e : Fin 16) (n : Fin 4) (w : ActWord) (x : Thread) (d : TblDef) (k : List Byte), 2 ≤ actTbl w ∧
    s.actTable (actTbl w) 1 = .ok d ∧ x.loc.length = 512 ∧ keyOfs w + d.key ≤ 512 ∧ resOfs w + d.ent ≤ 512 ∧
    k = part x.loc (keyOfs w) d.key ∧ (s.hashFind (actTbl w) d k ≠ none ∨ s.hashFree (actTbl w) d k ≠ none) ∧
    s.issues (thr e n) 0x23 w x) ∧
    (∃ (s : State) (e : Fin 16) (n : Fin 4) (w : ActWord) (x : Thread) (d : TblDef) (k : List Byte), 2 ≤ actTbl w ∧
    s.actTable (actTbl w) 1 = .ok d ∧ x.loc.length = 512 ∧ keyOfs w + d.key ≤ 512 ∧ resOfs w + d.ent ≤ 512 ∧
    k = part x.loc (keyOfs w) d.key ∧ (s.hashFind (actTbl w) d k ≠ none ∨ s.hashFree (actTbl w) d k ≠ none) ∧
    s.issues (thr e n) 0x23 w x) ∧
    (∃ (s : State) (e : Fin 16) (n : Fin 4) (w : ActWord) (x : Thread) (d : TblDef) (k : List Byte), 2 ≤ actTbl w ∧
    s.actTable (actTbl w) 1 = .ok d ∧ x.loc.length = 512 ∧ keyOfs w + d.key ≤ 512 ∧ resOfs w + d.ent ≤ 512 ∧
    k = part x.loc (keyOfs w) d.key ∧ s.hashFind (actTbl w) d k = none ∧ s.hashFree (actTbl w) d k = none ∧
    s.issues (thr e n) 0x23 w x) ∧
    (∃ (s : State) (e : Fin 16) (n : Fin 4) (w : ActWord) (x : Thread) (d : TblDef) (k : List Byte) (i : _), 2 ≤ actTbl w ∧
    s.actTable (actTbl w) 1 = .ok d ∧ x.loc.length = 512 ∧ keyOfs w + d.key ≤ 512 ∧ resOfs w + d.ent ≤ 512 ∧
    k = part x.loc (keyOfs w) d.key ∧ s.hashFind (actTbl w) d k = some i ∧ s.issues (thr e n) 0x24 w x) ∧
    (∃ (s : State) (e : Fin 16) (n : Fin 4) (w : ActWord) (x : Thread) (d : TblDef) (k : List Byte), 2 ≤ actTbl w ∧
    s.actTable (actTbl w) 1 = .ok d ∧ x.loc.length = 512 ∧ keyOfs w + d.key ≤ 512 ∧ resOfs w + d.ent ≤ 512 ∧
    k = part x.loc (keyOfs w) d.key ∧ s.hashFind (actTbl w) d k = none ∧ s.issues (thr e n) 0x24 w x) ∧
    (∃ (s : State) (e : Fin 16) (n : Fin 4) (w : ActWord) (x : Thread) (d : TblDef) (o : Nat) (old : Nat), s.actEntry (actTbl w) 2 (x.reg w.a) = .ok (d, o) ∧
    old = leNum (s.tblBytes (actTbl w) o 8) ∧ s.issues (thr e n) 0x28 w x) ∧
    (∃ (s : State) (e : Fin 16) (n : Fin 4) (w : ActWord) (x : Thread) (d : TblDef) (o : Nat) (old : Nat), s.actEntry (actTbl w) 2 (x.reg w.a) = .ok (d, o) ∧
    old = leNum (s.tblBytes (actTbl w) o 8) ∧ s.issues (thr e n) 0x28 w x) ∧
    (∃ (s : State) (e : Fin 16) (n : Fin 4) (w : ActWord) (x : Thread) (d : TblDef) (o : Nat) (old : Nat), s.actEntry (actTbl w) 2 (x.reg w.a) = .ok (d, o) ∧
    old = leNum (s.tblBytes (actTbl w) o 8) ∧ s.issues (thr e n) 0x29 w x) ∧
    (∃ (s : State) (e : Fin 16) (n : Fin 4) (w : ActWord) (x : Thread) (d : TblDef) (o : Nat) (old : Nat), s.actEntry (actTbl w) 2 (x.reg w.a) = .ok (d, o) ∧
    old = leNum (s.tblBytes (actTbl w) o 8) ∧ s.issues (thr e n) 0x29 w x) ∧
    (∃ (s : State) (e : Fin 16) (n : Fin 4) (w : ActWord) (x : Thread), s.issues (thr e n) 0x20 w x ∧
    (∃ c, s.tldRead (actTbl w) (x.reg w.a) = .error c)) ∧
    (∃ (s : State) (e : Fin 16) (n : Fin 4) (w : ActWord) (x : Thread), s.issues (thr e n) 0x20 w x ∧
    (∃ c, s.tldRead (actTbl w) (x.reg w.a) = .error c)) :=
  ⟨⟨putWord (tabled (running { x0 with regs := x0.regs.set 1 7 })) (wd 3 1 2 2 488) 0x20, 15, 3, wd 3 1 2 2 488,
   { x0 with regs := x0.regs.set 1 7 }, List.replicate 24 0, issues_of (by decide +kernel), ok_of (by decide +kernel),
   by decide +kernel⟩,
   ⟨putWord (tabled (running { x0 with regs := x0.regs.set 1 7 })) (wd 3 1 2 2 488) 0x21, 15, 3, wd 3 1 2 2 488,
   { x0 with regs := x0.regs.set 1 7 }, ⟨0, 24, 0, 8, false⟩, 168, issues_of (by decide +kernel), ok_of (by decide +kernel),
   by decide +kernel⟩,
   ⟨putWord (tabled (running x0)) (wd 3 1 2 3 0) 0x22, 15, 3, wd 3 1 2 3 0, x0, none, issues_of (by decide +kernel),
   ok_of (by decide +kernel), by decide +kernel⟩,
   ⟨putWord (tabled (running x0)) (wd 3 1 2 1 0) 0x22, 15, 3, wd 3 1 2 1 0, x0, none, issues_of (by decide +kernel),
   ok_of (by decide +kernel), by decide +kernel⟩,
   ⟨putWord (keyedT (tabled (running x0))) (wd 3 1 2 3 (480 * 65536)) 0x22, 15, 3, wd 3 1 2 3 (480 * 65536), x0,
   some (List.replicate 32 9), List.replicate 32 9, issues_of (by decide +kernel), ok_of (by decide +kernel), by decide +kernel⟩,
   ⟨putWord (tabled (running x0)) (wd 3 1 2 3 (480 * 65536 + 496)) 0x23, 15, 3, wd 3 1 2 3 (480 * 65536 + 496), x0, d3, key3,
   by decide +kernel, ok_of (by decide +kernel), by decide +kernel, by decide +kernel, by decide +kernel, by decide +kernel,
   by decide +kernel, issues_of (by decide +kernel)⟩,
   ⟨putWord (keyedT (tabled (running x0))) (wd 3 1 2 3 (480 * 65536 + 496)) 0x23, 15, 3, wd 3 1 2 3 (480 * 65536 + 496), x0, d3,
   key3, by decide +kernel, ok_of (by decide +kernel), by decide +kernel, by decide +kernel, by decide +kernel,
   by decide +kernel, by decide +kernel, issues_of (by decide +kernel)⟩,
   ⟨putWord (fullTab (tabled (running x0))) (wd 3 1 2 3 (480 * 65536 + 496)) 0x23, 15, 3, wd 3 1 2 3 (480 * 65536 + 496), x0,
   d3, key3, by decide +kernel, ok_of (by decide +kernel), by decide +kernel, by decide +kernel, by decide +kernel,
   by decide +kernel, by decide +kernel, by decide +kernel, issues_of (by decide +kernel)⟩,
   ⟨putWord (keyedT (tabled (running x0))) (wd 3 1 2 3 (480 * 65536 + 496)) 0x24, 15, 3, wd 3 1 2 3 (480 * 65536 + 496), x0, d3,
   key3, (candidates (crc32c key3) 2).getD 3 0, by decide +kernel, ok_of (by decide +kernel), by decide +kernel,
   by decide +kernel, by decide +kernel, by decide +kernel, by decide +kernel, issues_of (by decide +kernel)⟩,
   ⟨putWord (tabled (running x0)) (wd 3 1 2 3 (480 * 65536 + 496)) 0x24, 15, 3, wd 3 1 2 3 (480 * 65536 + 496), x0, d3, key3,
   by decide +kernel, ok_of (by decide +kernel), by decide +kernel, by decide +kernel, by decide +kernel, by decide +kernel,
   by decide +kernel, issues_of (by decide +kernel)⟩,
   ⟨putWord (tabled (running { x0 with regs := x0.regs.set 1 7 })) (wd 1 1 2 63 0) 0x28, 15, 3, wd 1 1 2 63 0,
   { x0 with regs := x0.regs.set 1 7 }, ⟨2, 8, 0, 8, false⟩, 56, 0, ok_of (by decide +kernel), by decide +kernel,
   issues_of (by decide +kernel)⟩,
   ⟨putWord (tabled (running { x0 with regs := x0.regs.set 1 7 })) (wd 0 1 2 63 0) 0x28, 15, 3, wd 0 1 2 63 0,
   { x0 with regs := x0.regs.set 1 7 }, ⟨2, 8, 0, 8, false⟩, 56, 0, ok_of (by decide +kernel), by decide +kernel,
   issues_of (by decide +kernel)⟩,
   ⟨putWord (tabled (running { x0 with regs := x0.regs.set 1 7 })) (wd 1 1 2 63 0) 0x29, 15, 3, wd 1 1 2 63 0,
   { x0 with regs := x0.regs.set 1 7 }, ⟨2, 8, 0, 8, false⟩, 56, 0, ok_of (by decide +kernel), by decide +kernel,
   issues_of (by decide +kernel)⟩,
   ⟨putWord (tabled (running { x0 with regs := x0.regs.set 1 7 })) (wd 0 1 2 63 0) 0x29, 15, 3, wd 0 1 2 63 0,
   { x0 with regs := x0.regs.set 1 7 }, ⟨2, 8, 0, 8, false⟩, 56, 0, ok_of (by decide +kernel), by decide +kernel,
   issues_of (by decide +kernel)⟩,
   ⟨putWord (tabled (running { x0 with regs := x0.regs.set 1 8 })) (wd 3 1 2 2 488) 0x20, 15, 3, wd 3 1 2 2 488,
   { x0 with regs := x0.regs.set 1 8 }, issues_of (by decide +kernel), error_of (by decide +kernel)⟩,
   ⟨putWord (tabled (running x0)) (wd 3 1 2 4 488) 0x20, 15, 3, wd 3 1 2 4 488, x0, issues_of (by decide +kernel),
   error_of (by decide +kernel)⟩⟩

theorem witness_TaskActions :
    (∃ (s : State) (e : Fin 16) (n : Fin 4) (w : ActWord) (x : Thread) (m : Nat), s.issues (thr e n) 0x30 w x ∧ x.pkt = none ∧
    m = w.imm.toNat % 2 ^ 14 ∧ 1 ≤ m ∧ m ≤ 2048 ∧ s.chk.chains = [] ∧ (s.rd CHK_TIER).getLsbD ownGge = true ∧
    0 < (s.rd CHK_FREE_ODIE).toNat) ∧
    (∃ (s : State) (e : Fin 16) (n : Fin 4) (w : ActWord) (x : Thread) (m : Nat), s.issues (thr e n) 0x30 w x ∧ x.pkt = none ∧
    m = w.imm.toNat % 2 ^ 14 ∧ 1 ≤ m ∧ m ≤ 2048 ∧ s.chk.chains = [] ∧ (s.rd CHK_TIER).getLsbD ownGge = true ∧
    0 < (s.rd CHK_FREE_ODIE).toNat) ∧
    (∃ (s : State) (e : Fin 16) (n : Fin 4) (w : ActWord) (x : Thread) (m : Nat), s.issues (thr e n) 0x30 w x ∧ x.pkt = none ∧
    m = w.imm.toNat % 2 ^ 14 ∧ 1 ≤ m ∧ m ≤ 2048 ∧ s.chk.chains = [] ∧ (s.rd CHK_TIER).getLsbD ownGge = false ∧
    s.rd CHK_FREE_DRAM = 0) ∧
    (∃ (s : State) (e : Fin 16) (n : Fin 4) (w : ActWord) (x : Thread), s.issues (thr e n) 0x30 w x ∧
    (x.pkt.isSome = true ∨ w.imm.toNat % 2 ^ 14 = 0 ∨ 9600 < w.imm.toNat % 2 ^ 14)) ∧
    (∃ (s : State) (e : Fin 16) (n : Fin 4) (w : ActWord) (x : Thread), s.issues (thr e n) 0x30 w x ∧
    (x.pkt.isSome = true ∨ w.imm.toNat % 2 ^ 14 = 0 ∨ 9600 < w.imm.toNat % 2 ^ 14)) ∧
    (∃ (s : State) (e : Fin 16) (n : Fin 4) (w : ActWord) (x : Thread), s.issues (thr e n) 0x30 w x ∧
    (x.pkt.isSome = true ∨ w.imm.toNat % 2 ^ 14 = 0 ∨ 9600 < w.imm.toNat % 2 ^ 14)) ∧
    (∃ (s : State) (e : Fin 16) (n : Fin 4) (w : ActWord) (x : Thread) (c : Nat), s.issues (thr e n) 0x31 w x ∧
    c = w.x.toNat % 32 ∧ s.canQueue srcSpawn c = true) ∧
    (∃ (s : State) (e : Fin 16) (n : Fin 4) (w : ActWord) (x : Thread) (c : Nat), s.issues (thr e n) 0x31 w x ∧
    c = w.x.toNat % 32 ∧ s.canQueue srcSpawn c = false) ∧
    (∃ (s : State) (e : Fin 16) (n : Fin 4) (w : ActWord) (x : Thread) (c : Nat), s.issues (thr e n) 0x31 w x ∧
    c = w.x.toNat % 32 ∧ s.canQueue srcSpawn c = false) ∧
    (∃ (s : State) (e : Fin 16) (n : Fin 4) (w : ActWord) (x : Thread) (m : Nat), s.issues (thr e n) 0x32 w x ∧
    m = w.imm.toNat % 256) ∧
    (∃ (s : State) (e : Fin 16) (n : Fin 4) (w : ActWord) (x : Thread) (m : Nat), s.issues (thr e n) 0x32 w x ∧
    m = w.imm.toNat % 256) ∧
    (∃ (s : State) (e : Fin 16) (n : Fin 4) (w : ActWord) (x : Thread) (a : Nat) (o : Nat), a = (x.reg w.a).toNat ∧
    o = w.imm.toNat % 256 ∧ 1 ≤ a ∧ a ≤ 8191 ∧ o % 8 = 0 ∧ s.issues (thr e n) 0x33 w x) ∧
    (∃ (s : State) (e : Fin 16) (n : Fin 4) (w : ActWord) (x : Thread) (a : Nat) (o : Nat), a = (x.reg w.a).toNat ∧
    o = w.imm.toNat % 256 ∧ 1 ≤ a ∧ a ≤ 8191 ∧ o % 8 = 0 ∧ s.issues (thr e n) 0x33 w x) ∧
    (∃ (s : State) (e : Fin 16) (n : Fin 4) (w : ActWord) (x : Thread) (a : Nat) (o : Nat), a = (x.reg w.a).toNat ∧
    o = w.imm.toNat % 256 ∧ 1 ≤ a ∧ a ≤ 8191 ∧ o % 8 = 0 ∧ 16 ≤ o ∧ s.cxState a = 1 ∧ s.issues (thr e n) 0x34 w x) ∧
    (∃ (s : State) (e : Fin 16) (n : Fin 4) (w : ActWord) (x : Thread), ((x.reg w.a).toNat = 0 ∨ 8192 ≤ (x.reg w.a).toNat ∨ w.imm.toNat % 8 ≠ 0) ∧
    s.issues (thr e n) 0x33 w x) ∧
    (∃ (s : State) (e : Fin 16) (n : Fin 4) (w : ActWord) (x : Thread), ((x.reg w.a).toNat = 0 ∨ 8192 ≤ (x.reg w.a).toNat ∨ w.imm.toNat % 8 ≠ 0) ∧
    s.issues (thr e n) 0x33 w x) ∧
    (∃ (s : State) (e : Fin 16) (n : Fin 4) (w : ActWord) (x : Thread), ((x.reg w.a).toNat = 0 ∨ 8192 ≤ (x.reg w.a).toNat ∨ w.imm.toNat % 8 ≠ 0) ∧
    s.issues (thr e n) 0x34 w x) ∧
    (∃ (s : State) (e : Fin 16) (n : Fin 4) (w : ActWord) (x : Thread), ((x.reg w.a).toNat = 0 ∨ 8192 ≤ (x.reg w.a).toNat ∨ w.imm.toNat % 8 ≠ 0) ∧
    s.issues (thr e n) 0x34 w x) ∧
    (∃ (s : State) (e : Fin 16) (n : Fin 4) (w : ActWord) (x : Thread), s.issues (thr e n) 0x3C w x) ∧
    (∃ (s : State) (e : Fin 16) (n : Fin 4) (w : ActWord) (x : Thread) (k : Task), s.gets (thr e n) 0x3F w x ∧
    s.taskOf x.desc = some k ∧ k.slot = none ∧ x.made = none ∧ (w.x.getLsbD 0 = true ∨ ∃ l, outEntries x.loc = .ok l)) ∧
    (∃ (s : State) (e : Fin 16) (n : Fin 4) (w : ActWord) (x : Thread) (k : Task) (q : Nat) (z : Slot) (c : Chain) (b : List Byte) (outs : List Output), s.gets (thr e n) 0x3F w x ∧
    s.taskOf x.desc = some k ∧ k.slot = some q ∧ s.slotOf? q = some z ∧ s.liveSlot q = true ∧ b = x.pkt.getD [] ∧
    s.chain? z.pkt.chain = some c ∧ (atLeast1 b.length + 2047) / 2048 ≤ c.bufs.length ∧
    (w.x.getLsbD 0 = true ∧ outs = [] ∨ w.x.getLsbD 0 = false ∧ outEntries x.loc = .ok outs)) ∧
    (∃ (s : State) (e : Fin 16) (n : Fin 4) (w : ActWord) (x : Thread) (k : Task) (q : Nat), s.gets (thr e n) 0x3F w x ∧
    s.taskOf x.desc = some k ∧ k.slot = some q ∧ s.liveSlot q = false ∧ (w.x.getLsbD 0 = true ∨ ∃ l, outEntries x.loc = .ok l)) :=
  ⟨⟨putWord ((running x0).wr CHK_TIER 0xFFF) (wd 3 1 2 0 2048) 0x30, 15, 3, wd 3 1 2 0 2048, x0, 2048,
   issues_of (by decide +kernel), by decide +kernel⟩,
   ⟨putWord ((running x0).wr CHK_TIER 0xFFF) (wd 0 1 2 0 1) 0x30, 15, 3, wd 0 1 2 0 1, x0, 1, issues_of (by decide +kernel),
   by decide +kernel⟩,
   ⟨putWord (((running x0).wr CHK_TIER 0).wr CHK_FREE_DRAM 0) (wd 3 1 2 0 2048) 0x30, 15, 3, wd 3 1 2 0 2048, x0, 2048,
   issues_of (by decide +kernel), by decide +kernel⟩,
   ⟨putWord (running x0) (wd 3 1 2 0 9601) 0x30, 15, 3, wd 3 1 2 0 9601, x0, issues_of (by decide +kernel), by decide +kernel⟩,
   ⟨putWord (running x0) (wd 3 1 2 0 0) 0x30, 15, 3, wd 3 1 2 0 0, x0, issues_of (by decide +kernel), by decide +kernel⟩,
   ⟨putWord (running { x0 with pkt := some [] }) (wd 3 1 2 0 5) 0x30, 15, 3, wd 3 1 2 0 5, { x0 with pkt := some [] },
   issues_of (by decide +kernel), by decide +kernel⟩,
   ⟨putWord (running x0) (wd 3 1 2 31 0) 0x31, 15, 3, wd 3 1 2 31 0, x0, 31, issues_of (by decide +kernel), by decide +kernel⟩,
   ⟨putWord (running x0) (wd 3 1 2 30 0) 0x31, 15, 3, wd 3 1 2 30 0, x0, 30, issues_of (by decide +kernel), by decide +kernel⟩,
   ⟨putWord (noQuota (running x0)) (wd 3 1 2 31 0) 0x31, 15, 3, wd 3 1 2 31 0, x0, 31, issues_of (by decide +kernel),
   by decide +kernel⟩,
   ⟨putWord (timed (running x0)) (wd 3 1 2 31 255) 0x32, 15, 3, wd 3 1 2 31 255, x0, 255, issues_of (by decide +kernel),
   by decide +kernel⟩,
   ⟨putWord (timed (running x0)) (wd 3 0 2 31 255) 0x32, 15, 3, wd 3 0 2 31 255, x0, 255, issues_of (by decide +kernel),
   by decide +kernel⟩,
   ⟨putWord (running { x0 with regs := x0.regs.set 1 8191 }) (wd 3 1 2 0 248) 0x33, 15, 3, wd 3 1 2 0 248,
   { x0 with regs := x0.regs.set 1 8191 }, 8191, 248, by decide +kernel, by decide +kernel, by decide +kernel,
   by decide +kernel, by decide +kernel, issues_of (by decide +kernel)⟩,
   ⟨putWord (running { x0 with regs := x0.regs.set 1 1 }) (wd 3 1 2 0 0) 0x33, 15, 3, wd 3 1 2 0 0,
   { x0 with regs := x0.regs.set 1 1 }, 1, 0, by decide +kernel, by decide +kernel, by decide +kernel, by decide +kernel,
   by decide +kernel, issues_of (by decide +kernel)⟩,
   ⟨putWord ((running { x0 with regs := x0.regs.set 1 8191 }).cxSet 8191 2 1 1) (wd 3 1 2 0 16) 0x34, 15, 3, wd 3 1 2 0 16,
   { x0 with regs := x0.regs.set 1 8191 }, 8191, 16, by decide +kernel, by decide +kernel, by decide +kernel, by decide +kernel,
   by decide +kernel, by decide +kernel, by decide +kernel, issues_of (by decide +kernel)⟩,
   ⟨putWord (running { x0 with regs := x0.regs.set 1 8192 }) (wd 3 1 2 0 16) 0x33, 15, 3, wd 3 1 2 0 16,
   { x0 with regs := x0.regs.set 1 8192 }, by decide +kernel, issues_of (by decide +kernel)⟩,
   ⟨putWord (running { x0 with regs := x0.regs.set 1 1 }) (wd 3 1 2 0 20) 0x33, 15, 3, wd 3 1 2 0 20,
   { x0 with regs := x0.regs.set 1 1 }, by decide +kernel, issues_of (by decide +kernel)⟩,
   ⟨putWord (running { x0 with regs := x0.regs.set 1 8192 }) (wd 3 1 2 0 16) 0x34, 15, 3, wd 3 1 2 0 16,
   { x0 with regs := x0.regs.set 1 8192 }, by decide +kernel, issues_of (by decide +kernel)⟩,
   ⟨putWord (running { x0 with regs := x0.regs.set 1 1 }) (wd 3 1 2 0 17) 0x34, 15, 3, wd 3 1 2 0 17,
   { x0 with regs := x0.regs.set 1 1 }, by decide +kernel, issues_of (by decide +kernel)⟩,
   ⟨putWord (running x0) (wd 3 1 2 0 17) 0x3C, 15, 3, wd 3 1 2 0 17, x0, issues_of (by decide +kernel)⟩,
   ⟨putWord (running x0) (wd 3 1 2 1 17) 0x3F, 15, 3, wd 3 1 2 1 17, x0, k0, gets_of (by decide +kernel), by decide +kernel,
   by decide +kernel, by decide +kernel, .inl (by decide +kernel)⟩,
   ⟨putWord (routed .pending) (wd 3 1 2 1 17) 0x3F, 15, 3, wd 3 1 2 1 17, { x0 with pkt := some (List.replicate 20 8) },
   { k0 with slot := some 5 }, 5,
   { seq := 5, pkt := { chain := 0, src := 1, port := 0, bytes := List.replicate 14 7 }, len := 14, parse := {}, flow := some 9, st := .pending },
   ((routed .pending).chain? 0).getD ⟨0, [], 0, [], []⟩, List.replicate 20 8, [], gets_of (by decide +kernel),
   by decide +kernel, by decide +kernel, by decide +kernel, by decide +kernel, by decide +kernel, by decide +kernel,
   by decide +kernel, .inl (by decide +kernel)⟩,
   ⟨putWord (routed .hole) (wd 3 1 2 1 17) 0x3F, 15, 3, wd 3 1 2 1 17, { x0 with pkt := some (List.replicate 20 8) },
   { k0 with slot := some 5 }, 5, gets_of (by decide +kernel), by decide +kernel, by decide +kernel, by decide +kernel,
   .inl (by decide +kernel)⟩⟩

set_option maxRecDepth 100000 in
theorem witness_UpdateSessions :
    (∃ (s : State) (i : Iface) (n : Nat), s.reach (some i) UPD_SESS_CMD = .made ∧ s.foreign (srcOf i) = false ∧
    s.get UPD_STAT_TOV ≠ 2 ∧ n = (s.rd UPD_SESS_TOTAL).toNat % 2 ^ 23 ∧ s.updBar 0 = none ∧ s.flag SYS_DIE_STAT_THL_UP = true ∧
    256 ≤ n ∧ n ≤ 6291456 ∧ s.jrn.find .trial = none) ∧
    (∃ (s : State) (i : Iface) (n : Nat), s.reach (some i) UPD_SESS_CMD = .made ∧ s.foreign (srcOf i) = false ∧
    s.get UPD_STAT_TOV ≠ 2 ∧ n = (s.rd UPD_SESS_TOTAL).toNat % 2 ^ 23 ∧ s.updBar 0 = none ∧ s.flag SYS_DIE_STAT_THL_UP = true ∧
    256 ≤ n ∧ n ≤ 6291456 ∧ s.jrn.find .trial = none) ∧
    (∃ (s : State) (i : Iface) (n : Nat), s.reach (some i) UPD_SESS_CMD = .made ∧ s.foreign (srcOf i) = false ∧
    s.get UPD_STAT_TOV ≠ 2 ∧ n = (s.rd UPD_SESS_TOTAL).toNat % 2 ^ 23 ∧ s.updBar 0 = none ∧ s.flag SYS_DIE_STAT_THL_UP = true ∧
    (n < 256 ∨ 6291456 < n)) ∧
    (∃ (s : State) (i : Iface) (n : Nat), s.reach (some i) UPD_SESS_CMD = .made ∧ s.foreign (srcOf i) = false ∧
    s.get UPD_STAT_TOV ≠ 2 ∧ n = (s.rd UPD_SESS_TOTAL).toNat % 2 ^ 23 ∧ s.updBar 0 = none ∧ s.flag SYS_DIE_STAT_THL_UP = true ∧
    (n < 256 ∨ 6291456 < n)) ∧
    (∃ (s : State) (i : Iface) (n : Nat), s.reach (some i) UPD_SESS_CMD = .made ∧ s.foreign (srcOf i) = false ∧
    s.get UPD_STAT_TOV ≠ 2 ∧ n = (s.rd UPD_SESS_TOTAL).toNat % 2 ^ 23 ∧ s.updBar 0 = none ∧ s.flag SYS_DIE_STAT_THL_UP = false) ∧
    (∃ (s : State) (i : Iface) (n : Nat), s.reach (some i) UPD_SESS_CMD = .made ∧ s.foreign (srcOf i) = false ∧
    s.get UPD_STAT_TOV ≠ 2 ∧ n = (s.rd UPD_SESS_TOTAL).toNat % 2 ^ 23 ∧ s.updBar 0 = none ∧ s.flag SYS_DIE_STAT_THL_UP = true ∧
    256 ≤ n ∧ n ≤ 6291456 ∧ s.jrn.find .trial ≠ none) ∧
    (∃ (s : State) (i : Iface) (n : Nat) (c : _), s.reach (some i) UPD_SESS_CMD = .made ∧ s.foreign (srcOf i) = false ∧
    s.get UPD_STAT_TOV ≠ 2 ∧ n = (s.rd UPD_SESS_TOTAL).toNat % 2 ^ 23 ∧ s.updBar 0 = some c) ∧
    (∃ (s : State) (i : Iface), s.reach (some i) UPD_SESS_CMD = .made ∧ s.foreign (srcOf i) = true) ∧
    (∃ (s : State) (i : Iface) (len : BitVec 13) (ofs : Nat) (next : Nat), s.reach (some i) UPD_BLK_CMD = .made ∧
    1 ≤ len.toNat ∧ len.toNat ≤ 4096 ∧ s.sess ≠ sessIdle ∧ s.foreign (srcOf i) = false ∧ s.updBar 0 = none ∧
    s.flag SYS_DIE_STAT_THL_UP = true ∧ ofs = (s.rd UPD_BLK_OFS).toNat % 2 ^ 23 ∧ next = (s.rd UPD_SESS_NEXT).toNat ∧
    s.flag UPD_STAT_BUSY = false ∧ ofs = next ∧ ofs + len.toNat ≤ s.upd.total) ∧
    (∃ (s : State) (i : Iface) (len : BitVec 13) (ofs : Nat) (next : Nat), s.reach (some i) UPD_BLK_CMD = .made ∧
    1 ≤ len.toNat ∧ len.toNat ≤ 4096 ∧ s.sess ≠ sessIdle ∧ s.foreign (srcOf i) = false ∧ s.updBar 0 = none ∧
    s.flag SYS_DIE_STAT_THL_UP = true ∧ ofs = (s.rd UPD_BLK_OFS).toNat % 2 ^ 23 ∧ next = (s.rd UPD_SESS_NEXT).toNat ∧
    s.flag UPD_STAT_BUSY = false ∧ ofs = next ∧ ofs + len.toNat ≤ s.upd.total) ∧
    (∃ (s : State) (i : Iface) (len : BitVec 13) (ofs : Nat) (next : Nat), s.reach (some i) UPD_BLK_CMD = .made ∧
    1 ≤ len.toNat ∧ len.toNat ≤ 4096 ∧ s.sess ≠ sessIdle ∧ s.foreign (srcOf i) = false ∧ s.updBar 0 = none ∧
    s.flag SYS_DIE_STAT_THL_UP = true ∧ ofs = (s.rd UPD_BLK_OFS).toNat % 2 ^ 23 ∧ next = (s.rd UPD_SESS_NEXT).toNat ∧
    s.flag UPD_STAT_BUSY = true) ∧
    (∃ (s : State) (i : Iface) (len : BitVec 13) (ofs : Nat) (next : Nat), s.reach (some i) UPD_BLK_CMD = .made ∧
    1 ≤ len.toNat ∧ len.toNat ≤ 4096 ∧ s.sess ≠ sessIdle ∧ s.foreign (srcOf i) = false ∧ s.updBar 0 = none ∧
    s.flag SYS_DIE_STAT_THL_UP = true ∧ ofs = (s.rd UPD_BLK_OFS).toNat % 2 ^ 23 ∧ next = (s.rd UPD_SESS_NEXT).toNat ∧
    s.flag UPD_STAT_BUSY = false ∧ ofs < next) ∧
    (∃ (s : State) (i : Iface) (len : BitVec 13) (ofs : Nat) (next : Nat), s.reach (some i) UPD_BLK_CMD = .made ∧
    1 ≤ len.toNat ∧ len.toNat ≤ 4096 ∧ s.sess ≠ sessIdle ∧ s.foreign (srcOf i) = false ∧ s.updBar 0 = none ∧
    s.flag SYS_DIE_STAT_THL_UP = true ∧ ofs = (s.rd UPD_BLK_OFS).toNat % 2 ^ 23 ∧ next = (s.rd UPD_SESS_NEXT).toNat ∧
    s.flag UPD_STAT_BUSY = false ∧ next < ofs) ∧
    (∃ (s : State) (i : Iface) (len : BitVec 13) (ofs : Nat) (next : Nat), s.reach (some i) UPD_BLK_CMD = .made ∧
    1 ≤ len.toNat ∧ len.toNat ≤ 4096 ∧ s.sess ≠ sessIdle ∧ s.foreign (srcOf i) = false ∧ s.updBar 0 = none ∧
    s.flag SYS_DIE_STAT_THL_UP = true ∧ ofs = (s.rd UPD_BLK_OFS).toNat % 2 ^ 23 ∧ next = (s.rd UPD_SESS_NEXT).toNat ∧
    s.flag UPD_STAT_BUSY = false ∧ ofs = next ∧ s.upd.total < ofs + len.toNat) ∧
    (∃ (s : State) (i : Iface) (len : BitVec 13), s.reach (some i) UPD_BLK_CMD = .made ∧ s.sess = sessIdle ∧ 1 ≤ len.toNat ∧
    len.toNat ≤ 4096) ∧
    (∃ (s : State) (i : Iface) (len : BitVec 13), s.reach (some i) UPD_BLK_CMD = .made ∧ s.sess ≠ sessIdle ∧
    s.foreign (srcOf i) = false ∧ s.updBar 0 = none ∧ s.flag SYS_DIE_STAT_THL_UP = false ∧ 1 ≤ len.toNat ∧ len.toNat ≤ 4096) ∧
    (∃ (s : State), s.clockOn = true ∧ s.flag SYS_DIE_STAT_THL_UP = true) ∧
    (∃ (s : State), s.flag SYS_DIE_STAT_THL_UP = false) ∧
    (∃ (s : State) (i : Iface), s.reach (some i) UPD_SESS_CMD = .made ∧ s.sess ≠ sessIdle ∧
    (s.get UPD_STAT_SRC = srcOf i ∨ s.get UPD_STAT_SRC = srcBackbone) ∧ s.get UPD_STAT_TOV ≠ 2) ∧
    (∃ (s : State) (i : Iface), s.reach (some i) UPD_SESS_CMD = .made ∧ s.sess = sessIdle) ∧
    (∃ (s : State) (i : Iface), s.reach (some i) UPD_SESS_CMD = .made ∧ s.foreign (srcOf i) = false ∧ s.sess = sessReady ∧
    s.get UPD_STAT_TOV ≠ 2 ∧ s.updBar 1 = none ∧ s.flag SYS_DIE_STAT_THL_UP = false) ∧
    (∃ (s : State) (i : Iface), s.reach (some i) UPD_SESS_CMD = .made ∧ s.foreign (srcOf i) = false ∧ s.sess = sessReady ∧
    s.get UPD_STAT_TOV ≠ 2 ∧ s.updBar 1 = none ∧ s.flag SYS_DIE_STAT_THL_UP = true) ∧
    (∃ (s : State) (i : Iface) (c : _), s.reach (some i) UPD_SESS_CMD = .made ∧ s.foreign (srcOf i) = false ∧
    s.sess = sessReady ∧ s.get UPD_STAT_TOV ≠ 2 ∧ s.updBar 1 = some c) ∧
    (∃ (s : State), s.clockOn = true ∧ (s.sess = sessOpen ∨ s.sess = sessReady ∧ s.upd.armed = none)) ∧
    (∃ (s : State), s.clockOn = true ∧ (s.sess = sessOpen ∨ s.sess = sessReady ∧ s.upd.armed = none)) ∧
    (∃ (s : State), s.sess = sessIdle) ∧
    (∃ (s : State) (u : State) (h : Afette), s.afetteIn h 5 = (u, true) ∧ u.follows h = false) ∧
    (∃ (s : State) (u : State) (h : Afette) (sess : BitVec 32) (ofs : BitVec 32) (d : List Byte), s.afetteIn h 5 = (u, true) ∧
    u.follows h = true ∧ u.sess = sessOpen ∧ u.rd UPD_SESS_ID = sess ∧ u.get UPD_STAT_SRC = srcBackbone ∧ u.updBar 0 = none ∧
    u.flag SYS_DIE_STAT_THL_UP = true ∧ u.flag UPD_STAT_BUSY = false ∧ ofs = u.rd UPD_SESS_NEXT ∧ 1 ≤ d.length ∧
    d.length ≤ 1024 ∧ ofs.toNat + d.length ≤ u.upd.total) ∧
    (∃ (s : State) (u : State) (h : Afette) (sess : BitVec 32) (ofs : BitVec 32) (d : List Byte), s.afetteIn h 5 = (u, true) ∧
    u.follows h = true ∧ u.sess = sessOpen ∧ u.rd UPD_SESS_ID = sess ∧ u.get UPD_STAT_SRC = srcBackbone ∧ u.updBar 0 = none ∧
    u.flag SYS_DIE_STAT_THL_UP = true ∧ u.flag UPD_STAT_BUSY = false ∧ ofs = u.rd UPD_SESS_NEXT ∧ 1 ≤ d.length ∧
    d.length ≤ 1024 ∧ ofs.toNat + d.length ≤ u.upd.total) ∧
    (∃ (s : State) (u : State) (h : Afette) (sess : BitVec 32) (ofs : BitVec 32) (d : List Byte), s.afetteIn h 5 = (u, true) ∧
    u.follows h = true ∧ u.sess = sessOpen ∧ u.rd UPD_SESS_ID = sess ∧ u.get UPD_STAT_SRC = srcBackbone ∧ u.updBar 0 = none ∧
    u.flag SYS_DIE_STAT_THL_UP = true ∧ u.flag UPD_STAT_BUSY = false ∧ ofs = u.rd UPD_SESS_NEXT ∧ 1 ≤ d.length ∧
    d.length ≤ 1024 ∧ ofs.toNat + d.length ≤ u.upd.total) :=
  ⟨⟨still.wr UPD_SESS_TOTAL 256, .pcie, 256, by decide +kernel⟩,
   ⟨still.wr UPD_SESS_TOTAL 6291456, .hsp, 6291456, by decide +kernel⟩,
   ⟨still.wr UPD_SESS_TOTAL 255, .pcie, 255, by decide +kernel⟩,
   ⟨still.wr UPD_SESS_TOTAL 6291457, .pcie, 6291457, by decide +kernel⟩,
   ⟨(still.wr UPD_SESS_TOTAL 256).put SYS_DIE_STAT_THL_UP 0, .pcie, 256, by decide +kernel⟩,
   ⟨jr (still.wr UPD_SESS_TOTAL 256) .confirmed .trial, .pcie, 256, by decide +kernel⟩,
   ⟨(still.wr UPD_SESS_TOTAL 255).put SYS_SUPPLY_LOW 1, .pcie, 255, resLowSupply, by decide +kernel⟩,
   ⟨sessIn sessReady 3, .pcie, by decide +kernel⟩,
   ⟨blkAt (6291456 - 4096) (6291456 - 4096) (sessIn sessOpen 2), .hsp, 4096, 6287360, 6287360, by decide +kernel⟩,
   ⟨blkAt 0 0 (sessIn sessOpen 2), .hsp, 1, 0, 0, by decide +kernel⟩,
   ⟨(blkAt 5 0 (sessIn sessOpen 2)).put UPD_STAT_BUSY 1, .hsp, 4096, 5, 0, by decide +kernel⟩,
   ⟨blkAt 4 5 (sessIn sessOpen 2), .hsp, 4096, 4, 5, by decide +kernel⟩,
   ⟨blkAt 6 5 (sessIn sessOpen 2), .hsp, 4096, 6, 5, by decide +kernel⟩,
   ⟨blkAt 6287361 6287361 (sessIn sessOpen 2), .hsp, 4096, 6287361, 6287361, by decide +kernel⟩,
   ⟨still, .pcie, 1, by decide +kernel⟩,
   ⟨(blkAt 0 0 (sessIn sessOpen 2)).put SYS_DIE_STAT_THL_UP 0, .hsp, 1, by decide +kernel⟩,
   ⟨still.put UPD_STAT_BUSY 1, by decide +kernel⟩,
   ⟨(still.put UPD_STAT_BUSY 1).put SYS_DIE_STAT_THL_UP 0, by decide +kernel⟩,
   ⟨arm (sessIn sessReady 3) false 7, .pcie, by decide +kernel⟩,
   ⟨still, .hsp, by decide +kernel⟩,
   ⟨(sessIn sessReady 1).put SYS_DIE_STAT_THL_UP 0, .pcie, by decide +kernel⟩,
   ⟨jr (sessIn sessReady 1) .confirmed .none, .pcie, by decide +kernel⟩,
   ⟨(sessIn sessReady 1).put SYS_SUPPLY_LOW 1, .pcie, resLowSupply, by decide +kernel⟩,
   ⟨sessIn sessOpen 1, by decide +kernel⟩,
   ⟨sessIn sessReady 2, by decide +kernel⟩,
   ⟨still, by decide +kernel⟩,
   ⟨mem2u, (State.afetteIn (mem2u) ({ af 5 with from_ := 3 }) 5).1, { af 5 with from_ := 3 }, Prod.ext rfl (by decide +kernel),
   by decide +kernel⟩,
   ⟨imgSt, (State.afetteIn (imgSt) (af 5) 5).1, af 5, 9, 100, [1, 2], Prod.ext rfl (by decide +kernel), by decide +kernel⟩,
   ⟨onLine imgSt, (State.afetteIn (onLine imgSt) (af 5) 5).1, af 5, 9, 100, [1, 2], Prod.ext rfl (by decide +kernel),
   by decide +kernel⟩,
   ⟨imgSt, (State.afetteIn (imgSt) (af 5) 5).1, af 5, 9, 100, List.replicate 1024 2, Prod.ext rfl (by decide +kernel),
   by decide +kernel⟩⟩

theorem witness_TokensTrialsAndBoots :
    (∃ (s : State), s.reach none UPD_TOKEN_CMD = .made ∧ s.flag UPD_TOKEN_STAT_BUSY = false) ∧
    (∃ (s : State), s.reach none UPD_TOKEN_CMD = .made ∧ s.flag UPD_TOKEN_STAT_BUSY = true) ∧
    (∃ (s : State) (k : List Byte), s.clockOn = true ∧ s.flag SYS_DIE_STAT_THL_UP = true ∧ s.upd.token = some k) ∧
    (∃ (s : State), (s.upd.token = none ∨ s.flag SYS_DIE_STAT_THL_UP = false)) ∧
    (∃ (s : State), (s.upd.token = none ∨ s.flag SYS_DIE_STAT_THL_UP = false)) ∧
    (∃ (s : State) (b : Bool), s.reach none UPD_CMD = .made ∧ s.flag SYS_DIE_STAT_THL_UP = true ∧ s.jrn.find .trial = some b) ∧
    (∃ (s : State) (b : Bool), s.reach none UPD_CMD = .made ∧ s.flag SYS_DIE_STAT_THL_UP = true ∧ s.jrn.find .trial = some b) ∧
    (∃ (s : State), s.reach none UPD_CMD = .made ∧ s.jrn.find .trial = none) ∧
    (∃ (s : State), s.reach none UPD_CMD = .made ∧ s.flag SYS_DIE_STAT_THL_UP = false) ∧
    (∃ (s : State) (b : Bool), s.reach none UPD_CMD = .made ∧ s.jrn.find .trial = some b ∧
    (s.spnSt = spnLocked ∨ s.spnSt = spnHoldover) ∧ s.upd.byTurnover = true ∧ s.running = true) ∧
    (∃ (s : State) (b : Bool), s.reach none UPD_CMD = .made ∧ s.jrn.find .trial = some b ∧ s.upd.byTurnover = false) ∧
    (∃ (s : State) (u : State) (b : Bool), s.clockOn = true ∧ s.jrn.find .trial = some b ∧ s.get UPD_STAT_UP = 1 ∧
    u = s.toRef (s.upd.runAt + 2000000000 * atLeast1 ((s.rd UPD_CONFIRM_TMO).toNat % 2 ^ 16)) ∧
    (u.spnSt = spnLocked ∨ u.spnSt = spnHoldover) ∧ u.upd.byTurnover = true ∧ u.running = true) ∧
    (∃ (s : State) (u : State) (b : Bool), s.clockOn = true ∧ s.jrn.find .trial = some b ∧ s.get UPD_STAT_UP = 1 ∧
    u = s.toRef (s.upd.runAt + 2000000000 * atLeast1 ((s.rd UPD_CONFIRM_TMO).toNat % 2 ^ 16)) ∧ u.upd.byTurnover = false) ∧
    (∃ (s : State), (s.jrn.find .trial = none ∨ s.get UPD_STAT_UP ≠ 1)) ∧
    (∃ (s : State), s.pwr.phase = .boot ∧ s.upd.ho = none ∧ s.upd.waiting = false ∧ s.noSource = true ∧
    s.jrn.find .pending = none) ∧
    (∃ (s : State) (b : Bool), s.pwr.phase = .boot ∧ s.flag SYS_DIE_STAT_THL_UP = true ∧ s.upd.ho = none ∧
    s.upd.waiting = true ∧ s.jrn.find .pending = some b ∧ s.jrn.find .trial = none) ∧
    (∃ (s : State) (b : Bool), s.pwr.phase = .boot ∧ s.flag SYS_DIE_STAT_THL_UP = true ∧ s.upd.ho = none ∧
    s.upd.waiting = true ∧ s.jrn.find .pending = some b ∧ s.jrn.find .trial = none) ∧
    (∃ (s : State), (s.pwr.phase ≠ .boot ∨ s.upd.ho ≠ none ∨ s.upd.waiting = true ∧ s.jrn.find .pending = none)) :=
  ⟨⟨still, by decide +kernel⟩,
   ⟨still.put UPD_TOKEN_STAT_BUSY 1, by decide +kernel⟩,
   ⟨{ still with upd := { still.upd with token := some tok0 } }, tok0, by decide +kernel⟩,
   ⟨still, by decide +kernel⟩,
   ⟨{ (still.put SYS_DIE_STAT_THL_UP 0) with upd := { still.upd with token := some tok0 } }, by decide +kernel⟩,
   ⟨jr still .confirmed .trial, true, by decide +kernel⟩,
   ⟨jr still .trial .none, false, by decide +kernel⟩,
   ⟨jr still .confirmed .pending, by decide +kernel⟩,
   ⟨(jr still .confirmed .trial).put SYS_DIE_STAT_THL_UP 0, by decide +kernel⟩,
   ⟨trialRun true, true, by decide +kernel⟩,
   ⟨trialRun false, true, by decide +kernel⟩,
   ⟨trialRun true, (trialRun true).toRef (2000000000 * atLeast1 (((trialRun true).rd UPD_CONFIRM_TMO).toNat % 2 ^ 16)), true,
   by decide +kernel, by decide +kernel, by decide +kernel, congrArg (State.toRef _) (by decide +kernel), by decide +kernel⟩,
   ⟨trialRun false, (trialRun false).toRef (2000000000 * atLeast1 (((trialRun false).rd UPD_CONFIRM_TMO).toNat % 2 ^ 16)), true,
   by decide +kernel, by decide +kernel, by decide +kernel, congrArg (State.toRef _) (by decide +kernel), by decide +kernel⟩,
   ⟨still, by decide +kernel⟩,
   ⟨{ (still.put SYS_STRAP_BOOTIF 3) with pwr := { phase := .boot } }, by decide +kernel⟩,
   ⟨{ jr still .confirmed .pending with pwr := { phase := .boot }, upd := { waiting := true } }, true, by decide +kernel⟩,
   ⟨{ jr still .pending .none with pwr := { phase := .boot }, upd := { waiting := true } }, false, by decide +kernel⟩,
   ⟨still, by decide +kernel⟩⟩

theorem witness_Turnovers :
    (∃ (s : State) (i : Iface) (n : Nat), s.reach (some i) UPD_SESS_CMD = .made ∧
    (s.flag CLU_CTL_EN = false ∨ s.get SYS_ADDR_CID = 0) ∧ s.foreign (srcOf i) = false ∧ s.updBar 1 = none ∧
    s.flag SYS_DIE_STAT_THL_UP = true ∧ n = (s.rd UPD_TURN_LO).toNat + 2 ^ 32 * ((s.rd UPD_TURN_HI).toNat % 256) ∧
    s.sess = sessReady ∧ s.spnSt = spnLocked ∧ s.absTick < s.hoAt n ∧ s.get UPD_STAT_TOV ≠ 2 ∧ s.running = true) ∧
    (∃ (s : State) (i : Iface) (n : Nat), s.reach (some i) UPD_SESS_CMD = .made ∧
    (s.flag CLU_CTL_EN = false ∨ s.get SYS_ADDR_CID = 0) ∧ s.foreign (srcOf i) = false ∧ s.updBar 1 = none ∧
    s.flag SYS_DIE_STAT_THL_UP = true ∧ n = (s.rd UPD_TURN_LO).toNat + 2 ^ 32 * ((s.rd UPD_TURN_HI).toNat % 256) ∧
    s.sess ≠ sessReady) ∧
    (∃ (s : State) (i : Iface) (n : Nat), s.reach (some i) UPD_SESS_CMD = .made ∧
    (s.flag CLU_CTL_EN = false ∨ s.get SYS_ADDR_CID = 0) ∧ s.foreign (srcOf i) = false ∧ s.updBar 1 = none ∧
    s.flag SYS_DIE_STAT_THL_UP = true ∧ n = (s.rd UPD_TURN_LO).toNat + 2 ^ 32 * ((s.rd UPD_TURN_HI).toNat % 256) ∧
    s.sess = sessReady ∧ s.spnSt ≠ spnLocked) ∧
    (∃ (s : State) (i : Iface) (n : Nat), s.reach (some i) UPD_SESS_CMD = .made ∧
    (s.flag CLU_CTL_EN = false ∨ s.get SYS_ADDR_CID = 0) ∧ s.foreign (srcOf i) = false ∧ s.updBar 1 = none ∧
    s.flag SYS_DIE_STAT_THL_UP = true ∧ n = (s.rd UPD_TURN_LO).toNat + 2 ^ 32 * ((s.rd UPD_TURN_HI).toNat % 256) ∧
    s.sess = sessReady ∧ s.spnSt = spnLocked ∧ s.hoAt n ≤ s.absTick) ∧
    (∃ (s : State) (i : Iface), s.reach (some i) UPD_SESS_CMD = .made ∧ s.flag CLU_CTL_EN = true ∧ s.get SYS_ADDR_CID ≠ 0) ∧
    (∃ (s : State) (u : State) (a : TurnArm) (b : Blank), s.upd.armed = some a ∧ s.blk = some b ∧ s.get UPD_STAT_TOV = 1 ∧
    s.placing = true ∧ u = s.toAbsTick (s.hoAt a.turn) ∧ u.absTick < a.turn * turnTicks ∧
    (a.fallback = true ∨ u.updBar 1 = none ∧ u.turnBar none = none ∧ u.flag SYS_DIE_STAT_THL_UP = true)) ∧
    (∃ (s : State) (u : State) (a : TurnArm) (b : Blank), s.upd.armed = some a ∧ s.blk = some b ∧ s.get UPD_STAT_TOV = 1 ∧
    s.placing = true ∧ u = s.toAbsTick (s.hoAt a.turn) ∧ u.absTick < a.turn * turnTicks ∧
    (a.fallback = true ∨ u.updBar 1 = none ∧ u.turnBar none = none ∧ u.flag SYS_DIE_STAT_THL_UP = true)) ∧
    (∃ (s : State) (u : State) (a : TurnArm) (b : Blank), s.upd.armed = some a ∧ s.blk = some b ∧ s.get UPD_STAT_TOV = 1 ∧
    s.placing = true ∧ u = s.toAbsTick (s.hoAt a.turn) ∧ u.absTick < a.turn * turnTicks ∧ a.fallback = false ∧
    u.updBar 1 ≠ none) ∧
    (∃ (s : State) (u : State) (a : TurnArm) (b : Blank), s.upd.armed = some a ∧ s.blk = some b ∧ s.get UPD_STAT_TOV = 1 ∧
    s.placing = true ∧ u = s.toAbsTick (s.hoAt a.turn) ∧
    (a.turn * turnTicks ≤ u.absTick ∨ a.fallback = false ∧ u.updBar 1 = none ∧ (u.turnBar none ≠ none ∨ u.flag SYS_DIE_STAT_THL_UP = false))) ∧
    (∃ (s : State) (u : State) (a : TurnArm) (b : Blank), s.upd.armed = some a ∧ s.blk = some b ∧ s.get UPD_STAT_TOV = 1 ∧
    s.placing = true ∧ u = s.toAbsTick (s.hoAt a.turn) ∧
    (a.turn * turnTicks ≤ u.absTick ∨ a.fallback = false ∧ u.updBar 1 = none ∧ (u.turnBar none ≠ none ∨ u.flag SYS_DIE_STAT_THL_UP = false))) ∧
    (∃ (s : State) (a : TurnArm) (b : Blank), s.upd.armed = some a ∧ s.blk = some b ∧ s.get UPD_STAT_TOV = 2 ∧
    s.running = true ∧ s.upd.area = none ∧ s.flag CHK_STAT_SPILL = false) ∧
    (∃ (s : State) (a : TurnArm) (b : Blank), s.upd.armed = some a ∧ s.blk = some b ∧ s.get UPD_STAT_TOV = 2 ∧
    s.running = true ∧ s.upd.area = none ∧ s.flag CHK_STAT_SPILL = true) ∧
    (∃ (s : State), (s.upd.armed = none ∨ s.blk = none ∨ s.get UPD_STAT_TOV ≠ 1 ∧ s.get UPD_STAT_TOV ≠ 2 ∨ s.running = false)) ∧
    (∃ (s : State) (a : TurnArm) (b : Blank), s.upd.armed = some a ∧ s.blk = some b ∧ s.get UPD_STAT_TOV = 2 ∧
    s.atTurnStart = true ∧ s.turn = a.turn ∧ s.upd.area = none) ∧
    (∃ (s : State) (a : TurnArm) (b : Blank) (g : Handover), s.upd.armed = some a ∧ s.blk = some b ∧ s.get UPD_STAT_TOV = 2 ∧
    s.atTurnStart = true ∧ s.turn = a.turn ∧ s.upd.area = some g) ∧
    (∃ (s : State), (s.upd.armed = none ∨ s.blk = none ∨ s.get UPD_STAT_TOV ≠ 2 ∨ s.atTurnStart = false ∨ (∀ a, s.upd.armed = some a → s.turn ≠ a.turn))) ∧
    (∃ (s : State), (s.upd.armed = none ∨ s.blk = none ∨ s.get UPD_STAT_TOV ≠ 2 ∨ s.atTurnStart = false ∨ (∀ a, s.upd.armed = some a → s.turn ≠ a.turn))) ∧
    (∃ (s : State) (h : Handover), s.upd.ho = some h) ∧
    (∃ (s : State) (h : Handover) (bad : _), s.upd.ho = some h ∧ areaHolds bad = false) ∧
    (∃ (s : State), s.upd.ho = none) :=
  ⟨⟨(ready.wr UPD_TURN_LO 0xFFFFFFFF).wr UPD_TURN_HI 0xFF, .pcie, 1099511627775, by decide +kernel⟩,
   ⟨still, .pcie, 0, by decide +kernel⟩,
   ⟨(ready.put SPN_STAT_STATE spnHoldover), .pcie, 0, by decide +kernel⟩,
   ⟨ready, .pcie, 0, by decide +kernel⟩,
   ⟨(ready.put CLU_CTL_EN 1).put SYS_ADDR_CID 1, .pcie, by decide +kernel⟩,
   ⟨arm ready false 10000000, (arm ready false 10000000).toAbsTick ((arm ready false 10000000).hoAt 10000000),
   ⟨10000000, false, false⟩, {}, by decide +kernel, by decide +kernel, by decide +kernel, by decide +kernel,
   congrArg (State.toAbsTick _) (by decide +kernel), by decide +kernel⟩,
   ⟨arm up' true 10000000, (arm up' true 10000000).toAbsTick ((arm up' true 10000000).hoAt 10000000), ⟨10000000, false, true⟩,
   {}, by decide +kernel, by decide +kernel, by decide +kernel, by decide +kernel,
   congrArg (State.toAbsTick _) (by decide +kernel), by decide +kernel⟩,
   ⟨(arm ready false 10000000).put SYS_SUPPLY_LOW 1,
   ((arm ready false 10000000).put SYS_SUPPLY_LOW 1).toAbsTick ((arm ready false 10000000).hoAt 10000000),
   ⟨10000000, false, false⟩, {}, by decide +kernel, by decide +kernel, by decide +kernel, by decide +kernel,
   congrArg (State.toAbsTick _) (by decide +kernel), by decide +kernel⟩,
   ⟨arm ready false 5, (arm ready false 5).toAbsTick ((arm ready false 5).hoAt 5), ⟨5, false, false⟩, {}, by decide +kernel,
   by decide +kernel, by decide +kernel, by decide +kernel, congrArg (State.toAbsTick _) (by decide +kernel), by decide +kernel⟩,
   ⟨arm up' false 10000000, (arm up' false 10000000).toAbsTick ((arm ready false 10000000).hoAt 10000000),
   ⟨10000000, false, false⟩, {}, by decide +kernel, by decide +kernel, by decide +kernel, by decide +kernel,
   congrArg (State.toAbsTick _) (by decide +kernel), by decide +kernel⟩,
   ⟨(routed .pending |> fun s => { (arm ready false 10000000).put UPD_STAT_TOV 2 with prs := s.prs, tsk := { s.tsk with evq := [ev0], tasks := { k0 with st := .ready } :: s.tsk.tasks } }),
   ⟨10000000, false, false⟩, {}, by decide +kernel⟩,
   ⟨((arm ready false 10000000).put UPD_STAT_TOV 2).put CHK_STAT_SPILL 1, ⟨10000000, false, false⟩, {}, by decide +kernel⟩,
   ⟨ready, by decide +kernel⟩,
   ⟨{ ((arm ready false ready.turn).put UPD_STAT_TOV 2) with spn := { ready.spn with turnRef := ready.ref } },
   ⟨ready.turn, false, false⟩, {}, by decide +kernel⟩,
   ⟨({ ((arm ready false ready.turn).put UPD_STAT_TOV 2) with spn := { ready.spn with turnRef := ready.ref } } |> fun s => { s with upd := { s.upd with area := some ho0 } }),
   ⟨ready.turn, false, false⟩, {}, ho0, by decide +kernel⟩,
   ⟨ready, by decide +kernel⟩,
   ⟨{ ((arm ready false (ready.turn + 1)).put UPD_STAT_TOV 2) with spn := { ready.spn with turnRef := ready.ref } },
   by decide +kernel⟩,
   ⟨{ ready with upd := { ready.upd with ho := some ho0 } }, ho0, by decide +kernel⟩,
   ⟨{ ready with upd := { ready.upd with ho := some ho0 } }, ho0, [], by decide +kernel⟩,
   ⟨ready, by decide +kernel⟩⟩

theorem witness_SlotAging :
    (∃ (s : State) (seq : Word) (x : Slot), s.clockOn = true ∧ s.slotOf? seq.toNat = some x ∧ x.flow.isSome = true ∧
    (x.st = .pending ∨ x.st = .redisp) ∧ (s.rd ROB_AGE).toNat % 65536 ≠ 0) ∧
    (∃ (s : State) (seq : Word) (x : Slot), s.clockOn = true ∧ s.slotOf? seq.toNat = some x ∧ x.flow.isSome = true ∧
    (x.st = .pending ∨ x.st = .redisp) ∧ (s.rd ROB_AGE).toNat % 65536 ≠ 0) ∧
    (∃ (s : State) (seq : Word) (x : Slot), s.slotOf? seq.toNat = some x ∧
    (x.flow = none ∨ x.st ≠ .pending ∧ x.st ≠ .redisp ∨ (s.rd ROB_AGE).toNat % 65536 = 0)) ∧
    (∃ (s : State) (seq : Word) (x : Slot), s.slotOf? seq.toNat = some x ∧
    (x.flow = none ∨ x.st ≠ .pending ∧ x.st ≠ .redisp ∨ (s.rd ROB_AGE).toNat % 65536 = 0)) ∧
    (∃ (s : State) (seq : Word), s.slotOf? seq.toNat = none) ∧
    (∃ (s : State) (e : Fin 16) (n : Fin 4) (w : ActWord) (x : Thread) (k : Task) (q : Nat), s.gets (thr e n) 0x3F w x ∧
    s.taskOf x.desc = some k ∧ k.slot = some q ∧ s.liveSlot q = false ∧ (w.x.getLsbD 0 = true ∨ ∃ l, outEntries x.loc = .ok l)) :=
  ⟨⟨withSlot (chained rtr) (flowed .pending []), 5, flowed .pending [], by decide +kernel⟩,
   ⟨withSlot (chained (rtr.wr ROB_AGE 0xFFFF)) (flowed .redisp []), 5, flowed .redisp [], by decide +kernel⟩,
   ⟨withSlot rtr slot0, 5, slot0, by decide +kernel⟩,
   ⟨withSlot (rtr.wr ROB_AGE 0xFFFF0000) (flowed .pending []), 5, flowed .pending [], by decide +kernel⟩,
   ⟨rtr, 9, by decide +kernel⟩,
   ⟨putWord (routed .hole) (wd 3 1 2 1 17) 0x3F, 15, 3, wd 3 1 2 1 17, { x0 with pkt := some (List.replicate 20 8) },
   { k0 with slot := some 5 }, 5, gets_of (by decide +kernel), by decide +kernel, by decide +kernel, by decide +kernel,
   .inl (by decide +kernel)⟩⟩

theorem witness_ClockCommands :
    (∃ (s : State) (i : Fin 8), s.reach none (RTC_SEC + 4 * i.val) = .made ∧ ¬(i = 6 ∧ s.compat = true)) ∧
    (∃ (s : State) (i : Fin 8), s.reach none (RTC_SEC + 4 * i.val) = .made ∧ ¬(i = 6 ∧ s.compat = true)) ∧
    (∃ (s : State), s.reach none RTC_CENTURY = .made ∧ s.compat = true) ∧
    (∃ (s : State) (c : Calendar), s.reach none RTC_SET_CMD = .made ∧ s.rtc.held = some c ∧ c.ok = true) ∧
    (∃ (s : State) (c : Calendar), s.reach none RTC_SET_CMD = .made ∧ s.rtc.held = some c ∧ c.ok = false) ∧
    (∃ (s : State) (c : Calendar), s.reach none RTC_SET_CMD = .made ∧ s.rtc.held = some c ∧ c.ok = false) ∧
    (∃ (s : State), s.reach none RTC_SET_CMD = .made) ∧
    (∃ (s : State) (c : Calendar), s.rtc.pend = none ∧ s.rtc.held = some c) ∧
    (∃ (s : State), s.rtc.pend ≠ none) ∧
    (∃ (s : State), s.rtc.pend ≠ none) ∧
    (∃ (s : State), s.rtc.pend = none ∧ s.rtc.held = none) ∧
    (∃ (s : State) (n : BitVec 16), s.reach none RTC_SHIFT = .made ∧ s.rtc.withhold = 0 ∧ n ≠ 0 ∧ n ≠ 0x8000) ∧
    (∃ (s : State) (n : BitVec 16), s.reach none RTC_SHIFT = .made ∧ s.rtc.withhold = 0 ∧ n ≠ 0 ∧ n ≠ 0x8000) ∧
    (∃ (s : State) (n : BitVec 16), s.reach none RTC_SHIFT = .made ∧ s.rtc.withhold = 0 ∧ n ≠ 0 ∧ n ≠ 0x8000) ∧
    (∃ (s : State) (n : BitVec 16), s.reach none RTC_SHIFT = .made ∧ (n = 0 ∨ n = 0x8000 ∨ s.rtc.withhold ≠ 0)) ∧
    (∃ (s : State) (n : BitVec 16), s.reach none RTC_SHIFT = .made ∧ (n = 0 ∨ n = 0x8000 ∨ s.rtc.withhold ≠ 0)) ∧
    (∃ (s : State) (n : BitVec 16), s.reach none RTC_SHIFT = .made ∧ (n = 0 ∨ n = 0x8000 ∨ s.rtc.withhold ≠ 0)) :=
  ⟨⟨up, 7, by decide +kernel⟩,
   ⟨up, 0, by decide +kernel⟩,
   ⟨up.put RTC_STAT_MODE 1, by decide +kernel⟩,
   ⟨calOf up leapDay, leapDay, by decide +kernel⟩,
   ⟨calOf up { leapDay with date := 0x32 }, { leapDay with date := 0x32 }, by decide +kernel⟩,
   ⟨calOf up { leapDay with sec := 0x5A }, { leapDay with sec := 0x5A }, by decide +kernel⟩,
   ⟨calOf up leapDay, by decide +kernel⟩,
   ⟨calOf up leapDay, leapDay, by decide +kernel⟩,
   ⟨{ calOf up leapDay with rtc := { (calOf up leapDay).rtc with pend := some (leapDay, none), pendAt := 900 } },
   by decide +kernel⟩,
   ⟨{ up with rtc := { up.rtc with pend := some (leapDay, some true), pendAt := 900 } }, by decide +kernel⟩,
   ⟨up, by decide +kernel⟩,
   ⟨up, 0x7FFF, by decide +kernel⟩,
   ⟨up, 0x8001, by decide +kernel⟩,
   ⟨up, 0xFFFF, by decide +kernel⟩,
   ⟨up, 0, by decide +kernel⟩,
   ⟨up, 0x8000, by decide +kernel⟩,
   ⟨{ up with rtc := { up.rtc with withhold := 1 } }, 5, by decide +kernel⟩⟩

theorem witness_ClockEvents :
    (∃ (s : State), s.flag RTC_STAT_OSC_RUN = true) ∧
    (∃ (s : State), s.flag RTC_STAT_SRC = true) ∧
    (∃ (s : State), s.flag RTC_STAT_SRC = true) ∧
    (∃ (s : State), s.reach none RTC_SEC = .made) ∧
    (∃ (s : State), s.reach none RTC_SEC = .made) ∧
    (∃ (s : State), s.reach none RTC_YEAR = .made) ∧
    (∃ (s : State) (n : Nat), s.rtc.frozenAt = some n) :=
  ⟨⟨((up.put RTC_STAT_OSC_RUN 1).put PWR_RAIL_AON 1), by decide +kernel⟩,
   ⟨rtcOn, by decide +kernel⟩,
   ⟨rtcOn.put RTC_STAT_VBAT_LOW 1, by decide +kernel⟩,
   ⟨up, by decide +kernel⟩,
   ⟨{ up with rtc := { up.rtc with frozenAt := some 5 } }, by decide +kernel⟩,
   ⟨{ up with rtc := { up.rtc with frozenAt := some 5 } }, by decide +kernel⟩,
   ⟨{ up with rtc := { up.rtc with frozenAt := some 5 } }, 5, by decide +kernel⟩⟩

theorem witness_FaultEventIsClassed :
    (∃ (s : State) (e : FltEvent) (q : List FltEvent), s.clockOn = true ∧
    ((s.fltSrc e.src).state = 0 ∨ (s.policy e.src).quiet = 0) ∧ s.flt.queue = e :: q ∧ s.flag FLT_CTL_EN = true ∧
    e.second = false ∧ (s.policy e.src).minor ||| 5 = 5 ∧ (s.policy e.src).major ||| 5 = 5) ∧
    (∃ (s : State) (e : FltEvent) (q : List FltEvent), s.clockOn = true ∧
    ((s.fltSrc e.src).state = 0 ∨ (s.policy e.src).quiet = 0) ∧ s.flt.queue = e :: q ∧ s.flag FLT_CTL_EN = true ∧
    e.second = false ∧ (s.policy e.src).minor ||| 5 = 5 ∧ (s.policy e.src).major ||| 5 = 5) ∧
    (∃ (s : State) (e : FltEvent) (q : List FltEvent), s.clockOn = true ∧ (s.fltSrc e.src).state = 0 ∧ s.flt.queue = e :: q ∧
    s.flag FLT_CTL_EN = true ∧ e.second = false ∧ (s.policy e.src).n ≤ 1 ∧ (s.policy e.src).major = 16 ∧
    s.get PWR_LAST_BOOT ≠ bootFault ∧ countAfter (s.fltSrc e.src) e = 1) ∧
    (∃ (s : State) (e : FltEvent) (q : List FltEvent), s.clockOn = true ∧ s.flt.queue = e :: q ∧ s.flag FLT_CTL_EN = true ∧
    e.second = true) :=
  ⟨⟨fltOn [fe], fe, [], by decide +kernel⟩,
   ⟨srcAt (pols (fltOn [fe, { fe with src := 3 }]) (pol 191 3 100 0 5 5)) 191 { state := 1, count := 2, winEnd := some 1000 },
   fe, [{ fe with src := 3 }], by decide +kernel⟩,
   ⟨pols (fltOn [fe]) (pol 191 1 100 7 0 16), fe, [], by decide +kernel⟩,
   ⟨fltOn [{ fe with second := true }], { fe with second := true }, [], by decide +kernel⟩⟩

theorem witness_FaultCollectorCommands :
    (∃ (s : State) (src : BitVec 8) (w : Nat), s.clockOn = true ∧ (s.fltSrc src.toNat).winEnd = some w ∧
    s.fltDue src.toNat (w - 1) = false) ∧
    (∃ (s : State) (src : BitVec 8) (w : Nat), s.clockOn = true ∧ (s.fltSrc src.toNat).winEnd = some w ∧
    s.fltDue src.toNat (w - 1) = false) ∧
    (∃ (s : State) (src : BitVec 8), s.clockOn = true ∧ (s.fltSrc src.toNat).state ≠ 0 ∧ (s.policy src.toNat).quiet ≠ 0 ∧
    s.fltDue src.toNat ((s.fltSrc src.toNat).last + 2000000 * (s.policy src.toNat).quiet) = false ∧
    (s.fltSrc src.toNat).iso = none) ∧
    (∃ (s : State) (k : Nat), s.reach none FLT_SRC_CMD = .made ∧ k = (s.rd FLT_SRC_SEL).toNat % 256 ∧ k ≤ 191 ∧
    (s.fltSrc k).state ≠ 0 ∧ (s.fltSrc k).iso = none) ∧
    (∃ (s : State), s.reach none FLT_RING = .made) ∧
    (∃ (s : State), s.reach none FLT_RING = .made) ∧
    (∃ (s : State), s.reach none FLT_ERRN_CTL = .made) ∧
    (∃ (s : State), s.reach none FLT_ERRN_CTL = .made) ∧
    (∃ (s : State) (a : Nat), s.clockOn = true ∧ s.flt.errn = some a) ∧
    (∃ (s : State) (a : Nat), s.clockOn = true ∧ s.flt.errn = some a) :=
  ⟨⟨srcAt (fltOn []) 255 { state := 1, count := 2, winEnd := some 1000 }, 255, 1000, by decide +kernel⟩,
   ⟨srcAt (fltOn [{ fe with cycle := 500 }]) 191 { state := 1, count := 2, winEnd := some 1000 }, 191, 1000, by decide +kernel⟩,
   ⟨srcAt (pols (fltOn []) (pol 191 1 100 7 0 0)) 191 { state := 2, recovered := 0xFFFF }, 191, by decide +kernel⟩,
   ⟨srcAt (up.wr FLT_SRC_SEL 191) 191 { state := 2 }, 191, by decide +kernel⟩,
   ⟨up, by decide +kernel⟩,
   ⟨up.wr FLT_RING 0x0500, by decide +kernel⟩,
   ⟨up, by decide +kernel⟩,
   ⟨{ up with flt := { up.flt with errn := some 7 } }, by decide +kernel⟩,
   ⟨{ up with flt := { up.flt with errn := some 7 } }, 7, by decide +kernel⟩,
   ⟨{ up with flt := { up.flt with errn := some 7 } }, 7, by decide +kernel⟩⟩

theorem witness_LaneIsolation :
    (∃ (s : State) (l : Nat), l < 4 ∧ (s.rd CIP_CTL).getLsbD l = true) ∧
    (∃ (s : State) (l : Nat), l < 4 ∧ (s.rd CIP_CTL).getLsbD l = true) ∧
    (∃ (s : State) (l : Nat) (k : _), l < 4 ∧ (s.rd CIP_CTL).getLsbD l = true ∧ k < 32 ∧ k ≠ l) ∧
    (∃ (s : State) (l : Nat) (a : Nat), l < 4 ∧ (s.fltSrc (149 + l)).iso = some a) ∧
    (∃ (s : State) (l : Nat), l < 4 ∧ (s.fltSrc (149 + l)).iso = some CIP_CTL) :=
  ⟨⟨up.wr CIP_CTL 15, 3, by decide +kernel⟩,
   ⟨up.wr CIP_CTL 15, 3, by decide +kernel⟩,
   ⟨up.wr CIP_CTL 15, 3, 2, by decide +kernel⟩,
   ⟨srcAt up 152 { iso := some CIP_CTL }, 3, CIP_CTL, by decide +kernel⟩,
   ⟨srcAt up 152 { iso := some CIP_CTL }, 3, by decide +kernel⟩⟩

theorem witness_IdleTimeTest :
    (∃ (s : State) (k : Nat), s.flag ITT_CTL_EN = true ∧ s.itt.going = false ∧ s.running = true ∧ s.itt.round = none ∧
    s.ittNext 0 = some k) ∧
    (∃ (s : State) (r : Fin 3) (w : Window) (st : Nat) (en : Nat), s.windowOf r s.absTick = some (w, st, en) ∧ w.kind = 9 ∧
    s.ittMay = true ∧ s.get ITT_POS_TEST < ittRtcFreq ∧ s.ittOn (s.get ITT_POS_TEST) = true ∧
    (s.get ITT_POS_TEST = ittRfLoop → s.get ITT_POS_BLK / 4 = r.val) ∧ s.absTick + ittMax (s.get ITT_POS_TEST) ≤ en ∧
    (s.rd ITT_USED).toNat + ittMax (s.get ITT_POS_TEST) ≤ s.ittBudget ∧ s.ittSpare (s.get ITT_POS_TEST) = true) ∧
    (∃ (s : State) (k : Nat) (a : Nat), s.itt.step = some (k, a) ∧ k < ittRtcFreq) ∧
    (∃ (s : State) (k : Nat) (a : Nat), s.itt.step = some (k, a) ∧ k < ittRtcFreq) ∧
    (∃ (s : State) (n : Nat), s.itt.round = some n ∧ s.flag ITT_CTL_EN = true ∧ s.itt.going = true ∧ s.itt.starved = false) ∧
    (∃ (s : State) (a : Nat), s.itt.step = some (ittRtcFreq, a)) :=
  ⟨⟨{ ittUp with itt := {} }, 0, by decide +kernel⟩,
   ⟨ittUp.put ITT_POS_TEST 0, 0, ⟨0, 0xF00000, 9, 3, 0, 0, 0, 0, 0⟩, 788529152, 804257792, by decide +kernel⟩,
   ⟨{ ittUp with itt := { ittUp.itt with step := some (5, 9) } }, 5, 9, by decide +kernel⟩,
   ⟨{ ittUp with itt := { ittUp.itt with step := some (0, 9) } }, 0, 9, by decide +kernel⟩,
   ⟨ittUp, 3, by decide +kernel⟩,
   ⟨{ ittUp with itt := { ittUp.itt with step := some (6, 9) } }, 9, by decide +kernel⟩⟩

theorem witness_HostRings :
    (∃ (s : State) (q : Fin 32) (w : HostOut), s.clockOn = true ∧
    s.hif.wait.find? (fun w => w.q == q.val && w.held.isNone) = some w) ∧
    (∃ (s : State) (q : Fin 32) (w : HostOut), s.clockOn = true ∧
    s.hif.wait.find? (fun w => w.q == q.val && w.held.isNone) = some w) ∧
    (∃ (s : State) (q : Fin 32) (w : HostOut), s.clockOn = true ∧
    s.hif.wait.find? (fun w => w.q == q.val && w.held.isSome) = some w) ∧
    (∃ (s : State) (q : Fin 32), s.reach none (HIF_Q_RX_TAIL q.val) = .made) ∧
    (∃ (s : State) (q : Fin 32), s.reach none (HIF_Q_TX_TAIL q.val) = .made) ∧
    (∃ (s : State) (q : Fin 32), s.reach none (HIF_Q_CFG q.val) = .made ∧ s.get HIF_STAT_PHASE = 3 ∧
    s.flag (HIF_Q_CFG_RX_EN q.val) = false ∧ s.flag (HIF_Q_CFG_TX_EN q.val) = false) ∧
    (∃ (s : State) (q : Fin 32) (v : Word), s.reach none (HIF_Q_CFG q.val) = .made ∧ s.flag (HIF_Q_CFG_RX_EN q.val) = true ∧
    v.getLsbD 0 = false) ∧
    (∃ (s : State) (q : Fin 32) (tx : Bool), s.clockOn = true ∧ (s.modGet (modKey q.val tx)).count ≠ 0 ∧
    s.get (if tx then HIF_Q_IRQ_TX_USEC q.val else HIF_Q_IRQ_RX_USEC q.val) ≠ 0) ∧
    (∃ (s : State) (q : Fin 32) (tx : Bool), s.clockOn = true ∧ (s.modGet (modKey q.val tx)).count ≠ 0 ∧
    s.get (if tx then HIF_Q_IRQ_TX_USEC q.val else HIF_Q_IRQ_RX_USEC q.val) ≠ 0) :=
  ⟨⟨waitingOut [held1, ho1], 31, ho1, by decide +kernel⟩,
   ⟨waitingOut [{ ho1 with bytes := [] }], 31, { ho1 with bytes := [] }, by decide +kernel⟩,
   ⟨waitingOut [held1, ho1], 31, held1, by decide +kernel⟩,
   ⟨hifUp.put (HIF_Q_CFG_RX_EN 31) 1, 31, by decide +kernel⟩,
   ⟨hifUp.put (HIF_Q_CFG_TX_EN 31) 1, 31, by decide +kernel⟩,
   ⟨hifUp, 31, by decide +kernel⟩,
   ⟨{ hifUp.put (HIF_Q_CFG_RX_EN 31) 1 with hif := { up.hif with wait := [ho1] } }, 31, 2, by decide +kernel⟩,
   ⟨(hifUp.put (HIF_Q_IRQ_TX_USEC 31) 255).modSet 63 { count := 2, first := 9 }, 31, true, by decide +kernel⟩,
   ⟨(hifUp.put (HIF_Q_IRQ_RX_USEC 31) 255).modSet 62 { count := 2, first := 9 }, 31, false, by decide +kernel⟩⟩

theorem witness_TransmitRing :
    (∃ (s : State) (descs : List TxDesc) (q : Nat) (c : List TxDesc) (id : Nat), s.clockOn = true ∧ s.serving = true ∧
    s.txTurn = some q ∧ txChain 16 (descs.take (s.txd q)) = some c ∧ txBad c = false ∧ s.flag PRS_CTL_EN = true ∧
    s.prs.slots.length < 8192 ∧
    (({ s with hif := { s.hif with lastTx := q, stalled := s.hif.stalled.filter (· != q) } }).alloc ownHif (txLen c) (txData c)).2 = some id) ∧
    (∃ (s : State) (descs : List TxDesc) (q : Nat) (c : List TxDesc) (id : Nat), s.clockOn = true ∧ s.serving = true ∧
    s.txTurn = some q ∧ txChain 16 (descs.take (s.txd q)) = some c ∧ txBad c = false ∧ s.flag PRS_CTL_EN = true ∧
    s.prs.slots.length < 8192 ∧
    (({ s with hif := { s.hif with lastTx := q, stalled := s.hif.stalled.filter (· != q) } }).alloc ownHif (txLen c) (txData c)).2 = some id) ∧
    (∃ (s : State) (descs : List TxDesc) (q : Nat) (c : List TxDesc), s.clockOn = true ∧ s.serving = true ∧ s.txTurn = some q ∧
    txChain 16 (descs.take (s.txd q)) = some c ∧ txBad c = false ∧ s.flag PRS_CTL_EN = true ∧ 8192 ≤ s.prs.slots.length ∧
    q ∈ s.hif.stalled) ∧
    (∃ (s : State) (descs : List TxDesc) (q : Nat) (c : List TxDesc), s.clockOn = true ∧ s.serving = true ∧ s.txTurn = some q ∧
    txChain 16 (descs.take (s.txd q)) = some c ∧ txBad c = false ∧ s.flag PRS_CTL_EN = true ∧ 8192 ≤ s.prs.slots.length ∧
    q ∉ s.hif.stalled) ∧
    (∃ (s : State) (descs : List TxDesc) (q : Nat) (c : List TxDesc), s.clockOn = true ∧ s.serving = true ∧ s.txTurn = some q ∧
    txChain 16 (descs.take (s.txd q)) = some c ∧ txBad c = true) ∧
    (∃ (s : State) (descs : List TxDesc) (q : Nat) (c : List TxDesc), s.clockOn = true ∧ s.serving = true ∧ s.txTurn = some q ∧
    txChain 16 (descs.take (s.txd q)) = some c ∧ txBad c = true) :=
  ⟨⟨txOn, [desc 60 1, desc 40 2], 31, [desc 60 1, desc 40 2], 0, by decide +kernel⟩,
   ⟨txOn, [desc 9600 3], 31, [desc 9600 3], 0, by decide +kernel⟩,
   ⟨{ filled txOn with hif := { txOn.hif with stalled := [31] } }, [desc 60 3], 31, [desc 60 3], by decide +kernel⟩,
   ⟨filled txOn, [desc 60 3], 31, [desc 60 3], by decide +kernel⟩,
   ⟨txOn, [desc 9601 3], 31, [desc 9601 3], by decide +kernel⟩,
   ⟨txOn, [desc 60 2], 31, [desc 60 2], by decide +kernel⟩⟩

theorem witness_LinksAndHeartbeat :
    (∃ (s : State), s.clockOn = true) ∧
    (∃ (s : State), s.clockOn = true) ∧
    (∃ (s : State), s.clockOn = true) ∧
    (∃ (s : State), s.flag HIF_STAT_LINK = true) ∧
    (∃ (s : State), s.reach none HIF_HB = .made) ∧
    (∃ (s : State), s.clockOn = true ∧ s.get HIF_HB_CFG_TMO ≠ 0 ∧ s.flag HIF_STAT_HOST_LOST = false) ∧
    (∃ (s : State) (l : Fin 3) (new : Bool), s.flag (linkUpF l) = true ∧ (if new then 1 else s.linkFails[l] + 1) ≤ 4) ∧
    (∃ (s : State) (l : Fin 3) (new : Bool), s.flag (linkUpF l) = true ∧ (if new then 1 else s.linkFails[l] + 1) ≤ 4) ∧
    (∃ (s : State) (l : Fin 3), s.flag (linkUpF l) = true ∧ 4 ≤ s.linkFails[l]) ∧
    (∃ (s : State), s.spn.frond.free.isSome = true) ∧
    (∃ (s : State), s.spn.frond.free = none ∧ s.flag FLT_CTL_EN = true ∧ s.flt.queue.length < 64) :=
  ⟨⟨hifUp.put (HIF_Q_CFG_RX_EN 31) 1, by decide +kernel⟩,
   ⟨hifUp.put (HIF_Q_CFG_TX_EN 31) 1, by decide +kernel⟩,
   ⟨txOn, by decide +kernel⟩,
   ⟨(txOn.put HIF_STAT_LINK 1), by decide +kernel⟩,
   ⟨up.put HIF_STAT_HOST_LOST 1, by decide +kernel⟩,
   ⟨{ up.put HIF_HB_CFG_TMO 255 with hif := { up.hif with wait := [held1, ho1] } }, by decide +kernel⟩,
   ⟨(up.put (linkUpF 2) 1).put (linkRetryF 2) 255, 2, true, by decide +kernel⟩,
   ⟨{ up.put (linkUpF 2) 1 with linkFails := up.linkFails.set 2 3 }, 2, false, by decide +kernel⟩,
   ⟨{ (up.put (linkUpF 2) 1).put FLT_CTL_EN 1 with linkFails := up.linkFails.set 2 4 }, 2, by decide +kernel⟩,
   ⟨alone1, by decide +kernel⟩,
   ⟨up.put FLT_CTL_EN 1, by decide +kernel⟩⟩

theorem witness_RegisterAccess :
    (∃ (s : State) (i : Iface) (a : BitVec 26) (x : RegRow), s.reach (some i) a.toNat = .made ∧ plainAddr s a.toNat ∧
    regRow a.toNat = some x ∧ (a.toNat / 0x10000 = 3 ∨ a.toNat / 0x10000 = 9)) ∧
    (∃ (s : State) (i : Iface) (a : BitVec 26) (x : RegRow), s.reach (some i) a.toNat = .made ∧ plainAddr s a.toNat ∧
    regRow a.toNat = some x ∧ (a.toNat / 0x10000 = 3 ∨ a.toNat / 0x10000 = 9)) ∧
    (∃ (s : State) (i : Iface) (a : BitVec 26) (x : RegRow), s.reach (some i) a.toNat = .made ∧ plainAddr s a.toNat ∧
    regRow a.toNat = some x ∧ (a.toNat / 0x10000 = 3 ∨ a.toNat / 0x10000 = 9)) ∧
    (∃ (s : State) (i : Iface) (a : BitVec 26) (x : RegRow), s.reach (some i) a.toNat = .made ∧ plainAddr s a.toNat ∧
    regRow a.toNat = some x) ∧
    (∃ (s : State) (a : BitVec 26), s.reach (some .pcie) a.toNat ≠ .silent) ∧
    (∃ (s : State) (a : BitVec 26), s.reach (some .pcie) a.toNat ≠ .silent) ∧
    (∃ (s : State) (i : Iface) (a : BitVec 26), s.reach (some i) a.toNat = .counted) ∧
    (∃ (s : State) (i : Iface) (a : BitVec 26), s.reach (some i) a.toNat = .counted) ∧
    (∃ (s : State) (count : BitVec 8) (ofs : Word) (cut : HspCut), s.powered = true ∧ s.hspBusy = false ∧ cut ≠ .beforeCrc ∧
    ofs.toNat % 4 = 0 ∧ ofs.toNat + 4 * (count.toNat + 1) ≤ 0x4000000) ∧
    (∃ (s : State) (count : BitVec 8) (ofs : Word) (cut : HspCut), s.powered = true ∧ s.hspBusy = false ∧ cut ≠ .beforeCrc ∧
    ofs.toNat % 4 = 0 ∧ ofs.toNat + 4 * (count.toNat + 1) ≤ 0x4000000) ∧
    (∃ (s : State) (ofs : Word) (data : List Word), s.powered = true ∧ s.hspBusy = false ∧ ofs.toNat % 4 = 0 ∧
    ofs.toNat + 4 * data.length ≤ 0x4000000) ∧
    (∃ (s : State) (ofs : Word) (data : List Word), s.powered = true ∧ s.hspBusy = false ∧ ofs.toNat % 4 = 0 ∧
    ofs.toNat + 4 * data.length ≤ 0x4000000) :=
  ⟨⟨up, .hsp, 0x3000C, ⟨0x3000C, [], 0x7F, 0x0, 0x0, 0x0, 0x7F⟩, by decide +kernel, by unfold plainAddr; decide +kernel,
   by decide +kernel⟩,
   ⟨up.wr CIP_EVT 3, .pcie, 0x90008, ⟨0x90008, [], 0x0, 0x1FF, 0x0, 0x0, 0x0⟩, by decide +kernel,
   by unfold plainAddr; decide +kernel, by decide +kernel⟩,
   ⟨up.wr CIP_EVT 3, .pcie, 0x90008, ⟨0x90008, [], 0x0, 0x1FF, 0x0, 0x0, 0x0⟩, by decide +kernel,
   by unfold plainAddr; decide +kernel, by decide +kernel⟩,
   ⟨up.wr CIP_CNT_MIC 7, .hsp, 0x90108, ⟨0x90108, [], 0x0, 0x0, 0x0, 0xFFFFFFFF, 0x0⟩, by decide +kernel,
   by unfold plainAddr; decide +kernel, by decide +kernel⟩,
   ⟨up, 0x3000C, by decide +kernel⟩,
   ⟨up, 0x3000D, by decide +kernel⟩,
   ⟨up, .hsp, 0x380000, by decide +kernel⟩,
   ⟨up, .hsp, 0x380000, by decide +kernel⟩,
   ⟨up, 2, 0x3000C, .none, by decide +kernel⟩,
   ⟨up, 0, 0x0A0000, .afterOk, by decide +kernel⟩,
   ⟨up, 0x3000C, [5, 6], by decide +kernel⟩,
   ⟨up, 0x0A0000, [5], by decide +kernel⟩⟩

theorem witness_ClearRace :
    (∃ (s : State) (i : Iface) (a : BitVec 26) (set : Word) (x : RegRow) (k : Nat), s.reach (some i) a.toNat = .made ∧
    inWindows a.toNat = false ∧ regRow a.toNat = some x ∧ x.w1c.getLsbD k = true ∧ (s.rd a.toNat).getLsbD k = true ∧
    set.getLsbD k = true) ∧
    (∃ (s : State) (i : Iface) (a : BitVec 26) (set : Word) (x : RegRow) (k : Nat), s.reach (some i) a.toNat = .made ∧
    inWindows a.toNat = false ∧ regRow a.toNat = some x ∧ x.w1c.getLsbD k = true ∧ (s.rd a.toNat).getLsbD k = true ∧
    set.getLsbD k = true) :=
  ⟨⟨up.wr CIP_EVT 3, .pcie, 0x90008, 1, ⟨0x90008, [], 0x0, 0x1FF, 0x0, 0x0, 0x0⟩, 0, by decide +kernel⟩,
   ⟨up.wr CIP_EVT 0x100, .hsp, 0x90008, 0x1FF, ⟨0x90008, [], 0x0, 0x1FF, 0x0, 0x0, 0x0⟩, 8, by decide +kernel⟩⟩

theorem witness_PairAccess :
    (∃ (s : State) (i : Iface) (a : BitVec 26), s.reach (some i) a.toNat = .made ∧ inWindows a.toNat = false ∧
    s.isLow a.toNat = true ∧ a.toNat ≠ SPN_NOW_NS ∧ a.toNat ≠ SPN_TL_NS ∧ a.toNat ≠ RTC_SEC ∧ a.toNat ≠ RTC_YEAR) ∧
    (∃ (s : State) (i : Iface) (a : BitVec 26) (v : Word), s.reach (some i) a.toNat = .made ∧ inWindows a.toNat = false ∧
    s.isLow a.toNat = false ∧ s.isHigh a.toNat = true ∧ a.toNat ≠ SPN_NOW_NS ∧ a.toNat ≠ SPN_TL_NS ∧ a.toNat ≠ RTC_SEC ∧
    a.toNat ≠ RTC_YEAR ∧ s.rdHeld i (a.toNat - 4) = some v) ∧
    (∃ (s : State) (i : Iface) (a : BitVec 26), s.reach (some i) a.toNat = .made ∧ inWindows a.toNat = false ∧
    s.isLow a.toNat = true) ∧
    (∃ (s : State) (i : Iface) (a : BitVec 26) (lo : Word), a.toNat = FLD_GROUP_LO + 4 ∧ s.reach (some i) a.toNat = .made ∧
    s.wrHeld i FLD_GROUP_LO = some lo ∧ s.blk = none) :=
  ⟨⟨up, .hsp, 0x140018, by decide +kernel⟩,
   ⟨up.setRdHold .hsp 0x140018 (some 5), .hsp, 0x14001C, 5, by decide +kernel⟩,
   ⟨up, .hsp, 0x140018, by decide +kernel⟩,
   ⟨up.setWrHold .hsp 0x140018 (some 5), .hsp, 0x14001C, 5, by decide +kernel⟩⟩

theorem witness_SerialPort :
    (∃ (s : State) (count : BitVec 8) (ofs : Word) (cut : HspCut), s.powered = true ∧ s.hspBusy = false ∧ cut ≠ .beforeCrc ∧
    ofs.toNat % 4 = 0 ∧ ofs.toNat + 4 * (count.toNat + 1) ≤ 0x4000000) ∧
    (∃ (s : State) (count : BitVec 8) (ofs : Word) (cut : HspCut), s.powered = true ∧ s.hspBusy = false ∧ cut ≠ .beforeCrc ∧
    ofs.toNat % 4 = 0 ∧ ofs.toNat + 4 * (count.toNat + 1) ≤ 0x4000000) ∧
    (∃ (s : State) (ofs : Word) (data : List Word), s.powered = true ∧ s.hspBusy = false ∧ ofs.toNat % 4 = 0 ∧
    ofs.toNat + 4 * data.length ≤ 0x4000000) ∧
    (∃ (s : State) (ofs : Word) (data : List Word), s.powered = true ∧ s.hspBusy = false ∧ ofs.toNat % 4 = 0 ∧
    ofs.toNat + 4 * data.length ≤ 0x4000000) ∧
    (∃ (s : State), s.powered = true ∧ s.hspBusy = false) :=
  ⟨⟨hifUp, 255, 0x3FFFC00, .none, by decide +kernel⟩,
   ⟨hifUp, 0, 0x3000C, .afterOk, by decide +kernel⟩,
   ⟨hifUp, 0x3000C, [5], by decide +kernel⟩,
   ⟨hifUp, 0x3FFFFFC, [5], by decide +kernel⟩,
   ⟨hifUp, by decide +kernel⟩⟩

theorem witness_KeyCommandsStart :
    (∃ (s : State) (cmd : BitVec 4), s.reach none KEY_CMD = .made ∧ alone cmd 1 ∧ s.flag KEY_STAT_BUSY = false ∧
    1 ≤ s.get KEY_SEL_SUITE ∧ s.get KEY_SEL_SUITE ≤ 10 ∧ s.rd UPD_LOCK = 0) ∧
    (∃ (s : State) (cmd : BitVec 4), s.reach none KEY_CMD = .made ∧ alone cmd 1 ∧ s.flag KEY_STAT_BUSY = false ∧
    1 ≤ s.get KEY_SEL_SUITE ∧ s.get KEY_SEL_SUITE ≤ 10 ∧ s.rd UPD_LOCK = 0) ∧
    (∃ (s : State) (cmd : BitVec 4), s.reach none KEY_CMD = .made ∧ alone cmd 2 ∧ s.flag KEY_STAT_BUSY = false ∧
    s.rd UPD_LOCK = 0) ∧
    (∃ (s : State) (cmd : BitVec 4), s.reach none KEY_CMD = .made ∧ alone cmd 8 ∧ s.flag KEY_STAT_BUSY = false) ∧
    (∃ (s : State) (cmd : BitVec 4) (e : KeySlot), s.reach none KEY_CMD = .made ∧ alone cmd 4 ∧ s.flag KEY_STAT_BUSY = false ∧
    s.keySlot (s.get KEY_SEL_SLOT) = some e ∧ e.suite < 16) ∧
    (∃ (s : State) (cmd : BitVec 4) (e : KeySlot), s.reach none KEY_CMD = .made ∧ alone cmd 4 ∧ s.flag KEY_STAT_BUSY = false ∧
    s.keySlot (s.get KEY_SEL_SLOT) = some e ∧ e.suite < 16) ∧
    (∃ (s : State) (cmd : BitVec 4) (c : Instr), (c = .install cmd ∨ c = .erase cmd ∨ c = .info cmd ∨ c = .wipe cmd) ∧
    s.reach none KEY_CMD = .made ∧ s.flag KEY_STAT_BUSY = true) ∧
    (∃ (s : State) (cmd : BitVec 4) (c : Instr), (c = .install cmd ∨ c = .erase cmd ∨ c = .info cmd ∨ c = .wipe cmd) ∧
    s.reach none KEY_CMD = .made ∧ s.flag KEY_STAT_BUSY = true) :=
  ⟨⟨keySel 0x3FFF 10, 1, by decide +kernel, by unfold alone; decide +kernel, by decide +kernel⟩,
   ⟨keySel 0 1, 1, by decide +kernel, by unfold alone; decide +kernel, by decide +kernel⟩,
   ⟨keySel 0x3FFF 0, 2, by decide +kernel, by unfold alone; decide +kernel, by decide +kernel⟩,
   ⟨up, 8, by decide +kernel, by unfold alone; decide +kernel, by decide +kernel⟩,
   ⟨keyIn (keySel 0x3FFF 0) 0x3FFF (slot9 9 8), 4, slot9 9 8, by decide +kernel, by unfold alone; decide +kernel,
   by decide +kernel⟩,
   ⟨keyIn (keySel 0x3FF 0) 0x3FF { slot9 9 8 with txPn := 2 ^ 47 + 5 }, 4, { slot9 9 8 with txPn := 2 ^ 47 + 5 },
   by decide +kernel, by unfold alone; decide +kernel, by decide +kernel⟩,
   ⟨up.put KEY_STAT_BUSY 1, 9, .install 9, by decide +kernel⟩,
   ⟨up.put KEY_STAT_BUSY 1, 4, .info 4, by decide +kernel⟩⟩

theorem witness_KeyCommandCompletes :
    (∃ (s : State) (k : Nat) (su : Nat) (d : BitVec 256) (ok : Bool), s.key.cmd = some (.install k su d) ∧
    (ok = true ∨ 0x400 ≤ k)) ∧
    (∃ (s : State) (k : Nat) (su : Nat) (d : BitVec 256) (ok : Bool), s.key.cmd = some (.install k su d) ∧
    (ok = true ∨ 0x400 ≤ k)) ∧
    (∃ (s : State) (k : Nat) (ok : Bool), s.key.cmd = some (.erase k) ∧ (ok = true ∨ 0x400 ≤ k)) ∧
    (∃ (s : State) (k : Nat) (ok : Bool), s.key.cmd = some (.erase k) ∧ (ok = true ∨ 0x400 ≤ k)) ∧
    (∃ (s : State), s.key.cmd = some .wipe) ∧
    (∃ (s : State) (k : Nat) (su : Nat) (d : BitVec 256), s.key.cmd = some (.install k su d) ∧ k < 0x400) :=
  ⟨⟨running' (.install 0x3FF 9 5), 0x3FF, 9, 5, true, by decide +kernel⟩,
   ⟨running' (.install 0x400 9 5), 0x400, 9, 5, false, by decide +kernel⟩,
   ⟨running' (.erase 0x3FFF), 0x3FFF, false, by decide +kernel⟩,
   ⟨running' (.erase 0), 0, true, by decide +kernel⟩,
   ⟨running' .wipe, by decide +kernel⟩,
   ⟨running' (.install 0x3FF 9 5), 0x3FF, 9, 5, by decide +kernel⟩⟩

theorem witness_CipherFrames :
    (∃ (s : State) (p : Fin 2) (f : EthTx) (k : BitVec 14) (e : KeySlot), s.clockOn = true ∧ s.backbone = some p ∧
    (s.port p).nextUnsealed = some f ∧ (s.rd CIP_CTL).toNat % 16 ≠ 0 ∧ s.flag SYS_DIE_STAT_KEY_UP = true ∧
    s.keyBusy k.toNat = false ∧ s.keySlot k.toNat = some e ∧ e.suite = 9 ∧ e.txPn < 2 ^ 32 - 1) ∧
    (∃ (s : State) (p : Fin 2) (f : EthTx) (k : BitVec 14) (e : KeySlot), s.clockOn = true ∧ s.backbone = some p ∧
    (s.port p).nextUnsealed = some f ∧ (s.rd CIP_CTL).toNat % 16 ≠ 0 ∧ s.flag SYS_DIE_STAT_KEY_UP = true ∧
    s.keyBusy k.toNat = false ∧ s.keySlot k.toNat = some e ∧ e.suite = 9 ∧ 2 ^ 32 - 1 ≤ e.txPn) ∧
    (∃ (s : State) (p : Fin 2) (x : Packet) (k : BitVec 14) (e : KeySlot) (n : Nat), s.clockOn = true ∧ s.backbone = some p ∧
    (s.port p).ingress.find? (·.sec) = some x ∧ (s.rd CIP_CTL).toNat % 16 ≠ 0 ∧ s.flag SYS_DIE_STAT_KEY_UP = true ∧
    s.keyBusy k.toNat = false ∧ s.keySlot k.toNat = some e ∧ e.suite = 9 ∧ n = beNum (part x.bytes 16 4) ∧ e.rxPn < n) ∧
    (∃ (s : State) (p : Fin 2) (x : Packet) (k : BitVec 14) (e : KeySlot) (n : Nat), s.clockOn = true ∧ s.backbone = some p ∧
    (s.port p).ingress.find? (·.sec) = some x ∧ (s.rd CIP_CTL).toNat % 16 ≠ 0 ∧ s.flag SYS_DIE_STAT_KEY_UP = true ∧
    s.keyBusy k.toNat = false ∧ s.keySlot k.toNat = some e ∧ e.suite = 9 ∧ n = beNum (part x.bytes 16 4) ∧ n ≤ e.rxPn) ∧
    (∃ (s : State) (p : Fin 2) (x : Packet) (k : BitVec 14) (e : KeySlot) (n : Nat), s.clockOn = true ∧ s.backbone = some p ∧
    (s.port p).ingress.find? (·.sec) = some x ∧ (s.rd CIP_CTL).toNat % 16 ≠ 0 ∧ s.flag SYS_DIE_STAT_KEY_UP = true ∧
    s.keyBusy k.toNat = false ∧ s.keySlot k.toNat = some e ∧ e.suite = 9 ∧ n = beNum (part x.bytes 16 4)) ∧
    (∃ (s : State) (p : Fin 2) (f : EthTx) (k : BitVec 14), s.clockOn = true ∧ s.backbone = some p ∧
    (s.port p).nextUnsealed = some f ∧ (s.rd CIP_CTL).toNat % 16 ≠ 0 ∧
    (s.keySlot k.toNat = none ∨ s.flag SYS_DIE_STAT_KEY_UP = false)) ∧
    (∃ (s : State) (p : Fin 2) (f : EthTx) (k : BitVec 14), s.clockOn = true ∧ s.backbone = some p ∧
    (s.port p).nextUnsealed = some f ∧ (s.rd CIP_CTL).toNat % 16 ≠ 0 ∧
    (s.keySlot k.toNat = none ∨ s.flag SYS_DIE_STAT_KEY_UP = false)) ∧
    (∃ (s : State) (p : Fin 2) (f : EthTx), s.clockOn = true ∧ s.backbone = some p ∧ (s.port p).nextUnsealed = some f ∧
    (s.rd CIP_CTL).toNat % 16 = 0) ∧
    (∃ (s : State) (h : Afette) (e : KeySlot), s.clockOn = true ∧ h.prot = true ∧ h.sec.held = 0 ∧ h.sec.urgentHeld = 0 ∧
    h.sec.mism = 0 ∧ (s.rd CIP_CTL).toNat % 16 ≠ 0 ∧ s.flag SYS_DIE_STAT_KEY_UP = true ∧ s.keyBusy h.sec.slot.toNat = false ∧
    s.keySlot h.sec.slot.toNat = some e ∧ e.suite = 9 ∧ h.sec.icvOk = true ∧ h.sec.pn.toNat ≤ e.rxPn) ∧
    (∃ (s : State) (x : RxStage) (rest : List RxStage), s.clockOn = true ∧ s.cipq = x :: rest ∧ s.treatment x = .accept) :=
  ⟨⟨sending (keyIn (lanes up) 0x3FFF (slot9 (2 ^ 32 - 2) 0)), 0, secTx, 0x3FFF, slot9 (2 ^ 32 - 2) 0, by decide +kernel⟩,
   ⟨sending (keyIn (lanes up) 0x3FFF (slot9 (2 ^ 32 - 1) 0)), 0, secTx, 0x3FFF, slot9 (2 ^ 32 - 1) 0, by decide +kernel⟩,
   ⟨coming (keyIn (lanes up) 0x3FFF (slot9 0 4)), 0, secRx, 0x3FFF, slot9 0 4, 5, by decide +kernel⟩,
   ⟨coming (keyIn (lanes up) 0x3FFF (slot9 0 5)), 0, secRx, 0x3FFF, slot9 0 5, 5, by decide +kernel⟩,
   ⟨coming (keyIn (lanes up) 0x3FFF (slot9 0 4)), 0, secRx, 0x3FFF, slot9 0 4, 5, by decide +kernel⟩,
   ⟨sending (lanes up), 0, secTx, 0, by decide +kernel⟩,
   ⟨sending (keyIn ((lanes up).put SYS_DIE_STAT_KEY_UP 0) 0 (slot9 0 5)), 0, secTx, 0, by decide +kernel⟩,
   ⟨sending (up.wr CIP_CTL 0), 0, secTx, by decide +kernel⟩,
   ⟨keyIn (lanes up) 5 (slot9 0 9), af 1, slot9 0 9, by decide +kernel⟩,
   ⟨cipSta, stage0, [], by decide +kernel⟩⟩

theorem witness_DramMapping :
    (∃ (rows : Nat) (ranks : Nat) (ch : Nat) (rank : Nat) (row : Nat) (bank : Nat) (col : Nat) (b : Nat), ch < 2 ∧
    rank < 2 ^ ranks ∧ row < 2 ^ rows ∧ bank < 8 ∧ col < 32 ∧ b < 64) ∧
    (∃ (rows : Nat) (ranks : Nat) (ch : Nat) (rank : Nat) (row : Nat) (bank : Nat) (col : Nat) (b : Nat), ch < 2 ∧
    rank < 2 ^ ranks ∧ row < 2 ^ rows ∧ bank < 8 ∧ col < 32 ∧ b < 64) ∧
    (∃ (rows : Nat) (ranks : Nat) (ch : Nat) (rank : Nat) (row : Nat) (bank : Nat) (col : Nat) (b : Nat), ch < 2 ∧
    rank < 2 ^ ranks ∧ row < 2 ^ rows ∧ bank < 8 ∧ col < 32 ∧ b < 64) ∧
    (∃ (rows : Nat) (ranks : Nat) (ch : Nat) (rank : Nat) (row : Nat) (bank : Nat) (col : Nat) (b : Nat), ch < 2 ∧
    rank < 2 ^ ranks ∧ row < 2 ^ rows ∧ bank < 8 ∧ col < 32 ∧ b < 64) ∧
    (∃ (rows : Nat) (ranks : Nat) (ch : Nat) (rank : Nat) (row : Nat) (bank : Nat) (col : Nat) (b : Nat), ch < 2 ∧
    rank < 2 ^ ranks ∧ row < 2 ^ rows ∧ bank < 8 ∧ col < 32 ∧ b < 64) ∧
    (∃ (rows : Nat) (ranks : Nat) (ch : Nat) (rank : Nat) (row : Nat) (bank : Nat) (col : Nat) (b : Nat), ch < 2 ∧
    rank < 2 ^ ranks ∧ row < 2 ^ rows ∧ bank < 8 ∧ col < 32 ∧ b < 64) ∧
    (∃ (rows : Nat) (ranks : Nat) (ch : Nat) (rank : Nat) (row : Nat) (bank : Nat) (col : Nat) (b : Nat), ch < 2 ∧
    rank < 2 ^ ranks ∧ row < 2 ^ rows ∧ bank < 8 ∧ col < 32 ∧ b < 64) ∧
    (∃ (rows : Nat) (ranks : Nat) (ch : Nat) (rank : Nat) (row : Nat) (bank : Nat) (col : Nat) (b : Nat), ch < 2 ∧
    rank < 2 ^ ranks ∧ row < 2 ^ rows ∧ bank < 8 ∧ col < 32 ∧ b < 64) ∧
    (∃ (rows : Nat) (ranks : Nat) (ch : Nat) (rank : Nat) (row : Nat) (bank : Nat) (col : Nat) (b : Nat), ch < 2 ∧
    rank < 2 ^ ranks ∧ row < 2 ^ rows ∧ bank < 8 ∧ col < 32 ∧ b < 64) ∧
    (∃ (rows : Nat) (ranks : Nat) (ch : Nat) (rank : Nat) (row : Nat) (bank : Nat) (col : Nat) (b : Nat), ch < 2 ∧
    rank < 2 ^ ranks ∧ row < 2 ^ rows ∧ bank < 8 ∧ col < 32 ∧ b < 64) ∧
    (∃ (s : State) (step : BitVec 3), s.pwr.phase = .boot ∧ s.dmcSt ≤ dmcTraining ∧ step.toNat ≤ 5) ∧
    (∃ (s : State), s.reach none DMC_MR_CMD = .made ∧ (s.dmcSt = dmcTraining ∨ s.dmcSt = dmcReady)) ∧
    (∃ (s : State), s.dmcSt = dmcTraining) ∧
    (∃ (s : State), s.reach none DMC_PAT_CMD = .made ∧ s.dmcSt ≠ dmcTraining ∧ s.flag DMC_PAT_STAT_BUSY = false ∧
    s.itt.step = none ∧ (s.rd DMC_PAT_LEN).toNat % 2 ^ 27 ≠ 0 ∧ s.get DMC_PAT_CFG_KIND ≤ 4 ∧ s.patInside = true) ∧
    (∃ (s : State) (p : PatRun), s.dmc.pat = some p ∧ s.reach none DMC_PAT_CMD = .made ∧ s.itt.step = none) ∧
    (∃ (s : State) (n : BitVec 27) (p : PatRun), s.dmc.pat = some p ∧ s.clockOn = true ∧ n.toNat = p.len) ∧
    (∃ (s : State), s.clockOn = true ∧ s.dmcSt = dmcReady ∧ s.panic = false) ∧
    (∃ (s : State), s.clockOn = true ∧ s.dmcSt = dmcReady ∧ s.panic = false) ∧
    (∃ (s : State), s.clockOn = true ∧ s.dmcSt = dmcReady ∧ s.panic = false ∧ s.flag DMC_CTL_TRK_EN = true) ∧
    (∃ (s : State) (i : Fin 3), s.clockOn = true ∧ s.rtThr i ≠ 0 ∧ s.flag (rtBit i) = false) ∧
    (∃ (s : State) (i : Fin 3), s.clockOn = true ∧ s.flag (rtBit i) = true) :=
  ⟨⟨16, 1, 1, 1, 0xFFFF, 7, 31, 63, by decide +kernel⟩,
   ⟨0, 0, 0, 0, 0, 0, 0, 0, by decide +kernel⟩,
   ⟨16, 1, 1, 1, 0xFFFF, 7, 31, 63, by decide +kernel⟩,
   ⟨16, 1, 1, 1, 0xFFFF, 7, 31, 63, by decide +kernel⟩,
   ⟨16, 1, 1, 1, 0xFFFF, 7, 31, 63, by decide +kernel⟩,
   ⟨16, 1, 1, 1, 0xFFFF, 7, 31, 63, by decide +kernel⟩,
   ⟨16, 1, 1, 1, 0xFFFF, 7, 31, 63, by decide +kernel⟩,
   ⟨16, 1, 1, 1, 0xFFFF, 7, 31, 63, by decide +kernel⟩,
   ⟨16, 1, 1, 1, 0xFFFF, 7, 31, 63, by decide +kernel⟩,
   ⟨16, 1, 1, 1, 0xFFFF, 7, 31, 63, by decide +kernel⟩,
   ⟨{ dmcAt dmcTraining with pwr := { phase := .boot } }, 5, by decide +kernel⟩,
   ⟨dmcAt dmcReady, by decide +kernel⟩,
   ⟨dmcAt dmcTraining, by decide +kernel⟩,
   ⟨patReady, by decide +kernel⟩,
   ⟨patOn p0, p0, by decide +kernel⟩,
   ⟨patOn p0, 2, p0, by decide +kernel⟩,
   ⟨(dmcAt dmcReady).put DMC_CTL_TRK_EN 1, by decide +kernel⟩,
   ⟨(dmcAt dmcReady).put DMC_CTL_TRK_EN 1, by decide +kernel⟩,
   ⟨(dmcAt dmcReady).put DMC_CTL_TRK_EN 1, by decide +kernel⟩,
   ⟨up.put DMC_RT_CFG_THR_FRN 1, 2, by decide +kernel⟩,
   ⟨panicOn (dmcAt dmcReady), 2, by decide +kernel⟩⟩

theorem witness_DramHelpers :
    (∃ (s : State) (step : BitVec 3), s.pwr.phase = .boot ∧ s.dmcSt ≤ dmcTraining ∧ step.toNat ≤ 5) ∧
    (∃ (s : State) (step : BitVec 3), s.pwr.phase = .boot ∧ s.dmcSt ≤ dmcTraining ∧ step.toNat ≤ 5) ∧
    (∃ (s : State) (step : BitVec 3), s.pwr.phase = .boot ∧ s.dmcSt ≤ dmcTraining ∧ step.toNat ≤ 5) ∧
    (∃ (s : State) (step : BitVec 3), s.pwr.phase = .boot ∧ s.dmcSt ≤ dmcTraining ∧ step.toNat ≤ 5) ∧
    (∃ (s : State), s.reach none DMC_MR_CMD = .made ∧ (s.dmcSt = dmcTraining ∨ s.dmcSt = dmcReady)) ∧
    (∃ (s : State), s.dmcSt = dmcTraining) ∧
    (∃ (s : State), s.reach none DMC_PAT_CMD = .made ∧ s.dmcSt ≠ dmcTraining ∧ s.flag DMC_PAT_STAT_BUSY = false ∧
    s.itt.step = none ∧ (s.rd DMC_PAT_LEN).toNat % 2 ^ 27 ≠ 0 ∧ s.get DMC_PAT_CFG_KIND ≤ 4 ∧ s.patInside = true) ∧
    (∃ (s : State), s.reach none DMC_PAT_CMD = .made ∧ s.flag DMC_PAT_STAT_BUSY = true) ∧
    (∃ (s : State) (p : PatRun), s.reach none DMC_PAT_CMD = .made ∧ s.itt.step = none ∧ s.dmc.pat = some p) ∧
    (∃ (s : State) (p : PatRun), s.reach none DMC_PAT_CMD = .made ∧ s.itt.step = none ∧ s.dmc.pat = some p) ∧
    (∃ (s : State) (n : BitVec 27) (p : PatRun), s.clockOn = true ∧ s.dmc.pat = some p ∧ p.cmp = false ∧ n.toNat = p.len ∧
    (∀ j < p.len, ∀ i < j, (s.patPlace p i).cell ≠ (s.patPlace p j).cell)) ∧
    (∃ (s : State) (n : BitVec 27) (p : PatRun), s.clockOn = true ∧ s.dmc.pat = some p ∧ p.cmp = true ∧ n.toNat = p.len ∧
    (∀ i < p.len, s.dramCell (s.patPlace p i).cell = some (p.bytes i))) ∧
    (∃ (s : State) (n : BitVec 27) (p : PatRun) (i : Nat) (m : BitVec 16), s.clockOn = true ∧ s.dmc.pat = some p ∧
    p.cmp = true ∧ n.toNat = p.len ∧ i < p.len ∧ m ≠ 0 ∧ (∀ j < p.len, s.dramCell (s.patPlace p j).cell = some (p.bytes j)) ∧
    (s.patPlace p i).ch = 0) ∧
    (∃ (s : State) (ch : Fin 2), s.clockOn = true ∧ s.dmcSt = dmcReady ∧ s.panic = true ∧
    (if ch = 0 then s.dmc.out0 else s.dmc.out1) < 8) ∧
    (∃ (s : State) (ch : Fin 2), s.clockOn = true ∧ s.dmcSt = dmcReady ∧ s.panic = true ∧
    (if ch = 0 then s.dmc.out0 else s.dmc.out1) < 8) ∧
    (∃ (s : State) (ch : Fin 2), s.clockOn = true ∧ s.dmcSt = dmcReady ∧ s.panic = true ∧
    8 ≤ (if ch = 0 then s.dmc.out0 else s.dmc.out1)) ∧
    (∃ (s : State), s.clockOn = true ∧ s.dmcSt = dmcReady ∧ s.panic = false) ∧
    (∃ (s : State), s.clockOn = true ∧ s.dmcSt = dmcReady) ∧
    (∃ (s : State), s.clockOn = true ∧ s.dmcSt = dmcReady ∧ s.flag DMC_CTL_TRK_EN = true ∧ s.panic = false) ∧
    (∃ (s : State), s.clockOn = true ∧ s.dmcSt = dmcReady ∧ s.flag DMC_CTL_TRK_EN = true ∧ s.panic = true) ∧
    (∃ (s : State) (i : Fin 3), s.clockOn = true ∧ s.rtThr i ≠ 0 ∧ s.flag (rtBit i) = false) ∧
    (∃ (s : State) (i : Fin 3), s.clockOn = true ∧ s.flag (rtBit i) = true) ∧
    (∃ (s : State) (i : Fin 3), s.clockOn = true ∧ s.flag (rtBit i) = true) :=
  ⟨⟨{ dmcAt dmcTraining with pwr := { phase := .boot } }, 5, by decide +kernel⟩,
   ⟨{ dmcAt dmcTraining with pwr := { phase := .boot } }, 3, by decide +kernel⟩,
   ⟨{ dmcAt dmcTraining with pwr := { phase := .boot } }, 4, by decide +kernel⟩,
   ⟨{ dmcAt 0 with pwr := { phase := .boot } }, 0, by decide +kernel⟩,
   ⟨dmcAt dmcReady, by decide +kernel⟩,
   ⟨dmcAt dmcTraining, by decide +kernel⟩,
   ⟨patReady, by decide +kernel⟩,
   ⟨patReady.put DMC_PAT_STAT_BUSY 1, by decide +kernel⟩,
   ⟨patOn p0, p0, by decide +kernel⟩,
   ⟨patOn pc0, pc0, by decide +kernel⟩,
   ⟨patOn p0, 2, p0, by decide +kernel⟩,
   ⟨written, 2, pc0, by decide +kernel, by decide +kernel, by decide +kernel, by decide +kernel, written_reads⟩,
   ⟨written, 2, pc0, 0, 0x8001, by decide +kernel, by decide +kernel, by decide +kernel, by decide +kernel, by decide +kernel,
   by decide +kernel, written_reads, by decide +kernel⟩,
   ⟨withDmc (panicOn (dmcAt dmcReady)) (fun d => { d with out1 := 7 }), 1, by decide +kernel⟩,
   ⟨withDmc (panicOn (dmcAt dmcReady)) (fun d => { d with out0 := 0 }), 0, by decide +kernel⟩,
   ⟨withDmc (panicOn (dmcAt dmcReady)) (fun d => { d with out1 := 8 }), 1, by decide +kernel⟩,
   ⟨dmcAt dmcReady, by decide +kernel⟩,
   ⟨dmcAt dmcReady, by decide +kernel⟩,
   ⟨(dmcAt dmcReady).put DMC_CTL_TRK_EN 1, by decide +kernel⟩,
   ⟨panicOn ((dmcAt dmcReady).put DMC_CTL_TRK_EN 1), by decide +kernel⟩,
   ⟨up.put DMC_RT_CFG_THR_FRN 1, 2, by decide +kernel⟩,
   ⟨withDmc (panicOn (dmcAt dmcReady)) (fun d => { d with out1 := 8, trk0 := true, trk1 := true }), 2, by decide +kernel⟩,
   ⟨panicOn ((dmcAt dmcReady).wr DMC_RT_MAXLAT 9), 2, by decide +kernel⟩⟩

theorem witness_PowerRequests :
    (∃ (s : State) (k : Nat), (k = tgtSleep ∨ k = tgtDeep ∨ k = tgtOff) ∧ s.reach none PWR_CMD = .made ∧ s.inMove = false ∧
    s.pwrSt ≠ k ∧ s.pwrBar k = false) ∧
    (∃ (s : State) (k : Nat), (k = tgtSleep ∨ k = tgtDeep ∨ k = tgtOff) ∧ s.reach none PWR_CMD = .made ∧ s.inMove = false ∧
    s.pwrSt ≠ k ∧ s.pwrBar k = false) ∧
    (∃ (s : State) (k : Nat), (k = tgtSleep ∨ k = tgtDeep ∨ k = tgtOff) ∧ s.reach none PWR_CMD = .made ∧ s.inMove = false ∧
    s.pwrSt ≠ k ∧ s.pwrBar k = true) ∧
    (∃ (s : State) (k : Nat), (k = tgtSleep ∨ k = tgtDeep ∨ k = tgtOff) ∧ s.reach none PWR_CMD = .made ∧ s.inMove = false ∧
    s.pwrSt ≠ k ∧ s.pwrBar k = true) ∧
    (∃ (s : State) (k : Nat), (k = tgtSleep ∨ k = tgtDeep ∨ k = tgtOff) ∧ s.reach none PWR_CMD = .made ∧ s.inMove = true ∧
    s.get PWR_STAT_TARGET ≠ k) ∧
    (∃ (s : State) (k : Nat), (k = tgtSleep ∨ k = tgtDeep ∨ k = tgtOff) ∧ s.reach none PWR_CMD = .made ∧ s.pwrCurrent = k) ∧
    (∃ (s : State) (k : Nat), (k = tgtSleep ∨ k = tgtDeep ∨ k = tgtOff) ∧ s.reach none PWR_CMD = .made ∧ s.pwrCurrent = k) ∧
    (∃ (s : State), s.reach none PWR_CMD = .made ∧ s.pwrSt = 2 ∧ s.inMove = false ∧ s.flag PWR_WAKE_CFG_HOST = true) ∧
    (∃ (s : State), s.reach none PWR_CMD = .made ∧ s.inMove = true ∧ s.get PWR_STAT_TARGET ≠ 0 ∧
    s.flag PWR_WAKE_CFG_HOST = true) ∧
    (∃ (s : State), s.reach none PWR_CMD = .made ∧ s.pwrCurrent = 0) ∧
    (∃ (s : State), s.reach none PWR_CMD = .made ∧ s.pwrCurrent ≠ 0 ∧ s.flag PWR_WAKE_CFG_HOST = false) :=
  ⟨⟨pwrAt 0, tgtOff, by decide +kernel⟩,
   ⟨pwrAt 1, tgtSleep, by decide +kernel⟩,
   ⟨(pwrAt 0).put UPD_STAT_TOV 1, tgtSleep, by decide +kernel⟩,
   ⟨{ pwrAt 0 with jrn := { slotA := .pending } }, tgtDeep, by decide +kernel⟩,
   ⟨(moving 0 tgtSleep).put PWR_STAT_PEND 1, tgtOff, by decide +kernel⟩,
   ⟨moving 0 tgtSleep, tgtSleep, by decide +kernel⟩,
   ⟨pwrAt 2, tgtSleep, by decide +kernel⟩,
   ⟨(pwrAt 2).put PWR_WAKE_CFG_HOST 1, by decide +kernel⟩,
   ⟨(moving 0 tgtSleep).put PWR_WAKE_CFG_HOST 1, by decide +kernel⟩,
   ⟨pwrAt 0, by decide +kernel⟩,
   ⟨(pwrAt 2).put PWR_WAKE_CFG_HOST 0, by decide +kernel⟩⟩

theorem witness_PowerTransitions :
    (∃ (s : State), s.flag PWR_CTL_AUTO_IDLE = true ∧ s.pwrSt = 0 ∧ s.inMove = false ∧ s.pwr.phase = .run ∧ s.quiet = true) ∧
    (∃ (s : State), s.pwrSt = 1 ∧ s.inMove = false ∧ (s.stir = true ∨ s.quiet = false)) ∧
    (∃ (s : State), s.pwrSt = 1 ∧ s.inMove = false ∧ (s.stir = true ∨ s.quiet = false)) ∧
    (∃ (s : State), s.inMove = true ∧ s.get PWR_STAT_TARGET = tgtSleep ∧ s.pairsHalted = true ∧ s.pwrSt ≠ 2 ∧
    s.pwr.phase = .run ∧ s.flag PWR_STAT_PEND = false) ∧
    (∃ (s : State), s.inMove = true ∧ s.get PWR_STAT_TARGET = tgtSleep ∧ s.pairsHalted = true ∧ s.pwrSt ≠ 2 ∧
    s.pwr.phase = .run ∧ s.flag PWR_STAT_PEND = false) ∧
    (∃ (s : State), s.inMove = true ∧ s.get PWR_STAT_TARGET = tgtDeep ∧ s.pairsHalted = true) ∧
    (∃ (s : State), s.inMove = true ∧ s.get PWR_STAT_TARGET = tgtDeep ∧ s.pairsHalted = true) ∧
    (∃ (s : State), s.inMove = true ∧ s.get PWR_STAT_TARGET = tgtOff ∧ s.pairsHalted = true) ∧
    (∃ (s : State), s.inMove = true ∧ s.get PWR_STAT_TARGET = tgtOff ∧ s.pairsHalted = true) ∧
    (∃ (s : State), s.pwr.phase = .run ∧ s.pwrSt = 2 ∧ s.inMove = false) ∧
    (∃ (s : State), s.inMove = true ∧ s.get PWR_STAT_TARGET = tgtDeep ∧ s.pairsHalted = true ∧ s.pwr.wake = none ∧
    s.flag PWR_STAT_PEND = true ∧ s.get PWR_STAT_PEND_TGT = tgtOff) ∧
    (∃ (s : State), s.pwr.phase = .deep ∧ s.entering = false) ∧
    (∃ (s : State), s.pwr.phase = .deep ∧ s.entering = true) ∧
    (∃ (s : State), s.pwr.phase = .unpowered) ∧
    (∃ (s : State), s.pwr.phase = .off) ∧
    (∃ (s : State), s.flag PWR_WAKE_CFG_TIMED = true ∧ s.running = true ∧ s.pwrSt = 2 ∧ s.inMove = false) ∧
    (∃ (s : State), s.inMove = true ∧ s.get PWR_STAT_TARGET = 0 ∧ s.pwrSt = 2 ∧ s.flag PWR_STAT_PEND = false) ∧
    (∃ (s : State), s.inMove = true ∧ s.get PWR_STAT_TARGET = 0 ∧ s.pwrSt = 1 ∧ s.flag PWR_STAT_PEND = false) ∧
    (∃ (s : State), (s.inMove = false ∨ s.get PWR_STAT_TARGET ≠ 0)) ∧
    (∃ (s : State), (s.inMove = false ∨ s.get PWR_STAT_TARGET = 0 ∨ s.pairsHalted = false)) ∧
    (∃ (s : State), s.inMove = true ∧ s.get PWR_STAT_TARGET = tgtSleep ∧ s.pairsHalted = true ∧ s.pwrSt ≠ 2 ∧
    s.pwr.phase = .run ∧ s.flag PWR_STAT_PEND = true ∧ s.pwr.wake = none ∧ s.get UPD_STAT_TOV = 0 ∧
    s.get PWR_STAT_PEND_TGT = tgtOff) ∧
    (∃ (s : State), (s.flag PWR_CTL_AUTO_IDLE = false ∨ s.pwrSt ≠ 0 ∨ s.inMove = true ∨ s.pwr.phase ≠ .run ∨ s.quiet = false)) ∧
    (∃ (s : State), (s.pwrSt ≠ 1 ∨ s.inMove = true ∨ s.stir = false ∧ s.quiet = true)) ∧
    (∃ (s : State), (s.pwrSt ≠ 1 ∨ s.inMove = true ∨ s.stir = false ∧ s.quiet = true)) ∧
    (∃ (s : State), s.pwr.phase = .run ∧ s.inMove = true ∧ s.get PWR_STAT_TARGET ≠ 0) ∧
    (∃ (s : State), s.pwr.phase = .run ∧ s.pwrSt ≤ 1 ∧ s.inMove = false) ∧
    (∃ (s : State), s.pwr.phase = .railFail ∧ s.pwr.retry = false) ∧
    (∃ (s : State), (s.flag PWR_WAKE_CFG_TIMED = false ∨ s.running = false)) :=
  ⟨⟨(pwrAt 0).put PWR_CTL_AUTO_IDLE 1, by decide +kernel⟩,
   ⟨{ pwrAt 1 with stir := true }, by decide +kernel⟩,
   ⟨evq (pwrAt 1) ev0, by decide +kernel⟩,
   ⟨entering tgtSleep, by decide +kernel⟩,
   ⟨woken (entering tgtSleep), by decide +kernel⟩,
   ⟨entering tgtDeep, by decide +kernel⟩,
   ⟨woken (timed ((entering tgtDeep).put SPN_CTL_EN 1)), by decide +kernel⟩,
   ⟨entering tgtOff, by decide +kernel⟩,
   ⟨woken (entering tgtOff), by decide +kernel⟩,
   ⟨pwrAt 2, by decide +kernel⟩,
   ⟨((moving 0 tgtDeep).put PWR_STAT_PEND 1).put PWR_STAT_PEND_TGT tgtOff, by decide +kernel⟩,
   ⟨phaseAt .deep, by decide +kernel⟩,
   ⟨((phaseAt .deep).put PWR_STAT_TRANS 1).put PWR_STAT_TARGET tgtOff, by decide +kernel⟩,
   ⟨phaseAt .unpowered, by decide +kernel⟩,
   ⟨phaseAt .off, by decide +kernel⟩,
   ⟨timed (((pwrAt 2).put PWR_WAKE_CFG_TIMED 1).put SPN_CTL_EN 1), by decide +kernel⟩,
   ⟨moving 2 0, by decide +kernel⟩,
   ⟨moving 1 0, by decide +kernel⟩,
   ⟨moving 0 tgtSleep, by decide +kernel⟩,
   ⟨moving 2 0, by decide +kernel⟩,
   ⟨((moving 0 tgtSleep).put PWR_STAT_PEND 1).put PWR_STAT_PEND_TGT tgtOff, by decide +kernel⟩,
   ⟨moving 0 tgtSleep, by decide +kernel⟩,
   ⟨pwrAt 2, by decide +kernel⟩,
   ⟨pwrAt 1, by decide +kernel⟩,
   ⟨moving 0 tgtDeep, by decide +kernel⟩,
   ⟨pwrAt 0, by decide +kernel⟩,
   ⟨phaseAt .railFail, by decide +kernel⟩,
   ⟨pwrAt 2, by decide +kernel⟩⟩

theorem witness_WakeFromDeep :
    (∃ (s : State), s.pwr.phase = .deepExit) ∧
    (∃ (s : State), s.pwr.phase = .deepExit) :=
  ⟨⟨phaseAt .deepExit, by decide +kernel⟩,
   ⟨deepSaved, by decide +kernel⟩⟩

theorem witness_Resets :
    (∃ (s : State) (key : BitVec 8), s.reach none PWR_RST_CMD = .made ∧ key = 0x5A) ∧
    (∃ (s : State) (key : BitVec 8), s.reach none PWR_RST_CMD = .made ∧ key ≠ 0x5A) ∧
    (∃ (s : State), (s.pwr.phase = .run ∨ s.pwr.phase = .boot ∨ s.pwr.phase = .deepExit)) ∧
    (∃ (s : State), (s.pwr.phase = .run ∨ s.pwr.phase = .boot ∨ s.pwr.phase = .deepExit)) ∧
    (∃ (s : State) (n : Nat), s.pwr.phase = .railFail ∧ s.pwr.retry = true ∧ s.pwr.railAt = some n) ∧
    (∃ (s : State), (∀ r : Fin 3, (s.fr r).ppdu = none ∧ (s.fr r).rsp = none) ∧ (∀ n : Fin 4, (s.trig n).pulseEnd = none) ∧
    s.retq = []) ∧
    (∃ (s : State), (s.pwr.phase = .deep ∨ s.pwr.phase = .off ∨ s.pwr.phase = .railFail ∨ s.pwr.phase = .unpowered)) ∧
    (∃ (s : State), (s.pwr.phase = .deep ∨ s.pwr.phase = .off ∨ s.pwr.phase = .railFail ∨ s.pwr.phase = .unpowered)) ∧
    (∃ (s : State), (s.pwr.phase ≠ .railFail ∨ s.pwr.retry = false)) :=
  ⟨⟨radioOn, 0x5A, by decide +kernel⟩,
   ⟨radioOn, 0x5B, by decide +kernel⟩,
   ⟨radioOn, by decide +kernel⟩,
   ⟨phaseAt .boot, by decide +kernel⟩,
   ⟨{ phaseAt .railFail with pwr := { phase := .railFail, retry := true, railAt := some 7 } }, 7, by decide +kernel⟩,
   ⟨radioOn, by decide +kernel⟩,
   ⟨phaseAt .off, by decide +kernel⟩,
   ⟨phaseAt .unpowered, by decide +kernel⟩,
   ⟨phaseAt .run, by decide +kernel⟩⟩

end Sys2Proof.Tests
end

section
namespace Sys2Proof.Proofs
open Sys2Proof Sys2Proof.Machine

/-! ## The state after reset -/

/-- The part number stands above the silicon revision, whose value no proof sees. -/
theorem reset_part : State.reset.get SYS_ID_PART = 0x3E58 := by
  have hrow : State.reset.rd SYS_ID = 0x3E580000 ||| (Config.silicon &&& 0xFFF0) := rfl
  have hfix : BitVec.extractLsb' 16 16 (0x3E580000 : Word) = 0x3E58 := by decide
  have hrev : BitVec.extractLsb' 16 16 (0xFFF0 : Word) = 0 := by decide
  change (State.reset.rd SYS_ID).toNat / 2 ^ 16 % 2 ^ 16 = 0x3E58
  rw [hrow, fld_extract, BitVec.extractLsb'_or, BitVec.extractLsb'_and, hfix, hrev]
  simp

theorem reset_mapsWf : State.reset.mapsWf :=
  ⟨SMap.wf_nil, SMap.wf_nil, SMap.wf_nil, SMap.wf_nil, SMap.wf_nil, SMap.wf_nil, by simp [State.reset]⟩

/-- Settles O1: no register is listed, so each reads what its row gives. -/
theorem resetState : Obligations.ResetState := by
  unfold Obligations.ResetState
  refine ⟨by decide +kernel, by decide +kernel, by decide +kernel, reset_part, rfl, reset_mapsWf, rfl, rfl, rfl, rfl⟩

/-! ## Accesses of BAR0 -/
section Access

variable (s : State) (i : Iface) (a b : Nat)

/-- That an access may end IDLE (R352) changes no word that it reads. -/
@[simp] theorem wordAt_stirred : (s.stirred a).wordAt b = s.wordAt b := rfl
@[simp] theorem isLow_stirred : (s.stirred a).isLow b = s.isLow b := rfl
@[simp] theorem isHigh_stirred : (s.stirred a).isHigh b = s.isHigh b := rfl
@[simp] theorem rd_stirred : (s.stirred a).rd b = s.rd b := rfl
@[simp] theorem winOf_hostWrote : (s.hostWrote a).winOf b = s.winOf b := rfl
@[simp] theorem isLow_hostWrote : (s.hostWrote a).isLow b = s.isLow b := rfl
@[simp] theorem isHigh_hostWrote : (s.hostWrote a).isHigh b = s.isHigh b := rfl
@[simp] theorem rd_hostWrote : (s.hostWrote a).rd b = s.rd b := rfl
@[simp] theorem rd_hostRd (v : Word) : ({ s with hostRd := v } : State).rd b = s.rd b := rfl

variable {s i a b}

/-- An access that reaches its register and no window is made. -/
theorem busAt_made {f g : State → State} (hr : s.reach (some i) a = .made) (hw : inWindows a = false) :
    s.busAt i a f g = f s := by
  simp [State.busAt, hr, hw]

theorem busAt_counted {f g : State → State} (hr : s.reach (some i) a = .counted) : s.busAt i a f g = g s.accessErr := by
  simp [State.busAt, hr]

/-! ### Writes by the access types -/

/-- The blocks ITT and CIP, whose registers have no effects of their own. -/
def quietBlock (a : Nat) : Prop := a / 0x10000 = 3 ∨ a / 0x10000 = 9

theorem storeReg_quiet (ha : quietBlock a) (v : Word) : s.storeReg i a v = s.plainWrite a v := by
  have hlow : ¬ 0x200000 ≤ a := by unfold quietBlock at ha; omega
  obtain h | h := ha <;> simp [State.storeReg, hlow, h]

theorem rtcWrote_quiet (ha : quietBlock a) : s.rtcWrote a = s := by
  have hout : ¬ (0x50000 ≤ a ∧ a < 0x60000 ∧ (regRow a).isSome) := by unfold quietBlock at ha; omega
  exact if_neg hout

theorem plainWrite_row {x : RegRow} (hx : regRow a = some x) (v : Word) : s.plainWrite a v = s.wr a (x.after (s.rd a) v) := by
  simp [State.plainWrite, hx]

/-- A write of a plain address of ITT or CIP does what the access types say, beside what every host write does. -/
theorem storeWord_quiet {x : RegRow} (hp : plainAddr s a) (ha : quietBlock a) (hx : regRow a = some x) (v : Word) :
    s.storeWord i a v = (s.hostWrote a).wr a (x.after (s.rd a) v) := by
  obtain ⟨hwin, hmem, hlow, hhigh, -⟩ := hp
  have hone : ∀ t : State, t.winOf a = none → t.storeOne i a v = t.wr a (x.after (t.rd a) v) := by
    intro t ht
    rw [State.storeOne, ht, hmem]
    exact (storeReg_quiet ha v).trans (plainWrite_row hx v)
  rw [State.storeWord, rtcWrote_quiet ha, isLow_hostWrote, isHigh_hostWrote, hlow, hhigh]
  exact hone _ hwin

theorem wr_onlyRegs (v : Word) : s.onlyRegs (s.wr a v) (fun b => b == a) :=
  ⟨fun _ hb => State.rd_wr_ne s (ne_of_beq_false hb).symm v, rfl⟩

theorem rd_endSet {x : RegRow} (hx : regRow a = some x) (set : Word) : (s.endSet a set).rd a = s.rd a ||| (set &&& x.w1c) := by
  simp [State.endSet, hx]

/-! ### Reads -/

/-- A read clears the RC bits of its register. -/
theorem rd_rcClear_same {x : RegRow} (hx : regRow a = some x) : (s.rcClear a).rd a = s.rd a &&& ~~~x.rc := by
  simp only [State.rcClear, hx]
  split
  · next h => exact h ▸ (BitVec.and_allOnes).symm
  · exact State.rd_wr_same s a _

theorem rd_rcClear_ne (h : b ≠ a) : (s.rcClear a).rd b = s.rd b := by
  unfold State.rcClear
  split
  · split
    · rfl
    · exact State.rd_wr_ne s h.symm _
  · rfl

@[simp] theorem rcClear_hostRd : (s.rcClear a).hostRd = s.hostRd := by
  unfold State.rcClear
  split
  · split <;> rfl
  · rfl

theorem loadWord_plain (hp : plainAddr s a) : s.loadWord i a = ({ s with hostRd := s.wordAt a }).rcClear a := by
  obtain ⟨-, -, hlow, hhigh, -, hnow, htl, hsec, hyear⟩ := hp
  simp [State.loadWord, hlow, hhigh, hnow, htl, hsec, hyear]

/-! ### Accesses that fail -/

theorem rd_accessErr_count : s.accessErr.rd HIF_CNT_ACCESS = BitVec.ofNat 32 (min 0xFFFFFFFF ((s.rd HIF_CNT_ACCESS).toNat + 1)) := by
  rw [State.accessErr, State.rd_raiseSrc _ _ _ _ (by decide) (by decide), State.rd_bump_same]

/-- A failed access changes no register but those through which every block reports. -/
theorem rd_accessErr_ne (hb : reporting b = false) : s.accessErr.rd b = s.rd b := by
  obtain ⟨hcnt, hovf, hflag⟩ : b ≠ HIF_CNT_ACCESS ∧ b ≠ FLT_CNT_OVERFLOW ∧ b ≠ FLT_FLAG := by simpa [reporting] using hb
  rw [State.accessErr, State.rd_raiseSrc _ _ _ _ hovf.symm hflag.symm, State.rd_bump_ne _ hcnt.symm]

/-! ### Serial frames -/

theorem hspReads_length (n : Nat) : (s.hspReads a n).2.length = n := by
  induction n generalizing s a with
  | zero => rfl
  | succ n ih => simp [State.hspReads, ih]

theorem hspReads_head (n : Nat) : (s.hspReads a (n + 1)).2.head? = some (s.busRead .hsp a).hostRd := rfl

/-- A frame of words that lie in BAR0 is answered OK where the port serves. -/
theorem hspStatus_ok {count ofs : Nat} (hb : s.hspBusy = false) (ha : ofs % 4 = 0) (hl : ofs + 4 * count ≤ 0x4000000) :
    s.hspStatus true count ofs true = hspOk := by
  have hin : ¬ (ofs % 4 ≠ 0 ∨ 0x4000000 < ofs + 4 * count) := by omega
  rw [State.hspStatus, hb, if_neg hin]
  rfl

theorem hspRead_ok {count ofs : Nat} {cut : HspCut} (hp : s.powered = true) (hb : s.hspBusy = false) (hc : cut ≠ .beforeCrc)
    (ha : ofs % 4 = 0) (hl : ofs + 4 * count ≤ 0x4000000) :
    s.hspRead 1 count ofs true cut = (s.hspReads ofs count).1.emit
      (.hsp hspOk (if cut = .afterOk then [] else (s.hspReads ofs count).2)) := by
  simp [State.hspRead, hp, hc, hspStatus_ok hb ha hl]

theorem hspWrite_ok {ofs : Nat} {data : List Word} (hp : s.powered = true) (hb : s.hspBusy = false) (ha : ofs % 4 = 0)
    (hl : ofs + 4 * data.length ≤ 0x4000000) :
    s.hspWrite 2 ofs data true false = (s.hspWrites ofs data).emit (.hsp hspOk []) := by
  simp [State.hspWrite, hp, hspStatus_ok hb ha hl]

end Access

/-- Settles O49: what the device sets is joined to the register after the host's write. -/
theorem clearRace : Obligations.ClearRace := by
  intro s i a v set x k hr hw hx hk hold hs
  refine ⟨_, rfl, ?_⟩
  rw [busAt_made hr hw, rd_endSet hx]
  simp [hold, hs, hk]

/-- Settles O48: a made access of a plain address is the access types' own effect; one that fails only reports; a frame that passes
its checks makes its accesses. -/
theorem registerAccess : Obligations.RegisterAccess := by
  refine ⟨?write, ?w1c, ?rc, ?badWidth, ?unassigned, ?hspRead, ?hspWrite⟩
  case write =>
    intro s i a v x hr hp hx ha
    obtain ⟨-, -, -, -, hw, -⟩ := id hp
    refine ⟨_, rfl, ?_⟩
    simp only [State.busWrite, busAt_made hr hw, storeWord_quiet hp ha hx]
    exact ⟨State.rd_wr_same _ _ _, wr_onlyRegs _⟩
  case w1c =>
    intro s i a v set x hr hp hx ha
    obtain ⟨-, -, -, -, hw, -⟩ := id hp
    refine ⟨_, rfl, ?_⟩
    rw [busAt_made hr hw, rd_endSet hx, storeWord_quiet hp ha hx, State.rd_wr_same]
    rfl
  case rc =>
    intro s i a x hr hp hx
    obtain ⟨-, -, -, -, hw, -⟩ := id hp
    refine ⟨_, rfl, ?_⟩
    rw [State.busRead, busAt_made hr hw, loadWord_plain (s := s.stirred a.toNat) hp]
    exact ⟨by simp, rd_rcClear_same hx, fun b hb => rd_rcClear_ne hb⟩
  case badWidth =>
    intro s a w hr
    refine ⟨_, rfl, ?_⟩
    cases w <;> simp only [State.badWidth, if_neg hr]
    · exact ⟨rd_accessErr_count, fun _ => rfl, fun b hb => rd_accessErr_ne hb⟩
    · exact ⟨rd_accessErr_count, nofun, fun b hb => rd_accessErr_ne hb⟩
  case unassigned =>
    intro s i a v hr
    refine ⟨_, rfl, ?_⟩
    cases v with
    | none =>
      rw [State.busAccess, State.busRead, busAt_counted hr]
      exact ⟨rd_accessErr_count, fun _ => rfl, fun b hb => rd_accessErr_ne hb⟩
    | some v =>
      rw [State.busAccess, State.busWrite, busAt_counted hr]
      exact ⟨rd_accessErr_count, nofun, fun b hb => rd_accessErr_ne hb⟩
  case hspRead =>
    intro s count ofs cut hp hb hc ha hl
    refine ⟨_, (s.hspReads ofs.toNat (count.toNat + 1)).2, rfl, hspReads_length _, hspReads_head _, ?_⟩
    rw [hspRead_ok hp hb hc ha hl]
    rfl
  case hspWrite =>
    intro s ofs data hp hb ha hl
    refine ⟨_, rfl, ?_⟩
    rw [hspWrite_ok hp hb ha hl]
    exact ⟨rfl, rfl, rfl⟩

/-! ## Pairs -/

/-- A MEMMAP section of one rule window whose base, 1 in units of 64 KiB, lies over the registers (R286 admits none below 0x100). -/
def lowWindowMap : List Byte := [0, 1] ++ List.replicate 14 0 ++ [1, 0, 26, 0, 0, 0, 0, 0]

/-- A serving device whose blank has that window, and whose prescaler has moved since the shadows of the clock were taken. -/
def lowWindowState : State :=
  { State.reset with pwr := { phase := .run }, regs := [(0x60000, 3)], blk := some { memmap := lowWindowMap },
                     rtc := { pre := 1 } }

/-- There RTC_HOUR counts as the low word of a rule counter. -/
theorem lowWindow_hour : lowWindowState.reach (some .pcie) RTC_HOUR = .made ∧ inWindows RTC_HOUR = false ∧
    lowWindowState.isLow RTC_HOUR = true := by decide +kernel

/-- The write brings the shadows up to date, as a write of any register of the RTC does (R371). -/
theorem lowWindow_write : (lowWindowState.busWrite .pcie RTC_HOUR 0).regs ≠ lowWindowState.regs := by decide +kernel

/-- Refutes O50, in its clause on low writes: a state may hold a blank that no check of R286 has let in, whose window lies over the
registers of the RTC; a write of RTC_HOUR is then that of a low word, and the registers of the clock still change as it ends a freeze. -/
theorem not_pairAccess : ¬ Obligations.PairAccess := by
  rintro ⟨-, -, hlow, -⟩
  obtain ⟨hmade, hwin, hpair⟩ := lowWindow_hour
  obtain ⟨t, ht, -, hregs, -⟩ := hlow lowWindowState .pcie (BitVec.ofNat 26 RTC_HOUR) 0 hmade hwin hpair
  cases ht
  exact lowWindow_write (hregs (by decide))

end Sys2Proof.Proofs
end

section
namespace Sys2Proof.Proofs
open Sys2Proof Sys2Proof.Machine

/-! ## What the radios' shared operations touch -/
section Touches

/-- What holds of every radio holds of this one. A decision is thus made on a closed statement, whatever is known of the radio. -/
theorem atRadio {p : Fin 3 → Prop} (r : Fin 3) (h : ∀ r, p r) : p r := h r

/-- What holds of every synthesiser of every radio holds of this one. -/
theorem atSynth {p : Fin 3 → Bool → Prop} (r : Fin 3) (k : Bool) (h : ∀ r k, p r k) : p r k := h r k

/-- The two fields share no bit. -/
def apart (f g : Fld) : Bool := decide (f.addr ≠ g.addr ∨ f.lo + f.w ≤ g.lo ∨ g.lo + g.w ≤ f.lo)

/-- The field fits its register and shares no bit with any of `l`. -/
def clearOf (l : List Fld) (g : Fld) : Bool := decide (g.lo + g.w ≤ 32) && l.all (apart · g)

/-- A register as the field of all its bits. -/
def whole (a : Nat) : Fld := ⟨a, 0, 32⟩

/-- Every status of the queue is a template's. -/
def templates (q : List TxReturn) : Prop := ∀ x ∈ q, ∃ n, x.unit = .tpl n

/-- A synthesiser of a radio: false SY0, true SY1. -/
def synthOf (f : FrnState) (k : Bool) : Synth := if k then f.syn1 else f.syn0

/-- The two states of a radio agree in its synthesisers, its pair, its queues and its buffers: its front end, and what is on its air,
may differ. -/
def sameRadio (f g : FrnState) : Prop :=
  { g with fem := f.fem, idle := f.idle, lagTo := f.lagTo, ppdu := f.ppdu, rsp := f.rsp, rxEnd := f.rxEnd, deaf := f.deaf } = f

/-- The registers of the epoch, from which Frond's counter counts. -/
def epochRegs : List Nat := [SPN_EPOCH_NS, SPN_EPOCH_SEC_LO, SPN_EPOCH_SEC_HI]

/-- From `s` to `t` registers have changed at most in the fields of `l`, no memory has changed, no time has passed, and where only
templates' statuses waited only they wait; radio `r` stands in `t` as `f` has it. -/
structure Touches (r : Fin 3) (l : List Fld) (f : FrnState) (s t : State) : Prop where
  bar : t.bar = s.bar
  ref : t.ref = s.ref
  spn : t.spn = s.spn
  retq : templates s.retq → templates t.retq
  radio : sameRadio f (t.fr r)
  fields : ∀ g : Fld, clearOf l g = true → t.get g = s.get g

theorem fr_congr {r : Fin 3} {s t : State} (h : t.frn = s.frn) : t.fr r = s.fr r := by simp [State.fr, h]

@[simp] theorem fr_setFr {r : Fin 3} {s : State} (f : FrnState) : (s.setFr r f).fr r = f := by simp [State.fr, State.setFr]

@[simp] theorem fr_put {r : Fin 3} {s : State} (w : Fld) (v : Nat) : (s.put w v).fr r = s.fr r := rfl

theorem rd_whole {s : State} (a : Nat) : s.rd a = BitVec.ofNat 32 (s.get (whole a)) := by
  apply BitVec.eq_of_toNat_eq
  simp [State.get, whole, Nat.mod_eq_of_lt (s.rd a).isLt]

/-- A write of a register is one of the field of all its bits. -/
theorem wr_whole {s : State} (a : Nat) (v : Word) : s.wr a v = s.put (whole a) v.toNat := by
  have hm : (whole a).mask = BitVec.allOnes 32 := by simp only [Fld.mask, whole]; decide
  rw [State.put, hm, BitVec.not_allOnes, BitVec.and_zero, BitVec.zero_or, BitVec.and_allOnes]
  simp [whole]

theorem clearOf_mono {l m : List Fld} (hl : l ⊆ m) {g : Fld} (h : clearOf m g = true) : clearOf l g = true := by
  simp only [clearOf, Bool.and_eq_true, List.all_eq_true] at h ⊢
  exact ⟨h.1, fun f hf => h.2 f (hl hf)⟩

theorem templates_nil : templates [] := fun _ hx => absurd hx List.not_mem_nil

theorem sameRadio.trans {f g h : FrnState} (hf : sameRadio f g) (hg : sameRadio g h) : sameRadio f h := by
  unfold sameRadio at *
  rw [← hf, ← hg]

namespace Touches

variable {r : Fin 3} {l m : List Fld} {f : FrnState} {s t u : State}

/-- A step that changes neither registers, memories, radios nor the time, and returns nothing. -/
theorem of_eq (hr : t.regs = s.regs) (hn : t.frn = s.frn) (hb : t.bar = s.bar) (hf : t.ref = s.ref) (hs : t.spn = s.spn)
    (hq : t.retq = s.retq) : Touches r [] (s.fr r) s t :=
  ⟨hb, hf, hs, fun h => by rwa [hq], by rw [fr_congr hn]; rfl, fun g _ => State.get_congr hr g⟩

theorem refl : Touches r [] (s.fr r) s s := of_eq rfl rfl rfl rfl rfl rfl

theorem mono (h : Touches r l f s t) (hl : l ⊆ m) : Touches r m f s t :=
  { h with fields := fun g hg => h.fields g (clearOf_mono hl hg) }

/-- A step after another; what the radio is afterwards, the second says. -/
theorem after {g : FrnState} (h : Touches r l f s t) (h' : Touches r m g t u) : Touches r (m ++ l) g s u where
  bar := h'.bar.trans h.bar
  ref := h'.ref.trans h.ref
  spn := h'.spn.trans h.spn
  retq hs := h'.retq (h.retq hs)
  radio := h'.radio
  fields g hg := (h'.fields g (clearOf_mono (by simp) hg)).trans (h.fields g (clearOf_mono (by simp) hg))

/-- A step after another, which keeps the radio. -/
theorem trans (h : Touches r l f s t) (h' : Touches r m (t.fr r) t u) : Touches r (m ++ l) f s u :=
  { h.after h' with radio := h.radio.trans h'.radio }

end Touches

/-! ### What a field reads after it -/

namespace Touches

/-- Fields apart from those touched read as before, whatever the radio and the synthesiser. -/
theorem get {r : Fin 3} {l : List Fld} {f : FrnState} {s t : State} (h : Touches r l f s t) (g : Fld)
    (hg : clearOf l g = true := by apply atRadio r; decide +revert) : t.get g = s.get g :=
  h.fields g hg

theorem flag {r : Fin 3} {l : List Fld} {f : FrnState} {s t : State} (h : Touches r l f s t) (g : Fld)
    (hg : clearOf l g = true := by apply atRadio r; decide +revert) : t.flag g = s.flag g := by
  rw [State.flag, h.get g hg, State.flag]

theorem rd {r : Fin 3} {l : List Fld} {f : FrnState} {s t : State} (h : Touches r l f s t) (a : Nat)
    (ha : clearOf l (whole a) = true := by apply atRadio r; decide +revert) : t.rd a = s.rd a := by
  rw [rd_whole, h.get (whole a) ha, ← rd_whole]

variable {r : Fin 3} {l m : List Fld} {f : FrnState} {s t u : State}

theorem wait (h : Touches r l f s t) : (t.fr r).wait = f.wait := (congrArg FrnState.wait h.radio :)
theorem starting (h : Touches r l f s t) : (t.fr r).starting = f.starting := (congrArg FrnState.starting h.radio :)
theorem halting (h : Touches r l f s t) : (t.fr r).halting = f.halting := (congrArg FrnState.halting h.radio :)
theorem queues (h : Touches r l f s t) : (t.fr r).queues = f.queues := (congrArg FrnState.queues h.radio :)
theorem die (h : Touches r l f s t) : (t.fr r).die = f.die := (congrArg FrnState.die h.radio :)
theorem syn (h : Touches r l f s t) (k : Bool) : t.syn r k = synthOf f k := by
  cases k
  · exact (congrArg FrnState.syn0 h.radio :)
  · exact (congrArg FrnState.syn1 h.radio :)

/-- The Frond counter depends on the spindle, the reference and the epoch alone. -/
theorem frnTick (h : Touches r l f s t) (he : epochRegs.all (fun a => clearOf l (whole a)) = true := by apply atRadio r; decide +revert) :
    t.frnTick = s.frnTick := by
  simp only [epochRegs, List.all_cons, List.all_nil, Bool.and_true, Bool.and_eq_true] at he
  obtain ⟨hns, hlo, hhi⟩ := he
  simp only [State.frnTick, State.frnClk, State.epochNs, h.spn, h.ref, h.rd _ hns, h.rd _ hlo, h.rd _ hhi]

/-! ### The elementary steps -/

theorem put (h : Touches r l f s t) (w : Fld) (v : Nat) : Touches r (w :: l) f s (t.put w v) := by
  refine h.trans (m := [w]) ⟨rfl, rfl, rfl, id, rfl, fun g hg => ?_⟩
  simp only [clearOf, List.all_cons, List.all_nil, Bool.and_true, apart, Bool.and_eq_true, decide_eq_true_eq] at hg
  obtain ⟨hfits, ha | hb⟩ := hg
  · exact State.get_put_ne t ha v
  · exact State.get_put_apart t v hfits hb

theorem putB (h : Touches r l f s t) (w : Fld) (b : Bool) : Touches r (w :: l) f s (t.putB w b) := h.put w _

theorem bump (h : Touches r l f s t) (a : Nat) : Touches r (whole a :: l) f s (t.bump a) := by
  rw [State.bump, State.bumpBy, wr_whole]
  exact h.put _ _

theorem raiseSrc (h : Touches r l f s t) (a b c : Nat) :
    Touches r (FLT_FLAG_OVERFLOW :: whole FLT_CNT_OVERFLOW :: l) f s (t.raiseSrc a b c) := by
  unfold State.raiseSrc
  split
  · split
    · refine (h.mono (by simp)).trans (m := []) ?_
      exact of_eq rfl rfl rfl rfl rfl rfl
    · exact (h.bump _).put _ _
  · exact h.mono (by simp)

theorem raise (h : Touches r l f s t) (w : Fld) :
    Touches r (FLT_FLAG_OVERFLOW :: whole FLT_CNT_OVERFLOW :: w :: l) f s (t.raise w) := by
  unfold State.raise State.raiseD
  split
  · exact (h.put w 1).raiseSrc _ _ _
  · exact (h.put w 1).mono (by simp)

theorem emit (h : Touches r l f s t) (o : OutMsg) : Touches r l f s (t.emit o) := by
  refine h.trans (m := []) ?_
  exact of_eq rfl rfl rfl rfl rfl rfl

/-- The radio's state is set, whatever it was. -/
theorem setFr (h : Touches r l f s t) (g : FrnState) : Touches r l g s (t.setFr r g) where
  bar := h.bar
  ref := h.ref
  spn := h.spn
  retq := h.retq
  radio := by rw [fr_setFr]; rfl
  fields := h.fields

/-- The radio's state is set to one that the relation does not tell apart. -/
theorem setSame (h : Touches r l f s t) {g : FrnState} (hg : sameRadio (t.fr r) g) : Touches r l f s (t.setFr r g) :=
  { h.setFr g with radio := h.radio.trans (by rwa [fr_setFr]) }

/-! ### The radios' own operations -/

theorem femDrive (h : Touches r l f s t) (mode at_ : Nat) : Touches r l f s (t.femDrive r mode at_) := by
  unfold State.femDrive
  exact (h.setSame (by exact rfl)).emit _

theorem toRadio (h : Touches r l f s t) (st : Nat) : Touches r (FRN_STAT_STATE r :: l) f s (t.toRadio r st) :=
  (h.put _ _).femDrive _ _

end Touches

/-- The fields in which FRN_STAT and the stores' counts show the synthesisers. -/
def shown (r : Fin 3) : List Fld :=
  [synUsed r true, synUsed r false, FRN_STAT_PREP_CH r, FRN_STAT_PREP_RDY r, FRN_STAT_ACT_CH r, FRN_STAT_ACT_LOCK r,
    FRN_STAT_ACT_SYN r]

/-- The fields that say how a synthesiser stands. -/
def synFields (r : Fin 3) (k : Bool) : List Fld := [synActive r k, synFailed r k, synCalib r k, synLocked r k, synCh r k]

namespace Touches

variable {r : Fin 3} {l m : List Fld} {f : FrnState} {s t u : State}

theorem frnShow (h : Touches r l f s t) : Touches r (shown r ++ l) f s (t.frnShow r) := by
  refine h.trans ?_
  unfold State.frnShow
  cases t.activeSyn r with
  | some k => exact (((((((refl.putB _ _).putB _ _).put _ _).putB _ _).put _ _).put _ _).put _ _)
  | none =>
    refine Touches.mono ((((((refl.put _ _).put _ _).putB _ _).put _ _).put _ _).put _ _) (m := shown r) ?_
    simp [shown]

theorem unprepare (h : Touches r l f s t) (k : Bool) : Touches r (synFields r k ++ l) f s (t.unprepare r k) :=
  ((((h.put _ _).put _ _).put _ _).put _ _).put _ _

theorem cutRx (h : Touches r l f s t) : Touches r l f s (t.cutRx r) := by
  have hcut := h.setSame (g := { t.fr r with rxEnd := none, rsp := none, deaf := 0 }) (by exact rfl)
  unfold State.cutRx
  split
  · split
    · exact hcut.emit _
    · exact hcut
  · exact hcut

/-- A template that is given up returns a template's status. -/
theorem dropTpl (h : Touches r l f s t) : Touches r l f s (t.dropTpl r) := by
  unfold State.dropTpl
  split
  · next x _ =>
    split
    · refine h.trans (m := []) { of_eq rfl rfl rfl rfl rfl rfl with retq := fun hq => ?_ }
      intro y hy
      obtain hy | hy := List.mem_append.mp hy
      · exact hq y hy
      · exact ⟨x.num, by rw [List.mem_singleton.mp hy]⟩
    · exact h
  · exact h

end Touches

/-- The fields that an entry to STANDBY may change. -/
def standby (r : Fin 3) : List Fld := shown r ++ FRN_STAT_STATE r :: (synFields r true ++ synFields r false)

namespace Touches

variable {r : Fin 3} {l m : List Fld} {f : FrnState} {s t u : State}

/-- The last steps of an entry to STANDBY. -/
theorem standbyEnd (h : Touches r l f s t) (k : Bool) :
    Touches r (shown r ++ FRN_STAT_STATE r :: l) f s (((t.setFr r { t.fr r with idle := k }).toRadio r 2).frnShow r) :=
  ((h.setSame (by exact rfl)).toRadio _).frnShow

/-- An active synthesiser that has not failed keeps what it has but its activity. -/
theorem toStandby_active (h : Touches r l f s t) {k : Bool} (hk : t.activeSyn r = some k) (hf : t.flag (synFailed r k) = false) :
    Touches r (shown r ++ FRN_STAT_STATE r :: synActive r k :: (synFields r (!k) ++ l)) f s (t.toStandby r) := by
  simp only [State.toStandby, hk, hf, Bool.false_eq_true, if_false]
  exact ((h.unprepare _).put _ _).standbyEnd k

theorem toStandby (h : Touches r l f s t) : Touches r (standby r ++ l) f s (t.toStandby r) := by
  refine h.trans ?_
  cases hk : t.activeSyn r with
  | some k =>
    cases hf : t.flag (synFailed r k) with
    | false => exact (refl.toStandby_active hk hf).mono (by cases k <;> simp [standby, synFields])
    | true =>
      simp only [State.toStandby, hk, hf, if_true]
      exact ((((refl.unprepare _).put _ _).unprepare _).standbyEnd k).mono (by cases k <;> simp [standby, synFields])
  | none =>
    simp only [State.toStandby, hk]
    split
    · exact (refl.toRadio _).frnShow.mono (by simp [standby])
    · exact refl.mono (by simp)

end Touches

theorem dropTpl_fr {r : Fin 3} {s : State} : (s.dropTpl r).fr r = s.fr r := by
  unfold State.dropTpl
  split
  · split <;> rfl
  · rfl

theorem cutTx_idle {r : Fin 3} {s : State} (hp : (s.fr r).ppdu = none) : s.cutTx r = s := by simp [State.cutTx, hp]

/-- A flag reads as it is written. -/
theorem flag_written {s : State} (f : Fld) (b : Bool)
    (hf : f.lo + f.w ≤ 32 ∧ 0 < f.w := by apply atRadio r; decide +revert) : (s.putB f b).flag f = b :=
  State.flag_putB_same s hf.1 hf.2 b

/-- A field that has room for a value reads as it. -/
theorem get_written {s : State} (f : Fld) (v : Nat)
    (hf : f.lo + f.w ≤ 32 ∧ v < 2 ^ f.w := by apply atRadio r; decide +revert) : (s.put f v).get f = v :=
  (State.get_put_same s hf.1 v).trans (Nat.mod_eq_of_lt hf.2)

end Touches

/-! ## Enabling, running and halting (R59, R63, R73, R433) -/
section Control

theorem ctlWord_en (en run auto : Bool) : (ctlWord en run auto).getLsbD 0 = en := by decide +revert
theorem ctlWord_run (en run auto : Bool) : (ctlWord en run auto).getLsbD 1 = run := by decide +revert
theorem ctlWord_auto (en run auto : Bool) : (ctlWord en run auto).getLsbD 2 = auto := by decide +revert

theorem hostAt_made {s : State} {i : Option Iface} {a : Nat} {f : State → State} (h : s.reach i a = .made) :
    s.hostAt i a f = f (s.hostWrote a) := by
  simp [State.hostAt, h]

/-- Statuses of templates stay with the access scheduler. -/
theorem foldl_deliverReturn {s : State} {q : List TxReturn} (hq : templates q) :
    ∃ a, q.foldl State.deliverReturn s = { s with acc := a } := by
  induction q generalizing s with
  | nil => exact ⟨s.acc, rfl⟩
  | cons x q ih =>
    obtain ⟨n, hn⟩ := hq x (by simp)
    have hx : s.deliverReturn x = { s with acc := { s.acc with tplRet := s.acc.tplRet.set x.radio (some x) } } := by
      simp [State.deliverReturn, hn]
    obtain ⟨a, ha⟩ := ih (s := s.deliverReturn x) fun y hy => hq y (by simp [hy])
    exact ⟨a, by rw [List.foldl_cons, ha, hx]⟩

theorem deliverReturns_eq {s : State} (hq : templates s.retq) :
    ∃ q a, templates q ∧ s.deliverReturns = { s with retq := q, acc := a } := by
  unfold State.deliverReturns
  split
  · obtain ⟨a, ha⟩ := foldl_deliverReturn (s := { s with retq := [] }) hq
    exact ⟨[], a, templates_nil, ha⟩
  · exact ⟨s.retq, s.acc, hq, rfl⟩

theorem deliverReturns_regs {s : State} (hq : templates s.retq) : s.deliverReturns.regs = s.regs := by
  obtain ⟨q, a, -, h⟩ := deliverReturns_eq hq
  rw [h]

theorem deliverReturns_frn {s : State} (hq : templates s.retq) : s.deliverReturns.frn = s.frn := by
  obtain ⟨q, a, -, h⟩ := deliverReturns_eq hq
  rw [h]

theorem Touches.deliverReturns {r : Fin 3} {l : List Fld} {f : FrnState} {s t : State} (h : Touches r l f s t)
    (hq : templates s.retq) : Touches r l f s t.deliverReturns := by
  refine h.trans (m := []) ?_
  obtain ⟨q, a, hqt, ht⟩ := deliverReturns_eq (h.retq hq)
  rw [ht]
  exact { of_eq rfl rfl rfl rfl rfl rfl with retq := fun _ => hqt }

theorem frnEnable_on {r : Fin 3} {s : State} (h : s.flag (FRN_CTL_EN r) = true) : s.frnEnable r = s := by
  simp [State.frnEnable, h]
theorem runSet_running {r : Fin 3} {s : State} (h : s.flag (FRN_CTL_RUN r) = true) : s.runSet r = s := by
  simp [State.runSet, h]
theorem runClear_stopped {r : Fin 3} {s : State} (h : s.flag (FRN_CTL_RUN r) = false) : s.runClear r = s := by
  simp [State.runClear, h]

/-- Writing the value that RUN has changes nothing. -/
theorem run_kept {r : Fin 3} {s : State} {run : Bool} (h : s.flag (FRN_CTL_RUN r) = run) :
    (if run then s.runSet r else s.runClear r) = s := by
  cases run
  · exact runClear_stopped h
  · exact runSet_running h

/-- Writing the value that EN has changes nothing. -/
theorem en_kept {r : Fin 3} {s : State} {en : Bool} (h : s.flag (FRN_CTL_EN r) = en) :
    (if en then s.frnEnable r else if s.flag (FRN_CTL_EN r) then s.frnDisable r else s) = s := by
  cases en
  · simp [h]
  · exact frnEnable_on h

/-- FRN_CTL is written bit by bit: AUTO_RST, EN, RUN. -/
theorem frnCtlWrite_ctlWord {r : Fin 3} {s : State} (en run auto : Bool) :
    s.frnCtlWrite r (ctlWord en run auto) =
      let s1 := s.putB (FRN_CTL_AUTO_RST r) auto
      let s2 := if en then s1.frnEnable r else if s1.flag (FRN_CTL_EN r) then s1.frnDisable r else s1
      if run then s2.runSet r else s2.runClear r := by
  rw [State.frnCtlWrite, ctlWord_en, ctlWord_run, ctlWord_auto]

/-- A write that leaves EN as it is. -/
theorem frnCtlWrite_en_kept {r : Fin 3} {s : State} {en : Bool} (h : s.flag (FRN_CTL_EN r) = en) (run auto : Bool) :
    s.frnCtlWrite r (ctlWord en run auto) =
      if run then (s.putB (FRN_CTL_AUTO_RST r) auto).runSet r else (s.putB (FRN_CTL_AUTO_RST r) auto).runClear r := by
  have hkept : (s.putB (FRN_CTL_AUTO_RST r) auto).flag (FRN_CTL_EN r) = en :=
    ((Touches.refl (r := r)).putB _ _).flag _ |>.trans h
  simp only [frnCtlWrite_ctlWord, en_kept hkept]

/-- An enabled radio is in SLEEP, and its pair starts with the next turn where RUN is set. -/
theorem frnEnable_eq {r : Fin 3} {s : State} (he : s.flag (FRN_CTL_EN r) = false) (hr : (s.rflag r 0 || s.rflag r 1) = true) :
    s.frnEnable r =
      (((s.put (FRN_CTL_EN r) 1).setFr r { s.fr r with starting := s.flag (FRN_CTL_RUN r) }).toRadio r 1).frnShow r := by
  simp [State.frnEnable, he, hr]

/-- The radio's state once it is off: both synthesisers with their stores cleared, the pair set back. -/
def switchedOff (f : FrnState) : FrnState :=
  { f with wait := .none, starting := false, restart := false, halting := false, femOff := false, idle := false, syn0 := {}, syn1 := {} }

theorem frnDisable_eq {r : Fin 3} {s : State} (hp : (s.fr r).ppdu = none) :
    s.frnDisable r =
      let u := ((s.put (FRN_CTL_EN r) 0).dropTpl r).cutRx r
      (((((u.setFr r (switchedOff (u.fr r))).unprepare r false).unprepare r true).put (FRN_STAT_SEQ r) 0).toRadio r 0).frnShow r := by
  rw [State.frnDisable, cutTx_idle (by rw [dropTpl_fr]; exact hp)]
  rfl

theorem frnSt_shown {r : Fin 3} {s : State} {st : Nat} (h : st < 8) : ((s.toRadio r st).frnShow r).frnSt r = st := by
  have hshow : Touches r (shown r) _ (s.put (FRN_STAT_STATE r) st) ((s.toRadio r st).frnShow r) := (Touches.refl.femDrive _ _).frnShow
  exact (hshow.get (FRN_STAT_STATE r)).trans (get_written _ st ⟨by apply atRadio r; decide +revert, h⟩)

/-- Of a radio with no PPDU in hand nothing but a template comes back. -/
theorem frnDisable_off {r : Fin 3} {s : State} (hp : (s.fr r).ppdu = none) :
    (∃ f, Touches r (shown r ++ FRN_STAT_STATE r :: FRN_STAT_SEQ r :: (synFields r true ++ synFields r false))
      (switchedOff f) (s.put (FRN_CTL_EN r) 0) (s.frnDisable r) ∧ f.queues = (s.fr r).queues) ∧
    (s.frnDisable r).frnSt r = 0 ∧ (s.frnDisable r).seqSt r = 0 := by
  have hcut : Touches r [] (s.fr r) (s.put (FRN_CTL_EN r) 0) (((s.put (FRN_CTL_EN r) 0).dropTpl r).cutRx r) := by
    rw [← fr_put (s := s) (FRN_CTL_EN r) 0]
    exact Touches.refl.dropTpl.cutRx
  rw [frnDisable_eq hp]
  generalize ((s.put (FRN_CTL_EN r) 0).dropTpl r).cutRx r = u at hcut
  refine ⟨⟨u.fr r, (((((hcut.setFr _).unprepare _).unprepare _).put _ _).toRadio _).frnShow, hcut.queues⟩, ?_, ?_⟩
  · exact frnSt_shown (by decide)
  · exact ((Touches.refl.toRadio 0).frnShow.get (FRN_STAT_SEQ r)).trans (get_written _ 0)

theorem frnCtlWrite_enable {r : Fin 3} {s : State} {run : Bool} (auto : Bool) (he : s.flag (FRN_CTL_EN r) = false)
    (hr : (s.rflag r 0 || s.rflag r 1) = true) (hrun : s.flag (FRN_CTL_RUN r) = run) :
    s.frnCtlWrite r (ctlWord true run auto) =
      ((((s.putB (FRN_CTL_AUTO_RST r) auto).put (FRN_CTL_EN r) 1).setFr r { s.fr r with starting := run }).toRadio r 1).frnShow r := by
  have hauto := (Touches.refl (r := r) (s := s)).putB (FRN_CTL_AUTO_RST r) auto
  have hrun1 := (hauto.flag (FRN_CTL_RUN r)).trans hrun
  have hon := frnEnable_eq ((hauto.flag (FRN_CTL_EN r)).trans he) hr
  rw [hrun1] at hon
  rw [frnCtlWrite_ctlWord]
  simp only [if_true, hon]
  exact run_kept ((((((hauto.put _ _).setFr _).toRadio _).frnShow).flag (FRN_CTL_RUN r)).trans hrun)

theorem frnCtlWrite_disable {r : Fin 3} {s : State} {run : Bool} (auto : Bool) (he : s.flag (FRN_CTL_EN r) = true)
    (hrun : s.flag (FRN_CTL_RUN r) = run) (hp : (s.fr r).ppdu = none) :
    s.frnCtlWrite r (ctlWord false run auto) = (s.putB (FRN_CTL_AUTO_RST r) auto).frnDisable r := by
  have hauto := (Touches.refl (r := r) (s := s)).putB (FRN_CTL_AUTO_RST r) auto
  have he1 := (hauto.flag (FRN_CTL_EN r)).trans he
  obtain ⟨⟨f, hoff, -⟩, -⟩ := frnDisable_off (s := s.putB (FRN_CTL_AUTO_RST r) auto) hp
  rw [frnCtlWrite_ctlWord]
  simp only [Bool.false_eq_true, if_false, if_pos he1]
  exact run_kept ((hoff.flag (FRN_CTL_RUN r)).trans (((hauto.put _ _).flag (FRN_CTL_RUN r)).trans hrun))

theorem frnCtlWrite_run {r : Fin 3} {s : State} {en : Bool} (auto : Bool) (he : s.flag (FRN_CTL_EN r) = en)
    (hrun : s.flag (FRN_CTL_RUN r) = false) :
    s.frnCtlWrite r (ctlWord en true auto) =
      ((s.putB (FRN_CTL_AUTO_RST r) auto).put (FRN_CTL_RUN r) 1).setFr r { s.fr r with starting := true } := by
  have hauto := (Touches.refl (r := r) (s := s)).putB (FRN_CTL_AUTO_RST r) auto
  rw [frnCtlWrite_en_kept he, if_pos rfl, State.runSet, (hauto.flag (FRN_CTL_RUN r)).trans hrun]
  rfl

theorem frnCtlWrite_stop {r : Fin 3} {s : State} {en : Bool} (auto : Bool) (he : s.flag (FRN_CTL_EN r) = en)
    (hrun : s.flag (FRN_CTL_RUN r) = true) :
    s.frnCtlWrite r (ctlWord en false auto) = ((s.putB (FRN_CTL_AUTO_RST r) auto).put (FRN_CTL_RUN r) 0).seqHalt r := by
  have hauto := (Touches.refl (r := r) (s := s)).putB (FRN_CTL_AUTO_RST r) auto
  rw [frnCtlWrite_en_kept he, if_neg Bool.false_ne_true, State.runClear, (hauto.flag (FRN_CTL_RUN r)).trans hrun, if_pos rfl]

/-- The radio's state once its pair has halted. -/
def halted (f : FrnState) : FrnState :=
  { f with wait := .none, halting := false, rxEnd := none, starting := false, restart := false }

theorem Touches.haltDone {r : Fin 3} {l : List Fld} {f : FrnState} {s t : State} (h : Touches r l f s t) :
    Touches r (standby r ++ FRN_STAT_SEQ r :: l) (halted (t.fr r)) s (t.haltDone r) :=
  ((h.setFr (halted (t.fr r))).put _ _).toStandby

theorem seqSt_haltDone {r : Fin 3} {s : State} : (s.haltDone r).seqSt r = 0 :=
  (Touches.refl.toStandby.get (FRN_STAT_SEQ r)).trans (get_written _ 0)

theorem seqHalt_idle {r : Fin 3} {s : State} (hp : (s.fr r).ppdu = none) (hx : (s.fr r).rxEnd = none) :
    s.seqHalt r = (s.dropTpl r).haltDone r := by
  simp [State.seqHalt, hp, hx]

/-- With a PPDU on the air the pair halts once it has completed. -/
theorem seqHalt_sending {r : Fin 3} {s : State} {p : TxPpdu} (hp : (s.fr r).ppdu = some p) (ht : p.start ≤ s.frnTick) :
    ∃ f : FrnState, f.halting = true ∧ f.ppdu = some p ∧ Touches r [] f s (s.seqHalt r) ∧ (s.seqHalt r).fr r = f := by
  have hdrop : Touches r [] (s.fr r) s (s.dropTpl r) := Touches.refl.dropTpl
  simp only [State.seqHalt, hp, ht, true_or, if_true]
  split
  · refine ⟨{ ((s.dropTpl r).setWait r .none).fr r with halting := true, starting := false, restart := false }, rfl, ?_,
      (hdrop.setFr _).setFr _, fr_setFr _⟩
    rw [State.setWait, fr_setFr, dropTpl_fr]
    exact hp
  · exact ⟨{ s.fr r with halting := true, starting := false, restart := false }, rfl, hp, Touches.refl.setFr _, fr_setFr _⟩

/-! ### The commands of FRN_CTL -/

/-- What a command of FRN_CTL does to a state: the register is written, and statuses cross to the core die. -/
def ctlWritten (s : State) (r : Fin 3) (en run auto : Bool) : State := (s.frnCtlWrite r (ctlWord en run auto)).deliverReturns

theorem ctlWritten_enable {r : Fin 3} {s : State} {run auto : Bool} (he : s.flag (FRN_CTL_EN r) = false)
    (hr : (s.rflag r 0 || s.rflag r 1) = true)
    (hrun : s.flag (FRN_CTL_RUN r) = run) (hq : templates s.retq) :
    (ctlWritten s r true run auto).flag (FRN_CTL_EN r) = true ∧ (ctlWritten s r true run auto).flag (FRN_CTL_AUTO_RST r) = auto ∧
      (ctlWritten s r true run auto).frnSt r = 1 ∧ ((ctlWritten s r true run auto).fr r).starting = run := by
  rw [ctlWritten, frnCtlWrite_enable auto he hr hrun]
  have hen := Touches.refl (r := r) (s := (s.putB (FRN_CTL_AUTO_RST r) auto).put (FRN_CTL_EN r) 1)
  have hauto := (Touches.refl (r := r) (s := s.putB (FRN_CTL_AUTO_RST r) auto)).put (FRN_CTL_EN r) 1
  have hon := ((hen.setFr { s.fr r with starting := run }).toRadio 1).frnShow
  have ht := hon.deliverReturns hq
  refine ⟨(ht.flag _).trans (flag_written _ true), (ht.flag _).trans ((hauto.flag _).trans (flag_written _ auto)), ?_, ht.starting⟩
  exact (State.get_congr (deliverReturns_regs (hon.retq hq)) _).trans (frnSt_shown (by decide))

theorem ctlWritten_disable {r : Fin 3} {s : State} {run auto : Bool} (he : s.flag (FRN_CTL_EN r) = true)
    (hrun : s.flag (FRN_CTL_RUN r) = run) (hp : (s.fr r).ppdu = none)
    (hq : templates s.retq) :
    (ctlWritten s r false run auto).flag (FRN_CTL_EN r) = false ∧ (ctlWritten s r false run auto).frnSt r = 0 ∧
      (ctlWritten s r false run auto).seqSt r = 0 ∧ ((ctlWritten s r false run auto).fr r).syn0 = {} ∧
      ((ctlWritten s r false run auto).fr r).syn1 = {} ∧ ((ctlWritten s r false run auto).fr r).queues = (s.fr r).queues := by
  rw [ctlWritten, frnCtlWrite_disable auto he hrun hp]
  obtain ⟨⟨f, hoff, hqueues⟩, hst, hseq⟩ := frnDisable_off (r := r) (s := s.putB (FRN_CTL_AUTO_RST r) auto) hp
  have ht := hoff.deliverReturns hq
  have hregs := deliverReturns_regs (hoff.retq hq)
  exact ⟨(ht.flag _).trans (flag_written _ false), (State.get_congr hregs _).trans hst, (State.get_congr hregs _).trans hseq,
    ht.syn false, ht.syn true, ht.queues.trans hqueues⟩

theorem ctlWritten_run {r : Fin 3} {s : State} {en auto : Bool} (he : s.flag (FRN_CTL_EN r) = en)
    (hrun : s.flag (FRN_CTL_RUN r) = false) (hq : templates s.retq) :
    (ctlWritten s r en true auto).flag (FRN_CTL_RUN r) = true ∧ (ctlWritten s r en true auto).flag (FRN_CTL_EN r) = en ∧
      ((ctlWritten s r en true auto).fr r).starting = true ∧ (ctlWritten s r en true auto).seqSt r = s.seqSt r := by
  rw [ctlWritten, frnCtlWrite_run auto he hrun]
  have hset := ((Touches.refl (r := r) (s := s)).putB (FRN_CTL_AUTO_RST r) auto).put (FRN_CTL_RUN r) 1
  have hrun := Touches.refl (r := r) (s := (s.putB (FRN_CTL_AUTO_RST r) auto).put (FRN_CTL_RUN r) 1)
  have ht := (hset.setFr { s.fr r with starting := true }).deliverReturns hq
  have ht' := (hrun.setFr { s.fr r with starting := true }).deliverReturns hq
  exact ⟨(ht'.flag _).trans (flag_written _ true), (ht.flag _).trans he, ht.starting, ht.get _⟩

theorem ctlWritten_stop {r : Fin 3} {s : State} {en auto : Bool} (he : s.flag (FRN_CTL_EN r) = en)
    (hrun : s.flag (FRN_CTL_RUN r) = true) (hp : (s.fr r).ppdu = none)
    (hx : (s.fr r).rxEnd = none) (hq : templates s.retq) :
    (ctlWritten s r en false auto).flag (FRN_CTL_RUN r) = false ∧ (ctlWritten s r en false auto).seqSt r = 0 ∧
      ((ctlWritten s r en false auto).fr r).wait = .none ∧ ((ctlWritten s r en false auto).fr r).starting = false := by
  rw [ctlWritten, frnCtlWrite_stop auto he hrun, seqHalt_idle (by exact hp) (by exact hx)]
  have hstop := Touches.refl (r := r) (s := (s.putB (FRN_CTL_AUTO_RST r) auto).put (FRN_CTL_RUN r) 0)
  have hhalt := hstop.dropTpl.haltDone
  have ht := hhalt.deliverReturns hq
  refine ⟨(ht.flag _).trans (flag_written _ false), ?_, ht.wait, ht.starting⟩
  exact (State.get_congr (deliverReturns_regs (hhalt.retq hq)) _).trans seqSt_haltDone

theorem ctlWritten_stop_sending {r : Fin 3} {s : State} {en auto : Bool} {p : TxPpdu} (he : s.flag (FRN_CTL_EN r) = en)
    (hrun : s.flag (FRN_CTL_RUN r) = true)
    (hp : (s.fr r).ppdu = some p) (hstart : p.start ≤ s.frnTick) (hq : templates s.retq) :
    (ctlWritten s r en false auto).flag (FRN_CTL_RUN r) = false ∧ ((ctlWritten s r en false auto).fr r).halting = true ∧
      ((ctlWritten s r en false auto).fr r).ppdu = some p ∧ (ctlWritten s r en false auto).seqSt r = s.seqSt r := by
  rw [ctlWritten, frnCtlWrite_stop auto he hrun]
  have hset := ((Touches.refl (r := r) (s := s)).putB (FRN_CTL_AUTO_RST r) auto).put (FRN_CTL_RUN r) 0
  obtain ⟨f, hhalt, hf, hstop, hfr⟩ := seqHalt_sending (r := r)
    (s := (s.putB (FRN_CTL_AUTO_RST r) auto).put (FRN_CTL_RUN r) 0) hp (by rw [hset.frnTick]; exact hstart)
  have ht := hstop.deliverReturns hq
  refine ⟨(ht.flag _).trans (flag_written _ false), ?_, ?_, (ht.get _).trans (hset.get _)⟩
  · exact ht.halting.trans hhalt
  · rw [fr_congr (deliverReturns_frn (hstop.retq hq)), hfr, hf]

/-! ### The commands themselves -/

/-- Nothing waits for the core die in the state that a write's mark is put on. -/
theorem templates_hostWrote {s : State} (a : Nat) (hq : s.retq = []) : templates (s.hostWrote a).retq := by
  rw [State.hostWrote_retq, hq]
  exact templates_nil

theorem exec_frnEnable (s : State) (r : Fin 3) (run auto : Bool) (hm : s.reach none (FRN_CTL r) = .made)
    (he : s.flag (FRN_CTL_EN r) = false) (hr : (s.rflag r 0 || s.rflag r 1) = true) (hrun : s.flag (FRN_CTL_RUN r) = run)
    (hq : s.retq = []) :
    ∃ t, exec (.frnEnable r run auto) s = .next t ∧ t.flag (FRN_CTL_EN r) = true ∧ t.flag (FRN_CTL_AUTO_RST r) = auto ∧
      t.frnSt r = 1 ∧ (t.fr r).starting = run := by
  refine ⟨_, rfl, ?_⟩
  rw [hostAt_made hm]
  exact ctlWritten_enable (s := s.hostWrote (FRN_CTL r)) he hr hrun (templates_hostWrote _ hq)

theorem exec_frnDisable (s : State) (r : Fin 3) (run auto : Bool) (hm : s.reach none (FRN_CTL r) = .made)
    (he : s.flag (FRN_CTL_EN r) = true) (hrun : s.flag (FRN_CTL_RUN r) = run) (hq : s.retq = []) (hp : (s.fr r).ppdu = none) :
    ∃ t, exec (.frnDisable r run auto) s = .next t ∧ t.flag (FRN_CTL_EN r) = false ∧ t.frnSt r = 0 ∧ t.seqSt r = 0 ∧
      (t.fr r).syn0 = {} ∧ (t.fr r).syn1 = {} ∧ (t.fr r).queues = (s.fr r).queues := by
  refine ⟨_, rfl, ?_⟩
  rw [hostAt_made hm]
  exact ctlWritten_disable (s := s.hostWrote (FRN_CTL r)) he hrun hp (templates_hostWrote _ hq)

theorem exec_frnRunSet (s : State) (r : Fin 3) (en auto : Bool) (hm : s.reach none (FRN_CTL r) = .made)
    (he : s.flag (FRN_CTL_EN r) = en) (hrun : s.flag (FRN_CTL_RUN r) = false) (hq : s.retq = []) :
    ∃ t, exec (.frnRunSet r en auto) s = .next t ∧ t.flag (FRN_CTL_RUN r) = true ∧ t.flag (FRN_CTL_EN r) = en ∧
      (t.fr r).starting = true ∧ t.seqSt r = s.seqSt r := by
  refine ⟨_, rfl, ?_⟩
  rw [hostAt_made hm]
  exact ctlWritten_run (s := s.hostWrote (FRN_CTL r)) he hrun (templates_hostWrote _ hq)

theorem exec_frnRunClear (s : State) (r : Fin 3) (en auto : Bool) (hm : s.reach none (FRN_CTL r) = .made)
    (he : s.flag (FRN_CTL_EN r) = en) (hrun : s.flag (FRN_CTL_RUN r) = true) (hq : s.retq = []) (hp : (s.fr r).ppdu = none)
    (hx : (s.fr r).rxEnd = none) :
    ∃ t, exec (.frnRunClear r en auto) s = .next t ∧ t.flag (FRN_CTL_RUN r) = false ∧ t.seqSt r = 0 ∧ (t.fr r).wait = .none ∧
      (t.fr r).starting = false := by
  refine ⟨_, rfl, ?_⟩
  rw [hostAt_made hm]
  exact ctlWritten_stop (s := s.hostWrote (FRN_CTL r)) he hrun hp hx (templates_hostWrote _ hq)

theorem exec_frnRunClear_sending (s : State) (r : Fin 3) (en auto : Bool) (p : TxPpdu) (hm : s.reach none (FRN_CTL r) = .made)
    (he : s.flag (FRN_CTL_EN r) = en) (hrun : s.flag (FRN_CTL_RUN r) = true) (hq : s.retq = []) (hp : (s.fr r).ppdu = some p)
    (hstart : p.start ≤ s.frnTick) :
    ∃ t, exec (.frnRunClear r en auto) s = .next t ∧ t.flag (FRN_CTL_RUN r) = false ∧ (t.fr r).halting = true ∧
      (t.fr r).ppdu = some p ∧ t.seqSt r = s.seqSt r := by
  refine ⟨_, rfl, ?_⟩
  rw [hostAt_made hm]
  exact ctlWritten_stop_sending (s := s.hostWrote (FRN_CTL r)) he hrun hp hstart (templates_hostWrote _ hq)

end Control

/-! ## The channel table and the program memory (R9, R57, R58, R80) -/
section Memories

theorem mem_congr {s t : State} (h : t.bar = s.bar) (a n : Nat) : t.mem a n = s.mem a n := by rw [State.mem, State.mem, h]

theorem mem_memSet_same {s : State} (a n v : Nat) : (s.memSet a n v).mem a n = v % 2 ^ (8 * n) := leGet_leSet

namespace Touches
variable {r : Fin 3} {l : List Fld} {f : FrnState} {s t : State}

theorem femTxSpan (h : Touches r l f s t) (a b chains : Nat) (listen : Bool) : Touches r l f s (t.femTxSpan r a b chains listen) := by
  have hspan := ((h.setSame (g := { t.fr r with lagTo := b + t.txLag r }) (by exact rfl)).femDrive femTx
    (t.refTick r a chains - t.txLead r)).femDrive femStby
      (b + (t.setFr r { t.fr r with lagTo := b + t.txLag r }).txLag r)
  unfold State.femTxSpan
  split
  · exact hspan.femDrive _ _
  · exact hspan

theorem announce (h : Touches r l f s t) (p : TxPpdu) : Touches r l f s (t.announce r p) := by
  unfold State.announce
  split
  · exact h.emit _
  · exact h.emit _

theorem ppduMoved (h : Touches r l f s t) : Touches r l f s (t.ppduMoved r) := by
  unfold State.ppduMoved
  split
  · next p _ =>
    split
    · have hset := h.setSame (g := { t.fr r with ppdu := some { p with barred := !t.txOk r } }) (by exact rfl)
      simp only
      split
      · exact hset
      · split
        · exact (hset.emit _).femDrive _ _
        · exact (hset.femTxSpan _ _ _ _).announce _
    · exact h
  · exact h

theorem rspMoved (h : Touches r l f s t) : Touches r l f s (t.rspMoved r) := by
  unfold State.rspMoved
  split
  · next x _ =>
    split
    · have hset := h.setSame (g := { t.fr r with rsp := some { x with barred := !t.txOk r } }) (by exact rfl)
      simp only
      split
      · exact (hset.emit _).femDrive _ _
      · exact (hset.femTxSpan _ _ _ _).emit _
    · exact h
  · exact h

theorem channelMoved (h : Touches r l f s t) (idx : Nat) : Touches r l f s (t.channelMoved r idx) := by
  unfold State.channelMoved
  split
  · split
    · exact h.ppduMoved.rspMoved
    · exact h
  · exact h

end Touches

/-- What a word of a channel-table entry keeps of a value written to it (R57). -/
def entryWord (w : Nat) (v : Word) : Word := if w = 1 then v &&& 0x03FFFFFF else if w = 0 then v else 0

/-- The entry has the same centre, width and group. -/
abbrev sameEntry (s t : State) (r : Fin 3) (idx : Nat) : Prop :=
  s.chKhz r idx = t.chKhz r idx ∧ s.chBw r idx = t.chBw r idx ∧ s.chGroup r idx = t.chGroup r idx

theorem sameEntry_congr {s t u : State} {r : Fin 3} {idx : Nat} (h : u.bar = t.bar) : sameEntry s u r idx ↔ sameEntry s t r idx := by
  simp only [sameEntry, State.chKhz, State.chBw, State.chGroup, mem_congr h]

/-- The radio's state without the calibrations of an index. -/
def cutEntry (f : FrnState) (idx : Nat) : FrnState :=
  { f with syn0 := { f.syn0 with store := f.syn0.store.filter (fun c => c.idx != idx) },
           syn1 := { f.syn1 with store := f.syn1.store.filter (fun c => c.idx != idx) } }

theorem cutEntry_store (f : FrnState) (idx : Nat) (k : Bool) :
    (synthOf (cutEntry f idx) k).store = (synthOf f k).store.filter (fun c => c.idx != idx) := by
  cases k <;> rfl

/-- The state once the word stands in the table and what is placed on the channel has met it. -/
def entryWritten (s : State) (r : Fin 3) (idx w : Nat) (v : Word) : State :=
  (s.memSet (chanAddr r idx + 4 * w) 4 (entryWord w v).toNat).channelMoved r idx

theorem channelWrite_eq (s : State) (r : Fin 3) (idx w : Nat) (v : Word) :
    s.channelWrite r idx w v = if sameEntry s (entryWritten s r idx w v) r idx then entryWritten s r idx w v
      else ((entryWritten s r idx w v).setFr r (cutEntry ((entryWritten s r idx w v).fr r) idx)).frnShow r := rfl

theorem entryWritten_touches (s : State) (r : Fin 3) (idx w : Nat) (v : Word) :
    Touches r [] (s.fr r) (s.memSet (chanAddr r idx + 4 * w) 4 (entryWord w v).toNat) (entryWritten s r idx w v) :=
  Touches.channelMoved (Touches.refl (s := s.memSet (chanAddr r idx + 4 * w) 4 (entryWord w v).toNat)) idx

/-- The written word stands in the table. -/
theorem channelWrite_bar (s : State) (r : Fin 3) (idx w : Nat) (v : Word) :
    (s.channelWrite r idx w v).bar = (s.memSet (chanAddr r idx + 4 * w) 4 (entryWord w v).toNat).bar := by
  have hbar := (entryWritten_touches s r idx w v).bar
  rw [channelWrite_eq]
  split
  · exact hbar
  · exact ((Touches.refl.setFr _).frnShow.bar).trans hbar

/-- A calibration of another index stays; one of the index goes where centre, width or group change. -/
theorem channelWrite_store (s : State) (r : Fin 3) (idx w : Nat) (v : Word) (k : Bool) :
    ((s.channelWrite r idx w v).syn r k).store =
      if sameEntry s (s.channelWrite r idx w v) r idx then (s.syn r k).store
      else (s.syn r k).store.filter (fun c => c.idx != idx) := by
  have hput := entryWritten_touches s r idx w v
  have hbar := (channelWrite_bar s r idx w v).trans hput.bar.symm
  simp only [sameEntry_congr hbar]
  rw [channelWrite_eq]
  split
  · rw [hput.syn k]
    rfl
  · have hcut := ((Touches.refl (r := r) (s := entryWritten s r idx w v)).setFr (cutEntry ((entryWritten s r idx w v).fr r) idx)).frnShow
    rw [hcut.syn k, cutEntry_store, show synthOf ((entryWritten s r idx w v).fr r) k = synthOf (s.fr r) k from hput.syn k]
    rfl

theorem leGet_lt {z : Nat → Byte} {c : List Host.Cell} {a n : Nat} : leGet z c a n < 2 ^ (8 * n) := by
  induction n generalizing a with
  | zero => simp [leGet]
  | succ n ih =>
    have hbyte := (SMap.get z c a).isLt
    have hrest := ih (a := a + 1)
    rw [leGet, show 8 * (n + 1) = 8 + 8 * n by omega, Nat.pow_add]
    omega

/-- A run of bytes as the number of its first bytes and that of the others. -/
theorem leGet_add {z : Nat → Byte} {c : List Host.Cell} {a m n : Nat} :
    leGet z c a (m + n) = leGet z c a m + 2 ^ (8 * m) * leGet z c (a + m) n := by
  induction m generalizing a with
  | zero => simp [leGet]
  | succ m ih =>
    rw [Nat.succ_add, leGet, leGet, ih, show 8 * (m + 1) = 8 + 8 * m by omega, Nat.pow_add, show a + 1 + m = a + (m + 1) by omega]
    rw [Nat.mul_add, ← Nat.mul_assoc, Nat.add_assoc]

/-- The two words of an operation. -/
theorem progWord_words (s : State) (r : Fin 3) (a : Nat) :
    s.progWord r a = s.mem (progAddr r a) 4 + 2 ^ 32 * s.mem (progAddr r a + 4) 4 :=
  leGet_add (m := 4) (n := 4)

theorem progWord_low (s : State) (r : Fin 3) (a : Nat) : s.mem (progAddr r a) 4 = s.progWord r a % 2 ^ 32 := by
  have hlow : s.mem (progAddr r a) 4 < 2 ^ 32 := leGet_lt
  rw [progWord_words]
  omega

/-- The high word commits the operation, with the low word that is held. -/
theorem progWord_progCommit (s : State) (i : Iface) (r : Fin 3) (a : Nat) (hi : Word) :
    (s.progCommit i r a hi).progWord r a =
      ((SMap.get (fun _ => none) s.wrHold (2 * progAddr r a + (if i = .hsp then 1 else 0))).getD
        (BitVec.ofNat 32 (s.progWord r a))).toNat + 2 ^ 32 * hi.toNat := by
  have hhi : (s.progCommit i r a hi).mem (progAddr r a + 4) 4 = hi.toNat :=
    (mem_memSet_same _ _ _).trans (Nat.mod_eq_of_lt hi.isLt)
  have hlo : (s.progCommit i r a hi).mem (progAddr r a) 4 =
      ((SMap.get (fun _ => none) s.wrHold (2 * progAddr r a + (if i = .hsp then 1 else 0))).getD
        (BitVec.ofNat 32 (s.progWord r a))).toNat := by
    refine (leGet_leSet_out (.inl (Nat.le_refl _))).trans ?_
    split
    · next lo hheld =>
      rw [hheld]
      exact (mem_memSet_same _ _ _).trans (Nat.mod_eq_of_lt lo.isLt)
    · next hheld =>
      rw [hheld]
      exact (progWord_low s r a).trans (BitVec.toNat_ofNat ..).symm
  rw [progWord_words, hhi, hlo]

/-- What a word of the table keeps fits the word. -/
theorem mem_channelWrite (s : State) (r : Fin 3) (idx w : Nat) (v : Word) :
    (s.channelWrite r idx w v).mem (chanAddr r idx + 4 * w) 4 = (entryWord w v).toNat := by
  rw [mem_congr (channelWrite_bar s r idx w v), mem_memSet_same]
  exact Nat.mod_eq_of_lt (entryWord w v).isLt

theorem exec_channelEntryWrite (s : State) (r : Fin 3) (idx : BitVec 8) (w : Fin 4) (v : Word)
    (hm : s.reach none (chanAddr r idx.toNat) = .made) :
    ∃ t, exec (.channelEntryWrite r idx w v) s = .next t ∧
      t.mem (chanAddr r idx.toNat + 4 * w.val) 4 = (if w.val = 1 then v &&& 0x03FFFFFF else if w.val = 0 then v else 0).toNat ∧
      (t.chKhz r idx.toNat ≠ s.chKhz r idx.toNat ∨ t.chBw r idx.toNat ≠ s.chBw r idx.toNat ∨
        t.chGroup r idx.toNat ≠ s.chGroup r idx.toNat → ∀ k, ∀ c ∈ (t.syn r k).store, c.idx ≠ idx.toNat) ∧
      (∀ k, ∀ c ∈ (s.syn r k).store, c.idx ≠ idx.toNat → c ∈ (t.syn r k).store) := by
  refine ⟨_, rfl, ?_⟩
  rw [hostAt_made hm]
  have hstore := channelWrite_store (s.hostWrote (chanAddr r idx.toNat)) r idx.toNat w.val v
  refine ⟨mem_channelWrite _ r idx.toNat w.val v, fun hchanged k c hc => ?_, fun k c hc hother => ?_⟩
  · rw [hstore k, if_neg] at hc
    · simpa using (List.mem_filter.mp hc).2
    · rintro ⟨hkhz, hbw, hgroup⟩
      exact hchanged.elim (absurd hkhz.symm) (Or.elim · (absurd hbw.symm) (absurd hgroup.symm))
  · rw [hstore k]
    split
    · exact hc
    · exact List.mem_filter.mpr ⟨hc, by simpa using hother⟩

theorem exec_programWordCommit (s : State) (i : Iface) (r : Fin 3) (a : BitVec 12) (hi : Word)
    (hm : s.reach (some i) (progAddr r a.toNat) = .made) :
    ∃ t, exec (.programWordCommit i r a hi) s = .next t ∧
      t.progWord r a.toNat = ((SMap.get (fun _ => none) s.wrHold (2 * progAddr r a.toNat + (if i = .hsp then 1 else 0))).getD
        (BitVec.ofNat 32 (s.progWord r a.toNat))).toNat + 2 ^ 32 * hi.toNat := by
  refine ⟨_, rfl, ?_⟩
  rw [hostAt_made hm]
  exact progWord_progCommit (s.hostWrote (progAddr r a.toNat)) i r a.toNat hi

end Memories

/-! ## Synthesisers (R61 to R65) -/
section Synthesisers

theorem syn_congr {s t : State} (h : t.frn = s.frn) (r : Fin 3) (k : Bool) : t.syn r k = s.syn r k := by
  simp only [State.syn, fr_congr h]

/-- What `setSyn` makes of the radio's state. -/
def withSyn (f : FrnState) (k : Bool) (y : Synth) : FrnState := if k then { f with syn1 := y } else { f with syn0 := y }

theorem withSyn_wait (f : FrnState) (k : Bool) (y : Synth) : (withSyn f k y).wait = f.wait := by cases k <;> rfl
theorem withSyn_die (f : FrnState) (k : Bool) (y : Synth) : (withSyn f k y).die = f.die := by cases k <;> rfl
theorem synthOf_withSyn (f : FrnState) (k : Bool) (y : Synth) : synthOf (withSyn f k y) k = y := by cases k <;> rfl

theorem sameRadio.withSyn {f g : FrnState} (h : sameRadio f g) (k : Bool) (y : Synth) : sameRadio (withSyn f k y) (withSyn g k y) := by
  unfold sameRadio at *
  cases k <;> (rw [← h]; rfl)

theorem fr_setSyn {s : State} {r : Fin 3} (k : Bool) (y : Synth) : (s.setSyn r k y).fr r = withSyn (s.fr r) k y := fr_setFr _

theorem Touches.setSyn {r : Fin 3} {l : List Fld} {f : FrnState} {s t : State} (h : Touches r l f s t) (k : Bool) (y : Synth) :
    Touches r l (withSyn f k y) s (t.setSyn r k y) :=
  { h.setFr (withSyn (t.fr r) k y) with radio := by rw [fr_setSyn]; exact h.radio.withSyn k y }

theorem activeSyn_congr {s t : State} (h : t.regs = s.regs) (r : Fin 3) : t.activeSyn r = s.activeSyn r := by
  simp only [State.activeSyn, State.flag_congr h]

theorem Touches.activeSyn {r : Fin 3} {l : List Fld} {f : FrnState} {s t : State} (h : Touches r l f s t)
    (h0 : clearOf l (synActive r false) = true := by apply atRadio r; decide +revert)
    (h1 : clearOf l (synActive r true) = true := by apply atRadio r; decide +revert) : t.activeSyn r = s.activeSyn r := by
  simp only [State.activeSyn, h.flag _ h0, h.flag _ h1]

/-! ### Time passes on Frond's counter -/

section ToFrnTick
variable (s : State) (n : Nat)

@[simp] theorem toFrnTick_regs : (s.toFrnTick n).regs = s.regs := by unfold State.toFrnTick; split <;> rfl
@[simp] theorem toFrnTick_frn : (s.toFrnTick n).frn = s.frn := by unfold State.toFrnTick; split <;> rfl
@[simp] theorem toFrnTick_retq : (s.toFrnTick n).retq = s.retq := by unfold State.toFrnTick; split <;> rfl

end ToFrnTick

/-! ### A calibration ends -/

theorem Touches.draws {r : Fin 3} {l : List Fld} {f : FrnState} {s t : State} (h : Touches r l f s t) (n : Nat) :
    Touches r l f s (t.draws n).1 := by
  induction n generalizing t with
  | zero => exact h
  | succ n ih =>
    refine ih (h.trans (m := []) ?_)
    exact of_eq rfl rfl rfl rfl rfl rfl

/-- With no operation waiting the synthesiser locks and that is all. -/
theorem synLock_idle {s : State} {r : Fin 3} {k : Bool} {e : Ecc} (hw : (s.fr r).wait = .none) :
    ∃ f, Touches r (shown r) f ((s.put (synCalib r k) 0).put (synLocked r k) 1) (s.synLock r k e) := by
  have hlock := Touches.refl (r := r) (s := (s.put (synCalib r k) 0).put (synLocked r k) 1)
  have hdraw : Touches r [] (s.fr r) ((s.put (synCalib r k) 0).put (synLocked r k) 1)
      (if (((s.put (synCalib r k) 0).put (synLocked r k) 1).syn r k).full
        then ((s.put (synCalib r k) 0).put (synLocked r k) 1).draws 13
        else ((s.put (synCalib r k) 0).put (synLocked r k) 1, [])).1 := by
    split
    · exact hlock.draws 13
    · exact hlock
  unfold State.synLock
  simp only
  generalize (if (((s.put (synCalib r k) 0).put (synLocked r k) 1).syn r k).full
        then ((s.put (synCalib r k) 0).put (synLocked r k) 1).draws 13
        else ((s.put (synCalib r k) 0).put (synLocked r k) 1, [])) = p at hdraw
  have hend := (hdraw.setSyn k ((p.1.syn r k).touch (s.get (synCh r k)) (s.fr r).die p.2)).frnShow
  have hwait := hend.wait.trans ((withSyn_wait _ _ _).trans hw)
  generalize (p.1.setSyn r k ((p.1.syn r k).touch (s.get (synCh r k)) (s.fr r).die p.2)).frnShow r = u at hend hwait
  suffices h : ∀ v, v = u → ∃ f, Touches r (shown r) f ((s.put (synCalib r k) 0).put (synLocked r k) 1) v by
    apply h
    simp only [hwait]
    split <;> rfl
  rintro v rfl
  exact ⟨_, hend⟩

/-- The state in which a calibration of a synthesiser ends: at its budget (R60). -/
def calEnd (s : State) (r : Fin 3) (k : Bool) : State := s.toFrnTick (min (s.syn r k).doneAt (s.frnTick + calTicks))

section CalEnd
variable {s : State} {r : Fin 3} {k : Bool}

theorem calEnd_regs : (calEnd s r k).regs = s.regs := toFrnTick_regs ..
theorem calEnd_fr : (calEnd s r k).fr r = s.fr r := fr_congr (toFrnTick_frn ..)
theorem calEnd_syn : (calEnd s r k).syn r k = s.syn r k := syn_congr (toFrnTick_frn ..) r k
theorem calEnd_retq : (calEnd s r k).retq = s.retq := toFrnTick_retq ..

end CalEnd

theorem calDone_ok {s : State} {r : Fin 3} {k : Bool} {e : Ecc} (hc : s.flag (synCalib r k) = true) :
    s.calDone r k true e = (calEnd s r k).synLock r k e := if_pos hc

/-- A run that fails: a relock is followed by a calibration, a calibration by one more run. -/
theorem calDone_failed {s : State} {r : Fin 3} {k : Bool} {e : Ecc} (hc : s.flag (synCalib r k) = true) :
    s.calDone r k false e =
      if !(s.syn r k).full then
        (calEnd s r k).setSyn r k { s.syn r k with full := true, fails := 0, doneAt := (calEnd s r k).frnTick + calTicks }
      else if (s.syn r k).fails = 0 then
        (calEnd s r k).setSyn r k { s.syn r k with fails := 1, doneAt := (calEnd s r k).frnTick + calTicks }
      else (calEnd s r k).synFail r k e := by
  rw [State.calDone, if_pos hc]
  conv => rhs; rw [← calEnd_syn (s := s)]
  rfl

theorem exec_synthCalDone_ok (s : State) (r : Fin 3) (k : Bool) (e : Ecc) (hc : s.flag (synCalib r k) = true)
    (hw : (s.fr r).wait = .none) (hq : s.retq = []) :
    ∃ t, exec (.synthCalDone r k true e) s = .next t ∧ t.flag (synLocked r k) = true ∧ t.flag (synCalib r k) = false ∧
      t.get (synCh r k) = s.get (synCh r k) ∧ t.ref = (s.toFrnTick (min (s.syn r k).doneAt (s.frnTick + calTicks))).ref := by
  have hret : templates (calEnd s r k).retq := by rw [calEnd_retq, hq]; exact templates_nil
  refine ⟨_, rfl, ?_⟩
  rw [calDone_ok hc]
  obtain ⟨f, hlock⟩ := synLock_idle (s := calEnd s r k) (k := k) (e := e) (calEnd_fr ▸ hw)
  have ht := hlock.deliverReturns hret
  have hwritten := (Touches.refl (r := r) (s := (calEnd s r k).put (synCalib r k) 0)).put (synLocked r k) 1
  have hput := ((Touches.refl (r := r) (s := calEnd s r k)).put (synCalib r k) 0).put (synLocked r k) 1
  refine ⟨?_, ?_, ?_, ht.ref⟩
  · exact (ht.flag _ (by apply atSynth r k; decide)).trans (flag_written _ true (by apply atSynth r k; decide))
  · have hidle := (hwritten.flag _ (by apply atSynth r k; decide)).trans (flag_written _ false (by apply atSynth r k; decide))
    exact (ht.flag _ (by apply atSynth r k; decide)).trans hidle
  · have hkept := (hput.get (synCh r k) (by apply atSynth r k; decide)).trans (State.get_congr calEnd_regs _)
    exact (ht.get _ (by apply atSynth r k; decide)).trans hkept

/-- The synthesiser runs again, and `y` says how. -/
theorem deliverReturns_setSyn {s : State} {r : Fin 3} {k : Bool} {y : Synth} (hc : s.flag (synCalib r k) = true)
    (hq : templates s.retq) (hfull : y.full = true) (hat : y.doneAt = s.frnTick + 0x300) :
    (s.setSyn r k y).deliverReturns.flag (synCalib r k) = true ∧ ((s.setSyn r k y).deliverReturns.syn r k).full = true ∧
      ((s.setSyn r k y).deliverReturns.syn r k).doneAt = (s.setSyn r k y).deliverReturns.frnTick + 0x300 ∧
      ((s.setSyn r k y).deliverReturns.syn r k).fails = y.fails := by
  have ht := ((Touches.refl (r := r) (s := s)).setSyn k y).deliverReturns hq
  rw [(ht.syn k).trans (synthOf_withSyn _ k y), ht.frnTick]
  exact ⟨(ht.flag _ (by apply atSynth r k; decide)).trans hc, hfull, hat, rfl⟩

theorem exec_synthCalDone_again (s : State) (r : Fin 3) (k : Bool) (e : Ecc) (hc : s.flag (synCalib r k) = true)
    (hq : s.retq = []) (hf : (s.syn r k).full = false ∨ (s.syn r k).fails = 0) :
    ∃ t, exec (.synthCalDone r k false e) s = .next t ∧ t.flag (synCalib r k) = true ∧ (t.syn r k).full = true ∧
      (t.syn r k).doneAt = t.frnTick + 0x300 ∧ (t.syn r k).fails = (if (s.syn r k).full then 1 else 0) := by
  have hret : templates (calEnd s r k).retq := by rw [calEnd_retq, hq]; exact templates_nil
  have hcal : (calEnd s r k).flag (synCalib r k) = true := (State.flag_congr calEnd_regs _).trans hc
  refine ⟨_, rfl, ?_⟩
  rw [calDone_failed hc]
  cases hfull : (s.syn r k).full with
  | false => exact deliverReturns_setSyn hcal hret rfl rfl
  | true =>
    have hfails : (s.syn r k).fails = 0 := hf.resolve_left (by simp [hfull])
    rw [if_neg (by simp), if_pos hfails]
    exact deliverReturns_setSyn hcal hret hfull rfl

theorem flag_raised {s : State} (f : Fld)
    (hf : f.lo + f.w ≤ 32 ∧ 0 < f.w ∧ FLT_CNT_OVERFLOW ≠ f.addr ∧ FLT_FLAG_OVERFLOW.addr ≠ f.addr := by
      apply atRadio r; decide +revert) :
    (s.raise f).flag f = true := State.flag_raise s hf.1 hf.2.1 hf.2.2.1 hf.2.2.2

/-- A calibration has failed twice, and neither is the synthesiser active nor does an operation wait. -/
theorem synFail_idle {s : State} {r : Fin 3} {k : Bool} {e : Ecc} (hw : (s.fr r).wait = .none) (hk : s.activeSyn r ≠ some k) :
    s.synFail r k e = (((s.put (synCalib r k) 0).put (synFailed r k) 1).raise (FRN_EVT_CAL_FAIL r)).frnShow r := by
  have hfail := (((Touches.refl (r := r) (s := s)).put (synCalib r k) 0).put (synFailed r k) 1).raise (FRN_EVT_CAL_FAIL r) |>.frnShow
  have hwait := hfail.wait.trans hw
  simp only [State.synFail, beq_eq_false_iff_ne.mpr hk, Bool.false_eq_true, if_false, hwait]

theorem exec_synthCalDone_failed (s : State) (r : Fin 3) (k : Bool) (e : Ecc) (hc : s.flag (synCalib r k) = true)
    (hq : s.retq = []) (hfull : (s.syn r k).full = true) (hfails : (s.syn r k).fails ≠ 0) (hw : (s.fr r).wait = .none)
    (hk : s.activeSyn r ≠ some k) :
    ∃ t, exec (.synthCalDone r k false e) s = .next t ∧ t.flag (synFailed r k) = true ∧ t.flag (synCalib r k) = false ∧
      t.flag (FRN_EVT_CAL_FAIL r) = true := by
  have hret : templates (calEnd s r k).retq := by rw [calEnd_retq, hq]; exact templates_nil
  refine ⟨_, rfl, ?_⟩
  rw [calDone_failed hc, if_neg (by simp [hfull]), if_neg hfails,
    synFail_idle (by rwa [calEnd_fr]) (by rwa [activeSyn_congr calEnd_regs])]
  have hcal := (Touches.refl (r := r) (s := (calEnd s r k).put (synCalib r k) 0)).put (synFailed r k) 1
  have hfail := (Touches.refl (r := r) (s := ((calEnd s r k).put (synCalib r k) 0).put (synFailed r k) 1)).raise (FRN_EVT_CAL_FAIL r)
  have hshow := (Touches.refl (r := r) (s := (((calEnd s r k).put (synCalib r k) 0).put (synFailed r k) 1).raise
    (FRN_EVT_CAL_FAIL r))).frnShow.deliverReturns (hfail.retq hret)
  have ht := hfail.frnShow.deliverReturns hret
  refine ⟨?_, ?_, (hshow.flag _).trans (flag_raised _)⟩
  · exact (ht.flag _ (by apply atSynth r k; decide)).trans (flag_written _ true (by apply atSynth r k; decide))
  · have hidle := (hcal.flag _ (by apply atSynth r k; decide)).trans (flag_written _ false (by apply atSynth r k; decide))
    exact (ht.flag _ (by apply atSynth r k; decide)).trans hidle

/-! ### The active synthesiser loses lock -/

/-- The fields that the end of a loss of lock may change, with `k` active. -/
def lossFields (r : Fin 3) (k : Bool) : List Fld :=
  shown r ++ FRN_STAT_STATE r :: FRN_STAT_SEQ r :: synActive r k :: synFields r (!k)

/-- A pair that halts leaves the active synthesiser as it is, but inactive. -/
theorem Touches.haltDone_active {r : Fin 3} {f : FrnState} {s t : State} {k : Bool}
    (h : Touches r (FRN_STAT_STATE r :: shown r) f s t) (hk : s.activeSyn r = some k) (hf : s.flag (synFailed r k) = false) :
    Touches r (lossFields r k) (halted (t.fr r)) s (t.haltDone r) := by
  have hseq := (h.setFr (halted (t.fr r))).put (FRN_STAT_SEQ r) 0
  refine (hseq.toStandby_active (k := k) (hseq.activeSyn.trans hk) ((hseq.flag _ (by apply atSynth r k; decide)).trans hf)).mono ?_
  intro g hg
  simp only [lossFields, List.mem_append, List.mem_cons] at hg ⊢
  grind

/-- What follows the start of the new calibration: the radio leaves TX, or its front end is driven where a response follows. -/
def lossLeft (s : State) (r : Fin 3) (rsp : Bool) : State :=
  let s2 := s.frnShow r
  if s2.frnSt r = 5 then s2.toRadio r 3 else if rsp then s2.femDrive r femRx s2.frnTick else s2

theorem lossLeft_touches {r : Fin 3} {s : State} {rsp : Bool} :
    Touches r (FRN_STAT_STATE r :: shown r) (s.fr r) s (lossLeft s r rsp) := by
  have hshow : Touches r (shown r) (s.fr r) s (s.frnShow r) := Touches.refl.frnShow.mono (by simp)
  unfold lossLeft
  simp only
  split
  · exact hshow.toRadio _
  · split
    · exact (hshow.femDrive _ _).mono (by simp)
    · exact hshow.mono (by simp)

/-- Last, the pair halts where it was to. -/
def lossEnd (s : State) (r : Fin 3) (rsp : Bool) : State :=
  if ((lossLeft s r rsp).fr r).halting then (lossLeft s r rsp).haltDone r else lossLeft s r rsp

theorem lossEnd_touches {r : Fin 3} {s : State} {k rsp : Bool} (hk : s.activeSyn r = some k) (hf : s.flag (synFailed r k) = false) :
    ∃ f, synthOf f k = s.syn r k ∧ Touches r (lossFields r k) f s (lossEnd s r rsp) := by
  have hleft := lossLeft_touches (r := r) (s := s) (rsp := rsp)
  unfold lossEnd
  split
  · refine ⟨halted ((lossLeft s r rsp).fr r), ?_, hleft.haltDone_active hk hf⟩
    have hsyn : synthOf (halted ((lossLeft s r rsp).fr r)) k = (lossLeft s r rsp).syn r k := by cases k <;> rfl
    exact hsyn.trans (hleft.syn k)
  · exact ⟨s.fr r, rfl, hleft.mono (by simp [lossFields, shown])⟩

/-- The loss is counted and raised, and the synthesiser starts a relock, or a `full` calibration. -/
def lossBegun (s : State) (r : Fin 3) (k full : Bool) : State :=
  (((s.cutRx r).bump (FRN_CNT_UNLOCK r)).raise (FRN_EVT_UNLOCK r)).calStart r k full

/-- A calibration that starts writes three flags of its synthesiser, and says how it runs. -/
theorem Touches.calStart {r : Fin 3} {l : List Fld} {f : FrnState} {s t : State} (h : Touches r l f s t) (k full : Bool) :
    ∃ y : Synth, y.full = full ∧
      Touches r (synFailed r k :: synCalib r k :: synLocked r k :: l) (withSyn f k y) s (t.calStart r k full) :=
  ⟨_, rfl, (((h.put _ _).put _ _).put _ _).setSyn k _⟩

theorem calStart_locked {s : State} {r : Fin 3} {k full : Bool} : (s.calStart r k full).flag (synLocked r k) = false :=
  (((((Touches.refl (r := r) (s := s.put (synLocked r k) 0)).put (synCalib r k) 1).put (synFailed r k) 0).setSyn k _).flag _).trans
    (flag_written _ false)

theorem calStart_calib {s : State} {r : Fin 3} {k full : Bool} : (s.calStart r k full).flag (synCalib r k) = true :=
  ((((Touches.refl (r := r) (s := (s.put (synLocked r k) 0).put (synCalib r k) 1)).put (synFailed r k) 0).setSyn k _).flag _).trans
    (flag_written _ true)

theorem calStart_failed {s : State} {r : Fin 3} {k full : Bool} : (s.calStart r k full).flag (synFailed r k) = false :=
  (((Touches.refl (r := r) (s := ((s.put (synLocked r k) 0).put (synCalib r k) 1).put (synFailed r k) 0)).setSyn k _).flag _).trans
    (flag_written _ false)

/-- The fields that the start of such a calibration may change, and the count and the event that come with it. -/
def lossBegunFields (r : Fin 3) (k : Bool) : List Fld :=
  [synFailed r k, synCalib r k, synLocked r k, FLT_FLAG_OVERFLOW, whole FLT_CNT_OVERFLOW, FRN_EVT_UNLOCK r, whole (FRN_CNT_UNLOCK r)]

theorem lossBegun_touches (s : State) (r : Fin 3) (k full : Bool) : ∃ y : Synth, y.full = full ∧
    Touches r (lossBegunFields r k) (withSyn (s.fr r) k y) s (lossBegun s r k full) :=
  Touches.calStart ((Touches.refl.cutRx.bump _).raise _) k full

theorem lossBegun_unlock (s : State) (r : Fin 3) (k full : Bool) : (lossBegun s r k full).flag (FRN_EVT_UNLOCK r) = true := by
  obtain ⟨y, -, hcal⟩ := (Touches.refl (r := r) (s := ((s.cutRx r).bump (FRN_CNT_UNLOCK r)).raise (FRN_EVT_UNLOCK r))).calStart k full
  exact (hcal.flag _ (by apply atSynth r k; decide)).trans (flag_raised _)

theorem lossBegun_count (s : State) (r : Fin 3) (k full : Bool) :
    (lossBegun s r k full).rd (FRN_CNT_UNLOCK r) = BitVec.ofNat 32 (min 0xFFFFFFFF ((s.rd (FRN_CNT_UNLOCK r)).toNat + 1)) := by
  have hcut := (Touches.refl (r := r) (s := s)).cutRx
  have hraise := (Touches.refl (r := r) (s := (s.cutRx r).bump (FRN_CNT_UNLOCK r))).raise (FRN_EVT_UNLOCK r)
  obtain ⟨y, -, hcal⟩ := hraise.calStart k full
  rw [← hcut.rd (FRN_CNT_UNLOCK r), ← State.rd_bump_same]
  exact hcal.rd _ (by apply atSynth r k; decide)

/-- With neither a PPDU nor an operation in hand nothing else happens. -/
theorem lockLoss_idle {s : State} {r : Fin 3} {k : Bool} {e : Ecc} (hk : s.activeSyn r = some k) (hlock : s.flag (synLocked r k) = true)
    (hp : (s.fr r).ppdu = none) (hw : (s.fr r).wait = .none) :
    ∃ rsp, s.lockLoss r e = lossEnd (lossBegun s r k (!s.stored r k (s.get (synCh r k)))) r rsp := by
  refine ⟨(s.fr r).rsp.any (fun x => decide (s.frnTick < x.to_)), ?_⟩
  obtain ⟨y, -, hbegun⟩ := lossBegun_touches s r k (!s.stored r k (s.get (synCh r k)))
  have hwait := (lossLeft_touches (r := r) (s := lossBegun s r k (!s.stored r k (s.get (synCh r k))))
    (rsp := (s.fr r).rsp.any (fun x => decide (s.frnTick < x.to_)))).wait.trans (hbegun.wait.trans ((withSyn_wait ..).trans hw))
  unfold State.lockLoss
  simp only [hk, hlock, if_true, cutTx_idle hp]
  unfold lossEnd
  unfold lossLeft lossBegun at *
  simp only at hwait
  rw [hwait]

theorem exec_lockLoss (s : State) (r : Fin 3) (k : Bool) (e : Ecc) (hk : s.activeSyn r = some k)
    (hlock : s.flag (synLocked r k) = true) (hp : (s.fr r).ppdu = none) (hw : (s.fr r).wait = .none) (hq : s.retq = []) :
    ∃ t, exec (.lockLoss r e) s = .next t ∧ t.flag (synLocked r k) = false ∧ t.flag (synCalib r k) = true ∧
      t.flag (FRN_EVT_UNLOCK r) = true ∧ (t.syn r k).full = (!s.stored r k (s.get (synCh r k))) ∧
      t.rd (FRN_CNT_UNLOCK r) = BitVec.ofNat 32 (min 0xFFFFFFFF ((s.rd (FRN_CNT_UNLOCK r)).toNat + 1)) := by
  obtain ⟨rsp, hloss⟩ := lockLoss_idle (e := e) hk hlock hp hw
  obtain ⟨y, hfull, hbegun⟩ := lossBegun_touches s r k (!s.stored r k (s.get (synCh r k)))
  have hactive := hbegun.activeSyn (by apply atSynth r k; decide) (by apply atSynth r k; decide)
  obtain ⟨f, hsyn, hend⟩ := lossEnd_touches (rsp := rsp) (hactive.trans hk) calStart_failed
  have ht := hend.deliverReturns (hbegun.retq (by rw [hq]; exact templates_nil))
  refine ⟨_, rfl, ?_⟩
  rw [hloss]
  refine ⟨?_, ?_, ?_, ?_, ?_⟩
  · exact (ht.flag _ (by apply atSynth r k; decide)).trans calStart_locked
  · exact (ht.flag _ (by apply atSynth r k; decide)).trans calStart_calib
  · exact (ht.flag _ (by apply atSynth r k; decide)).trans (lossBegun_unlock s r k _)
  · rw [ht.syn k, hsyn, hbegun.syn k, synthOf_withSyn, hfull]
  · exact (ht.rd _ (by apply atSynth r k; decide)).trans (lossBegun_count s r k _)

/-! ### The die temperature moves -/

/-- The state with a die temperature read, before the stores are looked at. -/
def dieRead (s : State) (r : Fin 3) (temp : BitVec 12) : State := s.setFr r { s.fr r with die := temp.toInt }

theorem dieRead_syn (s : State) (r : Fin 3) (temp : BitVec 12) (k : Bool) : (dieRead s r temp).syn r k = s.syn r k := by
  cases k <;> simp [State.syn, dieRead]

/-- At the new temperature a calibration is valid within its window. -/
theorem dieRead_calValid (s : State) (r : Fin 3) (temp : BitVec 12) (c : Cal) :
    (dieRead s r temp).calValid r c =
      (!c.stale && decide ((temp.toInt - c.temp).natAbs ≤ 8 * atLeast1 (s.get (FRN_CAL_CFG_TEMP_WIN r)))) := by
  rw [State.calValid, dieRead, fr_setFr]
  rfl

theorem die_dieMoved (s : State) (r : Fin 3) (temp : BitVec 12) : ((s.dieMoved r temp).fr r).die = temp.toInt := by
  have hread : Touches r [] { s.fr r with die := temp.toInt } s (dieRead s r temp) := Touches.refl.setFr _
  have hshow := hread.frnShow.die
  unfold State.dieMoved
  simp only
  split
  · split
    · exact ((hread.setSyn _ _).raise _).frnShow.die.trans (withSyn_die _ _ _)
    · exact hshow
  · exact hshow

/-- With such a calibration in the active synthesiser's store TEMP_DRIFT is raised, and FRN_STAT shows the stores. -/
theorem dieMoved_stale {s : State} {r : Fin 3} {temp : BitVec 12} {k : Bool} (hact : (dieRead s r temp).activeSyn r = some k)
    (hany : ((dieRead s r temp).syn r k).store.any (fun c => c.idx == (dieRead s r temp).get (synCh r k) && !c.stale &&
      !(dieRead s r temp).calValid r c) = true) :
    ∃ u : State, s.dieMoved r temp = (u.raise (FRN_EVT_TEMP_DRIFT r)).frnShow r := by
  unfold State.dieMoved
  simp only
  split
  · next k' hk' =>
    obtain rfl : k' = k := Option.some.inj (hk'.symm.trans hact)
    split
    · exact ⟨_, rfl⟩
    · exact absurd hany ‹_›
  · next hk' => exact absurd (hk'.symm.trans hact) nofun

/-- TEMP_DRIFT is raised where the active channel has a calibration that was valid and is now out of its window (R63). -/
theorem drift_dieMoved {s : State} {r : Fin 3} {temp : BitVec 12} {k : Bool} {c : Cal} (hk : s.activeSyn r = some k)
    (hc : c ∈ (s.syn r k).store) (hidx : c.idx = s.get (synCh r k)) (hstale : c.stale = false)
    (hfar : 8 * atLeast1 (s.get (FRN_CAL_CFG_TEMP_WIN r)) < (temp.toInt - c.temp).natAbs) :
    (s.dieMoved r temp).flag (FRN_EVT_TEMP_DRIFT r) = true := by
  have hact : (dieRead s r temp).activeSyn r = some k := hk
  have hidx' : c.idx = (dieRead s r temp).get (synCh r k) := hidx
  have hout : (dieRead s r temp).calValid r c = false := by
    rw [dieRead_calValid, decide_eq_false (by omega), Bool.and_false]
  have hany : ((dieRead s r temp).syn r k).store.any (fun c => c.idx == (dieRead s r temp).get (synCh r k) && !c.stale &&
      !(dieRead s r temp).calValid r c) = true := by
    rw [dieRead_syn, List.any_eq_true]
    exact ⟨c, hc, by simp [hidx', hstale, hout]⟩
  obtain ⟨u, hu⟩ := dieMoved_stale hact hany
  rw [hu]
  exact ((Touches.refl (s := u.raise (FRN_EVT_TEMP_DRIFT r))).frnShow.flag _).trans (flag_raised _)

theorem exec_tempDrift (s : State) (r : Fin 3) (temp : BitVec 12) :
    ∃ t, exec (.tempDrift r temp) s = .next t ∧ (t.fr r).die = temp.toInt ∧
      ∀ k c, s.activeSyn r = some k → c ∈ (s.syn r k).store → c.idx = s.get (synCh r k) → c.stale = false →
        8 * atLeast1 (s.get (FRN_CAL_CFG_TEMP_WIN r)) < (temp.toInt - c.temp).natAbs → t.flag (FRN_EVT_TEMP_DRIFT r) = true :=
  ⟨_, rfl, die_dieMoved s r temp, fun _ _ => drift_dieMoved⟩

end Synthesisers

/-- Settles O9: FRN_CTL's commands by `Control`, the channel table and the program by `Memories`, calibrations, locks and the die
temperature by `Synthesisers`. -/
theorem radioControl : Obligations.RadioControl :=
  ⟨exec_frnEnable, exec_frnDisable, exec_frnRunSet, exec_frnRunClear, exec_frnRunClear_sending, exec_channelEntryWrite,
    exec_programWordCommit, exec_synthCalDone_ok, exec_synthCalDone_again, exec_synthCalDone_failed, exec_lockLoss, exec_tempDrift⟩

end Sys2Proof.Proofs
end
